-- ==== Sys2Proof/Word.lean ====
section
/-!
DEFINITION. The 36-bit word (R8: a word is 36 bits; every read and write moves a whole word) and its plainest
arithmetic.
-/
namespace Sys2Proof

/-- One word of the FD9128. -/
abbrev Word := BitVec 36

end Sys2Proof
end

