-- ==== Sys2Proof/Syntax.lean ====
section
/-!
DEFINITION. The commands of the block: one constructor for each row of spec/opcode_table.json. The table gives no
operands, so they are this model's choice (log 1): what the outside world, or the physics that the spec leaves to it,
contributes to the step. `dt` is the time in gck that passes before the command happens; a command without it happens
at the instant that the device's own state gives.
-/
namespace Sys2Proof

/-- A requester of R36. -/
inductive Requester where
  | host | sernyx | jtag | loader
deriving DecidableEq, Repr

/-- The requester's number in R36. -/
def Requester.id : Requester → Nat
  | .host => 0
  | .sernyx => 1
  | .jtag => 2
  | .loader => 3

/-- The four windows of the register pages (R38). -/
inductive Window where
  | direct | setBits | clearBits | toggleBits
deriving DecidableEq, Repr

/-- A write of a register: when, by whom, through which window and with which word. -/
structure RegWrite where
  dt : Nat
  req : Requester
  win : Window
  data : BitVec 36
deriving DecidableEq, Repr

/-- A host frame without its OP (R288 to R293). `early` counts the reply words that the host clocks while READY is low
(R301); the reply's end, if it comes too soon, is a command of its own. -/
structure Frame where
  dt : Nat
  alive : Fin 16
  count : Fin 16
  addr : BitVec 24
  data : List (BitVec 36)
  trailer : BitVec 36
  early : Nat
deriving DecidableEq, Repr

/-- The reset causes of R389. -/
inductive ResetCause where
  | por | pin | soft | supply | overtemp
deriving DecidableEq, Repr

/-- Raw levels of the QA, QB and CAP inputs when their filters begin to run (R368). -/
structure InLevels where
  qa : BitVec 16
  qb : BitVec 16
  cap : BitVec 32
deriving DecidableEq, Repr

/-- A reference source other than XTAL (R320). -/
inductive RefSource where
  | sernyx | pps
deriving DecidableEq, Repr

/-- What one port receives of a link frame: the delay in gck from the earliest of the two ports' SFD instants, whether
a code violation or a missing delimiter was met, and the words from the header to the trailer (R332, R341). -/
structure PortRx where
  delay : Nat
  bad : Bool
  words : List (BitVec 36)
deriving DecidableEq, Repr

/-- A link frame as it is received: `dt` runs to the earliest SFD instant. -/
structure LinkRx where
  dt : Nat
  a : Option PortRx
  b : Option PortRx
deriving DecidableEq, Repr

/-- A recognised transition of a CAP input (R367, R376): `age` is the time in gck from the first sample of its run. -/
structure CapEdge where
  input : Fin 32
  rising : Bool
  age : Nat
deriving DecidableEq, Repr

/-- What discovery finds (R411): FLASH.STATE, log2 of the density, the read mode, suspend, 4-byte addressing; and the
bytes of the memory on the board that the device has not written itself. -/
structure FlashBoard where
  state : Fin 4
  dens : Fin 31
  rmode : Fin 4
  susp : Bool
  addr4 : Bool
  bytes : List (Nat × BitVec 8)
deriving DecidableEq, Repr

/-- How the memory ends a flash operation (R420). -/
inductive FlashOutcome where
  | done | differs | failed
deriving DecidableEq, Repr

/-- The page through which CKCFG is written (R270). -/
inductive CkPage where
  | twin | plana | planb
deriving DecidableEq, Repr

/-- What a boundary-scan pattern asks of one leg's balls (R454). -/
structure BallAsk where
  leg : Fin 512
  gh : Bool
  gl : Bool
deriving DecidableEq, Repr

/-- The commands: the rows of the table, in its order. -/
inductive Instr where
  /-- DEVICE_RESET (R389): A reset cause (POR, PIN, SOFT, SUPPLY or OVERTEMP) becomes active; the supervisor holds the die and groves in reset with the balls harmless. -/
  | deviceReset (dt : Nat) (cause : ResetCause)
  /-- RESET_RELEASE (R389): t_PORH after the last reset cause ends, the supervisor releases reset; this is a device reset for every other unit. -/
  | resetRelease (dt : Nat) (lv : InLevels)
  /-- RESET_N_LOW (R389): RESET_N is held low for t_RSTPW or longer and activates reset cause PIN. -/
  | resetNLow (dt : Nat) (ns : Nat)
  /-- SOFT_RESET (R389): A keyed write of 1 to SUPV.RESET.GO activates reset cause SOFT for t_SOFT. -/
  | softReset (w : RegWrite)
  /-- TICK_TOKEN (R24): t_TOKLEAD before each boundary, the timebase sends a tick token with the tick tag, the strobe group mask and the checkpoint flag to each grove and to the Quills. -/
  | tickToken (lost : BitVec 8)
  /-- TICK_BOUNDARY (R26): The timebase places a boundary when NOW reaches the next grid instant; strobes, group 31, grove intervals, the Quill snapshot, checkpoints and splits take effect in the fixed order, and the Quills then compute the words for the next interval. -/
  | tickBoundary (ue : List (Fin 2 × Fin 128))
  /-- QUEUE_DWELL_END (R90): The DWELL count of a completed queue entry runs out and HEAD advances at the next snapshot. -/
  | queueDwellEnd (n : Fin 128)
  /-- REVDWELL_END (R78): The rwait count after a braking stop runs out and the axis starts toward its target. -/
  | revdwellEnd (n : Fin 128)
  /-- MLOST (R110): No broadcast from the source node has arrived for MSRC.HOLD cycles; C holds and mvel is 0. -/
  | mlost
  /-- SCRIBE_FETCH (R118): While budget, table room and the lookahead allow, the Scribe fetches the point at F and checks it into the pending table or retires it. -/
  | scribeFetch (dt : Nat)
  /-- STROKE_DWELL_END (R131): The dwell after a stroke move runs out and the next move starts, or the stroke completes. -/
  | strokeDwellEnd (n : Fin 128)
  /-- RETRY_DWELL_END (R250): The RDWELL rest of a stall retry runs out and the axis resumes at the slow limit. -/
  | retryDwellEnd (n : Fin 128)
  /-- STILL_DELAY_EXPIRY (R151): The still count of an axis passes DELAY and its base amplitude begins to move to IHOLD. -/
  | stillDelayExpiry (n : Fin 128)
  /-- CHECKPOINT (R267): At a checkpoint boundary, reached by the CKINT count, CKNOW, the early mark or a resumption, the state records are frozen and written to the free slot. -/
  | checkpoint
  /-- CHECKPOINT_COMMIT (R268): Both copies of a checkpoint are written and the signatures agree; the checkpoint commits and log records before it are freed. -/
  | checkpointCommit (dt : Nat)
  /-- OUTPUT_WORD (R30): A Quill hands a grove an output word, which is accepted or refused by its tag, its timing and its keys. -/
  | outputWord (dt : Nat) (q : Fin 2) (n : Fin 128) (diff : BitVec 108)
  /-- TWIN_VERDICT (R263): TWIN sends each grove AGREE or REVOKE for an interval t_HAND before it begins. -/
  | twinVerdict
  /-- MISSING_WORD (R264): A copy of a word has not reached TWIN t_HAND before the boundary; this is disagreement cause MISSING. -/
  | missingWord
  /-- EXTRAPOLATION_OVERRUN (R273): After 8 consecutive extrapolated intervals with no accepted word, the grove requests a ramp-first trip with cause TWIN. -/
  | extrapolationOverrun (g : Fin 8)
  /-- TOKEN_LATE (R25): The grove's local count reaches the boundary with no token; the grove steps on its own count and raises TOKEN_LATE. -/
  | tokenLate (g : Fin 8)
  /-- TOKEN_LOSS (R25): Tokens are missing for 8 consecutive boundaries; the ramp engine stops the grove and the Firebreak trips. -/
  | tokenLoss (g : Fin 8)
  /-- RAMP_COMPLETE (R201): The ramp engine brings every axis to rest and a ramp-first trip latches. -/
  | rampComplete (g : Fin 8)
  /-- RAMPMAX_EXPIRY (R201): RAMPMAX ticks pass during a ramp; the trip latches and RAMPTO sets. -/
  | rampmaxExpiry (g : Fin 8)
  /-- COIL_PERIOD_START (R156): The carrier counter equals a coil's offset; the coil starts a period with a new setpoint, window decision and DRIVE or DECAY. -/
  | coilPeriodStart (g : Fin 8) (j : Fin 32)
  /-- CARRIER_EVENT (R157): The carrier counter hits ZERO, PERIOD or a compare value; the event passes its prescaler and may trigger a converter sequence. -/
  | carrierEvent (g : Fin 8) (e : Fin 6)
  /-- TRIP_RECOGNISED (R161): The trip filter recognises the coil current above the setpoint and DRIVE ends. -/
  | tripRecognised (dt : Nat) (g : Fin 8) (j : Fin 32)
  /-- TONMAX (R160): A DRIVE phase reaches TONMAX without a trip and the coil enters DECAY. -/
  | tonmax (g : Fin 8) (j : Fin 32)
  /-- FAST_PHASE_END (R163): The fast decay time runs out and the coil enters the slow phase. -/
  | fastPhaseEnd (g : Fin 8) (j : Fin 32)
  /-- ZERO_CURRENT_RECOGNISED (R166): In a window, zero coil current is recognised at z after ZBLANK. -/
  | zeroCurrentRecognised (dt : Nat) (g : Fin 8) (j : Fin 32)
  /-- URGENT_REQUEST (R228): ZDLY after z the window requests an urgent conversion, which is placed on a converter, queued or refused. -/
  | urgentRequest (g : Fin 8) (j : Fin 32)
  /-- ZMAX_EXPIRY (R167): A window reaches ZMAX and closes with ZTIMEOUT or ZCUT. -/
  | zmaxExpiry (g : Fin 8) (j : Fin 32)
  /-- DRIVE_RESUME (R168): 64 gck after a window closes, the coil re-enters DRIVE. -/
  | driveResume (g : Fin 8) (j : Fin 32)
  /-- NODE_RECOGNISED (R186): A node comparator recognises SW high or low, allowing a turn-on and updating a delay record. -/
  | nodeRecognised (dt : Nat) (g : Fin 8) (k : Fin 64) (high : Bool)
  /-- INCOMING_TURN_ON (R190): The incoming switch of a complementary edge turns on at the first gck the dead-time conditions allow. -/
  | incomingTurnOn (g : Fin 8) (k : Fin 64)
  /-- EDGE_MISS (R194): No node recognition within DT_MAX counts a miss, and the third consecutive miss sets STUCK and may trip. -/
  | edgeMiss (g : Fin 8) (k : Fin 64)
  /-- OVERLAP_EVENT (R183): Both gate requests of a leg are active; both balls go low, SHOOT sets, and a persistent overlap declares the leg faulty and trips. -/
  | overlapEvent (dt : Nat) (g : Fin 8) (k : Fin 64)
  /-- FAULT_N_LOW (R203): FAULT_N[g] goes low long enough and trips the grove without a clock. -/
  | faultNLow (dt : Nat) (g : Fin 8) (ns : Nat)
  /-- ESTOP_N_LOW (R203): ESTOP_N goes low long enough and trips every present grove without a clock. -/
  | estopNLow (dt : Nat) (ns : Nat)
  /-- SAFE_LEVELS (R202): t_SAFEDT after the trip, each leg goes to its safe level. -/
  | safeLevels (g : Fin 8)
  /-- TRIP (R201): A write of 1 to FIREBRK.PAGE_CTRL.TRIP trips the grove with cause HOST. -/
  | trip (g : Fin 8) (w : RegWrite)
  /-- OUTEN (R182): A keyed write of FIREBRK.PAGE_CTRL.OUTEN enables the ball drive, or trips with cause HOST when it is written 0. -/
  | outen (g : Fin 8) (w : RegWrite)
  /-- RSTOP (R201): A write of 1 to FIREBRK.PAGE_CTRL.RSTOP starts a ramp-first trip with cause RSTOP. -/
  | rstop (g : Fin 8) (w : RegWrite)
  /-- CLEAR (R204): A keyed write of FIREBRK.CLEAR.GO clears the Firebreak, or is refused while a cause is live. -/
  | clear (g : Fin 8) (w : RegWrite)
  /-- HOLDMAX_EXPIRY (R210): A debug HOLD reaches HOLDMAX and the grove trips with cause DEBUG. -/
  | holdmaxExpiry (g : Fin 8)
  /-- SEQUENCE_TRIGGER (R222): A TICK, CARRIER, WINDOW or ZREC trigger starts a converter sequence, or is ignored or held. -/
  | sequenceTrigger (dt : Nat) (c : Fin 32)
  /-- START (R222): A write of 1 to CONV.CTRL.START starts the sequence. -/
  | convStart (c : Fin 32) (w : RegWrite)
  /-- CONV_EN (R224): A write of CONV.CTRL.EN to 0 aborts the running entry and stops the sequence. -/
  | convEn (c : Fin 32) (w : RegWrite)
  /-- CONVERSION_END (R229): A conversion's sampling ends; the converter goes on to the next entry, a queued request or the resumed sequence. -/
  | conversionEnd (c : Fin 32)
  /-- RESULT_READY (R226): A filter result is corrected and delivered to RESe or, for an urgent result, to URES and the Quills. -/
  | resultReady (dt : Nat) (c : Fin 32) (raw : Int) (overload : Bool)
  /-- GO (R232): A keyed write of CONVCAL.CMD.GO starts self-calibration of the grove. -/
  | calGo (g : Fin 8) (w : RegWrite)
  /-- CALDONE (R233): Self-calibration ends as CALIBRATED or FAILED. -/
  | caldone (dt : Nat) (g : Fin 8) (fcause : Fin 8) (fitem : Fin 64) (die : Int)
  /-- APPLY (R235): A keyed write of CONVCAL.CMD.APPLY tests restored factors against CALSUM and the die temperature. -/
  | calApply (g : Fin 8) (w : RegWrite)
  /-- APPLIED (R235): The APPLY test ends as RESTORED, OUTWIN or BADSUM. -/
  | calApplied (dt : Nat) (g : Fin 8) (die : Int)
  /-- OBSCAL_GO (R255): A write of OBSCAL.GO starts an observer calibration of KE and POL. -/
  | obscalGo (n : Fin 128) (w : RegWrite)
  /-- OBSCAL_ABORT (R256): A write of OBSCAL.ABORT ends a calibration with ABORTED. -/
  | obscalAbort (n : Fin 128) (w : RegWrite)
  /-- TRUSTSET (R252): A keyed write of TRUSTSET.SET sets TRUST. -/
  | trustset (n : Fin 128) (w : RegWrite)
  /-- FLUSH (R93): A write of AXIS.QCTRL.FLUSH empties the queue and starts a controlled stop. -/
  | flush (n : Fin 128) (w : RegWrite)
  /-- RESUME (R92): A write of AXIS.QCTRL.RESUME clears a queue fault so that the entry is retried. -/
  | resume (n : Fin 128) (w : RegWrite)
  /-- QPTR_TAIL_WRITE (R89): A write of AXIS.QPTR.TAIL appends fenced queue entries, or is refused. -/
  | qptrTailWrite (n : Fin 128) (w : RegWrite)
  /-- SCRIBE_RUN (R120): A write of SCRIBE.PAGE_CTRL.RUN starts fetching from RD, or stops fetching and firing at the next boundary. -/
  | scribeRun (w : RegWrite)
  /-- INKWELL_WR_WRITE (R115): A write of SCRIBE.WR appends points, or is refused. -/
  | inkwellWrWrite (w : RegWrite)
  /-- INKWELL_RD_WRITE (R115): A write of SCRIBE.RD moves the read pointer and empties the pending table. -/
  | inkwellRdWrite (w : RegWrite)
  /-- MSRC_WRITE (R111): A write of SCRIBE.MSRC changes and re-anchors the master source. -/
  | msrcWrite (w : RegWrite)
  /-- CHECK (R142): A write of STROKE.CHECK with GO validates a range of strokes. -/
  | strokeCheck (w : RegWrite)
  /-- CHKDONE (R142): A stroke library check completes with its result. -/
  | chkdone (dt : Nat)
  /-- NOP (R291): A host NOP frame is accepted and replies. -/
  | nop (f : Frame)
  /-- WRITE (R296): A host WRITE frame writes N consecutive words all or none. -/
  | write (f : Frame)
  /-- SCATTER (R296): A host SCATTER frame writes address and data pairs all or none. -/
  | scatter (f : Frame)
  /-- READ (R302): A host READ frame reads N consecutive words. -/
  | read (f : Frame)
  /-- GATHER (R302): A host GATHER frame reads listed addresses. -/
  | gather (f : Frame)
  /-- GATHER_T (R303): A host GATHER_T frame requests reads of listed addresses, all at one capture boundary. -/
  | gatherT (f : Frame)
  /-- GATHER_T_CAPTURE (R303): At the capture boundary the GATHER_T elements are captured and the reply becomes ready. -/
  | gatherTCapture (dt : Nat)
  /-- QUEUE (R304): A host QUEUE frame appends one or two segment queue entries as one act. -/
  | queue (f : Frame)
  /-- FENCE (R305): A host FENCE frame waits until requester 0's earlier writes have taken effect. -/
  | fence (f : Frame)
  /-- FENCE_COMPLETE (R65): Every earlier write of the requester has taken effect, so the fence completes. -/
  | fenceComplete (dt : Nat) (req : Requester)
  /-- DISCARD (R306): A host DISCARD frame returns the pending shadows of the masked groups to their values in effect. -/
  | discard (f : Frame)
  /-- FRAME_ABORTED (R294): SEL_N rises before the request trailer ends; the frame is ignored as ODD or SHORT. -/
  | frameAborted (dt : Nat) (bits : Nat)
  /-- RESET_PATTERN (R307): A frame of at least 72 one bits causes a host port reset when SEL_N rises. -/
  | resetPattern (dt : Nat)
  /-- PRST (R307): A write of HOSTP.PAGE_CTRL.PRST resets the host port. -/
  | prst (w : RegWrite)
  /-- REPLY_CUT (R301): SEL_N rises before the reply trailer ends and the reply is cut. -/
  | replyCut (dt : Nat)
  /-- WATCHDOG_EXPIRY (R309): The host watchdog count reaches 0; FIRED sets and the named groves may trip ramp-first. -/
  | watchdogExpiry
  /-- KICK (R309): A write of HOSTP.WDKICK.KICK restarts the watchdog countdown. -/
  | kick (w : RegWrite)
  /-- UPDATE (R60): A write to CANOPY.UPDATE issues an update strobe after the requester's earlier writes. -/
  | update (w : RegWrite)
  /-- UPD_IN_EDGE (R61): A selected edge on UPD_IN is seen and issues one strobe. -/
  | updInEdge (dt : Nat) (rising : Bool)
  /-- FENCE_REQ (R65): A write of CANOPY.FENCE.REQ starts a fence for the writing requester. -/
  | fenceReq (w : RegWrite)
  /-- PART_WRITE (R470): A keyed write of a PART register goes to the shadow or, in group 0, is checked and applied at once. -/
  | partWrite (i : Fin 6) (w : RegWrite)
  /-- PAGE_LOCK (R63): A write to PAGE_LOCK unlocks the page for one keyed write, or relocks it and refuses a wrong key. -/
  | pageLock (p : BitVec 10) (w : RegWrite)
  /-- REGISTER_WRITE (R467): A direct or alias write to a register that has no row of its own updates its fields, is refused, or is ignored. -/
  | registerWrite (p : BitVec 10) (off : BitVec 10) (w : RegWrite)
  /-- SET (R326): A write of TIME.SET_HI sets canopy time by slewing or an epoch, or is refused under SERNYX. -/
  | setTime (w : RegWrite)
  /-- PPS_EDGE (R320): A selected PPS edge gives an offset measurement and validates the PPS source. -/
  | ppsEdge (dt : Nat) (refEdges : Nat)
  /-- SOURCE_QUALIFIED (R321): A source valid for QTIME qualifies and may be selected. -/
  | sourceQualified (src : RefSource)
  /-- SOURCE_LOST (R322): The selected source becomes invalid and the next qualified source or holdover takes over. -/
  | sourceLost (dt : Nat) (src : RefSource) (cause : Fin 16)
  /-- SLEW_END (R324): A time slew removes the offset and ends. -/
  | slewEnd
  /-- ARM (R327): A write of TSi_CTL.ARM arms a timed-strobe slot, or fires it at once as LATE. -/
  | arm (i : Fin 8) (w : RegWrite)
  /-- DISARM (R327): A write of TSi_CTL.DISARM returns the slot to IDLE. -/
  | disarm (i : Fin 8) (w : RegWrite)
  /-- TIMED_STROBE_FIRE (R327): NOW reaches an armed slot's time and the slot issues its strobe. -/
  | timedStrobeFire (i : Fin 8)
  /-- BEACON_SEND (R334): The master sends beacon N at each CYC period and reads it back for collisions. -/
  | beaconSend (dt : Nat) (readBad : Bool)
  /-- BEACON_RECEIVED (R344): A follower takes a valid beacon, updates time, schedule generation, floor and its own ranged delay. -/
  | beaconReceived (rx : LinkRx)
  /-- NODE_FRAME_SEND (R337): A node transmits its items in its own slot. -/
  | nodeFrameSend (slot : Fin 32)
  /-- NODE_FRAME_RECEIVED (R341): A node frame is checked and its MCOORD, DIGEST, RREQ and RRSP items are taken. -/
  | nodeFrameReceived (slot : Fin 32) (rx : LinkRx)
  /-- RQ_GO (R352): A write of SXLINK.RQ_CTL.GO sends a remote request in the next own slot with room. -/
  | rqGo (w : RegWrite)
  /-- RQTO (R352): A remote request has no response within 8 cycles and ends with TO. -/
  | rqto (dt : Nat)
  /-- MASTER_TAKEOVER (R346): A node that hears no beacon for its priority wait becomes time master. -/
  | masterTakeover (dt : Nat)
  /-- MUTE (R345): TERR exceeds 500 ns and the node mutes itself. -/
  | mute (dt : Nat)
  /-- NODE_LOST (R348): No valid frame from a node for 16 cycles ends its presence. -/
  | nodeLost (dt : Nat)
  /-- DIGEST_READY (R354): The SHA-256 digest of the snapshot becomes ready in DLOC. -/
  | digestReady (dt : Nat)
  /-- TSTR_GO (R353): A write of SXSCHED.TSTR_CTL.GO on the master places a timed strobe in three beacons. -/
  | tstrGo (w : RegWrite)
  /-- PROPOSE (R357): A write of SXLINK.SLEEP.PROPOSE on the master starts a sleep vote. -/
  | propose (w : RegWrite)
  /-- WAKEREQ (R356): A write of SXLINK.SLEEP.WAKEREQ makes a wake request and sets WPEND. -/
  | wakereq (w : RegWrite)
  /-- LINK_SLEEP (R358): At cycle C + 8 after COMMIT the node releases the link, arms its wake detector and enters PSTATE. -/
  | linkSleep
  /-- WAKE_PATTERN_SEND (R358): t_WDWELL after sleep entry a node with a wake request drives the wake pattern. -/
  | wakePatternSend (dt : Nat)
  /-- WAKE_PATTERN_DETECT (R358): The detector sees the wake pattern for t_WDET and wakes the node. -/
  | wakePatternDetect (dt : Nat)
  /-- QUAD_STEP (R369): A filtered change of QA or QB steps a quadrature channel's counts. -/
  | quadStep (dt : Nat) (i : Fin 16) (a b : Bool)
  /-- INDEX_EVENT (R374): QI reaches its active level and latches the count and time, checks the period and may reset CNT. -/
  | indexEvent (dt : Nat) (i : Fin 16) (age : Nat)
  /-- STEP_EDGE (R375): A selected STP edge counts a step signed by DIR. -/
  | stepEdge (dt : Nat) (i : Fin 16) (rising dir : Bool) (age : Nat)
  /-- CAP_EDGE (R376): A recognised CAP transition writes an edge record and acts on interval units. -/
  | capEdge (dt : Nat) (edges : List CapEdge)
  /-- START_TIMEOUT (R378): A start pending for 2^36 − 1 gck is discarded. -/
  | startTimeout (u : Fin 16)
  /-- FIFO0_READ (R380): A read of CAPT.FIFO0 takes the head record into the requester's shadow. -/
  | fifo0Read (dt : Nat) (req : Requester)
  /-- CAPT_FLUSH (R380): A write of CAPT.PAGE_CTRL.FLUSH empties the capture FIFO. -/
  | captFlush (w : RegWrite)
  /-- SUPPLY_LEVEL_ENTER (R393): A supply reads below a threshold on 2 samples and a logic-supply level is entered with its actions. -/
  | supplyLevelEnter (dt : Nat) (level : Fin 5)
  /-- SUPPLY_LEVEL_LEAVE (R391): A logic-supply level is left after its dwell. -/
  | supplyLevelLeave (dt : Nat)
  /-- PFAIL (R395): PFAIL_N low for t_PFF acts as S3: trips, a final journal record and latched Quill halt. -/
  | pfail (dt : Nat) (ns : Nat)
  /-- MOTOR_BUS_LEVEL_ENTER (R396): VMSNS is beyond a threshold for FILT samples and a motor-bus level acts on its grove. -/
  | motorBusLevelEnter (dt : Nat) (g : Fin 8) (level : Fin 7)
  /-- MOTOR_BUS_LEVEL_LEAVE (R396): VMSNS stays on the safe side for DWELL and the motor-bus level is left. -/
  | motorBusLevelLeave (dt : Nat) (g : Fin 8) (ov : Bool)
  /-- TEMP_LEVEL_ENTER (R398): A sensor reads above a threshold 8 times and a temperature level is entered. -/
  | tempLevelEnter (dt : Nat) (level : Fin 5)
  /-- TEMP_LEVEL_LEAVE (R398): Every sensor reads 5 °C below the threshold for 250 ms and the level is left. -/
  | tempLevelLeave (dt : Nat)
  /-- T4_RESET (R398): After T4, the final record is written or t_T4R expires and an OVERTEMP reset follows. -/
  | t4Reset (dt : Nat)
  /-- RUN_REQUEST (R400): A PSCTL GO with REQ RUN returns the device from IDLE, or wakes it from STANDBY. -/
  | runRequest (w : RegWrite)
  /-- IDLE_REQUEST (R401): A PSCTL GO with REQ IDLE enters IDLE with ramp engines holding the groves, or is refused. -/
  | idleRequest (w : RegWrite)
  /-- STANDBY_REQUEST (R402): A PSCTL GO with REQ STANDBY enters STANDBY, or is refused. -/
  | standbyRequest (w : RegWrite)
  /-- RETAIN_REQUEST (R402): A PSCTL GO with REQ RETAIN enters RETAIN, or is refused. -/
  | retainRequest (w : RegWrite)
  /-- STATE_ENTERED (R402): Entry into STANDBY or RETAIN completes and PSDONE sets. -/
  | stateEntered (dt : Nat)
  /-- WAKE (R406): A wake source acts and returns the device to its previous state, with an epoch start at the timebase. -/
  | wake (dt : Nat) (sources : BitVec 4) (lv : InLevels)
  /-- SCRUB_PASS (R404): In RETAIN the walker reads every memory word once per t_SCRUB and corrects it. -/
  | scrubPass (dt : Nat)
  /-- IMAGE_LOAD (R418): After reset release the loader discovers the flash, selects a slot and applies its records. -/
  | imageLoad (dt : Nat) (board : FlashBoard)
  /-- BOOTDONE (R418): Loading ends and LOADING falls. -/
  | bootdone (dt : Nat)
  /-- XCMD_READ (R420): An XCMD GO with OP READ reads flash words into the transfer buffer. -/
  | xcmdRead (w : RegWrite)
  /-- XCMD_PROGRAM (R420): An XCMD GO with OP PROGRAM checks, programs and verifies flash words. -/
  | xcmdProgram (w : RegWrite)
  /-- XCMD_ERASE (R420): An XCMD GO with OP ERASE erases a sector. -/
  | xcmdErase (w : RegWrite)
  /-- XDONE (R420): A flash operation ends with its result. -/
  | xdone (dt : Nat) (outcome : FlashOutcome)
  /-- JOURNAL_RECORD_WRITTEN (R422): A journal record is programmed, and a failure retires the sector. -/
  | journalRecordWritten (dt : Nat) (ok : Bool)
  /-- PERIP_TAIL_WRITE (R429): A write of PERIP.QPTR.TAIL appends peripheral queue entries. -/
  | peripTailWrite (w : RegWrite)
  /-- PERIP_ENTRY_START (R430): With EN at 1 and the queue not empty, the head entry starts after its WAITTICK condition. -/
  | peripEntryStart (dt : Nat)
  /-- PERIP_ENTRY_END (R430): A peripheral transfer ends, word 1 is written and HEAD advances. -/
  | peripEntryEnd (dt : Nat) (rx : List (BitVec 36))
  /-- READY_TIMEOUT (R430): PREADY stays low longer than RDYTO and the entry ends with RESULT 1. -/
  | readyTimeout
  /-- CONTTO (R432): No entry starts within CONTMAX and the held select rises. -/
  | contto
  /-- MODE_REQ (R277): A keyed write of TWIN.MODE.REQ requests a planner mode for the next checkpoint boundary. -/
  | modeReq (w : RegWrite)
  /-- CKNOW (R266): A write of CKCFG.CKNOW makes the next boundary a checkpoint boundary. -/
  | cknow (page : CkPage) (w : RegWrite)
  /-- STEST_GO (R281): A keyed write of TWIN.STEST.GO, or reset, starts the checker self-test. -/
  | stestGo (w : RegWrite)
  /-- STEST_DONE (R281): The checker self-test ends and sets PAIR_OK. -/
  | stestDone (dt : Nat) (laneFail : BitVec 16) (sigFail : Bool)
  /-- MEMACC (R455): At Update-DR the MEMACC register reads, writes or writes then reads a word as requester 2. -/
  | memacc (dt : Nat) (op : Fin 4) (addr : BitVec 24) (data : BitVec 36)
  /-- GROVE_HALT (R209): A HALTCTL grove halt bit enters HOLD or a SAFE ramp-first trip. -/
  | groveHalt (dt : Nat) (g : Fin 8)
  /-- GROVE_RESUME (R457): A HALTCTL grove resume bit ends a HOLD with a DEBUG trip. -/
  | groveResume (dt : Nat) (g : Fin 8)
  /-- QUILL_HALT (R280): A HALTCTL Quill halt bit halts a Quill at the next boundary and breaks pairing or takes over its groves. -/
  | quillHalt (dt : Nat) (q : Fin 2) (withResume : Bool)
  /-- QUILL_RESUME (R457): A HALTCTL Quill resume bit clears HALT at the next boundary. -/
  | quillResume (dt : Nat) (q : Fin 2)
  /-- IDCODE (R454): The IDCODE instruction returns the 32-bit device identity. -/
  | idcode (dt : Nat)
  /-- BYPASS (R454): The BYPASS instruction selects the 1-bit register. -/
  | bypass (dt : Nat)
  /-- EXTEST (R454): The EXTEST instruction drives boundary scan with the interlock still in force. -/
  | extest (dt : Nat) (pattern : List BallAsk)
  /-- SAMPLE_PRELOAD (R454): The SAMPLE/PRELOAD instruction samples or preloads boundary scan. -/
  | samplePreload (dt : Nat) (pattern : List BallAsk)
  /-- TAP_RESET (R454): TRST_N low or Test-Logic-Reset resets only the TAP. -/
  | tapReset (dt : Nat)
  /-- BLOT_CTRL (R464): A write of BLOT.CTRL starts or stops streaming and trace, or is refused. -/
  | blotCtrl (w : RegWrite)
  /-- BLOT_RD_WRITE (R463): A write of BLOT.RD frees records read by the host, or is refused. -/
  | blotRdWrite (w : RegWrite)
  /-- FAULT_N_HIGH (R204): FAULT_N[g] returns high, so cause FAULT is no longer live in FIREBRK.PAGE_STAT.LIVE and the keyed clear is no longer refused for it. -/
  | faultNHigh (dt : Nat) (g : Fin 8)
  /-- ESTOP_N_HIGH (R204): ESTOP_N returns high, so cause ESTOP is no longer live in every grove and the keyed clear may proceed. -/
  | estopNHigh (dt : Nat)
  /-- PFAIL_N_HIGH (R395): PFAIL_N returns high; SUPV.PAGE_STAT.PFAIL falls while the latched S3 actions stand. -/
  | pfailNHigh (dt : Nat)
  /-- LINKUP_LOST (R348): A follower that has heard no beacon within the last 4 cycles drops LINKUP, stops serving remote access and keeps WPEND pending. -/
  | linkupLost (dt : Nat)
  /-- UNDEFINED_OPCODE_FRAME (R294): A host frame with OP 0x9 to 0xE, or 0xF that is not the reset pattern, is ignored with reason OPCODE and answered with IGN, updating the reply flags and ERRB.FORMAT. -/
  | undefinedOpcodeFrame (op : Fin 16) (f : Frame)
  /-- JOURNAL_ERASE_END (R421): The erase of the next journal ring sector, or of FINA or FINB, that the journal started ends, succeeding or retiring the sector. -/
  | journalEraseEnd (dt : Nat) (ok : Bool)
  /-- HOST_PORT_READY (R452): t_HRDY after reset release, or t_PRDY after a reset pattern, the host port starts accepting frames in sync state. -/
  | hostPortReady (dt : Nat)
deriving DecidableEq, Repr

end Sys2Proof
end

