-- ==== Sys2Proof/Decode.lean ====
section
/-!
DEFINITION. The commands that a word of the table's bits spells. spec/opcode_table.json gives no row any bits, so no
word spells a command, and the decoder refuses every word (log 2).
-/
namespace Sys2Proof

/-- The command that a word of `nbits` bits spells: none, as the table gives no bits. -/
def decodeTableWord (_nbits _w : Nat) : Option Instr := none

end Sys2Proof
end

