-- ==== Sys2Proof/Machine/Bits.lean ====
section
/-!
DEFINITION. Fields of words, signed readings, saturation and the rounding functions of R4, R5, R11 and R13.
-/
namespace Sys2Proof.Machine

/-- Bits `hi` to `lo` of a number (R4). -/
def nfld (w hi lo : Nat) : Nat := (w >>> lo) % 2 ^ (hi - lo + 1)

/-- Bits `hi` to `lo` of a word (R4). -/
def fld (w : Word) (hi lo : Nat) : Nat := nfld w.toNat hi lo

/-- One bit of a word. -/
def bit (w : Word) (i : Nat) : Bool := w.toNat.testBit i

/-- The word with bits `hi` to `lo` replaced by the low bits of `v`. -/
def setFld (w : Word) (hi lo v : Nat) : Word :=
  let n := hi - lo + 1
  BitVec.ofNat 36 (w.toNat - nfld w.toNat hi lo * 2 ^ lo + (v % 2 ^ n) * 2 ^ lo)

/-- The word with bit `i` set to `v`. -/
def setBit (w : Word) (i : Nat) (v : Bool) : Word := setFld w i i (if v then 1 else 0)

/-- A number read as a signed `w`-bit field (R5). -/
def sgn (w x : Nat) : Int :=
  let y := x % 2 ^ w
  if y < 2 ^ (w - 1) then (y : Int) else (y : Int) - (2 ^ w : Nat)

/-- A signed value as the `w`-bit field that holds it, modulo 2^w. -/
def unsgn (w : Nat) (x : Int) : Nat := (x % (2 ^ w : Nat)).toNat

/-- Signed reading of a field of a word. -/
def sfld (w : Word) (hi lo : Nat) : Int := sgn (hi - lo + 1) (fld w hi lo)

/-- Reduction of a signed value modulo 2^w into the signed range. -/
def wrapS (w : Nat) (x : Int) : Int := sgn w (unsgn w x)

/-- A word holding a signed value modulo 2^36. -/
def sword (x : Int) : Word := BitVec.ofNat 36 (unsgn 36 x)

/-- Limits a value to `lo` to `hi`. -/
def clampI (lo hi x : Int) : Int := if x < lo then lo else if hi < x then hi else x

/-- Serial-number order of R13: `x` is later than `y` among `w`-bit quantities. -/
def later (w x y : Nat) : Bool :=
  let d := (x + 2 ^ w - y % 2 ^ w) % 2 ^ w
  decide (0 < d ∧ d < 2 ^ (w - 1))

/-- round_half_even(a / b) of R11, for b > 0. -/
def rhe (a b : Int) : Int :=
  let q := a.fdiv b
  let r2 := 2 * (a - q * b)
  if r2 < b then q else if b < r2 then q + 1 else if q % 2 = 0 then q else q + 1

/-- The sign of a value: −1, 0 or 1. -/
def sgnI (x : Int) : Int := if x < 0 then -1 else if x = 0 then 0 else 1

/-- |x|. -/
def absI (x : Int) : Int := if x < 0 then -x else x

def bnat (p : Bool) : Nat := if p then 1 else 0

/-- The sum of `f` over 0 … n−1. -/
def sumUpTo (n : Nat) (f : Nat → Nat) : Nat := (List.range n).foldl (fun a i => a + f i) 0

/-- The bits `f i`, for i below `n`, as a number. -/
def bitsOf (n : Nat) (f : Nat → Bool) : Nat := sumUpTo n (fun i => if f i then 2 ^ i else 0)

/-- The numbers below `n` whose bit is set in `m`. -/
def maskBits (n m : Nat) : List Nat := (List.range n).filter (fun i => m.testBit i)

/-- The list with element `i` replaced. -/
def listSet {α : Type} : List α → Nat → α → List α
  | [], _, _ => []
  | _ :: t, 0, v => v :: t
  | x :: t, i + 1, v => x :: listSet t i v

end Sys2Proof.Machine
end

