-- ==== Sys2Proof/Machine/Digest.lean ====
section
/-!
DEFINITION. The CRC-32C of frames and records (R292) and the SHA-256 of digests (R354, FIPS 180-4).
-/
namespace Sys2Proof.Machine

/-! ### CRC-32C (R292) -/

/-- One covered bit. -/
def crcBit (crc : Nat) (b : Bool) : Nat :=
  let fb := crc.testBit 31 != b
  let c := crc * 2 % 2 ^ 32
  if fb then c ^^^ 0x1EDC6F41 else c

/-- The low `n` bits of `v`, most significant first. -/
def crcBits (crc v : Nat) : Nat → Nat
  | 0 => crc
  | n + 1 => crcBits (crcBit crc (v.testBit n)) v n

/-- The CRC-32C of whole words, followed by `n` bits of `v`. -/
def crc32c (ws : List Word) (v n : Nat) : Nat :=
  crcBits (ws.foldl (fun c w => crcBits c w.toNat 36) 0xFFFFFFFF) v n ^^^ 0xFFFFFFFF

/-- A trailer: `flags` in bits 35:32 and the CRC over the words and those bits. -/
def trailerOf (flags : Nat) (ws : List Word) : Word :=
  BitVec.ofNat 36 (flags % 16 * 2 ^ 32 + crc32c ws (flags % 16) 4)

/-- A trailer whose CRC covers the words alone (R332, R431). -/
def plainTrailer (flags : Nat) (ws : List Word) : Word := BitVec.ofNat 36 (flags % 16 * 2 ^ 32 + crc32c ws 0 0)

/-! ### Words as bytes (R354, R412) -/

/-- The five bytes of a word: bits 35:32 in the low half of the first, then bits 31:24 down to 7:0. -/
def wordBytes (w : Word) : List Nat :=
  let n := w.toNat
  [n / 2 ^ 32, n / 2 ^ 24 % 256, n / 2 ^ 16 % 256, n / 2 ^ 8 % 256, n % 256]

/-! ### SHA-256 (R354) -/

abbrev W32 := BitVec 32

def rotr (x : W32) (n : Nat) : W32 := (x >>> n) ||| (x <<< (32 - n))

/-- The round constants. -/
def shaK : List Nat :=
  [0x428a2f98, 0x71374491, 0xb5c0fbcf, 0xe9b5dba5, 0x3956c25b, 0x59f111f1, 0x923f82a4, 0xab1c5ed5,
   0xd807aa98, 0x12835b01, 0x243185be, 0x550c7dc3, 0x72be5d74, 0x80deb1fe, 0x9bdc06a7, 0xc19bf174,
   0xe49b69c1, 0xefbe4786, 0x0fc19dc6, 0x240ca1cc, 0x2de92c6f, 0x4a7484aa, 0x5cb0a9dc, 0x76f988da,
   0x983e5152, 0xa831c66d, 0xb00327c8, 0xbf597fc7, 0xc6e00bf3, 0xd5a79147, 0x06ca6351, 0x14292967] ++
  [0x27b70a85, 0x2e1b2138, 0x4d2c6dfc, 0x53380d13, 0x650a7354, 0x766a0abb, 0x81c2c92e, 0x92722c85,
   0xa2bfe8a1, 0xa81a664b, 0xc24b8b70, 0xc76c51a3, 0xd192e819, 0xd6990624, 0xf40e3585, 0x106aa070,
   0x19a4c116, 0x1e376c08, 0x2748774c, 0x34b0bcb5, 0x391c0cb3, 0x4ed8aa4a, 0x5b9cca4f, 0x682e6ff3,
   0x748f82ee, 0x78a5636f, 0x84c87814, 0x8cc70208, 0x90befffa, 0xa4506ceb, 0xbef9a3f7, 0xc67178f2]

/-- The initial hash value. -/
def shaInit : List W32 :=
  [0x6a09e667, 0xbb67ae85, 0x3c6ef372, 0xa54ff53a, 0x510e527f, 0x9b05688c, 0x1f83d9ab, 0x5be0cd19]

/-- The next word of the message schedule, from the last 16, newest first. -/
def shaNext (w : List W32) : W32 :=
  let a := w.getD 14 0
  let b := w.getD 1 0
  let s0 := rotr a 7 ^^^ rotr a 18 ^^^ (a >>> 3)
  let s1 := rotr b 17 ^^^ rotr b 19 ^^^ (b >>> 10)
  w.getD 15 0 + s0 + w.getD 6 0 + s1

/-- The schedule, newest word first. -/
def shaSchedule : Nat → List W32 → List W32
  | 0, w => w
  | n + 1, w => shaSchedule n (shaNext w :: w)

/-- One round. -/
def shaRound (s : List W32) (kw : W32) : List W32 :=
  let a := s.getD 0 0
  let b := s.getD 1 0
  let c := s.getD 2 0
  let d := s.getD 3 0
  let e := s.getD 4 0
  let f := s.getD 5 0
  let g := s.getD 6 0
  let h := s.getD 7 0
  let s1 := rotr e 6 ^^^ rotr e 11 ^^^ rotr e 25
  let ch := (e &&& f) ^^^ (~~~e &&& g)
  let t1 := h + s1 + ch + kw
  let s0 := rotr a 2 ^^^ rotr a 13 ^^^ rotr a 22
  let maj := (a &&& b) ^^^ (a &&& c) ^^^ (b &&& c)
  [t1 + s0 + maj, a, b, c, d + t1, e, f, g]

/-- One block of 64 bytes, given as its 16 words in order. -/
def shaBlock (h : List W32) (ws : List W32) : List W32 :=
  let kw := (List.zip shaK (shaSchedule 48 ws.reverse).reverse).map (fun e => BitVec.ofNat 32 e.1 + e.2)
  List.zipWith (· + ·) h (kw.foldl shaRound h)

/-- Bytes as 32-bit words, most significant byte first. -/
def toWords : List Nat → List W32
  | a :: b :: c :: d :: t => BitVec.ofNat 32 (((a * 256 + b) * 256 + c) * 256 + d) :: toWords t
  | _ => []

/-- The message with its padding. -/
def shaPad (m : List Nat) : List Nat :=
  m ++ [0x80] ++ List.replicate ((119 - m.length % 64) % 64) 0 ++
    (List.range 8).map (fun i => 8 * m.length / 2 ^ (8 * (7 - i)) % 256)

/-- The blocks of a padded message, at most `n`. -/
def shaBlocks : Nat → List W32 → List W32 → List W32
  | 0, h, _ => h
  | n + 1, h, ws => if ws.isEmpty then h else shaBlocks n (shaBlock h (ws.take 16)) (ws.drop 16)

def sha256 (m : List Nat) : List W32 :=
  let ws := toWords (shaPad m)
  shaBlocks (ws.length / 16) shaInit ws

/-- The first 72 bits of the digest (R354). -/
def digest72 (m : List Nat) : Nat :=
  let h := (sha256 m).map BitVec.toNat
  h.getD 0 0 * 2 ^ 40 + h.getD 1 0 * 2 ^ 8 + h.getD 2 0 / 2 ^ 24

end Sys2Proof.Machine
end

