-- ==== Sys2Proof/Config.lean ====
section
/-!
DEFINITION. What an implementation fixes and what the spec leaves open. Each `opaque` constant is a free value: it
has no body, so no proof can see a value of it. The model applies it to a counter that the step advances
(`Dev.draw`) or to the operands it depends on. The assumption log names each of them.
-/
namespace Sys2Proof

/-- The three parts that R1 lists. -/
inductive Variant where
  | fd9128 | fd9064 | fd9032
deriving DecidableEq, Repr

/-- Groves present (R1, R33). -/
def Variant.groves : Variant → Nat
  | .fd9128 => 8
  | .fd9064 => 4
  | .fd9032 => 2

/-- Axes present: every present grove has 16 (R16). -/
def Variant.axes (v : Variant) : Nat := 16 * v.groves

/-- On-chip memory in words (R34). -/
def Variant.memWords : Variant → Nat
  | .fd9128 => 0x400000
  | .fd9064 => 0x200000
  | .fd9032 => 0x080000

/-- Quill B, the TWIN checker and the Scribe are absent on the FD9032 (R33, R35). -/
def Variant.full : Variant → Bool
  | .fd9032 => false
  | _ => true

namespace Config

/-- A free 36-bit value: what the spec states no value for. -/
opaque freeWord : Nat → BitVec 36

/-- A free natural number; each use bounds it as the spec bounds the value. -/
opaque freeNat : Nat → Nat

/-- A free choice between two outcomes that the spec both allows. -/
opaque freeBool : Nat → Bool

/-- The contribution of one axis record to its Quill's checkpoint signature (R265 gives the polynomial, not the
record's layout). -/
opaque recordCrc : Nat → Nat → BitVec 64

/-- Words of checkpoint records and of input-log records, whose layout the spec does not give (R267, R269). -/
opaque imageWord : Nat → Nat → BitVec 36

/-- Calibration words that a self-calibration produces (R233), by item. -/
opaque calWord : Nat → Nat → BitVec 36

/-- The phase of a grove's modulator clock at reset release, gck (R216 states none); taken modulo 20. -/
opaque modPhase : Nat → Nat

/-- The state of the check bits of a word that nothing has written since a power-up (R390), taken modulo 3: good, a
single-bit error, uncorrectable. -/
opaque powerEcc : Nat → Nat → Nat

end Config
end Sys2Proof
end

