-- ==== Sys2Proof/Machine/RegMap.lean ====
section
/-!
DEFINITION. The register map: every register of every page, its offset, its instances, its fields with their
type codes (R9) and reset values, from the register maps and field tables of the owning chapters
(R45, R46, R47, R69, R100, R102 and the tables those rules introduce). Offsets 0x000 to 0x008 are the common
layout of R47; PAGE_CTRL and PAGE_EVT fields are those of the owning chapter.
-/
namespace Sys2Proof.Machine

/-- The page types of R45 and R46; `plan` is PLANA and PLANB. -/
inductive PageKind where
  | canopy | supv | time | hostp | perip | xmem | sxlink | sxsched | sxnode | plan | twin | blot | scribe | stroke | qdec | stepin | capt | ranks | grove | carrier | firebrk | nib | ovrd | conv | convcal | wave | axis
deriving DecidableEq, Repr

/-- The type codes of R9. -/
inductive FType where
  | ro | rw | wo | w1c | rwb | rwk | rwbk
deriving DecidableEq, Repr

/-- One field: bits `hi` to `lo`, its type code and its reset value (0 where the table says variant, mode or
fixed: `Access.lean` gives those). -/
structure RegField where
  hi : Nat
  lo : Nat
  ty : FType
  reset : Nat
deriving DecidableEq, Repr

/-- Which word of a 72-bit value a register is (R55). -/
inductive PairPart where
  | single | low | high
deriving DecidableEq, Repr

/-- One register, or `n` of them `stride` offsets apart. -/
structure RegDef where
  name : String
  off : Nat
  n : Nat
  stride : Nat
  pair : PairPart
  telemetry : Bool
  fields : List RegField
deriving DecidableEq, Repr

def bf (hi lo : Nat) (ty : FType) (reset : Nat) : RegField := ⟨hi, lo, ty, reset⟩
/-- A register of one word. -/
def reg1 (name : String) (off : Nat) (fs : List RegField) : RegDef := ⟨name, off, 1, 1, .single, false, fs⟩
/-- `n` registers of one word. -/
def regN (name : String) (off n stride : Nat) (fs : List RegField) : RegDef := ⟨name, off, n, stride, .single, false, fs⟩
/-- Low and high words of 72-bit values. -/
def regL (name : String) (off n stride : Nat) (fs : List RegField) : RegDef := ⟨name, off, n, stride, .low, false, fs⟩
def regH (name : String) (off n stride : Nat) (fs : List RegField) : RegDef := ⟨name, off, n, stride, .high, false, fs⟩
/-- A telemetry register (R66). -/
def tele (r : RegDef) : RegDef := { r with telemetry := true }


/-- CANOPY page, offsets 0x010 and up. -/
def canopyRegs : List RegDef :=
  [ reg1 "DEVID" 0x010 [bf 35 20 .ro 0, bf 19 12 .ro 0]
  , reg1 "MEMSIZE" 0x011 [bf 22 0 .ro 0]
  , reg1 "UPDATE" 0x012 [bf 31 0 .wo 0]
  , reg1 "UPD_PEND" 0x013 [bf 31 0 .ro 0]
  , reg1 "UPDIN_CFG" 0x014 [bf 33 32 .rw 0, bf 31 0 .rw 0]
  , reg1 "UPDIN_CNT" 0x015 [bf 35 0 .ro 0]
  , regN "PART" 0x018 6 1 [bf 24 16 .rwbk 0, bf 7 0 .rwbk 0]
  , reg1 "PART_STAT" 0x01E [bf 6 4 .ro 0, bf 3 0 .ro 0]
  , regN "IRQMAP" 0x020 4 1 [bf 3 3 .rw 0, bf 7 7 .rw 0, bf 11 11 .rw 0, bf 15 15 .rw 0, bf 19 19 .rw 0, bf 23 23 .rw 0, bf 27 27 .rw 0, bf 31 31 .rw 0, bf 1 0 .rw 0, bf 5 4 .rw 0, bf 9 8 .rw 0, bf 13 12 .rw 0, bf 17 16 .rw 0, bf 21 20 .rw 0, bf 25 24 .rw 0, bf 29 28 .rw 0]
  , reg1 "IRQPEND" 0x024 [bf 31 0 .ro 0]
  , regN "GIRQ" 0x028 8 1 [bf 29 16 .ro 0, bf 15 0 .ro 0]
  , reg1 "FENCE" 0x030 [bf 35 35 .wo 0, bf 34 34 .ro 1, bf 15 0 .ro 0]
  , reg1 "UNMAP" 0x031 [bf 35 34 .ro 0, bf 33 24 .ro 0, bf 23 0 .ro 0]
  , reg1 "ECC" 0x032 [bf 23 12 .ro 0, bf 11 0 .ro 0]
  , reg1 "ECC_ADDR" 0x033 [bf 21 0 .ro 0] ]

/-- SUPV page, offsets 0x010 and up. -/
def supvRegs : List RegDef :=
  [ reg1 "RCAUSE" 0x010 [bf 4 0 .w1c 1]
  , reg1 "PSCTL" 0x011 [bf 35 35 .wo 0, bf 11 8 .ro 0, bf 1 0 .rw 0]
  , reg1 "WAKECFG" 0x012 [bf 19 16 .rw 4, bf 11 10 .rw 1, bf 8 4 .rw 0, bf 3 3 .rw 0, bf 2 2 .rw 1, bf 1 1 .rw 1, bf 0 0 .rw 1]
  , reg1 "WAKESRC" 0x013 [bf 3 0 .ro 0]
  , tele (reg1 "LEVELS" 0x014 [bf 35 12 .ro 0, bf 6 4 .ro 0, bf 2 0 .ro 0])
  , tele (reg1 "SUPPLY0" 0x015 [bf 35 24 .ro 0, bf 23 12 .ro 0, bf 11 0 .ro 0])
  , tele (reg1 "SUPPLY1" 0x016 [bf 35 24 .ro 0, bf 23 12 .ro 0])
  , tele (reg1 "TEMP0" 0x017 [bf 35 24 .ro 0, bf 23 12 .ro 0, bf 11 0 .ro 0])
  , tele (reg1 "TEMP1" 0x018 [bf 35 24 .ro 0, bf 23 12 .ro 0, bf 11 0 .ro 0])
  , reg1 "SHEDCNT" 0x019 [bf 35 24 .ro 0, bf 23 12 .ro 0, bf 11 0 .ro 0]
  , reg1 "MSKIP" 0x01A [bf 23 0 .ro 0]
  , reg1 "SCRUB" 0x01B [bf 23 12 .ro 0, bf 11 0 .ro 0]
  , reg1 "SCRUBADDR" 0x01C [bf 21 0 .ro 0]
  , reg1 "RESET" 0x01D [bf 0 0 .rwk 0]
  , reg1 "SLEPT" 0x01E [bf 35 0 .ro 0]
  , regN "MBTHR" 0x020 8 1 [bf 31 24 .rwk 0, bf 23 16 .rwk 0, bf 15 8 .rwk 0, bf 7 0 .rwk 0]
  , regN "MBOV" 0x028 8 1 [bf 15 8 .rwk 0, bf 7 0 .rwk 0]
  , regN "MBCFG" 0x030 8 1 [bf 35 27 .rwk 192, bf 26 19 .rwk 20, bf 18 11 .rwk 8, bf 10 0 .rwk 10]
  , regN "OVDLIM" 0x038 8 1 [bf 35 0 .rwk 0xfffffffff]
  , tele (regN "MBSTAT" 0x040 8 1 [bf 18 16 .ro 0, bf 11 0 .ro 0]) ]

/-- TIME page, offsets 0x010 and up. -/
def timeRegs : List RegDef :=
  [ regL "NOW_LO" 0x010 1 1 [bf 35 0 .ro 0]
  , regH "NOW_HI" 0x011 1 1 [bf 35 0 .ro 0]
  , reg1 "EPOCH" 0x012 [bf 11 0 .ro 0]
  , reg1 "TICK" 0x013 [bf 35 0 .ro 0]
  , reg1 "TPER" 0x014 [bf 16 0 .rwbk 0x4e20]
  , regL "TGRID_LO" 0x015 1 1 [bf 35 0 .rwbk 0]
  , regH "TGRID_HI" 0x016 1 1 [bf 35 0 .rwbk 0]
  , reg1 "SRCCFG" 0x018 [bf 15 8 .rwk 20, bf 2 2 .rwk 1, bf 1 1 .rwk 0, bf 0 0 .rwk 0]
  , reg1 "SLEW" 0x019 [bf 31 24 .rwk 100, bf 19 0 .rwk 1000]
  , reg1 "PPSCFG" 0x01A [bf 1 1 .rw 0, bf 0 0 .rw 0]
  , reg1 "SRCSTAT" 0x01B [bf 19 16 .ro 0, bf 13 12 .ro 0, bf 9 8 .ro 0, bf 1 0 .ro 0]
  , tele (reg1 "OFFSET" 0x01C [bf 35 0 .ro 0])
  , tele (reg1 "RATE" 0x01D [bf 35 0 .ro 0])
  , tele (reg1 "GOFS" 0x01E [bf 35 0 .ro 0])
  , regL "STEP_LO" 0x020 1 1 [bf 35 0 .ro 0]
  , regH "STEP_HI" 0x021 1 1 [bf 35 0 .ro 0]
  , regL "SET_LO" 0x022 1 1 [bf 35 0 .wo 0]
  , regH "SET_HI" 0x023 1 1 [bf 35 0 .wo 0]
  , reg1 "PLL" 0x024 [bf 8 8 .ro 0, bf 0 0 .rwk 0]
  , regL "TS_LO" 0x030 8 4 [bf 35 0 .rw 0]
  , regH "TS_HI" 0x031 8 4 [bf 35 0 .rw 0]
  , regN "TS_CTL" 0x032 8 4 [bf 35 35 .wo 0, bf 34 34 .wo 0, bf 18 16 .ro 0, bf 11 0 .ro 0]
  , regN "TS_MASK" 0x033 8 4 [bf 31 0 .rw 0] ]

/-- HOSTP page, offsets 0x010 and up. -/
def hostpRegs : List RegDef :=
  [ reg1 "CFG" 0x010 [bf 1 0 .rw 1]
  , reg1 "WDOG" 0x011 [bf 35 35 .rwk 0, bf 34 34 .rwk 0, bf 33 33 .rwk 0, bf 23 16 .rwk 255, bf 15 0 .rwk 0x2710]
  , reg1 "WDKICK" 0x012 [bf 0 0 .wo 0]
  , reg1 "WDSTAT" 0x013 [bf 35 35 .ro 0, bf 15 0 .ro 0]
  , reg1 "FRAMES" 0x014 [bf 35 0 .ro 0]
  , reg1 "ERRA" 0x015 [bf 35 24 .ro 0, bf 23 12 .ro 0, bf 11 0 .ro 0]
  , reg1 "ERRB" 0x016 [bf 35 24 .ro 0, bf 23 12 .ro 0, bf 11 0 .ro 0]
  , reg1 "ERRC" 0x017 [bf 35 24 .ro 0, bf 23 12 .ro 0, bf 11 0 .ro 0]
  , reg1 "LASTHDR" 0x018 [bf 35 0 .ro 0]
  , reg1 "RSTCNT" 0x019 [bf 23 12 .ro 0, bf 11 0 .ro 0] ]

/-- PERIP page, offsets 0x010 and up. -/
def peripRegs : List RegDef :=
  [ reg1 "CFG" 0x010 [bf 1 1 .rw 0, bf 0 0 .rw 0]
  , reg1 "QPTR" 0x011 [bf 21 16 .rw 0, bf 5 0 .ro 0]
  , reg1 "CONTMAX" 0x012 [bf 15 0 .rw 100]
  , reg1 "ERRCNT" 0x013 [bf 35 24 .ro 0, bf 23 12 .ro 0, bf 11 0 .ro 0]
  , regN "SELCFG" 0x018 8 1 [bf 35 28 .rw 1, bf 27 20 .rw 100, bf 19 16 .rw 1, bf 13 12 .rw 0, bf 8 8 .rw 1, bf 4 4 .rw 0, bf 0 0 .rw 0]
  , regN "ALIVE" 0x020 8 1 [bf 3 0 .ro 0] ]

/-- XMEM page, offsets 0x010 and up. -/
def xmemRegs : List RegDef :=
  [ reg1 "FLASH" 0x010 [bf 35 32 .ro 0, bf 31 24 .ro 0, bf 17 16 .ro 0, bf 12 12 .ro 0, bf 8 8 .ro 0]
  , reg1 "CFG" 0x011 [bf 3 0 .rw 1]
  , reg1 "BOOT" 0x012 [bf 35 24 .ro 0, bf 23 22 .ro 0, bf 21 21 .ro 0, bf 20 20 .ro 0, bf 19 19 .ro 0, bf 18 16 .ro 0, bf 15 0 .ro 0]
  , reg1 "BOOTFAIL" 0x013 [bf 7 4 .ro 0, bf 3 0 .ro 0]
  , reg1 "LAYOUT0" 0x014 [bf 31 16 .ro 0, bf 15 0 .ro 0]
  , reg1 "LAYOUT1" 0x015 [bf 31 16 .ro 0, bf 15 0 .ro 0]
  , reg1 "LAYOUT2" 0x016 [bf 29 24 .ro 0, bf 21 16 .ro 0, bf 15 0 .ro 0]
  , reg1 "JCFG" 0x018 [bf 35 35 .rw 0, bf 13 0 .rw 0]
  , reg1 "JSTAT" 0x019 [bf 35 34 .ro 0, bf 29 24 .ro 0, bf 23 12 .ro 0, bf 11 0 .ro 0]
  , reg1 "JSEQ" 0x01A [bf 35 0 .ro 0]
  , reg1 "JREST" 0x01B [bf 35 33 .ro 0, bf 7 0 .ro 0]
  , regN "JBAD" 0x01C 2 1 [bf 31 0 .ro 0]
  , reg1 "XCMD" 0x020 [bf 35 35 .wo 0, bf 33 32 .rw 0, bf 19 10 .rw 0, bf 9 0 .rw 0]
  , reg1 "XSECT" 0x021 [bf 15 0 .rw 0]
  , reg1 "XBUF" 0x022 [bf 12 0 .rw 0]
  , reg1 "XSTAT" 0x023 [bf 35 35 .ro 0, bf 2 0 .ro 0]
  , reg1 "CTL" 0x024 [bf 0 0 .rwk 0] ]

/-- SXLINK page, offsets 0x010 and up. -/
def sxlinkRegs : List RegDef :=
  [ reg1 "CFG" 0x010 [bf 34 30 .rwk 0, bf 27 24 .rwk 0, bf 21 20 .rwk 3, bf 7 0 .rwk 60]
  , reg1 "VERSION" 0x011 [bf 35 32 .ro 1, bf 31 28 .ro 2, bf 7 0 .rw 0]
  , reg1 "SLEEP" 0x012 [bf 35 35 .wo 0, bf 34 34 .wo 0, bf 33 33 .ro 0, bf 16 16 .rw 0, bf 9 8 .rw 0]
  , reg1 "RACC" 0x013 [bf 1 1 .rwk 0, bf 0 0 .rwk 0]
  , tele (reg1 "CYCLE" 0x014 [bf 35 0 .ro 0])
  , tele (reg1 "TERR" 0x015 [bf 23 0 .ro 0])
  , regN "DELAY" 0x016 2 1 [bf 35 35 .ro 0, bf 23 0 .ro 0]
  , tele (reg1 "THETA" 0x018 [bf 35 0 .ro 0])
  , regN "PORT" 0x019 2 1 [bf 35 24 .ro 0, bf 23 12 .ro 0, bf 11 0 .ro 0]
  , reg1 "LINKCNT" 0x01B [bf 35 24 .ro 0, bf 23 12 .ro 0, bf 11 0 .ro 0]
  , reg1 "RACCCNT" 0x01C [bf 23 12 .ro 0, bf 11 0 .ro 0]
  , reg1 "RQ_CTL" 0x020 [bf 35 35 .wo 0, bf 29 24 .rw 0, bf 16 16 .rw 0, bf 13 12 .rw 0]
  , reg1 "RQ_ADDR" 0x021 [bf 23 0 .rw 0]
  , regN "RQ_DATA" 0x022 4 1 [bf 35 0 .rw 0]
  , reg1 "RQ_STAT" 0x026 [bf 35 35 .ro 0, bf 34 34 .ro 0, bf 33 33 .ro 0, bf 15 8 .ro 0, bf 3 0 .ro 0]
  , regN "RSP_DATA" 0x028 4 1 [bf 35 0 .ro 0] ]

/-- SXSCHED page, offsets 0x010 and up. -/
def sxschedRegs : List RegDef :=
  [ reg1 "CYC" 0x010 [bf 11 0 .rwb 500]
  , reg1 "GEN" 0x011 [bf 11 0 .rwb 0]
  , reg1 "NSLOT" 0x012 [bf 5 0 .rwb 0]
  , reg1 "STAT" 0x013 [bf 19 16 .ro 0, bf 15 0 .ro 0]
  , regL "TSTR_LO" 0x014 1 1 [bf 35 0 .rw 0]
  , regH "TSTR_HI" 0x015 1 1 [bf 35 0 .rw 0]
  , reg1 "TSTR_MASK" 0x016 [bf 31 0 .rw 0]
  , reg1 "TSTR_CTL" 0x017 [bf 35 35 .wo 0, bf 10 8 .rw 0, bf 1 0 .ro 0]
  , regN "SLOT" 0x020 32 1 [bf 12 8 .rwb 0, bf 4 0 .rwb 1] ]

/-- SXNODE page, offsets 0x010 and up. -/
def sxnodeRegs : List RegDef :=
  [ reg1 "GEN" 0x010 [bf 11 0 .rw 0]
  , regL "DLOC_LO" 0x011 1 1 [bf 35 0 .ro 0]
  , regH "DLOC_HI" 0x012 1 1 [bf 35 0 .ro 0]
  , reg1 "DTAG" 0x013 [bf 35 35 .ro 0, bf 7 0 .ro 0]
  , reg1 "PRESENT" 0x014 [bf 31 0 .ro 0]
  , reg1 "DIGMIS" 0x015 [bf 31 0 .ro 0]
  , reg1 "SCHDIFF" 0x016 [bf 31 0 .ro 0]
  , reg1 "MAJDIFF" 0x017 [bf 31 0 .ro 0]
  , regN "NSTAT" 0x100 32 4 [bf 35 0 .ro 0]
  , regN "INFO" 0x101 32 4 [bf 35 35 .ro 0, bf 34 34 .ro 0, bf 33 33 .ro 0, bf 32 32 .ro 0, bf 31 30 .ro 0, bf 29 29 .ro 0, bf 28 17 .ro 0, bf 16 9 .ro 0, bf 8 5 .ro 0, bf 4 1 .ro 0, bf 0 0 .ro 0]
  , regL "DIG_LO" 0x102 32 4 [bf 35 0 .ro 0]
  , regH "DIG_HI" 0x103 32 4 [bf 35 0 .ro 0]
  , regN "ERR" 0x180 32 1 [bf 35 24 .ro 0, bf 23 12 .ro 0, bf 11 0 .ro 0]
  , regN "DSET" 0x200 64 1 [bf 31 24 .rw 0, bf 23 0 .rw 0] ]

/-- PLAN page, offsets 0x010 and up. -/
def planRegs : List RegDef :=
  [ reg1 "LOAD" 0x010 [bf 7 0 .ro 0]
  , tele (reg1 "USE" 0x011 [bf 19 0 .ro 0])
  , reg1 "PEAK" 0x012 [bf 35 35 .wo 0, bf 19 0 .ro 0]
  , reg1 "TICKS" 0x013 [bf 35 0 .ro 0]
  , reg1 "SAT" 0x014 [bf 15 0 .ro 0]
  , reg1 "UE" 0x015 [bf 27 16 .ro 0, bf 11 0 .ro 0]
  , reg1 "CKCFG" 0x018 [bf 35 35 .wo 0, bf 10 0 .rw 64]
  , reg1 "CKTICK" 0x019 [bf 35 0 .ro 0]
  , reg1 "CKSLOT" 0x01A [bf 35 35 .ro 0, bf 34 34 .ro 0, bf 13 0 .ro 0]
  , reg1 "LOG" 0x01B [bf 35 22 .ro 0, bf 21 0 .ro 0] ]

/-- TWIN page, offsets 0x010 and up. -/
def twinRegs : List RegDef :=
  [ reg1 "MODE" 0x010 [bf 1 0 .rwk 1]
  , reg1 "CKCFG" 0x011 [bf 35 35 .wo 0, bf 10 0 .rw 64]
  , reg1 "CKTICK" 0x012 [bf 35 0 .ro 0]
  , reg1 "CKSLOT" 0x013 [bf 35 35 .ro 0, bf 34 34 .ro 0, bf 13 0 .ro 0]
  , reg1 "LOG" 0x014 [bf 35 22 .ro 0, bf 21 0 .ro 0]
  , reg1 "RBOUND" 0x015 [bf 13 8 .ro 32, bf 7 0 .ro 4]
  , reg1 "DISAG" 0x016 [bf 35 32 .ro 0, bf 30 24 .ro 0, bf 17 16 .ro 0, bf 15 8 .ro 0]
  , reg1 "DTICK" 0x017 [bf 35 0 .ro 0]
  , reg1 "DCNT" 0x018 [bf 35 24 .ro 0, bf 23 12 .ro 0, bf 11 0 .ro 0]
  , reg1 "RLAST" 0x019 [bf 35 32 .ro 0, bf 7 0 .ro 0]
  , regL "SIGA_LO" 0x01A 1 1 [bf 35 0 .ro 0]
  , regH "SIGA_HI" 0x01B 1 1 [bf 27 0 .ro 0]
  , regL "SIGB_LO" 0x01C 1 1 [bf 35 0 .ro 0]
  , regH "SIGB_HI" 0x01D 1 1 [bf 27 0 .ro 0]
  , reg1 "STEST" 0x020 [bf 0 0 .rwk 0]
  , reg1 "STRES" 0x021 [bf 16 16 .ro 0, bf 15 0 .ro 0]
  , reg1 "MSTAT" 0x022 [bf 15 8 .ro 0, bf 2 0 .ro 0] ]

/-- BLOT page, offsets 0x010 and up. -/
def blotRegs : List RegDef :=
  [ reg1 "CTRL" 0x010 [bf 16 16 .rw 0, bf 12 8 .rw 1, bf 1 1 .rw 0, bf 0 0 .rw 0]
  , reg1 "DIV" 0x011 [bf 15 0 .rw 0]
  , reg1 "TMASK" 0x012 [bf 31 0 .rw 0]
  , reg1 "RD" 0x013 [bf 22 0 .rw 0]
  , reg1 "WR" 0x014 [bf 22 0 .ro 0]
  , reg1 "FILL" 0x015 [bf 22 0 .ro 0]
  , reg1 "SIZE" 0x016 [bf 22 0 .ro 0]
  , reg1 "LEVEL" 0x017 [bf 22 0 .rw 1]
  , reg1 "LOSTCNT" 0x018 [bf 23 0 .ro 0]
  , reg1 "WRAPCNT" 0x019 [bf 23 0 .ro 0]
  , regN "CHAN" 0x020 16 1 [bf 23 0 .rw 0] ]

/-- SCRIBE page, offsets 0x010 and up. -/
def scribeRegs : List RegDef :=
  [ reg1 "MSRC" 0x010 [bf 34 30 .rw 0, bf 28 28 .rw 0, bf 27 24 .rw 4, bf 23 20 .rw 5, bf 18 12 .rw 0, bf 11 8 .rw 0, bf 2 0 .rw 0]
  , reg1 "MRATIO" 0x011 [bf 35 0 .rw 0x1000000]
  , reg1 "HVEL" 0x012 [bf 35 0 .rwb 0]
  , reg1 "MSET" 0x013 [bf 35 0 .rwbk 0]
  , tele (reg1 "MPOS" 0x014 [bf 35 0 .ro 0])
  , tele (reg1 "MVEL" 0x015 [bf 35 0 .ro 0])
  , tele (reg1 "HWM" 0x016 [bf 35 0 .ro 0])
  , tele (reg1 "LDMAX" 0x017 [bf 35 0 .ro 0])
  , reg1 "LOOKPAD" 0x018 [bf 23 0 .rw 64]
  , reg1 "MISSWIN" 0x019 [bf 23 0 .rw 256]
  , reg1 "REVHYST" 0x01A [bf 23 0 .rw 16]
  , reg1 "GEN" 0x01B [bf 3 0 .rw 0]
  , reg1 "RD" 0x020 [bf 21 0 .rw 0]
  , reg1 "WR" 0x021 [bf 21 0 .rw 0]
  , reg1 "FILL" 0x022 [bf 21 0 .ro 0]
  , reg1 "LOWMARK" 0x023 [bf 21 0 .rw 0]
  , reg1 "SIZE" 0x024 [bf 21 0 .ro 0]
  , tele (reg1 "PEND" 0x025 [bf 9 0 .ro 0])
  , reg1 "LASTFIRE" 0x026 [bf 21 0 .ro 0]
  , reg1 "CNT_FIRED" 0x030 [bf 35 0 .ro 0]
  , regN "CNT_x" 0x031 11 1 [bf 23 0 .ro 0]
  , regN "AXCFG" 0x100 128 1 [bf 27 27 .rw 0, bf 25 24 .rw 0, bf 23 0 .rw 0]
  , tele (regN "AXSTAT" 0x180 128 1 [bf 35 22 .ro 0, bf 5 4 .ro 0, bf 3 3 .ro 0, bf 2 0 .ro 0]) ]

/-- STROKE page, offsets 0x010 and up. -/
def strokeRegs : List RegDef :=
  [ reg1 "LIB" 0x010 [bf 30 16 .ro 0, bf 13 0 .ro 256]
  , reg1 "CHECK" 0x011 [bf 35 35 .wo 0, bf 30 16 .wo 0, bf 13 0 .wo 0]
  , reg1 "CHKSTAT" 0x012 [bf 35 35 .ro 0, bf 33 33 .ro 0, bf 29 16 .ro 0, bf 3 0 .ro 0]
  , reg1 "FAULT" 0x013 [bf 29 16 .ro 0, bf 14 8 .ro 0, bf 5 4 .ro 0, bf 3 0 .ro 0]
  , reg1 "FAULTCNT" 0x014 [bf 23 0 .ro 0] ]

/-- QDEC page, offsets 0x010 and up. -/
def qdecRegs : List RegDef :=
  [ regN "CFG" 0x010 16 1 [bf 10 8 .rw 0, bf 2 2 .rw 0, bf 1 1 .rw 0, bf 0 0 .rw 0]
  , regN "ICFG" 0x020 16 1 [bf 35 35 .rw 0, bf 34 34 .rw 0, bf 33 32 .rw 0, bf 31 31 .rw 0, bf 30 30 .rw 0, bf 29 29 .rw 0, bf 28 26 .rw 0, bf 23 0 .rw 0]
  , tele (regN "CNT" 0x030 16 1 [bf 35 0 .ro 0])
  , tele (regN "RAW" 0x040 16 1 [bf 35 0 .ro 0])
  , regN "CNTSET" 0x050 16 1 [bf 35 0 .rwb 0]
  , regN "IDXCNT" 0x060 16 1 [bf 35 0 .ro 0]
  , regN "ERR" 0x070 16 1 [bf 35 24 .ro 0, bf 23 0 .ro 0]
  , regL "IDXT_LO" 0x080 16 2 [bf 35 0 .ro 0]
  , regH "IDXT_HI" 0x081 16 2 [bf 35 0 .ro 0] ]

/-- STEPIN page, offsets 0x010 and up. -/
def stepinRegs : List RegDef :=
  [ regN "CFG" 0x010 16 1 [bf 10 8 .rw 0, bf 2 2 .rw 0, bf 1 1 .rw 0, bf 0 0 .rw 0]
  , tele (regN "CNT" 0x020 16 1 [bf 35 0 .ro 0])
  , tele (regN "RATE" 0x030 16 1 [bf 35 0 .ro 0]) ]

/-- CAPT page, offsets 0x010 and up. -/
def captRegs : List RegDef :=
  [ regN "CFG" 0x010 32 1 [bf 10 8 .rw 0, bf 5 4 .rw 0]
  , regN "UNIT" 0x040 16 1 [bf 35 35 .rw 0, bf 28 24 .rw 0, bf 21 20 .rw 0, bf 12 8 .rw 0, bf 5 4 .rw 0]
  , regN "FIFO" 0x060 4 1 [bf 35 0 .ro 0]
  , reg1 "FSTAT" 0x064 [bf 9 9 .ro 0, bf 8 0 .ro 0]
  , reg1 "FLEVEL" 0x065 [bf 8 0 .rw 1]
  , reg1 "LEVEL" 0x066 [bf 31 0 .ro 0]
  , reg1 "ORPHCNT" 0x068 [bf 23 0 .ro 0]
  , reg1 "ORPHSCNT" 0x069 [bf 23 0 .ro 0]
  , reg1 "COINCNT" 0x06A [bf 23 0 .ro 0]
  , reg1 "LOSTCNT" 0x06B [bf 23 0 .ro 0] ]

/-- RANKS page, offsets 0x010 and up. -/
def ranksRegs : List RegDef :=
  [ tele (regN "STAT" 0x010 32 1 [bf 35 33 .ro 0, bf 23 16 .ro 0, bf 6 0 .ro 0])
  , reg1 "RDONE" 0x050 [bf 31 0 .w1c 0]
  , reg1 "RBROKEN" 0x051 [bf 31 0 .w1c 0]
  , regN "MEMBER" 0x100 128 1 [bf 31 0 .ro 0] ]

/-- GROVE page, offsets 0x010 and up. -/
def groveRegs : List RegDef :=
  [ reg1 "TPER" 0x010 [bf 16 0 .ro 0x4e20]
  , reg1 "ZOPEN" 0x011 [bf 35 0 .ro 0] ]

/-- CARRIER page, offsets 0x010 and up. -/
def carrierRegs : List RegDef :=
  [ reg1 "PERIOD" 0x010 [bf 17 0 .rwb 0x3e80]
  , reg1 "CTRL" 0x011 [bf 0 0 .rwb 1]
  , reg1 "TONMAX" 0x012 [bf 17 0 .rwb 0x3ffff]
  , reg1 "BLANK" 0x013 [bf 11 0 .rwb 0]
  , reg1 "FILT" 0x014 [bf 7 0 .rwb 16]
  , reg1 "CNT" 0x015 [bf 17 0 .ro 0]
  , regN "EVCMP" 0x018 4 1 [bf 17 0 .rw 0x3ffff]
  , regN "EVPRE" 0x020 6 1 [bf 15 8 .ro 0, bf 7 0 .rw 0]
  , regN "OFF" 0x040 32 1 [bf 17 0 .rwb 0] ]

/-- FIREBRK page, offsets 0x010 and up. -/
def firebrkRegs : List RegDef :=
  [ regN "SAFE" 0x010 4 1 [bf 31 0 .rwk 0]
  , reg1 "SRCEN" 0x014 [bf 4 4 .rwk 0, bf 1 1 .rwk 1]
  , reg1 "CAUSE" 0x015 [bf 35 32 .ro 0, bf 11 0 .ro 1]
  , reg1 "SAFEDT" 0x016 [bf 1 0 .rwk 0]
  , reg1 "RAMPMAX" 0x017 [bf 15 0 .rw 4000]
  , reg1 "DBG" 0x018 [bf 27 16 .rwk 0, bf 4 4 .rwk 0, bf 0 0 .rwk 0]
  , reg1 "CLEAR" 0x019 [bf 0 0 .rwk 0]
  , regL "TTIME_LO" 0x01A 1 1 [bf 35 0 .ro 0]
  , regH "TTIME_HI" 0x01B 1 1 [bf 35 0 .ro 0]
  , reg1 "TRIPCNT" 0x01C [bf 23 0 .ro 0]
  , regN "RDEC" 0x020 16 1 [bf 35 0 .rw 0x40000000] ]

/-- NIB page, offsets 0x010 and up. -/
def nibRegs : List RegDef :=
  [ reg1 "DT" 0x010 [bf 32 22 .rwbk 2047, bf 20 10 .rwbk 400, bf 7 0 .rwbk 40]
  , reg1 "CFG" 0x011 [bf 18 16 .rwb 3, bf 12 12 .rwb 1, bf 11 0 .rwb 64]
  , reg1 "SWTHR" 0x012 [bf 15 8 .rwb 192, bf 7 0 .rwb 64]
  , reg1 "RELEARN" 0x013 [bf 0 0 .wo 0]
  , regN "SHOOT" 0x014 2 1 [bf 31 0 .w1c 0]
  , regN "LEGFLT" 0x016 2 1 [bf 31 0 .ro 0]
  , regN "STUCK" 0x018 2 1 [bf 31 0 .w1c 0]
  , reg1 "SHOOTCNT" 0x01A [bf 23 0 .ro 0]
  , tele (regN "DLY" 0x100 256 1 [bf 35 35 .ro 0, bf 34 33 .ro 0, bf 32 32 .ro 0, bf 14 0 .ro 0])
  , tele (regN "LEG" 0x200 64 1 [bf 35 34 .ro 0, bf 33 32 .ro 0, bf 31 30 .ro 0, bf 26 16 .ro 0, bf 3 0 .ro 0]) ]

/-- OVRD page, offsets 0x010 and up. -/
def ovrdRegs : List RegDef :=
  [ reg1 "MODE" 0x010 [bf 1 0 .rwk 0]
  , reg1 "PIN" 0x011 [bf 6 5 .rw 0, bf 4 0 .rw 0]
  , regN "MCFG" 0x020 16 1 [bf 6 6 .rwb 0, bf 5 5 .rwb 0, bf 4 4 .rwb 0, bf 2 0 .rwb 0]
  , regN "PTR" 0x030 16 1 [bf 2 0 .rw 0]
  , regN "MASK" 0x040 32 1 [bf 31 0 .rwb 0]
  , regN "SWAP" 0x060 16 1 [bf 15 8 .rwbk 0, bf 2 2 .rwbk 0, bf 1 1 .rwbk 0, bf 0 0 .rwbk 0] ]

/-- CONV page, offsets 0x010 and up. -/
def convRegs : List RegDef :=
  [ reg1 "CTRL" 0x010 [bf 35 35 .wo 0, bf 16 16 .rw 0, bf 8 8 .rw 1, bf 4 4 .rw 0, bf 3 0 .rw 0]
  , reg1 "TRIG" 0x011 [bf 23 16 .rw 0, bf 12 8 .rw 0, bf 2 0 .rw 0]
  , reg1 "WIN" 0x012 [bf 16 16 .rw 0, bf 8 8 .rw 0, bf 3 0 .rw 0]
  , reg1 "WLO" 0x013 [bf 23 0 .rw 0]
  , reg1 "WHI" 0x014 [bf 23 0 .rw 0]
  , reg1 "SEQCNT" 0x015 [bf 35 0 .ro 0]
  , reg1 "PCNT" 0x016 [bf 23 0 .ro 0]
  , reg1 "MCNT" 0x017 [bf 23 0 .ro 0]
  , reg1 "RDRCNT" 0x018 [bf 23 0 .ro 0]
  , reg1 "TOVRCNT" 0x019 [bf 23 0 .ro 0]
  , reg1 "URES" 0x01A [bf 35 0 .ro 0]
  , reg1 "UINFO" 0x01B [bf 12 8 .ro 0, bf 4 0 .ro 0]
  , reg1 "UCNT" 0x01C [bf 35 0 .ro 0]
  , regN "ENT" 0x020 16 1 [bf 31 31 .rw 0, bf 30 28 .rw 0, bf 26 24 .rw 0, bf 23 16 .rw 0, bf 8 8 .rw 0, bf 6 0 .rw 0]
  , regN "RES" 0x030 16 1 [bf 35 0 .ro 0] ]

/-- CONVCAL page, offsets 0x010 and up. -/
def convcalRegs : List RegDef :=
  [ reg1 "CMD" 0x010 [bf 1 1 .rwk 0, bf 0 0 .rwk 0]
  , reg1 "STAT" 0x011 [bf 23 16 .ro 0, bf 11 8 .ro 0, bf 3 0 .ro 0]
  , reg1 "CALTEMP" 0x012 [bf 15 0 .rw 0]
  , reg1 "TWIN" 0x013 [bf 5 0 .rw 10]
  , reg1 "TNOW" 0x014 [bf 35 35 .ro 0, bf 15 0 .ro 0]
  , reg1 "SUM" 0x015 [bf 35 0 .ro 0]
  , reg1 "CALSUM" 0x016 [bf 35 0 .rw 0]
  , regN "CFACT" 0x020 5 1 [bf 31 16 .rw 0, bf 15 0 .rw 0]
  , regN "CFACT" 0x028 5 1 [bf 31 16 .rw 0, bf 15 0 .rw 0]
  , regN "CFACT" 0x030 5 1 [bf 31 16 .rw 0, bf 15 0 .rw 0]
  , regN "CFACT" 0x038 5 1 [bf 31 16 .rw 0, bf 15 0 .rw 0]
  , regN "TRIM" 0x040 32 1 [bf 31 24 .rw 0, bf 23 16 .rw 0, bf 15 8 .rw 0, bf 7 0 .rw 0]
  , regN "SWTRIM" 0x080 64 1 [bf 15 8 .rw 0, bf 7 0 .rw 0] ]

/-- WAVE page, offsets 0x010 and up. -/
def waveRegs : List RegDef :=
  [ reg1 "CTRL" 0x010 [bf 0 0 .rwb 0]
  , regN "TAB" 0x100 513 1 [bf 33 18 .rw 0, bf 15 0 .rw 0] ]

/-- AXIS page, offsets 0x010 and up. -/
def axisRegs : List RegDef :=
  [ reg1 "MODE" 0x010 [bf 15 8 .rwb 0, bf 2 0 .rwb 0]
  , reg1 "XTGT" 0x011 [bf 35 0 .rwb 0]
  , reg1 "VTGT" 0x012 [bf 35 0 .rwb 0]
  , reg1 "VMAX" 0x013 [bf 34 0 .rwb 0]
  , reg1 "AMAX" 0x014 [bf 35 0 .rwb 0x1000000]
  , reg1 "DMAX" 0x015 [bf 35 0 .rwb 0x1000000]
  , reg1 "VSTART" 0x016 [bf 34 0 .rwb 0]
  , reg1 "VSTOP" 0x017 [bf 34 0 .rwb 0]
  , reg1 "XSET" 0x018 [bf 35 0 .rwbk 0]
  , reg1 "STEPCFG" 0x019 [bf 20 20 .rwb 0, bf 19 16 .rwb 0, bf 15 0 .rwb 64]
  , reg1 "GEARCFG" 0x01A [bf 6 0 .rwb 0]
  , reg1 "GEARRATIO" 0x01B [bf 35 0 .rwb 0x1000000]
  , reg1 "RANKSEL" 0x01C [bf 5 5 .rwb 0, bf 4 0 .rwb 0]
  , tele (regL "XFRAC" 0x020 1 1 [bf 31 0 .ro 0])
  , tele (regH "XACT" 0x021 1 1 [bf 35 0 .ro 0])
  , tele (reg1 "VACT" 0x022 [bf 35 0 .ro 0])
  , tele (reg1 "LAG" 0x023 [bf 35 0 .ro 0])
  , reg1 "QCTRL" 0x028 [bf 1 1 .wo 0, bf 0 0 .wo 0]
  , reg1 "QPTR" 0x029 [bf 24 16 .rw 0, bf 8 0 .ro 0]
  , tele (reg1 "QTAG" 0x02A [bf 35 0 .ro 0]) ]
  ++ [ reg1 "QSTAT" 0x02B [bf 35 24 .ro 0, bf 13 11 .ro 0, bf 10 10 .ro 0, bf 8 0 .ro 0]
  , reg1 "IRUN" 0x060 [bf 11 0 .rwb 0]
  , reg1 "IHOLD" 0x061 [bf 11 0 .rwb 0]
  , reg1 "STILL" 0x062 [bf 31 16 .rwb 2000, bf 11 0 .rwb 8]
  , reg1 "ECFG" 0x063 [bf 12 12 .rwb 0, bf 11 0 .rwb 0]
  , reg1 "BAL" 0x064 [bf 35 28 .rwb 0, bf 25 16 .rwb 512, bf 9 0 .rwb 512]
  , reg1 "DECAY" 0x065 [bf 27 16 .rwb 100, bf 15 8 .rwb 8, bf 2 0 .rwb 0]
  , reg1 "FAST" 0x066 [bf 35 24 .rwb 800, bf 23 12 .rwb 0, bf 11 0 .rwb 200]
  , reg1 "ZCW0" 0x067 [bf 35 35 .rwb 0, bf 34 22 .rwb 0x1f40, bf 21 12 .rwb 200, bf 11 0 .rwb 41]
  , reg1 "ZCW1" 0x068 [bf 34 0 .rwb 0x100000]
  , reg1 "ZCW2" 0x069 [bf 21 20 .rwb 0, bf 18 16 .rwb 0, bf 11 8 .rwb 1, bf 7 0 .rwb 40]
  , tele (reg1 "ISETA" 0x070 [bf 12 12 .ro 0, bf 11 0 .ro 0])
  , tele (reg1 "ISETB" 0x071 [bf 12 12 .ro 0, bf 11 0 .ro 0])
  , tele (reg1 "AMP" 0x072 [bf 13 12 .ro 0, bf 11 0 .ro 0])
  , tele (reg1 "FASTA" 0x073 [bf 11 0 .ro 0])
  , tele (reg1 "FASTB" 0x074 [bf 11 0 .ro 0])
  , tele (reg1 "THETA" 0x075 [bf 11 0 .ro 0])
  , reg1 "ZSTAT" 0x076 [bf 35 24 .ro 0, bf 23 12 .ro 0, bf 11 0 .ro 0]
  , reg1 "OBSCFG" 0x0A0 [bf 35 35 .rwb 0, bf 34 34 .rwb 0]
  , reg1 "KE" 0x0A1 [bf 35 0 .rwb 0] ]
  ++ [ reg1 "VBLIND" 0x0A2 [bf 34 0 .rwb 0x400000]
  , reg1 "STALL" 0x0A3 [bf 33 32 .rwb 0, bf 31 24 .rwb 4, bf 23 20 .rwb 2, bf 19 10 .rwb 128, bf 9 0 .rwb 150]
  , reg1 "VSTALL" 0x0A4 [bf 34 0 .rwb 0]
  , reg1 "RETRY" 0x0A5 [bf 19 16 .rwb 3, bf 15 0 .rwb 200]
  , reg1 "VSLOW" 0x0A6 [bf 34 0 .rwb 0x200000]
  , reg1 "ECON" 0x0A7 [bf 35 35 .rwb 0, bf 31 24 .rwb 32, bf 19 10 .rwb 250, bf 9 0 .rwb 400]
  , reg1 "ECONLIM" 0x0A8 [bf 11 0 .rwb 1024]
  , reg1 "OBSCAL" 0x0A9 [bf 35 35 .wo 0, bf 34 34 .wo 0, bf 25 16 .wo 0, bf 3 0 .wo 0]
  , reg1 "TRUSTSET" 0x0AA [bf 0 0 .rwk 0]
  , tele (reg1 "MARGIN" 0x0B0 [bf 35 35 .ro 1, bf 34 32 .ro 1, bf 25 16 .ro 0, bf 9 0 .ro 1023])
  , tele (reg1 "LANGLE" 0x0B1 [bf 10 0 .ro 0])
  , tele (reg1 "ESC" 0x0B2 [bf 11 0 .ro 4095])
  , tele (reg1 "SAMPLE" 0x0B3 [bf 35 35 .ro 0, bf 34 34 .ro 0, bf 27 0 .ro 0])
  , tele (reg1 "EEXP" 0x0B4 [bf 35 0 .ro 0])
  , reg1 "OBSCNT" 0x0B5 [bf 35 0 .ro 0]
  , reg1 "OBSERR" 0x0B6 [bf 35 24 .ro 0, bf 23 12 .ro 0, bf 11 0 .ro 0]
  , reg1 "STALLINFO" 0x0B7 [bf 31 28 .ro 5, bf 25 25 .ro 0, bf 24 24 .ro 0, bf 23 0 .ro 0]
  , reg1 "CALSTAT" 0x0B8 [bf 35 33 .ro 0, bf 32 30 .ro 0, bf 12 0 .ro 0] ]

/-- The PAGE_CTRL fields of each page type, from its chapter. -/
def ctrlFields : PageKind → List RegField
  | .canopy => [bf 0 0 .rw 0]
  | .supv => []
  | .time => []
  | .hostp => [bf 0 0 .wo 0, bf 1 1 .wo 0]
  | .perip => []
  | .xmem => []
  | .sxlink => [bf 0 0 .rw 0, bf 1 1 .rw 0, bf 2 2 .wo 0]
  | .sxsched => []
  | .sxnode => []
  | .plan => []
  | .twin => [bf 0 0 .wo 0]
  | .blot => [bf 0 0 .wo 0]
  | .scribe => [bf 0 0 .rw 0, bf 1 1 .wo 0]
  | .stroke => []
  | .qdec => [bf 0 0 .wo 0]
  | .stepin => []
  | .capt => [bf 0 0 .wo 0, bf 1 1 .wo 0]
  | .ranks => []
  | .grove => [bf 0 0 .rwk 0, bf 1 1 .wo 0]
  | .carrier => []
  | .firebrk => [bf 0 0 .rwk 0, bf 1 1 .wo 0, bf 2 2 .wo 0]
  | .nib => [bf 0 0 .wo 0]
  | .ovrd => []
  | .conv => [bf 0 0 .wo 0]
  | .convcal => []
  | .wave => []
  | .axis => [bf 0 0 .rw 0, bf 8 8 .rw 0, bf 9 9 .wo 0, bf 16 16 .wo 0]

/-- The PAGE_EVT fields of each page type, from its chapter. -/
def evtFields : PageKind → List RegField
  | .canopy => [bf 0 0 .w1c 0, bf 1 1 .w1c 0, bf 2 2 .w1c 0, bf 3 3 .w1c 0, bf 4 4 .w1c 0, bf 5 5 .w1c 0]
  | .supv => [bf 0 0 .w1c 0, bf 1 1 .w1c 0, bf 2 2 .w1c 0, bf 3 3 .w1c 0, bf 4 4 .w1c 0, bf 5 5 .w1c 0, bf 6 6 .w1c 0, bf 7 7 .w1c 0, bf 8 8 .w1c 0]
  | .time => [bf 0 0 .w1c 0, bf 1 1 .w1c 0, bf 2 2 .w1c 0, bf 3 3 .w1c 0, bf 4 4 .w1c 0, bf 5 5 .w1c 0, bf 6 6 .w1c 0, bf 7 7 .w1c 0, bf 8 8 .w1c 0]
  | .hostp => [bf 0 0 .w1c 0, bf 1 1 .w1c 0, bf 2 2 .w1c 0, bf 3 3 .w1c 0, bf 4 4 .w1c 0, bf 5 5 .w1c 0]
  | .perip => [bf 0 0 .w1c 0, bf 1 1 .w1c 0, bf 2 2 .w1c 0, bf 3 3 .w1c 0]
  | .xmem => [bf 0 0 .w1c 0, bf 1 1 .w1c 0, bf 2 2 .w1c 0, bf 3 3 .w1c 0, bf 4 4 .w1c 0, bf 5 5 .w1c 0]
  | .sxlink => [bf 0 0 .w1c 0, bf 1 1 .w1c 0, bf 2 2 .w1c 0, bf 3 3 .w1c 0, bf 4 4 .w1c 0, bf 5 5 .w1c 0, bf 6 6 .w1c 0, bf 7 7 .w1c 0, bf 8 8 .w1c 0, bf 9 9 .w1c 0, bf 10 10 .w1c 0, bf 11 11 .w1c 0, bf 12 12 .w1c 0, bf 13 13 .w1c 0]
  | .sxsched => [bf 0 0 .w1c 0, bf 1 1 .w1c 0, bf 2 2 .w1c 0]
  | .sxnode => [bf 0 0 .w1c 0, bf 1 1 .w1c 0, bf 2 2 .w1c 0, bf 3 3 .w1c 0]
  | .plan => [bf 0 0 .w1c 0, bf 1 1 .w1c 0, bf 2 2 .w1c 0, bf 3 3 .w1c 0]
  | .twin => [bf 0 0 .w1c 0, bf 1 1 .w1c 0, bf 2 2 .w1c 0, bf 3 3 .w1c 0, bf 4 4 .w1c 0, bf 5 5 .w1c 0, bf 6 6 .w1c 0, bf 7 7 .w1c 0]
  | .blot => [bf 0 0 .w1c 0, bf 1 1 .w1c 0, bf 2 2 .w1c 0]
  | .scribe => [bf 0 0 .w1c 0, bf 1 1 .w1c 0, bf 2 2 .w1c 0, bf 3 3 .w1c 0, bf 4 4 .w1c 0, bf 5 5 .w1c 0, bf 6 6 .w1c 0, bf 7 7 .w1c 0, bf 8 8 .w1c 0, bf 9 9 .w1c 0, bf 10 10 .w1c 0, bf 11 11 .w1c 0]
  | .stroke => [bf 0 0 .w1c 0, bf 1 1 .w1c 0]
  | .qdec => [bf 15 0 .w1c 0, bf 31 16 .w1c 0, bf 32 32 .w1c 0]
  | .stepin => [bf 15 0 .w1c 0]
  | .capt => [bf 0 0 .w1c 0, bf 1 1 .w1c 0, bf 2 2 .w1c 0, bf 3 3 .w1c 0, bf 4 4 .w1c 0]
  | .ranks => [bf 0 0 .w1c 0, bf 1 1 .w1c 0]
  | .grove => [bf 0 0 .w1c 0]
  | .carrier => [bf 5 0 .w1c 0]
  | .firebrk => [bf 0 0 .w1c 0, bf 1 1 .w1c 0, bf 2 2 .w1c 0, bf 3 3 .w1c 0, bf 4 4 .w1c 0]
  | .nib => [bf 0 0 .w1c 0, bf 1 1 .w1c 0, bf 2 2 .w1c 0]
  | .ovrd => []
  | .conv => [bf 0 0 .w1c 0, bf 1 1 .w1c 0, bf 2 2 .w1c 0, bf 3 3 .w1c 0, bf 4 4 .w1c 0, bf 5 5 .w1c 0]
  | .convcal => [bf 0 0 .w1c 0, bf 1 1 .w1c 0, bf 2 2 .w1c 0]
  | .wave => []
  | .axis => [bf 0 0 .w1c 0, bf 1 1 .w1c 0, bf 2 2 .w1c 0, bf 3 3 .w1c 0, bf 4 4 .w1c 0, bf 5 5 .w1c 0, bf 6 6 .w1c 0, bf 7 7 .w1c 0, bf 8 8 .w1c 0, bf 9 9 .w1c 0, bf 10 10 .w1c 0, bf 11 11 .w1c 0, bf 12 12 .w1c 0, bf 16 16 .w1c 0, bf 17 17 .w1c 0, bf 18 18 .w1c 0, bf 19 19 .w1c 0, bf 20 20 .w1c 0]

/-- The registers of a page type above the common layout. -/
def pageRegs : PageKind → List RegDef
  | .canopy => canopyRegs
  | .supv => supvRegs
  | .time => timeRegs
  | .hostp => hostpRegs
  | .perip => peripRegs
  | .xmem => xmemRegs
  | .sxlink => sxlinkRegs
  | .sxsched => sxschedRegs
  | .sxnode => sxnodeRegs
  | .plan => planRegs
  | .twin => twinRegs
  | .blot => blotRegs
  | .scribe => scribeRegs
  | .stroke => strokeRegs
  | .qdec => qdecRegs
  | .stepin => stepinRegs
  | .capt => captRegs
  | .ranks => ranksRegs
  | .grove => groveRegs
  | .carrier => carrierRegs
  | .firebrk => firebrkRegs
  | .nib => nibRegs
  | .ovrd => ovrdRegs
  | .conv => convRegs
  | .convcal => convcalRegs
  | .wave => waveRegs
  | .axis => axisRegs

end Sys2Proof.Machine

/-! Register offsets by name, `Reg.<page type>.<register>`; an array is named by its first element. -/
namespace Sys2Proof.Machine.Reg

abbrev canopy.DEVID : Nat := 0x010
abbrev canopy.MEMSIZE : Nat := 0x011
abbrev canopy.UPDATE : Nat := 0x012
abbrev canopy.UPD_PEND : Nat := 0x013
abbrev canopy.UPDIN_CFG : Nat := 0x014
abbrev canopy.UPDIN_CNT : Nat := 0x015
abbrev canopy.PART : Nat := 0x018
abbrev canopy.PART_STAT : Nat := 0x01E
abbrev canopy.IRQMAP : Nat := 0x020
abbrev canopy.IRQPEND : Nat := 0x024
abbrev canopy.GIRQ : Nat := 0x028
abbrev canopy.FENCE : Nat := 0x030
abbrev canopy.UNMAP : Nat := 0x031
abbrev canopy.ECC : Nat := 0x032
abbrev canopy.ECC_ADDR : Nat := 0x033
abbrev supv.RCAUSE : Nat := 0x010
abbrev supv.PSCTL : Nat := 0x011
abbrev supv.WAKECFG : Nat := 0x012
abbrev supv.WAKESRC : Nat := 0x013
abbrev supv.LEVELS : Nat := 0x014
abbrev supv.SUPPLY0 : Nat := 0x015
abbrev supv.SUPPLY1 : Nat := 0x016
abbrev supv.TEMP0 : Nat := 0x017
abbrev supv.TEMP1 : Nat := 0x018
abbrev supv.SHEDCNT : Nat := 0x019
abbrev supv.MSKIP : Nat := 0x01A
abbrev supv.SCRUB : Nat := 0x01B
abbrev supv.SCRUBADDR : Nat := 0x01C
abbrev supv.RESET : Nat := 0x01D
abbrev supv.SLEPT : Nat := 0x01E
abbrev supv.MBTHR : Nat := 0x020
abbrev supv.MBOV : Nat := 0x028
abbrev supv.MBCFG : Nat := 0x030
abbrev supv.OVDLIM : Nat := 0x038
abbrev supv.MBSTAT : Nat := 0x040
abbrev time.NOW_LO : Nat := 0x010
abbrev time.NOW_HI : Nat := 0x011
abbrev time.EPOCH : Nat := 0x012
abbrev time.TICK : Nat := 0x013
abbrev time.TPER : Nat := 0x014
abbrev time.TGRID_LO : Nat := 0x015
abbrev time.TGRID_HI : Nat := 0x016
abbrev time.SRCCFG : Nat := 0x018
abbrev time.SLEW : Nat := 0x019
abbrev time.PPSCFG : Nat := 0x01A
abbrev time.SRCSTAT : Nat := 0x01B
abbrev time.OFFSET : Nat := 0x01C
abbrev time.RATE : Nat := 0x01D
abbrev time.GOFS : Nat := 0x01E
abbrev time.STEP_LO : Nat := 0x020
abbrev time.STEP_HI : Nat := 0x021
abbrev time.SET_LO : Nat := 0x022
abbrev time.SET_HI : Nat := 0x023
abbrev time.PLL : Nat := 0x024
abbrev time.TS_LO : Nat := 0x030
abbrev time.TS_HI : Nat := 0x031
abbrev time.TS_CTL : Nat := 0x032
abbrev time.TS_MASK : Nat := 0x033
abbrev hostp.CFG : Nat := 0x010
abbrev hostp.WDOG : Nat := 0x011
abbrev hostp.WDKICK : Nat := 0x012
abbrev hostp.WDSTAT : Nat := 0x013
abbrev hostp.FRAMES : Nat := 0x014
abbrev hostp.ERRA : Nat := 0x015
abbrev hostp.ERRB : Nat := 0x016
abbrev hostp.ERRC : Nat := 0x017
abbrev hostp.LASTHDR : Nat := 0x018
abbrev hostp.RSTCNT : Nat := 0x019
abbrev perip.CFG : Nat := 0x010
abbrev perip.QPTR : Nat := 0x011
abbrev perip.CONTMAX : Nat := 0x012
abbrev perip.ERRCNT : Nat := 0x013
abbrev perip.SELCFG : Nat := 0x018
abbrev perip.ALIVE : Nat := 0x020
abbrev xmem.FLASH : Nat := 0x010
abbrev xmem.CFG : Nat := 0x011
abbrev xmem.BOOT : Nat := 0x012
abbrev xmem.BOOTFAIL : Nat := 0x013
abbrev xmem.LAYOUT0 : Nat := 0x014
abbrev xmem.LAYOUT1 : Nat := 0x015
abbrev xmem.LAYOUT2 : Nat := 0x016
abbrev xmem.JCFG : Nat := 0x018
abbrev xmem.JSTAT : Nat := 0x019
abbrev xmem.JSEQ : Nat := 0x01A
abbrev xmem.JREST : Nat := 0x01B
abbrev xmem.JBAD : Nat := 0x01C
abbrev xmem.XCMD : Nat := 0x020
abbrev xmem.XSECT : Nat := 0x021
abbrev xmem.XBUF : Nat := 0x022
abbrev xmem.XSTAT : Nat := 0x023
abbrev xmem.CTL : Nat := 0x024
abbrev sxlink.CFG : Nat := 0x010
abbrev sxlink.VERSION : Nat := 0x011
abbrev sxlink.SLEEP : Nat := 0x012
abbrev sxlink.RACC : Nat := 0x013
abbrev sxlink.CYCLE : Nat := 0x014
abbrev sxlink.TERR : Nat := 0x015
abbrev sxlink.DELAY : Nat := 0x016
abbrev sxlink.THETA : Nat := 0x018
abbrev sxlink.PORT : Nat := 0x019
abbrev sxlink.LINKCNT : Nat := 0x01B
abbrev sxlink.RACCCNT : Nat := 0x01C
abbrev sxlink.RQ_CTL : Nat := 0x020
abbrev sxlink.RQ_ADDR : Nat := 0x021
abbrev sxlink.RQ_DATA : Nat := 0x022
abbrev sxlink.RQ_STAT : Nat := 0x026
abbrev sxlink.RSP_DATA : Nat := 0x028
abbrev sxsched.CYC : Nat := 0x010
abbrev sxsched.GEN : Nat := 0x011
abbrev sxsched.NSLOT : Nat := 0x012
abbrev sxsched.STAT : Nat := 0x013
abbrev sxsched.TSTR_LO : Nat := 0x014
abbrev sxsched.TSTR_HI : Nat := 0x015
abbrev sxsched.TSTR_MASK : Nat := 0x016
abbrev sxsched.TSTR_CTL : Nat := 0x017
abbrev sxsched.SLOT : Nat := 0x020
abbrev sxnode.GEN : Nat := 0x010
abbrev sxnode.DLOC_LO : Nat := 0x011
abbrev sxnode.DLOC_HI : Nat := 0x012
abbrev sxnode.DTAG : Nat := 0x013
abbrev sxnode.PRESENT : Nat := 0x014
abbrev sxnode.DIGMIS : Nat := 0x015
abbrev sxnode.SCHDIFF : Nat := 0x016
abbrev sxnode.MAJDIFF : Nat := 0x017
abbrev sxnode.NSTAT : Nat := 0x100
abbrev sxnode.INFO : Nat := 0x101
abbrev sxnode.DIG_LO : Nat := 0x102
abbrev sxnode.DIG_HI : Nat := 0x103
abbrev sxnode.ERR : Nat := 0x180
abbrev sxnode.DSET : Nat := 0x200
abbrev plan.LOAD : Nat := 0x010
abbrev plan.USE : Nat := 0x011
abbrev plan.PEAK : Nat := 0x012
abbrev plan.TICKS : Nat := 0x013
abbrev plan.SAT : Nat := 0x014
abbrev plan.UE : Nat := 0x015
abbrev plan.CKCFG : Nat := 0x018
abbrev plan.CKTICK : Nat := 0x019
abbrev plan.CKSLOT : Nat := 0x01A
abbrev plan.LOG : Nat := 0x01B
abbrev twin.MODE : Nat := 0x010
abbrev twin.CKCFG : Nat := 0x011
abbrev twin.CKTICK : Nat := 0x012
abbrev twin.CKSLOT : Nat := 0x013
abbrev twin.LOG : Nat := 0x014
abbrev twin.RBOUND : Nat := 0x015
abbrev twin.DISAG : Nat := 0x016
abbrev twin.DTICK : Nat := 0x017
abbrev twin.DCNT : Nat := 0x018
abbrev twin.RLAST : Nat := 0x019
abbrev twin.SIGA_LO : Nat := 0x01A
abbrev twin.SIGA_HI : Nat := 0x01B
abbrev twin.SIGB_LO : Nat := 0x01C
abbrev twin.SIGB_HI : Nat := 0x01D
abbrev twin.STEST : Nat := 0x020
abbrev twin.STRES : Nat := 0x021
abbrev twin.MSTAT : Nat := 0x022
abbrev blot.CTRL : Nat := 0x010
abbrev blot.DIV : Nat := 0x011
abbrev blot.TMASK : Nat := 0x012
abbrev blot.RD : Nat := 0x013
abbrev blot.WR : Nat := 0x014
abbrev blot.FILL : Nat := 0x015
abbrev blot.SIZE : Nat := 0x016
abbrev blot.LEVEL : Nat := 0x017
abbrev blot.LOSTCNT : Nat := 0x018
abbrev blot.WRAPCNT : Nat := 0x019
abbrev blot.CHAN : Nat := 0x020
abbrev scribe.MSRC : Nat := 0x010
abbrev scribe.MRATIO : Nat := 0x011
abbrev scribe.HVEL : Nat := 0x012
abbrev scribe.MSET : Nat := 0x013
abbrev scribe.MPOS : Nat := 0x014
abbrev scribe.MVEL : Nat := 0x015
abbrev scribe.HWM : Nat := 0x016
abbrev scribe.LDMAX : Nat := 0x017
abbrev scribe.LOOKPAD : Nat := 0x018
abbrev scribe.MISSWIN : Nat := 0x019
abbrev scribe.REVHYST : Nat := 0x01A
abbrev scribe.GEN : Nat := 0x01B
abbrev scribe.RD : Nat := 0x020
abbrev scribe.WR : Nat := 0x021
abbrev scribe.FILL : Nat := 0x022
abbrev scribe.LOWMARK : Nat := 0x023
abbrev scribe.SIZE : Nat := 0x024
abbrev scribe.PEND : Nat := 0x025
abbrev scribe.LASTFIRE : Nat := 0x026
abbrev scribe.CNT_FIRED : Nat := 0x030
abbrev scribe.CNT_x : Nat := 0x031
abbrev scribe.AXCFG : Nat := 0x100
abbrev scribe.AXSTAT : Nat := 0x180
abbrev stroke.LIB : Nat := 0x010
abbrev stroke.CHECK : Nat := 0x011
abbrev stroke.CHKSTAT : Nat := 0x012
abbrev stroke.FAULT : Nat := 0x013
abbrev stroke.FAULTCNT : Nat := 0x014
abbrev qdec.CFG : Nat := 0x010
abbrev qdec.ICFG : Nat := 0x020
abbrev qdec.CNT : Nat := 0x030
abbrev qdec.RAW : Nat := 0x040
abbrev qdec.CNTSET : Nat := 0x050
abbrev qdec.IDXCNT : Nat := 0x060
abbrev qdec.ERR : Nat := 0x070
abbrev qdec.IDXT_LO : Nat := 0x080
abbrev qdec.IDXT_HI : Nat := 0x081
abbrev stepin.CFG : Nat := 0x010
abbrev stepin.CNT : Nat := 0x020
abbrev stepin.RATE : Nat := 0x030
abbrev capt.CFG : Nat := 0x010
abbrev capt.UNIT : Nat := 0x040
abbrev capt.FIFO : Nat := 0x060
abbrev capt.FSTAT : Nat := 0x064
abbrev capt.FLEVEL : Nat := 0x065
abbrev capt.LEVEL : Nat := 0x066
abbrev capt.ORPHCNT : Nat := 0x068
abbrev capt.ORPHSCNT : Nat := 0x069
abbrev capt.COINCNT : Nat := 0x06A
abbrev capt.LOSTCNT : Nat := 0x06B
abbrev ranks.STAT : Nat := 0x010
abbrev ranks.RDONE : Nat := 0x050
abbrev ranks.RBROKEN : Nat := 0x051
abbrev ranks.MEMBER : Nat := 0x100
abbrev grove.TPER : Nat := 0x010
abbrev grove.ZOPEN : Nat := 0x011
abbrev carrier.PERIOD : Nat := 0x010
abbrev carrier.CTRL : Nat := 0x011
abbrev carrier.TONMAX : Nat := 0x012
abbrev carrier.BLANK : Nat := 0x013
abbrev carrier.FILT : Nat := 0x014
abbrev carrier.CNT : Nat := 0x015
abbrev carrier.EVCMP : Nat := 0x018
abbrev carrier.EVPRE : Nat := 0x020
abbrev carrier.OFF : Nat := 0x040
abbrev firebrk.SAFE : Nat := 0x010
abbrev firebrk.SRCEN : Nat := 0x014
abbrev firebrk.CAUSE : Nat := 0x015
abbrev firebrk.SAFEDT : Nat := 0x016
abbrev firebrk.RAMPMAX : Nat := 0x017
abbrev firebrk.DBG : Nat := 0x018
abbrev firebrk.CLEAR : Nat := 0x019
abbrev firebrk.TTIME_LO : Nat := 0x01A
abbrev firebrk.TTIME_HI : Nat := 0x01B
abbrev firebrk.TRIPCNT : Nat := 0x01C
abbrev firebrk.RDEC : Nat := 0x020
abbrev nib.DT : Nat := 0x010
abbrev nib.CFG : Nat := 0x011
abbrev nib.SWTHR : Nat := 0x012
abbrev nib.RELEARN : Nat := 0x013
abbrev nib.SHOOT : Nat := 0x014
abbrev nib.LEGFLT : Nat := 0x016
abbrev nib.STUCK : Nat := 0x018
abbrev nib.SHOOTCNT : Nat := 0x01A
abbrev nib.DLY : Nat := 0x100
abbrev nib.LEG : Nat := 0x200
abbrev ovrd.MODE : Nat := 0x010
abbrev ovrd.PIN : Nat := 0x011
abbrev ovrd.MCFG : Nat := 0x020
abbrev ovrd.PTR : Nat := 0x030
abbrev ovrd.MASK : Nat := 0x040
abbrev ovrd.SWAP : Nat := 0x060
abbrev conv.CTRL : Nat := 0x010
abbrev conv.TRIG : Nat := 0x011
abbrev conv.WIN : Nat := 0x012
abbrev conv.WLO : Nat := 0x013
abbrev conv.WHI : Nat := 0x014
abbrev conv.SEQCNT : Nat := 0x015
abbrev conv.PCNT : Nat := 0x016
abbrev conv.MCNT : Nat := 0x017
abbrev conv.RDRCNT : Nat := 0x018
abbrev conv.TOVRCNT : Nat := 0x019
abbrev conv.URES : Nat := 0x01A
abbrev conv.UINFO : Nat := 0x01B
abbrev conv.UCNT : Nat := 0x01C
abbrev conv.ENT : Nat := 0x020
abbrev conv.RES : Nat := 0x030
abbrev convcal.CMD : Nat := 0x010
abbrev convcal.STAT : Nat := 0x011
abbrev convcal.CALTEMP : Nat := 0x012
abbrev convcal.TWIN : Nat := 0x013
abbrev convcal.TNOW : Nat := 0x014
abbrev convcal.SUM : Nat := 0x015
abbrev convcal.CALSUM : Nat := 0x016
abbrev convcal.CFACT : Nat := 0x020
abbrev convcal.TRIM : Nat := 0x040
abbrev convcal.SWTRIM : Nat := 0x080
abbrev wave.CTRL : Nat := 0x010
abbrev wave.TAB : Nat := 0x100
abbrev axis.MODE : Nat := 0x010
abbrev axis.XTGT : Nat := 0x011
abbrev axis.VTGT : Nat := 0x012
abbrev axis.VMAX : Nat := 0x013
abbrev axis.AMAX : Nat := 0x014
abbrev axis.DMAX : Nat := 0x015
abbrev axis.VSTART : Nat := 0x016
abbrev axis.VSTOP : Nat := 0x017
abbrev axis.XSET : Nat := 0x018
abbrev axis.STEPCFG : Nat := 0x019
abbrev axis.GEARCFG : Nat := 0x01A
abbrev axis.GEARRATIO : Nat := 0x01B
abbrev axis.RANKSEL : Nat := 0x01C
abbrev axis.XFRAC : Nat := 0x020
abbrev axis.XACT : Nat := 0x021
abbrev axis.VACT : Nat := 0x022
abbrev axis.LAG : Nat := 0x023
abbrev axis.QCTRL : Nat := 0x028
abbrev axis.QPTR : Nat := 0x029
abbrev axis.QTAG : Nat := 0x02A
abbrev axis.QSTAT : Nat := 0x02B
abbrev axis.IRUN : Nat := 0x060
abbrev axis.IHOLD : Nat := 0x061
abbrev axis.STILL : Nat := 0x062
abbrev axis.ECFG : Nat := 0x063
abbrev axis.BAL : Nat := 0x064
abbrev axis.DECAY : Nat := 0x065
abbrev axis.FAST : Nat := 0x066
abbrev axis.ZCW0 : Nat := 0x067
abbrev axis.ZCW1 : Nat := 0x068
abbrev axis.ZCW2 : Nat := 0x069
abbrev axis.ISETA : Nat := 0x070
abbrev axis.ISETB : Nat := 0x071
abbrev axis.AMP : Nat := 0x072
abbrev axis.FASTA : Nat := 0x073
abbrev axis.FASTB : Nat := 0x074
abbrev axis.THETA : Nat := 0x075
abbrev axis.ZSTAT : Nat := 0x076
abbrev axis.OBSCFG : Nat := 0x0A0
abbrev axis.KE : Nat := 0x0A1
abbrev axis.VBLIND : Nat := 0x0A2
abbrev axis.STALL : Nat := 0x0A3
abbrev axis.VSTALL : Nat := 0x0A4
abbrev axis.RETRY : Nat := 0x0A5
abbrev axis.VSLOW : Nat := 0x0A6
abbrev axis.ECON : Nat := 0x0A7
abbrev axis.ECONLIM : Nat := 0x0A8
abbrev axis.OBSCAL : Nat := 0x0A9
abbrev axis.TRUSTSET : Nat := 0x0AA
abbrev axis.MARGIN : Nat := 0x0B0
abbrev axis.LANGLE : Nat := 0x0B1
abbrev axis.ESC : Nat := 0x0B2
abbrev axis.SAMPLE : Nat := 0x0B3
abbrev axis.EEXP : Nat := 0x0B4
abbrev axis.OBSCNT : Nat := 0x0B5
abbrev axis.OBSERR : Nat := 0x0B6
abbrev axis.STALLINFO : Nat := 0x0B7
abbrev axis.CALSTAT : Nat := 0x0B8

abbrev PAGE_ID : Nat := 0
abbrev PAGE_CAP : Nat := 1
abbrev PAGE_CTRL : Nat := 2
abbrev PAGE_STAT : Nat := 3
abbrev PAGE_EVT : Nat := 4
abbrev PAGE_EVTEN : Nat := 5
abbrev PAGE_LOCK : Nat := 6
abbrev PAGE_UPD : Nat := 7
abbrev PAGE_ERR : Nat := 8

end Sys2Proof.Machine.Reg
end

