-- ==== Sys2Proof/Machine/Pages.lean ====
section
/-!
DEFINITION. The page index (R45, R46), presence by variant (R33), and what every register reads after a device reset
(R7): the field tables' Reset column, with the values that depend on the variant.
-/
namespace Sys2Proof.Machine

/-! Pages by number. -/
abbrev pgCanopy : Nat := 0x000
abbrev pgSupv : Nat := 0x001
abbrev pgTime : Nat := 0x002
abbrev pgHostp : Nat := 0x003
abbrev pgPerip : Nat := 0x004
abbrev pgXmem : Nat := 0x005
abbrev pgLink : Nat := 0x006
abbrev pgSched : Nat := 0x007
abbrev pgNode : Nat := 0x008
abbrev pgPlanA : Nat := 0x010
abbrev pgPlanB : Nat := 0x011
abbrev pgTwin : Nat := 0x012
abbrev pgBlot : Nat := 0x013
abbrev pgScribe : Nat := 0x018
abbrev pgStroke : Nat := 0x019
abbrev pgQdec : Nat := 0x01C
abbrev pgStepin : Nat := 0x01D
abbrev pgCapt : Nat := 0x01E
abbrev pgRanks : Nat := 0x01F
def pgGrove (g : Nat) : Nat := 0x100 + 0x40 * g
def pgCarrier (g : Nat) : Nat := pgGrove g + 1
def pgFire (g : Nat) : Nat := pgGrove g + 2
def pgNib (g : Nat) : Nat := pgGrove g + 3
def pgOvrd (g : Nat) : Nat := pgGrove g + 4
def pgConv (g i : Nat) : Nat := pgGrove g + 8 + i
def pgCal (g : Nat) : Nat := pgGrove g + 12
def pgWave (g : Nat) : Nat := pgGrove g + 13
/-- The page of global axis n (R15). -/
def pgAxis (n : Nat) : Nat := pgGrove (n / 16) + 0x20 + n % 16

/-- The page type of a page number; none: reserved (R45, R46). -/
def pageKind (p : Nat) : Option PageKind :=
  if p < 0x100 then
    match p with
    | 0x000 => some .canopy
    | 0x001 => some .supv
    | 0x002 => some .time
    | 0x003 => some .hostp
    | 0x004 => some .perip
    | 0x005 => some .xmem
    | 0x006 => some .sxlink
    | 0x007 => some .sxsched
    | 0x008 => some .sxnode
    | 0x010 => some .plan
    | 0x011 => some .plan
    | 0x012 => some .twin
    | 0x013 => some .blot
    | 0x018 => some .scribe
    | 0x019 => some .stroke
    | 0x01C => some .qdec
    | 0x01D => some .stepin
    | 0x01E => some .capt
    | 0x01F => some .ranks
    | _ => none
  else if p < 0x300 then
    let o := p % 0x40
    if 0x20 ≤ o ∧ o < 0x30 then some .axis
    else match o with
      | 0x00 => some .grove
      | 0x01 => some .carrier
      | 0x02 => some .firebrk
      | 0x03 => some .nib
      | 0x04 => some .ovrd
      | 0x08 => some .conv
      | 0x09 => some .conv
      | 0x0A => some .conv
      | 0x0B => some .conv
      | 0x0C => some .convcal
      | 0x0D => some .wave
      | _ => none
  else none

/-- The grove of a grove page. -/
def groveOf (p : Nat) : Nat := (p - 0x100) / 0x40
/-- The global axis of an AXIS page. -/
def axisOf (p : Nat) : Nat := 16 * groveOf p + p % 16
/-- The converter, 4·g + i, of a CONV page. -/
def convOf (p : Nat) : Nat := 4 * groveOf p + (p % 0x40 - 8)

/-- Whether the variant has the page (R33). -/
def pagePresent (v : Variant) (p : Nat) : Bool :=
  match pageKind p with
  | none => false
  | some k =>
    if 0x100 ≤ p then decide (groveOf p < v.groves)
    else if v.full then true
    else match k with
      | .twin => false
      | .scribe => false
      | .stroke => false
      | .plan => decide (p = pgPlanA)
      | _ => true

/-- PAGE_ID.TYPE and INSTANCE of a present page (R48). -/
def pageType (p : Nat) : Nat :=
  if p = pgPlanB then 0x010
  else if p < 0x100 then p
  else match pageKind p with
    | some .axis => 0x120
    | some .conv => 0x108
    | _ => 0x100 + p % 0x40

def pageInstance (p : Nat) : Nat :=
  if p = pgPlanB then 1
  else if p < 0x100 then 0
  else match pageKind p with
    | some .axis => axisOf p
    | some .conv => convOf p
    | _ => groveOf p

/-- The register at an offset of 0x010 and up. -/
def RegDef.covers (r : RegDef) (off : Nat) : Bool :=
  decide (r.off ≤ off ∧ (off - r.off) % r.stride = 0 ∧ (off - r.off) / r.stride < r.n)

def findReg (k : PageKind) (off : Nat) : Option RegDef := (pageRegs k).find? (fun r => r.covers off)

/-- A writable field that is buffered (R9). -/
def RegField.buffered (f : RegField) : Bool := f.ty == .rwb || f.ty == .rwbk
def RegField.keyed (f : RegField) : Bool := f.ty == .rwk || f.ty == .rwbk
def RegField.writable (f : RegField) : Bool := f.ty != .ro

def PageKind.buffered (k : PageKind) : Bool := (pageRegs k).any (fun r => r.fields.any RegField.buffered)
def PageKind.keyed (k : PageKind) : Bool :=
  (pageRegs k).any (fun r => r.fields.any RegField.keyed) || (ctrlFields k).any RegField.keyed

/-- The fields of any register of a page, the common layout of R47 included; none: a reserved offset. -/
def fieldsAt (k : PageKind) (off : Nat) : Option (List RegField) :=
  match off with
  | 0 => some [bf 35 0 .ro 0]
  | 1 => some [bf 35 0 .ro 0]
  | 2 => some (ctrlFields k)
  | 3 => some [bf 35 0 .ro 0]
  | 4 => some (evtFields k)
  | 5 => some ((evtFields k).map (fun f => bf f.hi f.lo .rw 0))
  | 6 => some [bf 35 0 .wo 0]
  | 7 => some (if k.buffered then [bf 35 35 .ro 0, bf 4 0 .rw 1] else [bf 35 0 .ro 0])
  | 8 => some [bf 35 35 .wo 0, bf 34 0 .ro 0]
  | _ => if off < 16 then none else (findReg k off).map RegDef.fields

/-- The word made of the reset values of fields. -/
def resetOf (fs : List RegField) : Nat :=
  fs.foldl (fun a f => a + (f.reset % 2 ^ (f.hi - f.lo + 1)) * 2 ^ f.lo) 0

/-- R41: the default base and size in granules of region `i` (INKW, STRK, SEGQ, BLOT, CKPT, CSHD). -/
def partReset (v : Variant) (i : Nat) : Nat × Nat :=
  match v, i with
  | .fd9128, 0 => (0x00, 0x80)
  | .fd9128, 1 => (0xBC, 0x08)
  | .fd9128, 2 => (0xC4, 0x10)
  | .fd9128, 3 => (0xD4, 0x20)
  | .fd9128, 4 => (0xF4, 0x08)
  | .fd9128, 5 => (0xFC, 0x04)
  | .fd9064, 0 => (0x00, 0x40)
  | .fd9064, 1 => (0x58, 0x08)
  | .fd9064, 2 => (0x60, 0x08)
  | .fd9064, 3 => (0x68, 0x10)
  | .fd9064, 4 => (0x78, 0x04)
  | .fd9064, 5 => (0x7C, 0x04)
  | .fd9032, 2 => (0x0E, 0x04)
  | .fd9032, 3 => (0x12, 0x08)
  | .fd9032, 4 => (0x1A, 0x02)
  | .fd9032, 5 => (0x1C, 0x04)
  | _, _ => (0, 0)

/-- What a register holds after a device reset. -/
def resetWord (v : Variant) (key : Nat) : Word :=
  let p := key / 1024
  let off := key % 1024
  match pageKind p with
  | none => 0
  | some k =>
    if k = .canopy ∧ 0x18 ≤ off ∧ off < 0x1E then
      let (b, s) := partReset v (off - 0x18)
      BitVec.ofNat 36 (s * 0x10000 + b)
    else if k = .wave ∧ 0x100 ≤ off ∧ off ≤ 0x300 then
      let w := off - 0x100
      BitVec.ofNat 36 (fixedWave (2 * w) + (if w < 512 then fixedWave (2 * w + 1) * 0x40000 else 0))
    else BitVec.ofNat 36 (resetOf ((fieldsAt k off).getD []))

end Sys2Proof.Machine
end

