-- ==== Sys2Proof/Machine/Motion.lean ====
section
/-!
DEFINITION. The arithmetic of one planner tick (R73 to R83, R87, R91, R95, R96, R472), on a record of position,
velocity and rest count, in fine units (2^-32 count). Position is kept modulo 2^68.
-/
namespace Sys2Proof.Machine

/-- The motion part of an axis record (R73): position `p` below 2^68, velocity `v`, rest ticks `rwait`. -/
structure Mot where
  p : Nat
  v : Int
  rwait : Nat
deriving DecidableEq, Repr

/-- Limits in register units (R81). -/
structure Lim where
  vmax : Nat
  amax : Nat
  dmax : Nat
  vstart : Nat
  vstop : Nat
deriving DecidableEq, Repr

/-- What one tick did: the record, its PHASE (R469), a landing tick (R77), a completed THROUGH entry (R91) and a stop
by braking (BRAKESTOP). -/
structure TickOut where
  m : Mot
  phase : Nat
  landed : Bool := false
  done : Bool := false
  stopped : Bool := false
deriving DecidableEq, Repr

def two32 : Nat := 4294967296

/-- p + x modulo 2^68. -/
def addP (p : Nat) (x : Int) : Nat := unsgn 68 ((p : Int) + x)

/-- The signed distance of R75 from `p` to the target `t` in counts. -/
def dist68 (t : Nat) (p : Nat) : Int := sgn 68 (unsgn 68 ((t * two32 : Nat) - (p : Int)))

/-- brake_dist of R76. -/
def brakeDist (s d z : Int) : Int :=
  if s ≤ z then 0
  else
    let m := (s - z + d - 1).fdiv d
    (m - 1) * s - d * (m * (m - 1)).fdiv 2 + z

/-- feasible of R76. -/
def feasible (r c d z : Int) : Bool := decide (brakeDist c d z ≤ r - c)

/-- brake_tick of R76. PHASE is 4 where v was not 0 (R469). -/
def brakeTick (m : Mot) (d z : Int) (revdwell : Nat) : TickOut :=
  let s := absI m.v
  if s ≤ z then
    if m.v = 0 then ⟨m, if m.rwait > 0 then 5 else 0, false, false, false⟩
    else ⟨{ m with v := 0, rwait := revdwell }, 4, false, false, true⟩
  else
    let v := sgnI m.v * max (s - d) z
    ⟨{ m with v := v, p := addP m.p v }, 4, false, false, false⟩

/-- vmax, a, d of a limit set in fine units (R72's table), and the effective speeds vst and vsp. -/
def Lim.v (l : Lim) : Int := (l.vmax * 4096 : Nat)
def Lim.a (l : Lim) : Int := (l.amax : Nat)
def Lim.d (l : Lim) : Int := (l.dmax : Nat)
def Lim.vst (l : Lim) : Int := min (max ((l.vstart * 4096 : Nat) : Int) l.a) l.v
def Lim.vsp (l : Lim) : Int := min (max ((l.vstop * 4096 : Nat) : Int) l.d) l.v

/-- The PHASE of a tick that moved from speed `s` to speed `c`. -/
def speedPhase (s c : Int) : Nat := if s < c then 1 else if c = s then 2 else 3

/-- Takes speed `c` in direction `dir`. -/
def Mot.move (m : Mot) (dir c : Int) : Mot := { m with v := dir * c, p := addP m.p (dir * c) }

/-- The first feasible candidate. -/
def pickSpeed (r d z : Int) : List Int → Option Int
  | [] => none
  | c :: cs => if feasible r c d z then some c else pickSpeed r d z cs

/-- The ordered candidates of R76 for speed `s`. -/
def candidates (l : Lim) (s : Int) : List Int :=
  if s > l.v then [max (s - l.d) l.v, max (s - l.d) l.vsp]
  else if s = 0 then [l.vst, l.vsp]
  else [min (s + l.a) l.v, s, max (s - l.d) l.vsp]

/-- position_tick of R76 toward `tgt` (counts). `fresh`: a target took effect for the axis at this tick, so that at
rest on it the tick is a landing, whatever `rwait` or VMAX hold (R472; DEDUCED, log 12). -/
def positionTick (m : Mot) (l : Lim) (tgt revdwell : Nat) (fresh : Bool) : TickOut :=
  if fresh ∧ m.v = 0 ∧ dist68 tgt m.p = 0 then ⟨m, 0, true, false, false⟩
  else if l.vmax = 0 then brakeTick m l.d l.d revdwell
  else if m.v = 0 ∧ m.rwait > 0 then ⟨{ m with rwait := m.rwait - 1 }, 5, false, false, false⟩
  else
    let e := dist68 tgt m.p
    let s := absI m.v
    let dir := if sgnI m.v = 0 then sgnI e else sgnI m.v
    if dir = 0 then ⟨m, 0, false, false, false⟩
    else
      let r := e * dir
      if 0 ≤ r ∧ r ≤ l.vsp ∧ s ≤ l.vsp then
        ⟨{ m with p := addP m.p e, v := 0 }, 0, true, false, false⟩
      else if 0 ≤ r then
        match pickSpeed r l.d l.vsp (candidates l s) with
        | some c => ⟨m.move dir c, speedPhase s c, false, false, false⟩
        | none => brakeTick m l.d l.vsp revdwell
      else brakeTick m l.d l.vsp revdwell

/-- velocity_tick of R82; `vtgt` is the signed register value. -/
def velocityTick (m : Mot) (l : Lim) (vtgt : Int) (revdwell : Nat) : TickOut :=
  let vt := min (max (vtgt * 4096) (-l.v)) l.v
  if m.v = 0 ∧ m.rwait > 0 then ⟨{ m with rwait := m.rwait - 1 }, 5, false, false, false⟩
  else
    let s := absI m.v
    if m.v = 0 then
      if vt = 0 then ⟨m, 0, false, false, false⟩
      else
        let c := min l.vst (absI vt)
        ⟨m.move (sgnI vt) c, speedPhase 0 c, false, false, false⟩
    else if vt = 0 ∨ sgnI vt ≠ sgnI m.v then brakeTick m l.d l.vsp revdwell
    else if s < absI vt then
      let c := min (s + l.a) (absI vt)
      ⟨m.move (sgnI m.v) c, speedPhase s c, false, false, false⟩
    else
      let c := max (s - l.d) (absI vt)
      ⟨m.move (sgnI m.v) c, speedPhase s c, false, false, false⟩

/-- through_tick of R91. -/
def throughTick (m : Mot) (l : Lim) (tgt revdwell : Nat) : TickOut :=
  if l.vmax = 0 then brakeTick m l.d l.d revdwell
  else if m.v = 0 ∧ m.rwait > 0 then ⟨{ m with rwait := m.rwait - 1 }, 5, false, false, false⟩
  else
    let e := dist68 tgt m.p
    let s := absI m.v
    let dir := if sgnI m.v = 0 then sgnI e else sgnI m.v
    if dir = 0 then ⟨m, 0, false, true, false⟩
    else
      let r := e * dir
      if r < 0 then brakeTick m l.d l.vsp revdwell
      else
        let c := if s > l.v then max (s - l.d) l.v else if s = 0 then l.vst else min (s + l.a) l.v
        ⟨m.move dir c, speedPhase s c, false, decide (r ≤ c), false⟩

/-- The count part of a position (R71). -/
def countOf (p : Nat) : Nat := (p / two32) % 2 ^ 36

/-- Serial difference of two 36-bit counts, signed (R75 at count resolution). -/
def diff36 (x y : Nat) : Int := sgn 36 (unsgn 36 ((x : Int) - (y : Int)))

/-- A direct following tick of R87: the record, the lag that remains and whether the move was limited. -/
def directTick (m : Mot) (tgt : Nat) : Mot × Int × Bool :=
  let pc := countOf m.p
  let lag := diff36 tgt pc
  let mv := clampI (-8192) 8192 lag
  ({ m with p := unsgn 36 ((pc : Int) + mv) * two32, v := mv * (two32 : Nat) }, lag - mv, decide (8192 < absI lag))

/-- The step accumulator of R85: the new step target. -/
def stepFollow (stgt cPrev cNow inc : Nat) (neg : Bool) : Nat :=
  unsgn 36 ((stgt : Int) + diff36 cNow cPrev * (inc : Nat) * (if neg then -1 else 1))

/-- The gear accumulator of R86: the new gear target and remainder. -/
def gearFollow (gtgt mPrev mPos : Nat) (gacc ratio : Int) : Nat × Int :=
  let g := gacc + ratio * diff36 mPos mPrev
  let w := g.fdiv 16777216
  (unsgn 36 ((gtgt : Int) + w), g - w * 16777216)

/-- One scaled speed limit of R95 for a member with distance `di` in a rank with largest distance `u`. -/
def scaleLim (x u di cap : Nat) : Nat := min (x * u / di) cap

/-- R95: the rank's limits from the moving members' own limits and distances. -/
def rankLimits (u : Nat) : List (Lim × Nat) → Lim
  | [] => ⟨0x200000000, 0xFFFFFFFFF, 0xFFFFFFFFF, 0x200000000, 0x200000000⟩
  | (l, di) :: t =>
    let rest := rankLimits u t
    if di = 0 then rest
    else
      ⟨min (scaleLim l.vmax u di 0x200000000) rest.vmax,
       min (scaleLim l.amax u di 0xFFFFFFFFF) rest.amax,
       min (scaleLim l.dmax u di 0xFFFFFFFFF) rest.dmax,
       min (scaleLim l.vstart u di 0x200000000) rest.vstart,
       min (scaleLim l.vstop u di 0x200000000) rest.vstop⟩

/-- R96: the count a member takes when the virtual axis stands at `up` (fine units). -/
def rankCount (start : Nat) (di : Int) (up u : Nat) : Nat :=
  unsgn 36 ((start : Int) + sgnI di * rhe (absI di * (up / two32 : Nat)) (u : Nat))

/-- The three lanes of R70, without the tag, for an axis state (R71); `cur` holds the current-control fields. -/
structure Lanes where
  pos : Nat
  vel : Nat
  posf : Nat
  cur : Nat
deriving DecidableEq, Repr

/-- R71. -/
def lanesOf (p : Nat) (v : Int) (cur : Nat) : Lanes :=
  ⟨countOf p, unsgn 36 (rhe v 4096), (p % two32) / 65536, cur⟩

end Sys2Proof.Machine
end

