-- ==== Sys2Proof/Machine/Sparse.lean ====
section
/-!
DEFINITION. Sparse tables of plain data, in one canonical form: keys strictly rising and no entry equal to what an
unlisted key reads as, so that equal tables are equal data. Every array of the model (memory, registers, axes,
coils, legs) is such a table.
-/
namespace Sys2Proof.Machine

/-- A sparse table: `(key, value)` pairs. -/
abbrev Tab (α : Type) := List (Nat × α)

/-- What the table holds at `k`, if it lists it. -/
def Tab.look {α : Type} : Tab α → Nat → Option α
  | [], _ => none
  | (k', v) :: t, k => if k' = k then some v else Tab.look t k

/-- What `k` reads as: the entry, or `dflt` where the table lists none. -/
def Tab.get {α : Type} (t : Tab α) (k : Nat) (dflt : α) : α := (t.look k).getD dflt

/-- The table without an entry for `k`. -/
def Tab.erase {α : Type} : Tab α → Nat → Tab α
  | [], _ => []
  | (k', v) :: t, k => if k' = k then Tab.erase t k else (k', v) :: Tab.erase t k

/-- The table with the entry `(k, v)`, its keys kept rising. -/
def Tab.put {α : Type} : Tab α → Nat → α → Tab α
  | [], k, v => [(k, v)]
  | (k', v') :: t, k, v =>
    if k' = k then (k, v) :: t
    else if k < k' then (k, v) :: (k', v') :: t
    else (k', v') :: Tab.put t k v

/-- The table with `v` at `k`; an entry equal to the default is dropped. -/
def Tab.set {α : Type} [DecidableEq α] (t : Tab α) (k : Nat) (v dflt : α) : Tab α :=
  if v = dflt then t.erase k else t.put k v

/-- Keys strictly rise, from a bound on. -/
def Tab.rising {α : Type} : Nat → Tab α → Bool
  | _, [] => true
  | lo, (k, _) :: t => decide (lo ≤ k) && Tab.rising (k + 1) t

/-- The canonical form: keys strictly rise and no entry equals the default of its key. -/
def Tab.wf {α : Type} [DecidableEq α] (dflt : Nat → α) (t : Tab α) : Bool :=
  Tab.rising 0 t && t.all (fun e => decide (e.2 ≠ dflt e.1))

/-- Sets of numbers as rising lists: insertion. -/
def nins : List Nat → Nat → List Nat
  | [], k => [k]
  | x :: xs, k => if x = k then x :: xs else if k < x then k :: x :: xs else x :: nins xs k

end Sys2Proof.Machine
end

