-- ==== Sys2Proof/Machine/State.lean ====
section
/-!
DEFINITION. The state of the block, as plain data: everything the spec gives the FD9128, and the queue of commands
that wait. INVENTORY.md lists each piece with the rule that names it.
-/
namespace Sys2Proof.Machine

/-- The state of the check bits of one memory word (R40). -/
inductive Ecc where
  | clean | single | double
deriving DecidableEq, Repr

/-- One memory word: its data and the state of its check bits. -/
structure MemWord where
  data : Word
  ecc : Ecc
deriving DecidableEq, Repr

/-- What a memory word that nothing has written since power-up reads as: the data 0, with check bits that may or may
not be good, a free value, since the first read may report an error (R390). DESIGN CHOICE (log 4): the spec states no
power-on contents. -/
def MemWord.unwritten (era a : Nat) : MemWord :=
  ⟨0, match Config.powerEcc era a % 3 with
    | 0 => .clean
    | 1 => .single
    | _ => .double⟩

/-- A shadow value not yet applied (R58): the value, when it was written (gck) and its serial number. -/
structure Shadow where
  val : Word
  at_ : Nat
  seq : Nat
deriving DecidableEq, Repr

/-- One shadow that a strobe includes (R60). -/
structure Captured where
  key : Nat
  seq : Nat
  val : Word
deriving DecidableEq, Repr

/-- An update strobe that has arrived at the planner island and not yet taken effect (R59, R60). -/
structure Strobe where
  mask : Nat
  at_ : Nat
  captured : List Captured
deriving DecidableEq, Repr

/-- The access state that each requester holds apart (R37). Keys are `requester · 1024 + page`. -/
structure Access where
  readShadow : Tab (Nat × Word)   -- offset of the latched high word and its value (R55)
  writeShadow : Tab Word          -- the low word last written (R56)
  unlocked : List Nat             -- pages unlocked (R63)
  fencing : List Nat              -- requesters whose FENCE has not completed (R65)
deriving DecidableEq, Repr

/-- The selected time source (R320). -/
inductive TimeSource where
  | xtal | sernyx | pps
deriving DecidableEq, Repr

/-- One reference source other than XTAL (R320, R321, R323). -/
structure SourceState where
  valid : Bool
  since : Nat          -- clk at which it became valid
  qualified : Bool
  lastEdge : Option Nat -- canopy time of the last edge or beacon
  lostAt : Option Nat  -- clk at which it was lost while selected
deriving DecidableEq, Repr

/-- The timebase (R314 to R328). Times are 72-bit numbers in units of 2^-36 s. -/
structure Timebase where
  now : Nat
  nowRem : Nat         -- remainder of `now`, in units of 1/(4·10^8·2^40) of its unit
  src : Nat            -- the selected source's time, advancing at its rate
  srcRem : Nat
  rate : Int           -- correction of the source's rate against XTAL, 2^-40
  slew : Int           -- further rate while a slew runs, 2^-40
  slewing : Bool
  sel : TimeSource
  sx : SourceState
  pps : SourceState
  holdover : Bool
  locked : Bool
  gnext : Nat
  grem : Nat
  gofs : Int
  bnext : Nat
  lastB : Nat          -- clk of the last boundary
  tper : Nat           -- tick period in effect for the grid
  tgrid : Nat
  tperAt : Option Nat  -- a group 0 write of TPER that waits for its boundary (R317)
  tgridAt : Option Nat
  epochPending : Option Int -- Δ of an epoch start decided and not yet begun (R325)
  started : Bool       -- the first boundary has been placed
  stepAt : Nat         -- clk of the boundary of the last epoch start (R325)
deriving DecidableEq, Repr

/-- A segment queue entry as activated (R89 table): the resolved target, its limits and its options. -/
structure QEntry where
  target : Nat
  lim : Lim
  irq : Bool
  thru : Bool          -- followed through (R91)
  dwell : Nat
  rankMove : Bool      -- active as the move of a rank (R95)
  fresh : Bool         -- its target took effect and no tick has used it yet (R472)
  tag : Word
deriving DecidableEq, Repr

/-- One firing of the Scribe (R125). -/
structure Firing where
  ptr : Nat
  axis : Nat
  stroke : Nat
  param : Nat
deriving DecidableEq, Repr

/-- One move of a stroke copy (R130, R138, R139). -/
structure StrokeMove where
  target : Nat
  lim : Lim
  revdwell : Nat
  dwell : Nat
deriving DecidableEq, Repr

/-- The active stroke of an axis: the copy that governs it (R140), the active move, counted from 0, and the rest ticks
left after its landing. -/
structure StrokeRun where
  stroke : Nat
  moves : List StrokeMove
  mv : Nat
  dwell : Option Nat
  fresh : Bool
deriving DecidableEq, Repr

/-- The planner's record of one axis (R73) and its motion status (R469). -/
structure Plan where
  mot : Mot
  phase : Nat
  lag : Int
  halted : Bool
  cstopWas : Bool        -- CSTOP at the last snapshot (R83)
  stopReq : Bool         -- a controlled stop requested since the last snapshot (R84)
  stopLim : Option Lim   -- limits of an abandoned or last valid entry for the stop (R92, R93)
  modeNew : Bool         -- values that took effect since the last snapshot (R98)
  xsetNew : Bool
  xtgtNew : Bool
  xtgtAt : Nat           -- boundary count at which XTGT last took effect; 0 never (R94)
  rankWas : Option Nat   -- the rank of the last snapshot (R97)
  rankTgt : Option Nat   -- target of the last rank start, while the rank's move is the axis's (R469)
  rankRun : Option Nat   -- the rank whose virtual axis the axis follows (R96, R97)
  stgt : Nat
  gtgt : Nat
  cPrev : Nat
  mPrev : Nat
  gacc : Int
  anchorDue : Bool       -- a hold in a following mode was released (R83)
  lanes : Lanes          -- the word last computed, for the next interval (R70)
  endP : Nat             -- its end position in fine units
deriving DecidableEq, Repr

/-- The segment queue of one axis (R89 to R93) and its Scribe strokes (R130 to R135). -/
structure Queue where
  head : Nat
  tail : Nat
  act : Option QEntry
  ready : Option (Nat × Nat × Bool × QEntry) -- head ready for a rank: rank, raw target, REL, entry (R94)
  dwell : Option Nat     -- rest ticks left after a completed entry
  relBase : Option Nat   -- the previous entry's resolved target (R90)
  lastDone : Option Nat  -- target of the last completed entry since QUEUE mode took effect (R469)
  lastLim : Option Lim   -- limits of the last valid entry (R92)
  holding : Bool         -- R93's conditions hold
  tunder : Nat
  fault : Nat            -- QSTAT.FCAUSE; 0 no fault
  stroke : Option StrokeRun
  waiting : List Firing  -- queued firings, at most 4 (R135)
deriving DecidableEq, Repr

/-- RANKS.STATr.STATE (R103). -/
inductive RankPhase where
  | idle | wait | moving | braking
deriving DecidableEq, Repr

/-- One member of a rank's move (R95). -/
structure RankMember where
  axis : Nat
  start : Nat
  dist : Int
deriving DecidableEq, Repr

/-- One rank (R94 to R97): its virtual axis and its last start. -/
structure Rank where
  phase : RankPhase
  broken : Bool          -- braking after a break (R97)
  landedNow : Bool       -- the virtual axis landed in the tick being computed
  vphase : Nat           -- PHASE of the virtual axis in that tick
  virt : Mot
  lim : Lim
  u : Nat
  lead : Nat
  startAt : Nat          -- boundary count of the last start; 0 never
  members : List RankMember
deriving DecidableEq, Repr

/-- The state of a point in the pending table (R117, R119, R123). -/
inductive PointState where
  | pending | held | retired
deriving DecidableEq, Repr

/-- One entry of the pending table. -/
structure Point where
  ptr : Nat
  x : Nat
  axis : Nat
  stroke : Nat
  rearm : Bool
  nolead : Bool
  param : Nat
  st : PointState
deriving DecidableEq, Repr

/-- A master-coordinate broadcast (R109). -/
structure Broadcast where
  c : Nat
  v : Int
  t : Nat
  cycle : Nat            -- link cycle at reception (R110)
deriving DecidableEq, Repr

/-- The Scribe (R104 to R136). -/
structure Scribe where
  c : Nat
  mvel : Int
  macc : Int
  hfrac : Int
  rawPrev : Nat
  hist : List Nat        -- C of the boundaries before, newest first, 256 of them (R108)
  hwm : Nat
  ldmax : Int
  reanchor : Bool        -- MSRC changed its source (R111)
  msetAt : Option Nat    -- clk of a group 0 write of MSET that waits (R112)
  msetNow : Bool         -- MSET applies at this boundary
  broadcast : Option Broadcast
  mlost : Bool
  running : Bool
  table : List Point     -- from RD up to the fetch pointer, in ring order
  fetched : Nat          -- points fetched in this tick (R118)
  xprev : Option Nat
  fires : List Firing    -- decided in the tick before the next snapshot (R124)
  chkBusy : Option (Nat × Nat) -- STROKE.CHECK running: START and COUNT (R142)
deriving DecidableEq, Repr

/-- A word as a grove holds it (R70): end position, end velocity and ESCALE. -/
structure GWord where
  pos : Nat
  posf : Nat
  vel : Nat
  esc : Nat
deriving DecidableEq, Repr

/-- The grove's side of one axis: the words in execution and accepted, the base amplitude and the ramp engine. -/
structure GAxis where
  w0 : GWord             -- the word of the interval before (R145)
  w1 : GWord             -- the word in execution
  accepted : Option GWord -- the word accepted for the next interval (R30)
  refused : Bool         -- a word of the coming interval has been refused (R30)
  copyA : Option Nat     -- copies of the word that have reached TWIN, as 108-bit lanes (R262)
  copyB : Option Nat
  still : Nat            -- R151
  base : Nat
  ampSrc : Nat           -- AXIS.AMP.SRC
  cuRose : Bool          -- CUREN rose since the last boundary (R151)
  rp : Nat               -- ramp engine or extrapolation state (R207, R271)
  rv : Int
  extraN : Nat           -- consecutive extrapolated intervals (R273)
  xact : Nat             -- end state of the interval that ended at the last boundary, fine units (R469)
  vact : Nat
  ipos : Option Nat      -- count part of the position interpolated at coil A's last period start (R424)
  quarter : Option Nat   -- floor(th / 1,024) at coil A's last period start (R197)
deriving DecidableEq, Repr

/-- The chopper's state of one coil (R158). -/
inductive CoilSt where
  | off | drive | decay | zwin
deriving DecidableEq, Repr

/-- A zero-current window (R165 to R169). -/
structure Window where
  s : Nat
  z : Option Nat         -- clk at which zero current was recognised
  zTick : Nat            -- low 8 bits of the tick number that contains z
  requested : Bool
  mag : Nat              -- the setpoint kept for the resumption
  neg : Bool
  half : Nat
deriving DecidableEq, Repr

/-- One coil of a grove: sequencer and chopper (R144 to R173). -/
structure Coil where
  st : CoilSt
  s : Nat                -- clk of the last period start
  started : Bool         -- a period start since CUREN rose (R165)
  hadDrive : Bool        -- a DRIVE since CUREN rose (R159)
  zeroSeen : Bool        -- a window recognised zero current since that DRIVE (R188)
  srcNeg : Bool          -- source leg of the most recent DRIVE: leg 1
  driveMag : Nat         -- mag of the most recent DRIVE (R188)
  mag : Nat
  neg : Bool
  th : Nat
  half : Nat             -- half-cycle index at the last period start
  driveIn : Bool         -- the period in progress has had a DRIVE
  winIn : Bool           -- the period in progress has had a window
  tripped : Bool         -- its DRIVE ended by a recognised trip
  ton : Nat
  blankEnd : Option Nat  -- clk at which blanking ends (R161)
  decayAt : Nat          -- clk at which DRIVE ended
  fast : Bool            -- in the fast phase of DECAY
  fastUsed : Nat         -- fast time of this DECAY
  fastt : Nat            -- learnt fast time (R164)
  win : Option Window
  resumeAt : Option Nat  -- clk at which DRIVE resumes after a window (R168)
  enabledAt : Nat        -- clk at which the enables last rose (R172)
  ran : Bool             -- a period start since reset
  full : Bool            -- stayed in DRIVE across its last period start (R162)
  dmode : Nat            -- DECAY.MODE of the period in progress
  tonS : Nat             -- the instant TONMAX counts from (R160, R168)
  amp : Nat              -- amp of R152 at the last period start
deriving DecidableEq, Repr

/-- A learnt delay record (R192 to R194). -/
structure Delay where
  valid : Bool
  miss : Nat
  stuck : Bool
  lrn : Nat
deriving DecidableEq, Repr

/-- A turn-on that waits (R187, R190): the incoming switch (`hi`: GH), its class (0 where it is no complementary
edge), the instant t is counted from and the node recognition. -/
structure TurnOn where
  hi : Bool
  cls : Nat
  t0 : Nat
  seen : Option Nat
deriving DecidableEq, Repr

/-- A node-delay measurement in progress (R192): its type and the instant it starts. -/
structure Measure where
  ty : Nat
  start : Nat
deriving DecidableEq, Repr

/-- One leg: its Nib (R183 to R194). -/
structure Leg where
  cmd : Nat              -- command at the Nib input
  tag : Nat              -- 0 NONE, 1 OUT, 2 IN
  tagMag : Nat
  gh : Bool              -- gate requests of the Nib
  gl : Bool
  offHi : Option Nat     -- clk at which GH last turned off
  offLo : Option Nat
  turnOn : Option TurnOn
  meas : Option Measure
  cls : Nat
  dtlast : Nat
  node : Nat             -- last recognition: 0 none, 1 low, 2 high
  nodeAt : Nat           -- clk of that recognition
  overlap : Bool         -- an overlap lasts
  events : List Nat      -- carrier period numbers of the last overlap events, newest first
  dly : List Delay       -- HOFF, LOFF, HON, LON
deriving DecidableEq, Repr

/-- A debug HOLD (R209, R210): when it began and the HOLDMAX in force. -/
structure Hold where
  since : Nat
  holdmax : Nat
deriving DecidableEq, Repr

/-- The ramp engine's hold of a grove (R201, R207): ticks since the request, whether it has taken the grove, whether
a trip latches at its end (false: the ramp engine holds the grove in IDLE, R401). -/
structure Ramp where
  ticks : Nat
  asked : Nat            -- clk of the request
  took : Bool
  trips : Bool
  done : Bool            -- every axis at rest
  yields : Bool          -- it ends at the first accepted Quill word (R208)
deriving DecidableEq, Repr

/-- One grove: its tick counting (R24, R25), its carrier (R154 to R157) and its Firebreak (R201 to R210). -/
structure Grove where
  tick : Nat             -- low 8 bits of its tick number
  lastB : Nat            -- clk of the boundary last applied
  token : Bool           -- the token of the next boundary has arrived
  ownStep : Bool         -- a boundary passed without its token, and TOKEN_LATE has not been raised yet
  missing : Nat          -- consecutive boundaries without a token
  extrap : Bool
  carStart : Nat         -- clk at which the carrier counter was 0
  carPeriod : Nat        -- PERIOD, AUTOILV and OFFj in use by the counter (R155)
  carIlv : Bool
  carOff : Tab Nat
  carNo : Nat            -- carrier period number (R185)
  evOcc : List Nat       -- occurrences of events 0 to 5 since each last passed its prescaler (R157)
  evNext : List Nat      -- the instant from which the next occurrence of each event is looked for
  tripped : Bool
  safe : Bool            -- the safe levels have been reached (R202)
  tripAt : Nat
  causes : Nat
  first : Nat
  ttime : Nat
  ramp : Option Ramp
  held : Option Hold
  due : Nat              -- immediate causes found in this step, by bit
deriving DecidableEq, Repr

/-- An urgent request (R228): its coil, the converter it named, its gain and OSR codes. -/
structure Urgent where
  coil : Nat
  named : Nat
  gain : Nat
  osr : Nat
deriving DecidableEq, Repr

/-- A conversion that is sampling or whose result is in the filter: its entry word, entry index, coil where urgent. -/
structure Conversion where
  entry : Nat
  word : Word            -- ENTe as read at the start (R221)
  rerun : Bool
  urgent : Option Urgent
  tick : Nat             -- tags of R169 for an urgent conversion
  half : Nat
  dz : Nat
  startAt : Nat          -- clk of its start and of the end of its sampling (R219, R220)
  endAt : Nat
deriving DecidableEq, Repr

/-- One converter (R216 to R231). -/
structure Conv where
  run : Option Conversion      -- sampling
  filter : List Conversion     -- ended, result not yet ready, oldest first
  queue : List Urgent
  seqOn : Bool                 -- the sequence runs or is interrupted
  again : Option Nat           -- the aborted entry that repeats (R229)
  held : Bool                  -- a start is held (R223)
  entry : Nat                  -- entry running, or last run
  winPrev : Option Bool        -- condition of the last examined result since WIN.EN rose (R227)
  tickPre : Nat                -- boundaries since the last TICK trigger
deriving DecidableEq, Repr

/-- CONVCAL.STAT.STATE (R241). -/
inductive CalState where
  | none | running | calibrated | restored | failed | outwin | badsum | applying
deriving DecidableEq, Repr

/-- A back-EMF sample on its way to the Quills (R242). -/
structure Sample where
  coil : Nat             -- 0 A, 1 B
  half : Nat
  tag : Nat
  empty : Bool
  value : Int
  ovr : Bool
  gain : Nat
deriving DecidableEq, Repr

/-- The load observer of one axis (R242 to R258). -/
structure Observer where
  samples : List Sample
  ring : List Nat        -- newest last, at most 4
  margin : Nat
  ylast : Nat
  empties : Nat
  lowcnt : Nat
  collcnt : Nat
  esc : Nat
  rcnt : Nat
  retrying : Bool
  rdwell : Option Nat    -- rest ticks of a retry (R250)
  slow : Bool            -- the slow limit of a retry
  stalled : Bool
  trust : Bool
  tcause : Nat
  blind : Nat            -- BCAUSE; 0 not blind
  econAct : Bool
  refill : Bool          -- KE, POL or EN took effect (R251)
  cal : Option (Nat × Nat) -- a calibration runs: n and REFM
  calState : Nat
  calFail : Nat
  acc : Int
  got : Nat
  velHist : List (Nat × Nat × Bool) -- tag, VEL lane, executed by the grove as computed; newest first, 4 of them (R244)
deriving DecidableEq, Repr

/-- A planner mode (R260). -/
inductive PMode where
  | paired | split | soloA | soloB
deriving DecidableEq, Repr

/-- A recovery or an escalation replay (R274, R276): its disagreement tick k and the tick m that ends it; `quiet`:
no word is handed after it either. -/
structure Recovery where
  k : Nat
  m : Nat
  quiet : Bool
deriving DecidableEq, Repr

/-- A checkpoint written or being written (R267, R268). -/
structure Checkpoint where
  tick : Nat
  slot : Nat
  mode : PMode
  agree : Bool           -- the signatures agreed (or only one was presented)
deriving DecidableEq, Repr

/-- Pairing, checkpoints and recovery (R260 to R282), and what both Quills share. -/
structure Twin where
  mode : PMode
  pending : Option (PMode × Nat)   -- a mode request and the clk of its write
  merging : Option (PMode × Nat)   -- a join: the new mode and the tick of its checkpoint c
  recov : Option Recovery
  takeover : Option (Nat × Nat)    -- the running Quill takes the halted one's groves: halted Quill, tick m (R280)
  haltA : Bool
  haltB : Bool
  haltReq : List (Nat × Nat)       -- Quill and clk of halt requests not yet in effect
  resumeReq : List (Nat × Nat)
  emptyA : Bool                    -- resumed and computing no axis until a join (R280)
  emptyB : Bool
  dead : Bool                      -- both Quills stopped until reset (R276)
  broke : Bool
  verdict : Option Bool            -- verdict sent for the next interval: true AGREE
  lastDis : Option Nat             -- tick of the last disagreement
  committed : Option (Nat × Nat)   -- tick and slot
  writing : Option Checkpoint
  ckLast : Option Nat              -- tick of the last checkpoint boundary
  ckNow : Option Nat               -- clk of a CKNOW write that waits
  ckEarly : Bool
  ckFlag : Bool                    -- the boundary just placed was a checkpoint boundary whose records are frozen
  logRecs : List (Nat × Nat)       -- tick and length of the input-log records in use
  logPos : Nat
  stest : Bool
  pairOk : Bool
  sigErr : Nat                     -- difference between the two signatures to be presented
deriving DecidableEq, Repr

/-- A block of memory whose words the spec leaves device-internal (R267, R269): its words read as free values until
they are written. -/
structure Block where
  lo : Nat
  len : Nat
  id : Nat
deriving DecidableEq, Repr

/-- On-chip memory (R40): the words that differ from what an unlisted address reads as. -/
structure Mem where
  cells : Tab MemWord
  blocks : List Block
  era : Nat              -- power-ups and supply resets so far (R390)
deriving DecidableEq, Repr


/-- Levels of the input balls that the device acts on; `true` is low for the active-low ones (R203, R395, R61). -/
structure Pins where
  fault : Nat            -- bit g: FAULT_N[g] is low
  faultSeen : Nat        -- bit g: that low pulse has been recognised (R203)
  estop : Bool
  estopSeen : Bool
  pfail : Bool
  sel : Bool             -- SEL_N is low
  upd : Bool             -- UPD_IN is high
  updAt : Nat            -- clk of its last change
deriving DecidableEq, Repr

/-- A power state (R399). -/
inductive PState where
  | run | idle | standby | retain
deriving DecidableEq, Repr

/-- Supply, motor-bus and temperature levels in force (R391 to R398); `bus` holds, per grove, the level of M and of OV. -/
structure Levels where
  s : Nat
  t : Nat
  bus : Tab (Nat × Nat)
deriving DecidableEq, Repr

/-- The supervisor (R386 to R407). -/
structure Supv where
  inReset : Bool
  causes : Nat           -- reset causes that are active, by bit (R389)
  lev : Levels           -- levels in force
  view : Levels          -- levels that have reached the Quills (R392)
  changes : List (Nat × Levels) -- clk and levels of changes on their way to the Quills, oldest first
  ps : PState
  target : Option PState -- STANDBY or RETAIN being entered (R402)
  back : PState          -- the state from which STANDBY or RETAIN was entered (R406)
  wakes : Nat            -- wake sources that acted during an entry (R407)
  scrubUe : Bool         -- an uncorrectable word was met in RETAIN (R404)
  enteredAt : Nat        -- clk of the entry into STANDBY or RETAIN
  pfail : Bool           -- PFAIL_N has been low for t_PFF (R395)
  latch : Bool           -- SHEDLATCH (R395)
  latchAt : Nat          -- clk at which it was set (R394)
  t4At : Nat             -- clk at which T4 was entered (R398)
deriving DecidableEq, Repr

/-- What a reply in wait waits for (R303, R305). -/
inductive ReplyWait where
  | fence
  | gatherT (addrs : List Nat)
deriving DecidableEq, Repr

/-- A host port reply (R297 to R301). `wait`: ESTAT and the data are not ready yet. `early`: reply words that the host
has clocked while READY was low, each a repeat of STATUS. -/
structure Reply where
  status : Word
  estat : Word
  data : List Word
  flags : Nat            -- bits 35:32 of the reply trailer (R299)
  driven : List Word     -- the words as driven, the trailer last
  wait : Option ReplyWait
  early : Nat
  cut : Bool             -- the frame ended before the reply did
deriving DecidableEq, Repr

/-- A GATHER_T that waits for its capture boundary (R303): its addresses and the clk of its trailer's last bit. -/
structure Capture where
  addrs : List Nat
  at_ : Nat
  taken : Option (List (Nat × Word)) -- element status and data, captured at its boundary
deriving DecidableEq, Repr

/-- The host port (R285 to R313). -/
structure HostPort where
  up : Bool              -- frames are accepted (R452)
  sync : Bool
  last : Nat             -- LAST of R295
  prevBad : Nat          -- reason code of the previous frame where it was ignored; 0 accepted
  underrun : Bool
  cut : Bool
  gap : Bool
  prevRef : Bool
  prst : Bool
  ta : Nat               -- TA in use from the next frame (R289)
  reply : Option Reply
  capture : Option Capture
  wdRun : Bool           -- the watchdog's countdown runs (R309)
  wdAt : Nat             -- clk at which it was last restarted
deriving DecidableEq, Repr

/-- The phase of a link sleep (SXLINK.PAGE_STAT.SPHASE). -/
inductive SleepPhase where
  | awake | voting | committed | asleep | waking
deriving DecidableEq, Repr

/-- A sleep vote (R357): the cycle C, the nodes present then, those that have sent ACCEPT, whether VETO or WAKE_CANCEL
was seen, this node's own vote, and the SLEEPOP of the latest beacon of C + 5 to C + 7 that was heard. -/
structure Vote where
  c : Nat
  present : Nat
  accepts : Nat
  veto : Bool
  cancel : Bool
  cancelAt : Nat         -- cycle in which the last WAKE_CANCEL was heard
  own : Nat              -- 0 none, 1 ACCEPT, 2 VETO
  heard : Option Nat
  abort : Bool
deriving DecidableEq, Repr

/-- The remote request outstanding (R352). -/
structure RemoteReq where
  target : Nat
  seq : Nat
  words : List Word      -- the RREQ item
  sent : Bool
  cycle : Nat            -- cycle of the GO
deriving DecidableEq, Repr

/-- A ranging measurement of a node's first frame of a cycle (R343): r on each port. -/
structure Ranging where
  node : Nat
  rA : Option Int
  rB : Option Int
deriving DecidableEq, Repr

/-- The values of R109 at one boundary, for a coordinate broadcast (R350). -/
structure CoordAt where
  at_ : Nat
  c : Nat
  v : Int
  t : Nat
deriving DecidableEq, Repr

/-- The Sernyx link (R331 to R365). Instants are clk values. -/
structure Link where
  on : Bool              -- EN as the link last saw it
  heard : Option Nat     -- SFD arrival of the latest beacon heard
  heardN : Nat           -- its cycle number
  ratio : Option (Nat × Nat) -- gck between the last two beacons heard, as counted here and as the schedule has it (R335)
  since : Nat            -- gck, by the schedule, from the origin's beacon to the beginning of the current cycle
  run : Nat              -- beacons of consecutive cycles heard (R345)
  cycle : Nat            -- current cycle number
  cycleAt : Nat          -- clk at which it began
  master : Bool
  masterNode : Option Nat
  nextN : Nat            -- number of the next beacon to send
  sentAt : Option Nat    -- slot start of the last beacon sent
  muted : Bool
  linkup : Bool
  wasTvalid : Bool
  dhatA : Int
  dhatB : Int
  repA : Nat
  repB : Nat
  used : Int             -- d̂ with which the node's first frame of its last sending cycle was placed (R343)
  usedIn : Option Nat    -- that cycle
  portB : Bool           -- the port in use is B
  waitFrom : Nat         -- start of the wait of R346
  dupid : Bool
  majMis : Bool          -- the master has another MAJ (R349)
  schgen : Option Nat    -- SCHGEN of the latest beacon
  schmis : Bool
  floor : Nat
  floorNext : Option Nat
  sched : Option (Tab Word) -- a valid schedule that waits for a cycle start (R336)
  meas : List Ranging    -- frames measured in this cycle
  measPrev : List Ranging
  rnode : Nat            -- node last reported
  lastFrame : Tab Nat    -- per node, the cycle of its last valid frame, plus one
  rq : Option RemoteReq
  seq : Nat              -- SEQ of the next request
  rsp : List (List Word) -- RRSP items that wait, oldest first
  tsLeft : Nat           -- beacons that still carry the timed strobe (R353)
  snap : Option (Nat × List Nat) -- digest snapshot: tag and bytes (R354)
  snapQ : Nat            -- the snapshot's cycle number divided by 16
  digSent : Option Nat   -- q of the digest last sent (R355)
  digQ : Option Nat      -- q of the digest in DLOC
  sphase : SleepPhase
  propose : Bool         -- SLEEP.PROPOSE has been written
  vote : Option Vote
  silent : Nat           -- nodes that sent ACCEPT and were heard in cycle C + 8 (R359)
  late : Option Nat      -- slot start of the beacon of C + 8 that carried ABORT (R359)
  wpend : Bool
  sleptAt : Nat
  patternAt : Option Nat -- end of the wake pattern last driven
  txFrame : List Word    -- the last frame transmitted: header, payload, trailer
  txPattern : Nat        -- wake patterns driven
  coords : List CoordAt  -- latest boundaries, newest first
deriving DecidableEq, Repr


/-- A capture record (R379). -/
structure CapRecord where
  w0 : Word
  w1 : Word
  w2 : Word
  w3 : Word
deriving DecidableEq, Repr

/-- Quadrature, step and capture inputs (R366 to R385). Levels are masks of filtered levels. -/
structure Inputs where
  qa : Nat
  qb : Nat
  cnt : Tab Nat          -- CNT and RAW as they count (R371)
  raw : Tab Nat
  cntNew : Nat           -- channels whose CNTSET took effect since the last boundary (R371)
  dirPos : Nat           -- last directions
  dirDef : Nat
  idxPrev : Tab Nat      -- CNT left by the previous index event, plus one (R374)
  stp : Tab Nat          -- step counts as they count (R375)
  stpLast : Tab Nat      -- clk of occurrence of the last counted edge, plus one (R102)
  cap : Nat
  starts : Tab Nat       -- pending starts of interval units: clk of occurrence (R377)
  fifo : List CapRecord  -- oldest first
  loss : Bool
  shadows : Tab CapRecord -- record shadows by requester (R380)
deriving DecidableEq, Repr


/-- The external memory (R410 to R413): its bytes. An unlisted byte reads 0xFF, erased, and a byte in a block that an
abandoned operation left behind reads as a free value (R424, R433). -/
structure Flash where
  bytes : Tab Nat
  blocks : List Block
deriving DecidableEq, Repr

/-- A flash operation of the host (R420). -/
structure FlashOp where
  op : Nat
  sect : Nat
  word : Nat
  count : Nat
  buf : Nat
deriving DecidableEq, Repr

/-- A journal record on its way to the memory (R422 to R424): its words, and its place: the sector, and the slot. -/
structure JRecord where
  final : Bool
  words : List Word
  sector : Nat
  slot : Nat
deriving DecidableEq, Repr

/-- The loader and the journal (R411 to R427). -/
structure Journal where
  loading : Bool
  loaded : Bool          -- IMAGE_LOAD has run since the release
  op : Option FlashOp    -- host operation running
  finB : Nat             -- second final-record-only sector
  pos : Option (Nat × Nat) -- sector, as an offset from JBASE, and slot of the next record
  writing : Option JRecord
  waiting : Option (List Word) -- a periodic snapshot that waits for a host operation
  erasing : List Nat     -- sectors that the journal is to erase, the one being erased first
  finNext : Nat          -- 0 FINA, 1 FINB: where the next final record of that mode goes
  nextSeq : Nat
  lastSnap : Option Nat  -- clk of the last periodic snapshot
  finalDone : Bool       -- the final record has been taken since the device reset
  finalEnd : Bool        -- its write has ended
  restore : List (Nat × Nat × Bool) -- axes to restore at the next boundary: axis, POS, TRUST (R426)
deriving DecidableEq, Repr

/-- A peripheral queue entry that runs (R430): its words 0 and 2 on, as read. -/
structure PEntry where
  w0 : Word
  tx : List Word
  startAt : Nat
deriving DecidableEq, Repr

/-- The peripheral port (R428 to R433). -/
structure Periph where
  run : Option PEntry
  selHeld : Option (Nat × Nat) -- line held low by CONT and the clk from which CONTMAX counts
  halted : Bool
  endTick : Option Nat   -- boundary number after which a WAITTICK entry may start
  sent : List Word       -- the words last driven on PDIO
deriving DecidableEq, Repr

/-- The Blotter (R458 to R464). -/
structure Blotter where
  wait : Nat             -- boundaries until the next sample
  lost : Nat             -- records discarded since the last that entered
  shed : Bool            -- a shedding level stopped the Blotter (R464)
deriving DecidableEq, Repr

/-- The TAP and its debug registers (R454 to R457). -/
structure Jtag where
  ir : Nat
  busy : Bool
  status : Nat           -- element status of the last access
  data : Word            -- last word read
  out : Nat              -- what the last Capture-DR loaded
  scan : Tab Nat         -- boundary-scan pattern preloaded, by leg (64·g + k): 1 GL, 2 GH, else neither
  extest : Bool
deriving DecidableEq, Repr


/-! Reset values of the units (R7, R73 and each unit's field table). Values that no rule states are DESIGN CHOICE
(log 5). -/

def Plan.init : Plan :=
  { mot := ⟨0, 0, 0⟩, phase := 0, lag := 0, halted := false, cstopWas := false, stopReq := false, stopLim := none,
    modeNew := false, xsetNew := false, xtgtNew := false, xtgtAt := 0, rankWas := none, rankTgt := none,
    rankRun := none, stgt := 0, gtgt := 0, cPrev := 0, mPrev := 0, gacc := 0, anchorDue := false,
    lanes := ⟨0, 0, 0, 4095⟩, endP := 0 }

def Queue.init : Queue :=
  { head := 0, tail := 0, act := none, ready := none, dwell := none, relBase := none, lastDone := none, lastLim := none,
    holding := false, tunder := 0, fault := 0, stroke := none, waiting := [] }

def Rank.init : Rank :=
  { phase := .idle, broken := false, landedNow := false, vphase := 0, virt := ⟨0, 0, 0⟩, lim := ⟨0, 0, 0, 0, 0⟩, u := 0, lead := 0, startAt := 0, members := [] }

def Scribe.init : Scribe :=
  { c := 0, mvel := 0, macc := 0, hfrac := 0, rawPrev := 0, hist := List.replicate 256 0, hwm := 0, ldmax := 0,
    reanchor := false, msetAt := none, msetNow := false, broadcast := none, mlost := false, running := false,
    table := [], fetched := 0, xprev := none, fires := [], chkBusy := none }

def GWord.init : GWord := ⟨0, 0, 0, 4095⟩

def GAxis.init : GAxis :=
  { w0 := .init, w1 := .init, accepted := none, refused := false, copyA := none, copyB := none, still := 0, base := 0,
    ampSrc := 0, cuRose := false, rp := 0, rv := 0, extraN := 0, xact := 0, vact := 0, ipos := none, quarter := none }

def Coil.init : Coil :=
  { st := .off, s := 0, started := false, hadDrive := false, zeroSeen := false, srcNeg := false, driveMag := 0,
    mag := 0, neg := false, th := 0, half := 0, driveIn := false, winIn := false, tripped := false,
    ton := 0, blankEnd := none, decayAt := 0, fast := false, fastUsed := 0, fastt := 0, win := none,
    resumeAt := none, enabledAt := 0, ran := false, full := false, dmode := 0, tonS := 0, amp := 0 }

def Delay.init : Delay := ⟨false, 0, false, 0⟩

def Leg.init : Leg :=
  { cmd := 0, tag := 0, tagMag := 0, gh := false, gl := false, offHi := none, offLo := none, turnOn := none,
    meas := none, cls := 0, dtlast := 0, node := 0, nodeAt := 0, overlap := false, events := [],
    dly := List.replicate 4 Delay.init }

/-- Every grove leaves reset tripped with cause RESET (R201). -/
def Grove.init : Grove :=
  { tick := 0, lastB := 0, token := false, ownStep := false, missing := 0, extrap := false,
    carStart := 0, carPeriod := 16000, carIlv := true, carOff := [], carNo := 0, evOcc := List.replicate 6 0, evNext := List.replicate 6 0,
    tripped := true, safe := false, tripAt := 0, causes := 1, first := 0, ttime := 0, ramp := none, held := none, due := 0 }

def Conv.init : Conv :=
  { run := none, filter := [], queue := [], seqOn := false, again := none, held := false, entry := 0,
    winPrev := none, tickPre := 0 }

def Observer.init : Observer :=
  { samples := [], ring := [], margin := 0x3FF, ylast := 0, empties := 0, lowcnt := 0, collcnt := 0, esc := 4095,
    rcnt := 0, retrying := false, rdwell := none, slow := false, stalled := false, trust := false, tcause := 5,
    blind := 1, econAct := false, refill := false, cal := none, calState := 0, calFail := 0, acc := 0, got := 0,
    velHist := [] }

/-- R261, R281: SPLIT, and the self-test runs. -/
def Twin.init : Twin :=
  { mode := .split, pending := none, merging := none, recov := none, takeover := none, haltA := false,
    haltB := false, haltReq := [], resumeReq := [], emptyA := false, emptyB := false, dead := false, broke := false,
    verdict := none, lastDis := none, committed := none, writing := none, ckLast := none, ckNow := none,
    ckEarly := false, ckFlag := false, logRecs := [], logPos := 0, stest := true, pairOk := false, sigErr := 0 }

def SourceState.init : SourceState := ⟨false, 0, false, none, none⟩

/-- R315: NOW is 0, the first boundary is G_1 of the default grid. -/
def Timebase.init : Timebase :=
  { now := 0, nowRem := 0, src := 0, srcRem := 0, rate := 0, slew := 0, slewing := false, sel := .xtal,
    sx := .init, pps := .init, holdover := false, locked := false, gnext := 3435973, grem := 334720000, gofs := 0,
    bnext := 3435973, lastB := 0, tper := 20000, tgrid := 0, tperAt := none, tgridAt := none,
    epochPending := none, started := false, stepAt := 0 }

def Access.init : Access := ⟨[], [], [], []⟩

def Mem.init : Mem := ⟨[], [], 0⟩

def Pins.init : Pins := ⟨0, 0, false, false, false, false, false, 0⟩

def Levels.none : Levels := ⟨0, 0, []⟩

/-- R399: after reset release the device is in RUN. -/
def Supv.init : Supv :=
  { inReset := false, causes := 0, lev := .none, view := .none, changes := [], ps := .run, target := none, back := .run,
    wakes := 0, scrubUe := false, enteredAt := 0, pfail := false, latch := false, latchAt := 0, t4At := 0 }

/-- R295, R307, R452: sync state, after a host port reset; frames are accepted from t_HRDY after the release on. -/
def HostPort.init : HostPort :=
  { up := false, sync := true, last := 0, prevBad := 0, underrun := false, cut := false, gap := false, prevRef := false,
    prst := true, ta := 1, reply := none, capture := none, wdRun := false, wdAt := 0 }

/-- R345: muted; the link is disabled. -/
def Link.init : Link :=
  { on := false, heard := none, heardN := 0, ratio := none, since := 0, run := 0, cycle := 0, cycleAt := 0, master := false,
    masterNode := none, nextN := 0, sentAt := none, muted := true, linkup := false, wasTvalid := false,
    dhatA := 0, dhatB := 0, repA := 0, repB := 0, used := 0, usedIn := none, portB := false, waitFrom := 0, dupid := false,
    majMis := false, schgen := none, schmis := false, floor := 0, floorNext := none, sched := none, meas := [],
    measPrev := [], rnode := 0, lastFrame := [], rq := none, seq := 0, rsp := [], tsLeft := 0, snap := none, snapQ := 0,
    digSent := none, digQ := none, sphase := .awake, propose := false, vote := none, silent := 0, late := none,
    wpend := false, sleptAt := 0, patternAt := none, txFrame := [], txPattern := 0, coords := [] }

def Inputs.init : Inputs :=
  { qa := 0, qb := 0, cnt := [], raw := [], cntNew := 0, dirPos := 0, dirDef := 0, idxPrev := [], stp := [], stpLast := [], cap := 0,
    starts := [], fifo := [], loss := false, shadows := [] }

/-- The memory on the board is erased until the board or the device says otherwise (log 6). -/
def Flash.init : Flash := ⟨[], []⟩

/-- R418: LOADING reads 1 from reset release. -/
def Journal.init : Journal :=
  { loading := true, loaded := false, op := none, finB := 0, pos := none,
    writing := none, waiting := none, erasing := [], finNext := 0, nextSeq := 0, lastSnap := none,
    finalDone := false, finalEnd := false, restore := [] }

def Periph.init : Periph := { run := none, selHeld := none, halted := false, endTick := none, sent := [] }

def Blotter.init : Blotter := ⟨0, 0, false⟩

/-- Test-Logic-Reset selects IDCODE, as IEEE 1149.1 has it (log 7). -/
def Jtag.init : Jtag := { ir := 0x3E, busy := false, status := 0, data := 0, out := 0, scan := [], extest := false }


/-- The device: everything the spec gives the block. Registers hold the values in effect under
`page · 1,024 + offset`; tables are sparse, an unlisted entry is at its reset value. -/
structure Dev where
  variant : Variant
  clk : Nat                       -- gck since the last device reset
  draws : Nat                     -- the model's own: free values drawn so far
  seq : Nat                       -- serial number of the next shadow write
  regs : Tab Word
  hist : List (Nat × Tab Word)    -- registers before each change of the last 64 gck (R144)
  shadow : Tab Shadow
  strobes : List Strobe
  mem : Mem
  acc : Access
  tb : Timebase
  plans : Tab Plan
  queues : Tab Queue
  obs : Tab Observer
  gax : Tab GAxis
  ranks : Tab Rank
  scr : Scribe
  groves : Tab Grove
  coils : Tab Coil                -- 32·g + j
  legs : Tab Leg                  -- 64·g + k
  convs : Tab Conv                -- 4·g + i
  cals : Tab CalState
  tw : Twin
  pins : Pins
  sup : Supv
  tk : Nat                        -- number of the last boundary, not reduced
  rose : Tab Nat                  -- PAGE_EVT bits set since the last boundary, by page (R461)
  due : Tab Nat                   -- rests that have run out and whose end has not been taken, by axis (R78, R90, R131, R151, R250)
  hp : HostPort
  lk : Link
  inp : Inputs
  fl : Flash
  jr : Journal
  pp : Periph
  bl : Blotter
  tap : Jtag
deriving DecidableEq, Repr

/-- The device after a reset, for a variant: every unit at its reset value. -/
def Dev.init (v : Variant) : Dev :=
  { variant := v, clk := 0, draws := 0, seq := 0, regs := [], hist := [], shadow := [], strobes := [], mem := .init,
    acc := .init, tb := .init, plans := [], queues := [], obs := [], gax := [], ranks := [], scr := .init, groves := [],
    coils := [], legs := [], convs := [], cals := [], tw := .init, pins := .init, sup := .init, tk := 0, rose := [],
    due := [], hp := .init, lk := .init, inp := .init, fl := .init, jr := .init, pp := .init, bl := .init, tap := .init }

/-- The state of the model: the device, the telemetry samples of the last two boundaries (R66), the levels of the gate
balls that follow from the device (0 both low or released, 1 GL high, 2 GH high; key 64·g + k; R182), and the commands
that wait. -/
structure State where
  dev : Dev
  tele1 : Dev            -- the device as it was sampled at the last boundary, after steps 1 to 4 of R26
  tele2 : Dev            -- the same of the boundary before
  balls : Tab Nat
  pending : List Instr
deriving DecidableEq, Repr

/-- Why the block stops. No command of the table is without an effect in the spec, so nothing raises it: the type is
the interface's, and its one constructor is kept for a later repair. Safe: it never occurs. -/
inductive Fault where
  /-- Raised by no command. Safe. -/
  | stuck
deriving DecidableEq, Repr

/-- Why a command is refused. -/
inductive Refusal where
  /-- The command has no meaning in the model yet; raised by exec's arms only. Safe: the machine stops. -/
  | notModelled (mnemonic : String)
deriving DecidableEq, Repr

/-- The machine right after reset (R7, R261, R315, R389, R399, R452): an FD9128 whose reset of cause POR has been
released. Nothing waits. -/
def State.reset : State :=
  { dev := .init .fd9128, tele1 := .init .fd9128, tele2 := .init .fd9128, balls := [], pending := [] }

end Sys2Proof.Machine
end

