-- ==== Sys2Proof/Machine/Ops.lean ====
section
/-!
DEFINITION. The named operations on the device that every unit uses: registers, events and counters, memory with
its check bits (R40), update strobes (R59, R60), free values, and the tables of axes, groves, coils, legs and
converters.
-/
namespace Sys2Proof.Machine

/-! ### Registers -/

def key (p off : Nat) : Nat := p * 1024 + off

/-- The value in effect of a register's stored fields. -/
def Dev.rd (d : Dev) (p off : Nat) : Word := d.regs.get (key p off) (resetWord d.variant (key p off))

def Dev.wr (d : Dev) (p off : Nat) (w : Word) : Dev :=
  { d with regs := d.regs.set (key p off) w (resetWord d.variant (key p off)) }

/-- A field of a register. -/
def Dev.rf (d : Dev) (p off hi lo : Nat) : Nat := fld (d.rd p off) hi lo

/-- A one-bit field. -/
def Dev.rb (d : Dev) (p off i : Nat) : Bool := bit (d.rd p off) i

def Dev.wf (d : Dev) (p off hi lo v : Nat) : Dev := d.wr p off (setFld (d.rd p off) hi lo v)

/-- A counter field that saturates. -/
def Dev.incSat (d : Dev) (p off hi lo : Nat) : Dev :=
  let v := d.rf p off hi lo
  if v + 1 < 2 ^ (hi - lo + 1) then d.wf p off hi lo (v + 1) else d

/-- A counter field that wraps, advanced by `n`. -/
def Dev.incWrap (d : Dev) (p off hi lo n : Nat) : Dev := d.wf p off hi lo (d.rf p off hi lo + n)

/-- Sets bits of PAGE_EVT; the Blotter keeps every bit that the device sets in a tick, risen or not (R461). -/
def Dev.evt (d : Dev) (p : Nat) (mask : Nat) : Dev :=
  let old := (d.rd p Reg.PAGE_EVT).toNat
  let d1 := d.wr p Reg.PAGE_EVT (BitVec.ofNat 36 (old ||| mask))
  { d1 with rose := d1.rose.set p (d1.rose.get p 0 ||| mask) 0 }

/-- Sets one event bit. -/
def Dev.ev (d : Dev) (p i : Nat) : Dev := d.evt p (2 ^ i)

/-- A 72-bit value in two adjacent registers. -/
def Dev.wr72 (d : Dev) (p off v : Nat) : Dev :=
  (d.wr p off (BitVec.ofNat 36 v)).wr p (off + 1) (BitVec.ofNat 36 (v / 2 ^ 36))

def Dev.rd72 (d : Dev) (p off : Nat) : Nat := (d.rd p off).toNat + (d.rd p (off + 1)).toNat * 2 ^ 36

/-- Keeps the registers as they are for R144 before a change, and forgets what is older than 64 gck. -/
def Dev.note (d : Dev) : Dev :=
  { d with hist := (d.clk, d.regs) :: d.hist.filter (fun e => decide (d.clk < e.1 + 64)) }

/-- The registers in effect at an instant at most 64 gck before now: those kept by the first change after it. -/
def regsAt (now : Tab Word) (t : Nat) : List (Nat × Tab Word) → Tab Word
  | [] => now
  | (c, r) :: rest => if t < c then regsAt r t rest else now

/-- The device with its registers as they were at instant `t` (R144). -/
def Dev.asOf (d : Dev) (t : Nat) : Dev := { d with regs := regsAt d.regs t d.hist }

/-! ### Free values -/

/-- Draws a free value: its number, and the device with the counter advanced. -/
def Dev.draw (d : Dev) : Nat × Dev := (d.draws, { d with draws := d.draws + 1 })

/-! ### Tables -/

def Dev.plan (d : Dev) (n : Nat) : Plan := d.plans.get n .init
def Dev.setPlan (d : Dev) (n : Nat) (x : Plan) : Dev := { d with plans := d.plans.set n x .init }
def Dev.queue (d : Dev) (n : Nat) : Queue := d.queues.get n .init
def Dev.setQueue (d : Dev) (n : Nat) (x : Queue) : Dev := { d with queues := d.queues.set n x .init }
def Dev.ob (d : Dev) (n : Nat) : Observer := d.obs.get n .init
def Dev.setOb (d : Dev) (n : Nat) (x : Observer) : Dev := { d with obs := d.obs.set n x .init }
def Dev.ga (d : Dev) (n : Nat) : GAxis := d.gax.get n .init
def Dev.setGa (d : Dev) (n : Nat) (x : GAxis) : Dev := { d with gax := d.gax.set n x .init }
def Dev.rank (d : Dev) (r : Nat) : Rank := d.ranks.get r .init
def Dev.setRank (d : Dev) (r : Nat) (x : Rank) : Dev := { d with ranks := d.ranks.set r x .init }
def Dev.grove (d : Dev) (g : Nat) : Grove := d.groves.get g .init
def Dev.setGrove (d : Dev) (g : Nat) (x : Grove) : Dev := { d with groves := d.groves.set g x .init }
def Dev.coil (d : Dev) (c : Nat) : Coil := d.coils.get c .init
def Dev.setCoil (d : Dev) (c : Nat) (x : Coil) : Dev := { d with coils := d.coils.set c x .init }
def Dev.leg (d : Dev) (l : Nat) : Leg := d.legs.get l .init
def Dev.setLeg (d : Dev) (l : Nat) (x : Leg) : Dev := { d with legs := d.legs.set l x .init }
def Dev.conv (d : Dev) (i : Nat) : Conv := d.convs.get i .init
def Dev.setConv (d : Dev) (i : Nat) (x : Conv) : Dev := { d with convs := d.convs.set i x .init }
def Dev.calSt (d : Dev) (g : Nat) : CalState := d.cals.get g .none
def Dev.setCal (d : Dev) (g : Nat) (x : CalState) : Dev := { d with cals := d.cals.set g x .none }

/-- `f` over 0 … n−1, in ascending order. -/
def Dev.each (d : Dev) (n : Nat) (f : Dev → Nat → Dev) : Dev := (List.range n).foldl f d

/-- `f` over every present grove. -/
def Dev.eachGrove (d : Dev) (f : Dev → Nat → Dev) : Dev := d.each d.variant.groves f

/-- `f` over every present axis. -/
def Dev.eachAxis (d : Dev) (f : Dev → Nat → Dev) : Dev := d.each d.variant.axes f

def Dev.hasGrove (d : Dev) (g : Nat) : Bool := decide (g < d.variant.groves)
def Dev.hasAxis (d : Dev) (n : Nat) : Bool := decide (n < d.variant.axes)

/-! ### Memory (R40) -/

/-- What an unlisted address reads as: a free value in a block whose contents are device-internal, else the
unwritten word. -/
def blockDflt (era a : Nat) : List Block → MemWord
  | [] => MemWord.unwritten era a
  | b :: t => if b.lo ≤ a ∧ a < b.lo + b.len then ⟨Config.imageWord b.id (a - b.lo), .clean⟩ else blockDflt era a t

def Mem.dflt (m : Mem) (a : Nat) : MemWord := blockDflt m.era a m.blocks

/-- The word at an address. -/
def Mem.at (m : Mem) (a : Nat) : MemWord := m.cells.get a (m.dflt a)

/-- A whole-word write stores good check bits (R40). -/
def Mem.put (m : Mem) (a : Nat) (w : Word) : Mem := { m with cells := m.cells.set a ⟨w, .clean⟩ (m.dflt a) }

/-- The cells outside a range. -/
def cellsOutside (lo len : Nat) (c : Tab MemWord) : Tab MemWord :=
  c.filter (fun e => decide (¬ (lo ≤ e.1 ∧ e.1 < lo + len)))

/-- A block write of device-internal words: from now on they read as free values. -/
def Mem.putBlock (m : Mem) (b : Block) : Mem :=
  { era := m.era, cells := cellsOutside b.lo b.len m.cells,
    blocks := b :: m.blocks.filter (fun x => decide (¬ (b.lo ≤ x.lo ∧ x.lo + x.len ≤ b.lo + b.len))) }

/-- The canonical form: addresses strictly rise and no cell equals what its address reads as unlisted. -/
def Mem.wf (m : Mem) : Bool := Tab.wf m.dflt m.cells

/-- Whether the variant has the address (R34). -/
def Dev.hasMem (d : Dev) (a : Nat) : Bool := decide (a < d.variant.memWords)

def Dev.memPut (d : Dev) (a : Nat) (w : Word) : Dev := if d.hasMem a then { d with mem := d.mem.put a w } else d

/-- What a memory read found. -/
inductive MemRead where
  | ok (w : Word)
  | uncorrectable
deriving DecidableEq, Repr

/-- The word and the check bits left after a read that corrects a single-bit error by writing the word back. -/
def Mem.scrubbed (m : Mem) (a : Nat) : Mem := m.put a (m.at a).data

/-- A read under R40: a single-bit error is corrected, written back and counted; an uncorrectable word counts, latches
its address and sets its event. -/
def Dev.memGet (d : Dev) (a : Nat) : MemRead × Dev :=
  match (d.mem.at a).ecc with
  | .clean => (.ok (d.mem.at a).data, d)
  | .single =>
    (.ok (d.mem.at a).data,
      (({ d with mem := d.mem.scrubbed a }).incSat pgCanopy Reg.canopy.ECC 23 12).ev pgCanopy 3)
  | .double =>
    (.uncorrectable,
      ((d.incSat pgCanopy Reg.canopy.ECC 11 0).wf pgCanopy Reg.canopy.ECC_ADDR 21 0 a).ev pgCanopy 4)

/-- Reads of consecutive words: none where one is uncorrectable. -/
def Dev.memGets (d : Dev) (a : Nat) : Nat → Option (List Word) × Dev
  | 0 => (some [], d)
  | n + 1 =>
    let (r, d1) := d.memGet a
    let (rs, d2) := d1.memGets (a + 1) n
    match r, rs with
    | .ok w, some ws => (some (w :: ws), d2)
    | _, _ => (none, d2)

/-- Base address and size in words of region `i` (R41). -/
def Dev.part (d : Dev) (i : Nat) : Nat × Nat :=
  let w := d.rd pgCanopy (Reg.canopy.PART + i)
  (fld w 7 0 * 0x4000, fld w 24 16 * 0x4000)

/-! ### Update groups and strobes (R57 to R60) -/

/-- The update group of a page. -/
def Dev.group (d : Dev) (p : Nat) : Nat := d.rf p Reg.PAGE_UPD 4 0

/-- Whether a page holds a shadow not yet applied (PAGE_UPD.PEND). -/
def Dev.pend (d : Dev) (p : Nat) : Bool :=
  d.shadow.any (fun e => e.1 / 1024 == p) ||
    d.strobes.any (fun s => s.captured.any (fun c => c.key / 1024 == p))

/-- An update strobe arrives at the planner island: it includes the shadows present now (R60). Bits 0 and 31 of the
mask have no effect (R59). -/
def Dev.strobe (d : Dev) (mask : Nat) : Dev :=
  let caps := (d.shadow.filter (fun e =>
      let g := d.group (e.1 / 1024)
      decide (0 < g ∧ g < 31) && mask.testBit g)).map (fun e => ⟨e.1, e.2.seq, e.2.val⟩)
  { d with strobes := d.strobes ++ [⟨mask, d.clk, caps⟩] }

/-- A write to the shadow of a register (R58). -/
def Dev.shadowPut (d : Dev) (p off : Nat) (w : Word) : Dev :=
  { d with shadow := d.shadow.put (key p off) ⟨w, d.clk, d.seq⟩, seq := d.seq + 1 }

/-- The value a write through an alias starts from: the shadow, or the value in effect (R53). -/
def Dev.pendingWord (d : Dev) (p off : Nat) : Word :=
  match d.shadow.look (key p off) with
  | some s => s.val
  | none => d.rd p off

/-! ### Conditions used by several units -/

/-- msc of R152, hold_forced of R151 and OVDLIM in force for a grove (R397). -/
def Levels.m (l : Levels) (g : Nat) : Nat := (l.bus.get g (0, 0)).1
def Levels.ov (l : Levels) (g : Nat) : Nat := (l.bus.get g (0, 0)).2
/-- The levels that were in force at instant `t`, at most 64 gck ago (R397): a change stays listed until it has reached
the Quills, at least 173 gck later. -/
def Dev.levAt (d : Dev) (t : Nat) : Levels :=
  match (d.sup.changes.filter (fun c => decide (c.1 ≤ t))).getLast? with
  | some c => c.2
  | none => d.sup.view

/-- msc for what is computed at instant `t`. -/
def Dev.mscAt (d : Dev) (g t : Nat) : Nat := if 1 ≤ (d.levAt t).m g then d.rf pgSupv (Reg.supv.MBCFG + g) 35 27 else 256
def Dev.holdForced (d : Dev) (g : Nat) : Bool := decide (3 ≤ d.sup.lev.m g)

/-- CANOPY.PAGE_STAT.DATA_IDLE (R69). -/
def Dev.dataIdle (d : Dev) : Bool :=
  (List.range d.variant.groves).all (fun g => !d.rb (pgGrove g) Reg.PAGE_CTRL 0) &&
  !(d.variant.full && (d.scr.running || d.rb pgScribe Reg.PAGE_CTRL 0)) &&
  !(d.rb pgBlot Reg.blot.CTRL 0 || d.rb pgBlot Reg.blot.CTRL 1) &&
  d.queues.all (fun e => e.2.head == e.2.tail)

/-- The load L of R31 for a planner mode (R260, R261). -/
def loadOf (v : Variant) (m : PMode) : Nat :=
  if v.full then (match m with | .split => v.axes / 2 | _ => v.axes) else v.axes

/-- R31 for a tick period and a load: f_tk·L ≤ 5,120,000 per second, f_tk from 5 to 80 kHz. -/
def rateOk (tper load : Nat) : Bool := decide (5000 ≤ tper ∧ tper ≤ 80000 ∧ 400000000 * load ≤ 5120000 * tper)

/-- Whether Quill `q` (0 A, 1 B) computes grove `g` in mode `m` (R32, R260). -/
def computes (v : Variant) (m : PMode) (q g : Nat) : Bool :=
  decide (g < v.groves) &&
  (if v.full then
    match m with
    | .paired => true
    | .split => if q = 0 then decide (2 * g < v.groves) else decide (v.groves ≤ 2 * g)
    | .soloA => decide (q = 0)
    | .soloB => decide (q = 1)
  else decide (q = 0))

/-- Whether Quill `q` runs: neither halted nor stopped nor without axes (R276, R280). -/
def Dev.quillRuns (d : Dev) (q : Nat) : Bool :=
  !d.tw.dead && (if q = 0 then !d.tw.haltA && !d.tw.emptyA else d.variant.full && !d.tw.haltB && !d.tw.emptyB)

/-- Whether some running Quill computes axis n. -/
def Dev.computed (d : Dev) (n : Nat) : Bool :=
  [0, 1].any (fun q => d.quillRuns q && computes d.variant d.tw.mode q (n / 16))

/-- TRUST clears on cause `c` (R252). -/
def Dev.loseTrust (d : Dev) (n c : Nat) : Dev :=
  let o := d.ob n
  if o.trust then (d.setOb n { o with trust := false, tcause := c }).ev (pgAxis n) 17 else d

end Sys2Proof.Machine
end

