-- ==== Sys2Proof/Machine/ConvCore.lean ====
section
/-!
DEFINITION. The ΣΔ converters (R216 to R231): the modulator clock, sequences and their triggers, urgent conversions
and their placement, and results.
-/
namespace Sys2Proof.Machine

/-- The first modulator edge of grove `g` at or after instant `t` (R216). -/
def modEdge (g t : Nat) : Nat :=
  let ph := Config.modPhase g % 20
  t + (ph + 20 - t % 20) % 20

/-- Sampling time of an entry word in gck (R219). -/
def sampleTime (w : Word) : Nat := 20 * (fld w 23 16 + 64 * 2 ^ fld w 26 24)

/-- The page of converter `c` = 4·g + i. -/
def pgCv (c : Nat) : Nat := pgConv (c / 4) (c % 4)

def Dev.calRuns (d : Dev) (g : Nat) : Bool := d.calSt g == .running
def Dev.calApplies (d : Dev) (g : Nat) : Bool := d.calSt g == .applying

/-- The calibration gate of a grove (R236). -/
def Dev.gateOpen (d : Dev) (g : Nat) : Bool := d.calSt g == .calibrated || d.calSt g == .restored

/-- Whether the converter's urgent side is free (R228). -/
def Conv.free (c : Conv) : Bool :=
  (match c.run with
    | some r => r.urgent.isNone
    | none => true) && c.queue.isEmpty

def Conv.urgentRuns (c : Conv) : Bool :=
  match c.run with
  | some r => r.urgent.isSome
  | none => false

/-- Starts entry `e` of the sequence at instant `t`, reading ENTe (R221). -/
def startEntry (d : Dev) (c e : Nat) (rerun : Bool) (t : Nat) : Dev :=
  let w := d.rd (pgCv c) (Reg.conv.ENT + e)
  d.setConv c { d.conv c with
    run := some ⟨e, w, rerun, none, 0, 0, 0, t, t + sampleTime w⟩, seqOn := true, again := none, entry := e }

/-- The entry word of an urgent conversion: the coil's leg pair, SETTLE 0, PATH SHORT (R217). -/
def urgentWord (u : Urgent) : Word :=
  BitVec.ofNat 36 (u.gain * 2 ^ 28 + u.osr * 2 ^ 24 + 2 ^ 8 + (0x20 + 2 * u.coil))

/-- Starts an urgent conversion at instant `t`. -/
def startUrgent (d : Dev) (c : Nat) (u : Urgent) (t : Nat) : Dev :=
  let w := urgentWord u
  d.setConv c { d.conv c with run := some ⟨0, w, false, some u, 0, 0, 0, t, t + sampleTime w⟩ }

/-- What the converter goes on with at instant `t` when nothing samples: its queue, its interrupted sequence, or a held
start (R223, R229, R230). -/
def convNext (d : Dev) (c t : Nat) : Dev :=
  let v := d.conv c
  if v.run.isSome then d
  else match v.queue with
    | u :: rest => startUrgent (d.setConv c { v with queue := rest }) c u t
    | [] =>
      if d.calApplies (c / 4) ∧ c % 4 = 0 then d
      else match v.again with
        | some e => startEntry d c e true t
        | none => if v.held then startEntry (d.setConv c { v with held := false }) c 0 false t else d

/-- An ignored trigger (R223). -/
def ignoreTrigger (d : Dev) (c : Nat) : Dev := (d.incSat (pgCv c) Reg.conv.TOVRCNT 23 0).ev (pgCv c) 2

/-- A trigger or CTRL.START reaches the sequence of converter `c` (R222 to R224, R232). -/
def convTrigger (d : Dev) (c : Nat) : Dev :=
  let v := d.conv c
  if !d.rb (pgCv c) Reg.conv.CTRL 16 then d
  else if d.calRuns (c / 4) ∨ v.seqOn ∨ v.held then ignoreTrigger d c
  else if v.urgentRuns ∨ !v.queue.isEmpty ∨ (d.calApplies (c / 4) ∧ c % 4 = 0) then d.setConv c { v with held := true }
  else startEntry d c 0 false (modEdge (c / 4) (d.clk + 1))

/-- Offers a trigger of source `src` and selection `sel` to every sequence of a grove (R222). -/
def offerTrigger (d : Dev) (g src sel : Nat) : Dev :=
  d.each 4 (fun d i =>
    let t := d.rd (pgConv g i) Reg.conv.TRIG
    if fld t 2 0 = src ∧ (src = 1 ∨ fld t 12 8 = sel) then convTrigger d (4 * g + i) else d)

/-- The TICK trigger at a boundary of the grove: every (PRE + 1)-th (R222). -/
def tickTrigger (d : Dev) (g : Nat) : Dev :=
  d.each 4 (fun d i =>
    let c := 4 * g + i
    let t := d.rd (pgConv g i) Reg.conv.TRIG
    if fld t 2 0 ≠ 1 then d
    else
      let v := d.conv c
      if fld t 23 16 ≤ v.tickPre then convTrigger (d.setConv c { v with tickPre := 0 }) c
      else d.setConv c { v with tickPre := v.tickPre + 1 })

/-- A sequence entry is aborted by urgent work or by an APPLY (R229, R235). An entry that still waits for its start edge
is not running: a repeat waits again, and a first entry's start is held (R231; DEDUCED, log 21). -/
def abortEntry (d : Dev) (c : Nat) : Dev :=
  let v := d.conv c
  match v.run with
  | some r =>
    if r.urgent.isSome then d
    else if d.clk < r.startAt then
      if r.rerun then d.setConv c { v with run := none, again := some r.entry }
      else d.setConv c { v with run := none, seqOn := false, held := true }
    else ((d.setConv c { v with run := none, again := some r.entry }).incSat (pgCv c) Reg.conv.PCNT 23 0).ev (pgCv c) 3
  | none => d

/-- Runs a request on a free converter (R229, step 1 and 2). -/
def runUrgent (d : Dev) (c : Nat) (u : Urgent) : Dev :=
  startUrgent (abortEntry d c) c u (modEdge (c / 4) (d.clk + 1))

/-- R228: places a request; `false` where it is refused. -/
def placeRequest (d : Dev) (g : Nat) (u : Urgent) : Bool × Dev :=
  let c := 4 * g + u.named
  if (d.conv c).free then (true, runUrgent d c u)
  else
    match (List.range 4).find? (fun i => i != u.named && (d.conv (4 * g + i)).free && d.rb (pgConv g i) Reg.conv.CTRL 8) with
    | some i => (true, (runUrgent d (4 * g + i) u).incSat (pgConv g i) Reg.conv.RDRCNT 23 0)
    | none =>
      let v := d.conv c
      if v.queue.length < 4 then (true, d.setConv c { v with queue := v.queue ++ [u] })
      else (false, (d.incSat (pgCv c) Reg.conv.MCNT 23 0).ev (pgCv c) 4)

/-- Removes the running or queued request of coil `j` of grove `g` from its converter; answers whether it was sampling
or queued (R230). -/
def removeRequest (d : Dev) (g j : Nat) : Bool × Dev :=
  (List.range 4).foldl (fun acc i =>
    let (found, d) := acc
    let c := 4 * g + i
    let v := d.conv c
    let mine : Bool := match v.run with
      | some r => (match r.urgent with
        | some u => u.coil == j
        | none => false)
      | none => false
    let q := v.queue.filter (fun u => u.coil != j)
    if mine then (true, convNext (d.setConv c { v with run := none, queue := q }) c (modEdge g (d.clk + 1)))
    else if q.length < v.queue.length then (true, d.setConv c { v with queue := q })
    else (found, d)) (false, d)

/-- The sequence of converter `c` is aborted without a count (R224, R232). -/
def dropSequence (d : Dev) (c : Nat) : Dev :=
  let v := d.conv c
  let run := match v.run with
    | some r => if r.urgent.isNone then none else some r
    | none => none
  d.setConv c { v with run := run, seqOn := false, again := none, held := false }

/-- The end of a sequence entry's sampling (R221). -/
def entryEnd (d : Dev) (c e t : Nat) : Dev :=
  if d.rf (pgCv c) Reg.conv.CTRL 3 0 ≤ e then
    let d1 := (d.incWrap (pgCv c) Reg.conv.SEQCNT 35 0 1).ev (pgCv c) 0
    if d.rb (pgCv c) Reg.conv.CTRL 4 then startEntry d1 c 0 false t
    else d1.setConv c { d1.conv c with seqOn := false }
  else startEntry d c (e + 1) false t

/-- Sampling ends on converter `c`: the result goes to the filter (R225), and the converter goes on. -/
def samplingEnd (d : Dev) (c : Nat) (r : Conversion) : Dev :=
  let v := d.conv c
  let d1 := d.setConv c { v with run := none, filter := v.filter ++ [r] }
  match r.urgent with
  | some _ => convNext d1 c r.endAt
  | none => entryEnd d1 c r.entry r.endAt

/-- R225: the corrected value and OVR of a raw result. -/
def correct (raw ofs gc : Int) (overload : Bool) : Int × Bool :=
  let c := rhe ((raw - ofs) * (65536 + gc)) 65536
  if 8388607 < c then (8388607, true) else if c < -8388608 then (-8388608, true) else (c, overload)

/-- The value and OVR for converter `c` at gain code `gn`. -/
def Dev.corrected (d : Dev) (c gn : Nat) (raw : Int) (overload : Bool) : Int × Bool :=
  let f := d.rd (pgCal (c / 4)) (Reg.convcal.CFACT + 8 * (c % 4) + gn)
  correct raw (sfld f 15 0) (sfld f 31 16) overload

/-- A result word (R226). -/
def resultWord (e : Nat) (ovr rerun urg win : Bool) (v : Int) : Word :=
  BitVec.ofNat 36 (e * 2 ^ 32 + bnat ovr * 2 ^ 31 + bnat rerun * 2 ^ 30 + bnat urg * 2 ^ 29 + bnat win * 2 ^ 28 + unsgn 28 v)

/-- TNOW from a corrected die-temperature value (R237). -/
def tnowOf (v : Int) : Nat := unsgn 16 (400 + rhe ((v - 4194304) * 75) 65536)

/-- TNOW takes a new value; DRIFT while the gate is open (R237). -/
def setTnow (d : Dev) (g : Nat) (v : Int) : Dev :=
  let t := tnowOf v
  let d1 := d.wr (pgCal g) Reg.convcal.TNOW (BitVec.ofNat 36 (2 ^ 35 + t))
  let diff := absI (sgn 16 t - sfld (d.rd (pgCal g) Reg.convcal.CALTEMP) 15 0)
  if d.gateOpen g ∧ (16 * d.rf (pgCal g) Reg.convcal.TWIN 5 0 : Nat) < diff then d1.ev (pgCal g) 2 else d1

/-- R227: whether a value meets the condition of the window comparator. -/
def Dev.winMeets (d : Dev) (c : Nat) (v : Int) : Bool :=
  let inside := decide (sfld (d.rd (pgCv c) Reg.conv.WLO) 23 0 ≤ v ∧ v ≤ sfld (d.rd (pgCv c) Reg.conv.WHI) 23 0)
  if d.rb (pgCv c) Reg.conv.WIN 8 then inside else !inside

/-- A sequence result (R226, R227, R237). -/
def sequenceResult (d : Dev) (c : Nat) (r : Conversion) (v : Int) (ovr : Bool) : Dev :=
  let examined := d.rb (pgCv c) Reg.conv.WIN 16 && d.rf (pgCv c) Reg.conv.WIN 3 0 == r.entry
  let meets := d.winMeets c v
  let fires := examined && meets && (d.conv c).winPrev != some true
  let d1 := if examined then d.setConv c { d.conv c with winPrev := some meets } else d
  let d2 := d1.wr (pgCv c) (Reg.conv.RES + r.entry) (resultWord r.entry ovr r.rerun false fires v)
  let d3 := if ovr then d2.ev (pgCv c) 5 else d2
  let d4 := if fires then offerTrigger (d3.ev (pgCv c) 1) (c / 4) 3 (c % 4) else d3
  if fld r.word 6 0 = 0x62 ∧ fld r.word 30 28 = 0 then setTnow d4 (c / 4) v else d4

/-- An urgent result: URES, UINFO and UCNT, and the sample to the Quills (R169, R226, R242). -/
def urgentResult (d : Dev) (c : Nat) (r : Conversion) (u : Urgent) (v : Int) (ovr : Bool) : Dev :=
  let n := 16 * (c / 4) + u.coil / 2
  let d1 := d.wr (pgCv c) Reg.conv.URES (resultWord 0 ovr false true false v)
  let d2 := d1.wr (pgCv c) Reg.conv.UINFO (BitVec.ofNat 36 (u.named * 256 + u.coil))
  let d3 := d2.incWrap (pgCv c) Reg.conv.UCNT 35 0 1
  let d4 := if ovr then d3.ev (pgCv c) 5 else d3
  d4.setOb n { d4.ob n with samples := (d4.ob n).samples ++ [⟨u.coil % 2, r.half, r.tick, false, v, ovr, u.gain⟩] }

/-- SUM of a grove's factor words (R234). -/
def Dev.calSum (d : Dev) (g : Nat) : Nat :=
  let p := pgCal g
  (fld (d.rd p Reg.convcal.CALTEMP) 15 0 +
    sumUpTo 4 (fun i => sumUpTo 5 (fun gn => fld (d.rd p (Reg.convcal.CFACT + 8 * i + gn)) 31 0)) +
    sumUpTo 32 (fun j => fld (d.rd p (Reg.convcal.TRIM + j)) 31 0) +
    sumUpTo 64 (fun k => fld (d.rd p (Reg.convcal.SWTRIM + k)) 15 0)) % 2 ^ 36

end Sys2Proof.Machine
end

