-- ==== Sys2Proof/Machine/Legs.lean ====
section
/-!
DEFINITION. From the chopper's commands to the gate requests of the Nibs (R158, R180, R183 to R192, R195 to R200): the
commands of a coil, the override unit, complementary edges and their classes, overlaps and measurements.
-/
namespace Sys2Proof.Machine

/-! ### The chopper's commands (R158) -/

/-- The commands of legs s = 0 and s = 1 of a coil. -/
def chopCmd (c : Coil) (s : Nat) : Nat :=
  let source := (s == 1) == c.srcNeg
  match c.st with
  | .off => 0
  | .zwin => 0
  | .drive => if source then 2 else 1
  | .decay =>
    match c.dmode with
    | 0 => 1
    | 1 => 2
    | 4 => 0
    | _ => if c.fast then (if source then 1 else 2) else 1

/-- The direction tag of leg `s` and the mag it carries (R188): 0 NONE, 1 OUT, 2 IN. -/
def tagOf (c : Coil) (s : Nat) : Nat :=
  if !c.hadDrive || c.zeroSeen then 0 else if (s == 1) == c.srcNeg then 1 else 2

/-! ### The override unit (R195 to R199) -/

/-- The coil (0 A, 1 B) and leg whose command reaches position (c, s) of axis `a` (R198). -/
def Dev.legSource (d : Dev) (g a c s : Nat) : Nat × Nat :=
  if d.rf (pgOvrd g) Reg.ovrd.MODE 1 0 = 2 then
    let w := d.rd (pgOvrd g) (Reg.ovrd.SWAP + a)
    let c' := if bit w 2 then 1 - c else c
    (c', if bit w c then 1 - s else s)
  else (c, s)

/-- The mask action of position `p` = 2c + s of axis `a` (R196). -/
def Dev.maskAction (d : Dev) (g a p : Nat) : Nat :=
  let e := d.rf (pgOvrd g) (Reg.ovrd.PTR + a) 2 0
  nfld (d.rd (pgOvrd g) (Reg.ovrd.MASK + 2 * a + e / 4)).toNat (8 * (e % 4) + 2 * p + 1) (8 * (e % 4) + 2 * p)

/-- The two inversion bits of position `p` (R198): bit 1 for GH, bit 0 for GL. -/
def Dev.invBits (d : Dev) (g a p : Nat) : Nat := nfld (d.rd (pgOvrd g) (Reg.ovrd.SWAP + a)).toNat (8 + 2 * p + 1) (8 + 2 * p)

/-- The command at the Nib input of position `p` of axis `a` (R195 to R198). -/
def Dev.nibCmd (d : Dev) (g a p : Nat) : Nat :=
  let (c, s) := d.legSource g a (p / 2) (p % 2)
  let own := chopCmd (d.coil (32 * g + 2 * a + c)) s
  match d.rf (pgOvrd g) Reg.ovrd.MODE 1 0 with
  | 1 =>
    match d.maskAction g a p with
    | 0 => own
    | 1 => 0
    | 2 => 1
    | _ => 2
  | 2 => own ^^^ d.invBits g a p
  | _ => own

/-! ### Nib timing registers -/

def Dev.dtMax (d : Dev) (g : Nat) : Nat := d.rf (pgNib g) Reg.nib.DT 32 22
def Dev.dtMin (d : Dev) (g : Nat) : Nat := d.rf (pgNib g) Reg.nib.DT 20 10
def Dev.dtGuard (d : Dev) (g : Nat) : Nat := d.rf (pgNib g) Reg.nib.DT 7 0

/-- The delay record of type `t`. -/
def Leg.rec_ (l : Leg) (t : Nat) : Delay := l.dly.getD t .init
def Leg.setRec (l : Leg) (t : Nat) (r : Delay) : Leg := { l with dly := listSet l.dly t r }

/-- The instant a waiting turn-on is due (R187, R190). -/
def turnOnDue (d : Dev) (g : Nat) (l : Leg) (t : TurnOn) : Nat :=
  if t.cls = 0 then t.t0 + 1
  else
    let byMax := t.t0 + d.dtMax g
    let out := l.rec_ (if t.hi then 1 else 0)
    let byLearnt := if (t.cls = 2 ∨ t.cls = 3) ∧ out.valid then min byMax (t.t0 + out.lrn / 16 + d.dtGuard g) else byMax
    let bySeen := match t.seen with
      | some x => min byLearnt (x + d.dtGuard g)
      | none => byLearnt
    max bySeen (t.t0 + d.dtMin g)

/-! ### Overlaps (R183 to R185) -/

/-- An overlap event on leg `k`: SHOOT, SHOOTCNT, and the history; the eighth within 1,024 carrier periods declares the
leg faulty. -/
def overlapEvent (d : Dev) (g k : Nat) : Dev :=
  let l := d.leg (64 * g + k)
  let no := (d.grove g).carNo
  let evs := (no :: l.events).take 8
  let faulty := decide (evs.length = 8 ∧ no < evs.getD 7 0 + 1024)
  let d1 := d.setLeg (64 * g + k) { l with events := evs }
  let sh := Reg.nib.SHOOT + k / 32
  let d2 := ((d1.wr (pgNib g) sh (setBit (d1.rd (pgNib g) sh) (k % 32) true)).ev (pgNib g) 0).incSat (pgNib g) Reg.nib.SHOOTCNT 23 0
  if faulty then
    let lf := Reg.nib.LEGFLT + k / 32
    let d3 := (d2.wr (pgNib g) lf (setBit (d2.rd (pgNib g) lf) (k % 32) true)).ev (pgNib g) 1
    d3.setGrove g { d3.grove g with due := (d3.grove g).due ||| 8 }
  else d2

/-! ### Commands at the Nib input (R187 to R192) -/

/-- The class of a complementary edge (R189): 1 COMM, 2 HARD, 3 WEAK. `hi`: the incoming switch is the high side. -/
def edgeClass (weak hi : Bool) (tag : Nat) : Nat :=
  if weak ∨ tag = 0 then 3
  else if hi then (if tag = 1 then 2 else 1) else (if tag = 1 then 1 else 2)

/-- Turns one switch off at instant `at`. -/
def Leg.turnOff (l : Leg) (hi : Bool) (at_ : Nat) : Leg :=
  if hi then { l with gh := false, offHi := if l.gh then some at_ else l.offHi }
  else { l with gl := false, offLo := if l.gl then some at_ else l.offLo }

/-- A request to turn one switch on, that switch being off (R187): a complementary edge while its partner turned off less
than DT_MAX before, else a turn-on 1 gck later. -/
def requestOn (l : Leg) (hi weak : Bool) (dtmax at_ : Nat) : Leg :=
  let need := if hi then 2 else 1
  match (if hi then l.offLo else l.offHi) with
  | some t0 =>
    if at_ < t0 + dtmax then
      let cls := edgeClass weak hi l.tag
      let seen := if l.node = need then some (max l.nodeAt t0) else none
      let meas : Option Measure :=
        if cls = 1 ∧ l.node ≠ need then some ⟨if hi then 1 else 0, t0⟩ else none
      { l with turnOn := some ⟨hi, cls, t0, seen⟩, cls := cls, meas := meas }
    else { l with turnOn := some ⟨hi, 0, at_, none⟩ }
  | none => { l with turnOn := some ⟨hi, 0, at_, none⟩ }

/-- The command `cmd` reaches the Nib of leg `k` at instant `at`, with its tag (R183 to R190). Turn-offs happen at
once. -/
def legCommand (d : Dev) (g k cmd tag mag at_ : Nat) (weakInv : Bool) : Dev :=
  let l := d.leg (64 * g + k)
  if l.cmd = cmd then d
  else
    let weak := weakInv || decide (mag < d.rf (pgNib g) Reg.nib.CFG 11 0)
    let l0 := { l with cmd := cmd, tag := tag, tagMag := mag }
    if cmd = 3 then
      overlapEvent (d.setLeg (64 * g + k) { l0 with gh := true, gl := true, turnOn := none, overlap := true }) g k
    else
      let hi := cmd = 2
      let lo := cmd = 1
      let l1 := { l0 with overlap := false }
      let l2 := if hi then l1 else l1.turnOff true at_
      let l3 := if lo then l2 else l2.turnOff false at_
      let keep : Bool := match l3.turnOn with
        | some t => (t.hi && hi) || (!t.hi && lo)
        | none => false
      let l4 := if keep then l3 else { l3 with turnOn := none }
      let l5 := if hi ∧ !l4.gh ∧ !keep then requestOn l4 true weak (d.dtMax g) at_
        else if lo ∧ !l4.gl ∧ !keep then requestOn l4 false weak (d.dtMax g) at_
        else l4
      d.setLeg (64 * g + k) l5

/-- Sends the present commands of axis `a` to its four Nibs, with the tags of `tags` (the coils as they were before the
change). -/
def emitAxis (d : Dev) (g a : Nat) (tags : Nat → Coil) (at_ : Nat) : Dev :=
  d.each 4 (fun d p =>
    let (c, s) := d.legSource g a (p / 2) (p % 2)
    let t := tags c
    legCommand d g (4 * a + p) (d.nibCmd g a p) (tagOf t s) t.driveMag at_ (decide (d.invBits g a p ≠ 0)))

/-- Sends the commands of axis `a` with the tags of its coils as they stand. -/
def refreshAxis (d : Dev) (g a : Nat) : Dev :=
  emitAxis d g a (fun c => d.coil (32 * g + 2 * a + c)) d.clk

/-- A coil takes a new chopper state at instant `at`; its commands carry the tags of the state before. -/
def setChop (d : Dev) (g j : Nat) (new : Coil) (at_ : Nat) : Dev :=
  let old := d.coil (32 * g + j)
  let other := d.coil (32 * g + (j / 2 * 2) + (1 - j % 2))
  emitAxis (d.setCoil (32 * g + j) new) g (j / 2) (fun c => if c = j % 2 then old else other) at_

/-! ### The drive-start marker (R191, R199) -/

/-- The position of axis `a` that carries leg `s` of coil `c`. -/
def Dev.legTarget (d : Dev) (g a c s : Nat) : Nat :=
  ((List.range 4).find? (fun p => d.legSource g a (p / 2) (p % 2) == (c, s))).getD (2 * c + s)

/-- Blanking begins at instant `at_` if the DRIVE phase of coil `j` begins at the balls then (R161, R191): GH of the
source leg stands, and, at the entry into DRIVE (`entry`), GL of the sink leg as well, since one of the two has then
still to be asserted. -/
def driveMarker (d : Dev) (g j at_ : Nat) (entry : Bool) : Dev :=
  let c := d.coil (32 * g + j)
  if c.st ≠ .drive ∨ c.blankEnd.isSome then d
  else
    let src := bnat c.srcNeg
    let legOf (s : Nat) := d.leg (64 * g + 4 * (j / 2) + d.legTarget g (j / 2) (j % 2) s)
    if (legOf src).gh ∧ (!entry ∨ (legOf (1 - src)).gl) then
      d.setCoil (32 * g + j) { c with blankEnd := some (at_ + d.rf (pgCarrier g) Reg.carrier.BLANK 11 0) }
    else d

end Sys2Proof.Machine
end

