-- ==== Sys2Proof/Machine/Firebreak.lean ====
section
/-!
DEFINITION. The Firebreak and the grove ramp engine (R201 to R210), and the ends of drive that a trip and a fall of
CUREN or DRVEN share (R170, R172, R173, R206).
-/
namespace Sys2Proof.Machine

/-! ### Ending the drive of a coil or an axis -/

/-- A coil goes OFF: its window ends without a count and its request is removed without a count (R170, R230). -/
def coilOff (d : Dev) (g j : Nat) : Dev :=
  let c := d.coil (32 * g + j)
  let d1 := if c.win.isSome then (removeRequest d g j).2 else d
  let c1 := d1.coil (32 * g + j)
  setChop d1 g j { c1 with st := .off, win := none, resumeAt := none, blankEnd := none, fast := false } d1.clk

/-- Both coils of axis `a` of grove `g` go OFF. -/
def axisOff (d : Dev) (g a : Nat) : Dev := coilOff (coilOff d g (2 * a)) g (2 * a + 1)

/-- A coil restarts at its next period start, as after CUREN rising (R173, R174). -/
def coilRestart (d : Dev) (g j : Nat) : Dev :=
  let c := d.coil (32 * g + j)
  let f := d.rd (pgAxis (16 * g + j / 2)) Reg.axis.FAST
  d.setCoil (32 * g + j) { c with started := false, hadDrive := false, zeroSeen := false, enabledAt := d.clk,
                                  driveIn := false, fastt := min (max (fld f 11 0) (fld f 23 12)) (fld f 35 24) }

/-- TRUST clears with cause `c` where the word in execution has VEL other than 0 (R206, R252). -/
def moveTrust (d : Dev) (n c : Nat) : Dev := if (d.ga n).w1.vel ≠ 0 then d.loseTrust n c else d

/-- The axes of a grove. -/
def groveAxes (g : Nat) : List Nat := (List.range 16).map (fun a => 16 * g + a)

/-! ### Trips (R201 to R203) -/

/-- CAUSE, FIRST and TTIME take a cause (R203). -/
def addCause (d : Dev) (g cause : Nat) : Dev :=
  let gr := d.grove g
  let gr1 := if gr.causes = 0 then { gr with first := cause, ttime := d.tb.now } else gr
  d.setGrove g { gr1 with causes := gr.causes ||| 2 ^ cause }

/-- The end of a debug HOLD (R210): the carrier goes on from where it stood, and the tick count takes the number of the
last boundary, so that the next token matches it (DEDUCED, log 46). -/
def endHold (d : Dev) (g : Nat) : Dev :=
  let gr := d.grove g
  match gr.held with
  | none => d
  | some h =>
    let k := d.clk - h.since
    d.setGrove g { gr with held := none, carStart := gr.carStart + k, lastB := gr.lastB + k, tick := d.tk % 256,
                            evNext := gr.evNext.map (· + k), token := false, ownStep := false }

/-- A trip latches (R202): every ball goes low, every coil OFF. -/
def latchTrip (d : Dev) (g : Nat) : Dev :=
  let d1 := (groveAxes g).foldl (fun d n => axisOff d g (n % 16)) d
  let d2 := (d1.incSat (pgFire g) Reg.firebrk.TRIPCNT 23 0).ev (pgFire g) 0
  d2.setGrove g { d2.grove g with tripped := true, safe := false, tripAt := d.clk }

/-- An immediate source (R201): causes accumulate, TRUST clears for moving axes, and a HOLD ends with cause DEBUG
(R210). -/
def trip (d : Dev) (g cause : Nat) : Dev :=
  if !d.hasGrove g then d
  else
    let d1 := addCause d g cause
    let d2 := if (d1.grove g).held.isSome then addCause (endHold d1 g) g 9 else d1
    if (d2.grove g).tripped then d2
    else latchTrip ((groveAxes g).foldl (fun d n => moveTrust d n 2) d2) g

/-- Immediate causes that the step itself found: a leg declared faulty, a failed stage (R185, R194). -/
def fireDue (d : Dev) (g : Nat) : Dev :=
  let due := (d.grove g).due
  if due = 0 then d
  else
    let d1 := d.setGrove g { d.grove g with due := 0 }
    let d2 := (maskBits 12 due).foldl (fun d c => trip d g c) d1
    d2.setGrove g { d2.grove g with due := 0 }

/-- A ramp-first source (R201): the ramp engine is asked for, and the trip latches when every axis is at rest. -/
def rampRequest (d : Dev) (g cause : Nat) : Dev :=
  if !d.hasGrove g then d
  else
    let d1 := addCause d g cause
    let gr := d1.grove g
    if gr.tripped then d1
    else match gr.ramp with
      | none => d1.setGrove g { gr with ramp := some ⟨0, d.clk, false, true, false, false⟩ }
      | some r =>
        if r.trips then d1
        else d1.setGrove g { gr with ramp := some { r with ticks := 0, asked := d.clk, trips := true, yields := false } }

/-- A ramp-first trip latches (R201). -/
def rampTrip (d : Dev) (g : Nat) : Dev := if (d.grove g).tripped then d else latchTrip d g

/-- Whether source `i` is active now (PAGE_STAT.LIVE, R204). -/
def Dev.live (d : Dev) (g i : Nat) : Bool :=
  match i with
  | 1 => d.pins.faultSeen.testBit g && d.rb (pgFire g) Reg.firebrk.SRCEN 1
  | 2 => d.pins.estopSeen
  | 6 => decide (3 ≤ d.sup.lev.s) || d.sup.pfail || decide (4 ≤ d.sup.lev.m g) ||
      decide (2 ≤ d.sup.lev.ov g) || decide (4 ≤ d.sup.lev.t)
  | _ => false

def Dev.liveMask (d : Dev) (g : Nat) : Nat := bitsOf 12 (d.live g)

/-- The ramp engine has been asked for or holds the grove and has not yet brought every axis to rest. -/
def Ramp.busy (r : Ramp) : Bool := !r.done

/-- The cases in which R204 refuses a clear. -/
def Dev.clearBusy (d : Dev) (g : Nat) : Bool :=
  decide (d.liveMask g ≠ 0) || (match (d.grove g).ramp with
    | some r => r.busy || (r.trips && !(d.grove g).tripped)
    | none => false) || (d.grove g).held.isSome

/-- The safe code of leg `k` (R202). -/
def Dev.safeCode (d : Dev) (g k : Nat) : Nat :=
  nfld (d.rd (pgFire g) (Reg.firebrk.SAFE + k / 16)).toNat (2 * (k % 16) + 1) (2 * (k % 16))

/-- A switch that its safe level held on counts as turned off at the clear (R204). -/
def safeTurnedOff (d : Dev) (g k : Nat) : Dev :=
  let l := d.leg (64 * g + k)
  match d.safeCode g k with
  | 1 => d.setLeg (64 * g + k) { l with offLo := some d.clk }
  | 2 => d.setLeg (64 * g + k) { l with offHi := some d.clk }
  | _ => d

/-- The keyed clear of a grove, when not refused (R204, R174, R208). -/
def clearGrove (d : Dev) (g : Nat) : Dev :=
  let gr := d.grove g
  let d1 := if gr.tripped ∧ gr.safe then d.each 64 (fun d k => safeTurnedOff d g k) else d
  let d2 := d1.each 64 (fun d k => d.setLeg (64 * g + k) { d.leg (64 * g + k) with events := [] })
  let d3 := (d2.wr (pgNib g) Reg.nib.LEGFLT 0).wr (pgNib g) (Reg.nib.LEGFLT + 1) 0
  let d4 := if gr.tripped then d3.each 32 (fun d j => coilRestart d g j) else d3
  let gr4 := d4.grove g
  let ramp := gr4.ramp.map (fun r => if r.trips then { r with trips := false, yields := true } else r)
  (d4.setGrove g { gr4 with tripped := false, safe := false, causes := 0, first := 0, ramp := ramp, due := 0 }).ev (pgFire g) 1

/-! ### The ramp engine at a boundary (R207, R208) -/

/-- RDEC in force for axis `n` (R207, R397). -/
def Dev.rdec (d : Dev) (n : Nat) : Nat :=
  let r := (d.rd (pgFire (n / 16)) (Reg.firebrk.RDEC + n % 16)).toNat
  if 1 ≤ d.sup.lev.ov (n / 16) then min r (d.rd pgSupv (Reg.supv.OVDLIM + n / 16)).toNat else r

/-- The end state of the word an axis executes, in fine units (R207). -/
def endState (w : GWord) : Nat × Int := (w.pos * two32 + w.posf * 65536, sgn 36 w.vel * 4096)

/-- The word of a state (R71). -/
def wordOf (rp : Nat) (rv : Int) (esc : Nat) : GWord :=
  let l := lanesOf rp rv esc
  ⟨l.pos, l.posf, l.vel, esc⟩

/-- A fall of CUREN (R173, R252, R256). -/
def curenFall (d : Dev) (n : Nat) : Dev := moveTrust (axisOff d (n / 16) (n % 16)) n 4

/-- A rise of CUREN (R173, R151, R164). -/
def curenRise (d : Dev) (n : Nat) : Dev :=
  let d1 := coilRestart (coilRestart d (n / 16) (2 * (n % 16))) (n / 16) (2 * (n % 16) + 1)
  d1.setGa n { d1.ga n with cuRose := true }

/-- DRVEN falls: every coil OFF (R172). -/
def drvenFall (d : Dev) (g : Nat) : Dev := (groveAxes g).foldl (fun d n => moveTrust (axisOff d g (n % 16)) n 4) d

/-- DRVEN rises: each coil with CUREN at 1 may start at its first period start from now on (R172). -/
def drvenRise (d : Dev) (g : Nat) : Dev :=
  d.each 32 (fun d j => d.setCoil (32 * g + j) { d.coil (32 * g + j) with enabledAt := d.clk })

/-- A debug halt of a grove (R209). -/
def haltGrove (d : Dev) (g : Nat) : Dev :=
  let dbg := d.rd (pgFire g) Reg.firebrk.DBG
  if bit dbg 0 ∧ bit dbg 4 then
    let gr := d.grove g
    if gr.held.isSome then d else d.setGrove g { gr with held := some ⟨d.clk, fld dbg 27 16⟩ }
  else rampRequest d g 9

/-- A HOLD ends by resume or by HOLDMAX: the grove trips with cause DEBUG, without a ramp (R210). -/
def holdTrip (d : Dev) (g : Nat) : Dev := trip (endHold d g) g 9

/-! ### The gate balls (R180 to R184, R202, R205) -/

/-- The level that the output stage of leg `k` drives: 0 both balls low or high-impedance, 1 GL high, 2 GH high. -/
def stageOf (d : Dev) (g k : Nat) : Nat :=
  let gr := d.grove g
  if !d.rb (pgFire g) Reg.PAGE_CTRL 0 then 0
  else if gr.tripped then
    if gr.safe then (match d.safeCode g k with
      | 1 => 1
      | 2 => 2
      | _ => 0)
    else 0
  else
    let l := d.leg (64 * g + k)
    if l.gh ∧ l.gl then 0 else if l.gh then 2 else if l.gl then 1 else 0

/-- The level of a leg's two balls: harmless while reset lasts (R388), the boundary-scan pattern under EXTEST (R454),
else what the output stage drives. -/
def ballOf (d : Dev) (g k : Nat) : Nat :=
  if !d.hasGrove g ∨ d.sup.inReset then 0
  else if d.tap.extest then d.tap.scan.get (64 * g + k) 0
  else stageOf d g k

end Sys2Proof.Machine
end

