-- ==== Sys2Proof/Machine/LangleTable.lean ====
section
/-!
DEFINITION. The load-angle table of R247: entry M is round_half_even(2,048 · arccos(M / 1,023) / π), M from 0 to 1,023,
computed from that formula.
-/
namespace Sys2Proof.Machine

def langleRow0 : List Nat := [1024, 1023, 1023, 1022, 1021, 1021, 1020, 1020, 1019, 1018, 1018, 1017, 1016, 1016, 1015, 1014, 1014, 1013, 1013, 1012, 1011, 1011, 1010, 1009, 1009, 1008, 1007, 1007, 1006, 1006, 1005, 1004, 1004, 1003, 1002, 1002, 1001, 1000, 1000, 999, 999, 998, 997, 997, 996, 995, 995, 994, 993, 993, 992, 991, 991, 990, 990, 989, 988, 988, 987, 986, 986, 985, 984, 984]
def langleRow1 : List Nat := [983, 983, 982, 981, 981, 980, 979, 979, 978, 977, 977, 976, 976, 975, 974, 974, 973, 972, 972, 971, 970, 970, 969, 968, 968, 967, 967, 966, 965, 965, 964, 963, 963, 962, 961, 961, 960, 960, 959, 958, 958, 957, 956, 956, 955, 954, 954, 953, 952, 952, 951, 951, 950, 949, 949, 948, 947, 947, 946, 945, 945, 944, 944, 943]
def langleRow2 : List Nat := [942, 942, 941, 940, 940, 939, 938, 938, 937, 936, 936, 935, 935, 934, 933, 933, 932, 931, 931, 930, 929, 929, 928, 927, 927, 926, 925, 925, 924, 924, 923, 922, 922, 921, 920, 920, 919, 918, 918, 917, 916, 916, 915, 915, 914, 913, 913, 912, 911, 911, 910, 909, 909, 908, 907, 907, 906, 905, 905, 904, 904, 903, 902, 902]
def langleRow3 : List Nat := [901, 900, 900, 899, 898, 898, 897, 896, 896, 895, 894, 894, 893, 892, 892, 891, 891, 890, 889, 889, 888, 887, 887, 886, 885, 885, 884, 883, 883, 882, 881, 881, 880, 879, 879, 878, 877, 877, 876, 876, 875, 874, 874, 873, 872, 872, 871, 870, 870, 869, 868, 868, 867, 866, 866, 865, 864, 864, 863, 862, 862, 861, 860, 860]
def langleRow4 : List Nat := [859, 858, 858, 857, 856, 856, 855, 855, 854, 853, 853, 852, 851, 851, 850, 849, 849, 848, 847, 847, 846, 845, 845, 844, 843, 843, 842, 841, 841, 840, 839, 839, 838, 837, 837, 836, 835, 835, 834, 833, 833, 832, 831, 831, 830, 829, 829, 828, 827, 827, 826, 825, 825, 824, 823, 823, 822, 821, 821, 820, 819, 819, 818, 817]
def langleRow5 : List Nat := [817, 816, 815, 815, 814, 813, 813, 812, 811, 811, 810, 809, 809, 808, 807, 807, 806, 805, 804, 804, 803, 802, 802, 801, 800, 800, 799, 798, 798, 797, 796, 796, 795, 794, 794, 793, 792, 792, 791, 790, 790, 789, 788, 788, 787, 786, 785, 785, 784, 783, 783, 782, 781, 781, 780, 779, 779, 778, 777, 777, 776, 775, 775, 774]
def langleRow6 : List Nat := [773, 772, 772, 771, 770, 770, 769, 768, 768, 767, 766, 766, 765, 764, 763, 763, 762, 761, 761, 760, 759, 759, 758, 757, 757, 756, 755, 754, 754, 753, 752, 752, 751, 750, 750, 749, 748, 748, 747, 746, 745, 745, 744, 743, 743, 742, 741, 740, 740, 739, 738, 738, 737, 736, 736, 735, 734, 733, 733, 732, 731, 731, 730, 729]
def langleRow7 : List Nat := [728, 728, 727, 726, 726, 725, 724, 724, 723, 722, 721, 721, 720, 719, 719, 718, 717, 716, 716, 715, 714, 714, 713, 712, 711, 711, 710, 709, 708, 708, 707, 706, 706, 705, 704, 703, 703, 702, 701, 701, 700, 699, 698, 698, 697, 696, 695, 695, 694, 693, 693, 692, 691, 690, 690, 689, 688, 687, 687, 686, 685, 685, 684, 683]
def langleRow8 : List Nat := [682, 682, 681, 680, 679, 679, 678, 677, 676, 676, 675, 674, 673, 673, 672, 671, 670, 670, 669, 668, 667, 667, 666, 665, 664, 664, 663, 662, 661, 661, 660, 659, 658, 658, 657, 656, 655, 655, 654, 653, 652, 652, 651, 650, 649, 649, 648, 647, 646, 646, 645, 644, 643, 643, 642, 641, 640, 640, 639, 638, 637, 636, 636, 635]
def langleRow9 : List Nat := [634, 633, 633, 632, 631, 630, 629, 629, 628, 627, 626, 626, 625, 624, 623, 622, 622, 621, 620, 619, 619, 618, 617, 616, 615, 615, 614, 613, 612, 611, 611, 610, 609, 608, 608, 607, 606, 605, 604, 604, 603, 602, 601, 600, 600, 599, 598, 597, 596, 596, 595, 594, 593, 592, 592, 591, 590, 589, 588, 587, 587, 586, 585, 584]
def langleRow10 : List Nat := [583, 583, 582, 581, 580, 579, 578, 578, 577, 576, 575, 574, 574, 573, 572, 571, 570, 569, 569, 568, 567, 566, 565, 564, 564, 563, 562, 561, 560, 559, 558, 558, 557, 556, 555, 554, 553, 553, 552, 551, 550, 549, 548, 547, 547, 546, 545, 544, 543, 542, 541, 541, 540, 539, 538, 537, 536, 535, 534, 534, 533, 532, 531, 530]
def langleRow11 : List Nat := [529, 528, 527, 527, 526, 525, 524, 523, 522, 521, 520, 520, 519, 518, 517, 516, 515, 514, 513, 512, 511, 511, 510, 509, 508, 507, 506, 505, 504, 503, 502, 501, 501, 500, 499, 498, 497, 496, 495, 494, 493, 492, 491, 490, 489, 488, 488, 487, 486, 485, 484, 483, 482, 481, 480, 479, 478, 477, 476, 475, 474, 473, 472, 471]
def langleRow12 : List Nat := [470, 469, 468, 468, 467, 466, 465, 464, 463, 462, 461, 460, 459, 458, 457, 456, 455, 454, 453, 452, 451, 450, 449, 448, 447, 446, 445, 444, 443, 442, 441, 440, 439, 438, 437, 436, 435, 434, 432, 431, 430, 429, 428, 427, 426, 425, 424, 423, 422, 421, 420, 419, 418, 417, 416, 415, 414, 412, 411, 410, 409, 408, 407, 406]
def langleRow13 : List Nat := [405, 404, 403, 402, 400, 399, 398, 397, 396, 395, 394, 393, 391, 390, 389, 388, 387, 386, 385, 384, 382, 381, 380, 379, 378, 377, 375, 374, 373, 372, 371, 370, 368, 367, 366, 365, 364, 362, 361, 360, 359, 357, 356, 355, 354, 353, 351, 350, 349, 348, 346, 345, 344, 343, 341, 340, 339, 337, 336, 335, 334, 332, 331, 330]
def langleRow14 : List Nat := [328, 327, 326, 324, 323, 322, 320, 319, 318, 316, 315, 313, 312, 311, 309, 308, 306, 305, 304, 302, 301, 299, 298, 296, 295, 294, 292, 291, 289, 288, 286, 285, 283, 282, 280, 279, 277, 275, 274, 272, 271, 269, 268, 266, 264, 263, 261, 260, 258, 256, 255, 253, 251, 249, 248, 246, 244, 243, 241, 239, 237, 235, 234, 232]
def langleRow15 : List Nat := [230, 228, 226, 224, 222, 221, 219, 217, 215, 213, 211, 209, 207, 205, 203, 200, 198, 196, 194, 192, 190, 187, 185, 183, 181, 178, 176, 173, 171, 169, 166, 163, 161, 158, 156, 153, 150, 147, 144, 141, 138, 135, 132, 129, 126, 122, 119, 115, 112, 108, 104, 100, 96, 91, 87, 82, 76, 71, 64, 58, 50, 41, 29, 0]

def langleRows : List (List Nat) :=
  [langleRow0, langleRow1, langleRow2, langleRow3, langleRow4, langleRow5, langleRow6, langleRow7, langleRow8, langleRow9, langleRow10, langleRow11, langleRow12, langleRow13, langleRow14, langleRow15]

/-- The load angle for a Margin value (R247). -/
def langleOf (m : Nat) : Nat := (langleRows.getD (m / 64) []).getD (m % 64) 0

end Sys2Proof.Machine
end

