-- ==== Sys2Proof/Machine/Planner.lean ====
section
/-!
DEFINITION. The Quills' snapshot and tick for axes (R76 to R99): registers read, segment queues (R89 to R93),
coordinated ranks (R94 to R97), strokes as the axis runs them (R130 to R133) and controlled stops (R83, R84).
-/
namespace Sys2Proof.Machine

/-! ### What the snapshot reads of an axis -/

def Dev.axMode (d : Dev) (n : Nat) : Nat := d.rf (pgAxis n) Reg.axis.MODE 2 0
def Dev.revdwell (d : Dev) (n : Nat) : Nat := d.rf (pgAxis n) Reg.axis.MODE 15 8
def Dev.xtgt (d : Dev) (n : Nat) : Nat := (d.rd (pgAxis n) Reg.axis.XTGT).toNat

/-- The axis's own limits in effect. -/
def Dev.axLim (d : Dev) (n : Nat) : Lim :=
  ⟨d.rf (pgAxis n) Reg.axis.VMAX 34 0, d.rf (pgAxis n) Reg.axis.AMAX 35 0, d.rf (pgAxis n) Reg.axis.DMAX 35 0,
   d.rf (pgAxis n) Reg.axis.VSTART 34 0, d.rf (pgAxis n) Reg.axis.VSTOP 34 0⟩

/-- OV1 limits DMAX (R397). -/
def Dev.ovLim (d : Dev) (n : Nat) (l : Lim) : Lim :=
  if 1 ≤ d.sup.view.ov (n / 16) then { l with dmax := min l.dmax (d.rd pgSupv (Reg.supv.OVDLIM + n / 16)).toNat } else l

/-- The slow limit of a retry caps VMAX (R250, step 3), and OV1 limits DMAX. -/
def Dev.slowed (d : Dev) (n : Nat) (l : Lim) : Lim :=
  let l := d.ovLim n l
  if (d.ob n).slow then { l with vmax := min l.vmax (d.rf (pgAxis n) Reg.axis.VSLOW 34 0) } else l

/-- The ranges of R81. -/
def Lim.ok (l : Lim) : Bool :=
  decide (l.vmax ≤ 0x200000000 ∧ 1 ≤ l.amax ∧ 0x200000 ≤ l.dmax ∧ l.vstart ≤ 0x200000000 ∧ l.vstop ≤ 0x200000000)

/-- RANKSEL: the rank of an axis, if it is a member. -/
def Dev.rankSel (d : Dev) (n : Nat) : Option Nat :=
  if d.rb (pgAxis n) Reg.axis.RANKSEL 5 then some (d.rf (pgAxis n) Reg.axis.RANKSEL 4 0) else none

def Dev.tripped (d : Dev) (n : Nat) : Bool := (d.grove (n / 16)).tripped

/-- The ramp engine holds the grove of axis n. -/
def Dev.rampHolds (d : Dev) (n : Nat) : Bool :=
  match (d.grove (n / 16)).ramp with
  | some r => r.took
  | none => false

/-- Sets event `i` on the page of each Quill that computes axis n. -/
def Dev.planEv (d : Dev) (n i : Nat) : Dev :=
  let d1 := if computes d.variant d.tw.mode 0 (n / 16) then d.ev pgPlanA i else d
  if computes d.variant d.tw.mode 1 (n / 16) then d1.ev pgPlanB i else d1

/-- An OVERSPEED limitation of axis n (R86, R87): its event, PLANx.SAT and PLANx's event. -/
def Dev.overspeed (d : Dev) (n : Nat) : Dev :=
  let d0 := (d.ev (pgAxis n) 2).planEv n 1
  let d1 := if computes d.variant d.tw.mode 0 (n / 16) then d0.incSat pgPlanA Reg.plan.SAT 15 0 else d0
  if computes d.variant d.tw.mode 1 (n / 16) then d1.incSat pgPlanB Reg.plan.SAT 15 0 else d1

/-- Counts in one of the Scribe's saturating counters. -/
def Dev.scribeCount (d : Dev) (off : Nat) : Dev := d.incSat pgScribe off 23 0

/-! ### Following (R85, R86, R88) -/

/-- The channel an axis follows and the master of its gear. -/
def Dev.stepNow (d : Dev) (n : Nat) : Nat :=
  (d.rd pgStepin (Reg.stepin.CNT + d.rf (pgAxis n) Reg.axis.STEPCFG 19 16)).toNat
def Dev.master (d : Dev) (n : Nat) : Nat := d.rf (pgAxis n) Reg.axis.GEARCFG 6 0
def Dev.gearNow (d : Dev) (n : Nat) : Nat := (d.plan (d.master n)).lanes.pos

/-- R86: an axis that names itself or an absent master. -/
def Dev.badMaster (d : Dev) (n : Nat) : Bool := d.master n == n || !d.hasAxis (d.master n)

/-- R88: anchors an axis to its source. -/
def anchor (d : Dev) (n : Nat) (p : Plan) : Plan :=
  { p with stgt := countOf p.mot.p, gtgt := countOf p.mot.p, cPrev := d.stepNow n, mPrev := d.gearNow n, gacc := 0,
           anchorDue := false }

/-- Advances the follow accumulators at a snapshot; in a controlled stop only the sources' last values move (R83). -/
def follow (d : Dev) (n : Nat) (p : Plan) : Plan :=
  let md := d.axMode n
  if md = 3 ∨ md = 4 then
    let c := d.stepNow n
    let cfg := d.rd (pgAxis n) Reg.axis.STEPCFG
    { p with stgt := if p.halted then p.stgt else stepFollow p.stgt p.cPrev c (fld cfg 15 0) (bit cfg 20), cPrev := c }
  else if md = 5 ∨ md = 6 then
    let m := d.gearNow n
    if d.badMaster n ∨ p.halted then { p with mPrev := m }
    else
      let (t, a) := gearFollow p.gtgt p.mPrev m p.gacc (sfld (d.rd (pgAxis n) Reg.axis.GEARRATIO) 35 0)
      { p with gtgt := t, gacc := a, mPrev := m }
  else p

/-! ### Ranks breaking, strokes ending, holds beginning and ending -/

/-- The present axes whose RANKSEL names rank `r`. -/
def Dev.rankAxes (d : Dev) (r : Nat) : List Nat :=
  (List.range d.variant.axes).filter (fun n => d.rankSel n == some r)

/-- R97: a rank that moves breaks. `cause` lists the members that caused it. -/
def breakRank (d : Dev) (r : Nat) (cause : List Nat) : Dev :=
  let k := d.rank r
  if (k.phase = .moving ∨ k.phase = .braking) ∧ !k.broken then
    let d1 := d.setRank r { k with phase := .braking, broken := true }
    let d2 := (d1.wr pgRanks Reg.ranks.RBROKEN (setBit (d1.rd pgRanks Reg.ranks.RBROKEN) r true)).ev pgRanks 1
    let d3 := (d.rankAxes r).foldl (fun d n => d.ev (pgAxis n) 7) d2
    k.members.foldl (fun d m =>
      let p := d.plan m.axis
      let q := d.queue m.axis
      let d1 := d.setQueue m.axis (match q.act with
        | some e => if e.rankMove then { q with act := none } else q
        | none => q)
      if cause.contains m.axis then d1.setPlan m.axis { p with rankRun := none }
      else d1.setPlan m.axis { p with halted := true }) d3
  else d

/-- A member causes the break of the rank it moves with. -/
def leaveRank (d : Dev) (n : Nat) : Dev :=
  match (d.plan n).rankRun with
  | some r =>
    let d1 := breakRank d r [n]
    d1.setPlan n { d1.plan n with rankRun := none }
  | none => d

/-- R133: the active stroke ends and the queued firings are discarded, each counting in CNT_ABORTED. -/
def endStroke (d : Dev) (n : Nat) : Dev :=
  let q := d.queue n
  let d1 := d.setQueue n { q with stroke := none, waiting := [] }
  q.waiting.foldl (fun d _ => d.scribeCount (Reg.scribe.CNT_x + 10)) d1

/-- A controlled stop begins at a snapshot (R83). -/
def controlledStop (d : Dev) (n : Nat) : Dev :=
  if (d.plan n).halted then d.setPlan n { d.plan n with stopReq := false }
  else
    let d1 := leaveRank (endStroke d n) n
    d1.setPlan n { d1.plan n with halted := true, stopReq := false }

/-- HALTED clears (R83), unless the grove is tripped or held by its ramp engine (R206, R208). -/
def releaseHalt (d : Dev) (n : Nat) : Dev :=
  if d.tripped n ∨ d.rampHolds n then d
  else
    let p := d.plan n
    let o := d.ob n
    let d1 := d.setPlan n { p with halted := false, stopLim := none, anchorDue := p.anchorDue || (p.halted && 3 ≤ d.axMode n) }
    if o.stalled ∧ !o.retrying then d1.setOb n { o with stalled := false } else d1

/-! ### The first items of R98 at a snapshot -/

/-- A calibration of the observer ends with a state (R256). -/
def calEnd (d : Dev) (n st fc : Nat) : Dev :=
  let o := d.ob n
  match o.cal with
  | none => d
  | some _ => (d.setOb n { o with cal := none, calState := st, calFail := fc }).ev (pgAxis n) 18

/-- R98, item 1: a MODE value that took effect (R83, R88, R90, R133, R250, R256). -/
def snapMode (d : Dev) (n : Nat) : Dev :=
  if !(d.plan n).modeNew then d
  else
    let d1 := leaveRank (endStroke d n) n
    let q := d1.queue n
    let q1 := { q with act := none, dwell := none, ready := none, relBase := none, lastDone := none, holding := false,
                       head := if q.dwell.isSome then (q.head + 1) % 512 else q.head }
    let d2 := (calEnd (d1.setQueue n q1) n 4 0)
    let d3 := d2.setOb n { d2.ob n with rcnt := 0 }
    let d4 := releaseHalt d3 n
    let p := { d4.plan n with modeNew := false }
    d4.setPlan n (if 3 ≤ d4.axMode n then anchor d4 n p else p)

/-- R98, item 2, and R99: XSET. -/
def snapXset (d : Dev) (n : Nat) : Dev :=
  let p := d.plan n
  if !p.xsetNew then d
  else
    let p1 := { p with xsetNew := false }
    if p.mot.v = 0 then
      let x := d.rd (pgAxis n) Reg.axis.XSET
      let p2 := { p1 with mot := { p.mot with p := x.toNat * two32 } }
      let d1 := if p.xtgtNew then d else d.wr (pgAxis n) Reg.axis.XTGT x
      d1.setPlan n (if 3 ≤ d.axMode n then anchor d1 n p2 else p2)
    else (d.setPlan n p1).ev (pgAxis n) 6

/-- R98, item 3: a new XTGT ends the stroke (R133) and marks the rank's start (R94); the flag itself is used by the
tick (R472). -/
def snapXtgt (d : Dev) (n : Nat) : Dev :=
  let p := d.plan n
  if !p.xtgtNew then d
  else
    let d1 := endStroke d n
    d1.setPlan n { d1.plan n with xtgtAt := d.tk + 1 }

/-- R98, item 4: RANKSEL; a member that leaves a rank that moves breaks it (R97). -/
def snapRankSel (d : Dev) (n : Nat) : Dev :=
  let p := d.plan n
  let now := d.rankSel n
  let d1 := if p.rankRun.isSome ∧ p.rankWas ≠ now then leaveRank d n else d
  d1.setPlan n { d1.plan n with rankWas := now, rankTgt := if now = none then none else (d1.plan n).rankTgt }

/-- R98, item 6: the controlled-stop request (R83, R84). -/
def snapStop (d : Dev) (n : Nat) : Dev :=
  let cs := d.rb (pgAxis n) Reg.PAGE_CTRL 0
  let p := d.plan n
  let d1 := if cs ∨ p.stopReq then controlledStop d n
    else if p.cstopWas then releaseHalt d n else d
  d1.setPlan n { d1.plan n with cstopWas := cs }

/-- R206: from the first snapshot at or after a trip the axis is held at v = 0; strokes end and ranks break. -/
def snapTrip (d : Dev) (n : Nat) : Dev :=
  if d.tripped n then
    let d1 := leaveRank (endStroke d n) n
    let p := d1.plan n
    d1.setPlan n { p with halted := true, mot := { p.mot with v := 0 } }
  else d

/-! ### Segment queues -/

def entryLim (ws : List Word) : Lim :=
  ⟨fld (ws.getD 1 0) 34 0, (ws.getD 2 0).toNat, (ws.getD 3 0).toNat, fld (ws.getD 4 0) 34 0, fld (ws.getD 5 0) 34 0⟩

/-- Address of the entry for pointer value `i` of axis n. -/
def Dev.segAddr (d : Dev) (n i : Nat) : Nat := (d.part 2).1 + 2048 * n + 8 * (i % 256)

/-- The target an entry resolves to (R89, R90). -/
def resolve (p : Plan) (q : Queue) (raw : Nat) (rel : Bool) : Nat :=
  if rel then (q.relBase.getD (countOf p.mot.p) + raw) % 2 ^ 36 else raw

/-- R92: a queue fault; the stop runs with the limits of the last valid entry. -/
def queueFault (d : Dev) (n cause : Nat) : Dev :=
  let q := d.queue n
  let d1 := (d.setQueue n { q with fault := cause, act := none, ready := none }).ev (pgAxis n) 4
  let d2 := d1.planEv n 2
  d2.setPlan n { d2.plan n with stopReq := true, stopLim := q.lastLim }

/-- R90: the head entry becomes active, waits for its rank, or faults. -/
def activateHead (d : Dev) (n : Nat) : Dev :=
  let q0 := d.queue n
  let (ws?, d1) := d.memGets (d.segAddr n q0.head) 8
  match ws? with
  | none => queueFault d1 n 2
  | some ws =>
    let lim := entryLim ws
    if !lim.ok then queueFault d1 n 1
    else
      let w6 := ws.getD 6 0
      let raw := (ws.getD 0 0).toNat
      let q := d1.queue n
      let e : QEntry :=
        { target := resolve (d1.plan n) q raw (bit w6 35), lim := lim, irq := bit w6 34,
          thru := false, dwell := fld w6 23 0, rankMove := bit w6 31, fresh := true, tag := ws.getD 7 0 }
      if e.rankMove then
        d1.setQueue n { q with ready := some (fld w6 30 26, raw, bit w6 35, e), lastLim := some lim }
      else
        let two := decide (1 < (q.tail + 512 - q.head) % 512)
        let thr := bit w6 33
        let q1 := { q with act := some { e with thru := thr && two }, ready := none, relBase := some e.target,
                           lastLim := some lim, tunder := if thr && !two then min (q.tunder + 1) 4095 else q.tunder }
        d1.setQueue n q1

/-- The queue's part of a snapshot: the head advances after a dwell, the next entry becomes active (R90), and QEMPTY
(R93). -/
def snapQueue (d : Dev) (n : Nat) : Dev :=
  if d.axMode n ≠ 2 then d
  else
    let q := d.queue n
    let halted := (d.plan n).halted
    let q1 := if q.dwell = some 0 ∧ !halted then { q with dwell := none, head := (q.head + 1) % 512 } else q
    let d1 := d.setQueue n { q1 with ready := none }
    let d2 := if q1.act.isNone ∧ q1.dwell.isNone ∧ q1.head ≠ q1.tail ∧ q1.fault = 0 ∧ !halted then activateHead d1 n
      else d1
    let q2 := d2.queue n
    let hold := q2.act.isNone && q2.dwell.isNone && q2.head == q2.tail
    let d3 := if hold ∧ !q2.holding then d2.ev (pgAxis n) 3 else d2
    d3.setQueue n { q2 with holding := hold }

/-- QCTRL.FLUSH (R93): the queue empties, the active entry is abandoned, and a controlled stop is requested with that
entry's limits. -/
def flushQueue (d : Dev) (n : Nat) : Dev :=
  let q := d.queue n
  let d1 := d.setQueue n { q with head := q.tail, act := none, ready := none, dwell := none, relBase := none, fault := 0 }
  let p := d1.plan n
  d1.setPlan n { p with stopReq := true, stopLim := (q.act.map QEntry.lim) <|> p.stopLim }

/-- QCTRL.RESUME (R92). -/
def resumeQueue (d : Dev) (n : Nat) : Dev := d.setQueue n { d.queue n with fault := 0 }

/-- The TAIL values that R89 accepts. -/
def tailOk (q : Queue) (t : Nat) : Bool :=
  let now := (q.tail + 512 - q.head) % 512
  let new := (t + 512 - q.head) % 512
  decide (new ≤ 256 ∧ now ≤ new)

/-! ### Ranks (R94 to R97) -/

/-- Members that take part in a start (R95). -/
def Dev.takesPart (d : Dev) (n : Nat) : Bool := decide (d.axMode n = 0 ∨ d.axMode n = 2)

/-- R94's pending start. -/
def rankPending (d : Dev) (r : Nat) (ms : List Nat) : Bool :=
  let k := d.rank r
  let qs := ms.filter (fun n => d.axMode n == 2)
  (ms.any (fun n => d.axMode n == 0 && decide (k.startAt < (d.plan n).xtgtAt))) ||
    (!qs.isEmpty && qs.all (fun n => match (d.queue n).ready with
      | some (k, _) => k == r
      | none => false))

/-- Every member at rest, not HALTED, and free of an entry or a stroke of its own. -/
def rankReady (d : Dev) (r : Nat) (ms : List Nat) : Bool :=
  ms.all (fun n =>
    let p := d.plan n
    let q := d.queue n
    decide (p.mot.v = 0) && !p.halted && q.stroke.isNone && !(d.ob n).retrying &&
      (d.axMode n != 2 || (q.act.isNone && q.dwell.isNone &&
        (q.head == q.tail || (match q.ready with | some (k, _) => k == r | none => false)))))

/-- The target of a member at a start (R95). -/
def memberTarget (d : Dev) (r n : Nat) : Nat :=
  if d.axMode n = 0 then d.xtgt n
  else match (d.queue n).ready with
    | some (k, raw, rel, _) => if k = r then resolve (d.plan n) (d.queue n) raw rel else countOf (d.plan n).mot.p
    | none => countOf (d.plan n).mot.p

def memberLim (d : Dev) (r n : Nat) : Lim :=
  match (d.queue n).ready with
  | some (k, _, _, e) => if d.axMode n = 2 ∧ k = r then e.lim else d.axLim n
  | none => d.axLim n

/-- R95: the start of a rank. -/
def startRank (d : Dev) (r : Nat) (ms : List Nat) : Dev :=
  let mem := ms.map (fun n =>
    let s := countOf (d.plan n).mot.p
    (⟨n, s, diff36 (memberTarget d r n) s⟩ : RankMember))
  let u := mem.foldl (fun a m => max a m.dist.natAbs) 0
  let lead := (mem.find? (fun m => m.dist.natAbs == u)).elim 0 RankMember.axis
  let lim := rankLimits u (mem.map (fun m => (d.ovLim m.axis (memberLim d r m.axis), m.dist.natAbs)))
  let d1 := mem.foldl (fun dd m =>
    let p := dd.plan m.axis
    let q := dd.queue m.axis
    let t := memberTarget d r m.axis
    let dd1 := dd.setPlan m.axis { p with rankRun := some r, rankTgt := some t, xtgtNew := false,
                                          mot := { p.mot with rwait := 0 } }
    match q.ready with
    | some (k, _, _, e) =>
      if dd.axMode m.axis = 2 ∧ k = r then
        dd1.setQueue m.axis { q with act := some { e with target := t, fresh := false }, ready := none, relBase := some t }
      else dd1
    | none => dd1) d
  d1.setRank r { phase := if u = 0 then .idle else .moving, broken := false, landedNow := decide (u = 0), vphase := 0,
                 virt := ⟨0, 0, 0⟩, lim := lim, u := u, lead := lead, startAt := d.tk + 1, members := mem }

/-- RANKS.RDONE for rank `r` (R96). -/
def rankDone (d : Dev) (r : Nat) : Dev :=
  (d.wr pgRanks Reg.ranks.RDONE (setBit (d.rd pgRanks Reg.ranks.RDONE) r true)).ev pgRanks 0

/-- One rank at a snapshot: its start, its restart, and its virtual axis's tick. -/
def rankTick (d : Dev) (r : Nat) : Dev :=
  let ms := (d.rankAxes r).filter d.takesPart
  let k := d.rank r
  let d1 := match k.phase with
    | .moving => if rankPending d r ms then d.setRank r { k with phase := .braking } else d
    | .braking => d
    | _ =>
      if ms.isEmpty ∨ !rankPending d r ms then d.setRank r { k with phase := .idle, landedNow := false }
      else if rankReady d r ms then startRank d r ms
      else d.setRank r { k with phase := .wait, landedNow := false }
  let k1 := d1.rank r
  match k1.phase with
  | .moving =>
    let t := positionTick k1.virt k1.lim k1.u 0 false
    let d2 := d1.setRank r { k1 with virt := t.m, vphase := t.phase, landedNow := t.landed,
                                     phase := if t.landed then .idle else .moving }
    if t.landed then rankDone d2 r else d2
  | .braking =>
    let t := brakeTick k1.virt k1.lim.d k1.lim.vsp 0
    d1.setRank r { k1 with virt := t.m, vphase := 4, landedNow := false,
                           broken := if t.m.v = 0 then false else k1.broken,
                           phase := if t.m.v = 0 then .idle else .braking }
  | _ => if k1.landedNow ∧ k1.startAt = d.tk + 1 then rankDone d1 r else d1

/-! ### One tick of one axis -/

/-- Stores the outcome of a tick: the record, PHASE, the word's lanes (R71) and the events of R77 and R469. -/
def finishTick (d : Dev) (n : Nat) (t : TickOut) (lag : Int) (p : Plan) : Dev :=
  let l := lanesOf t.m.p t.m.v (d.ob n).esc
  let d1 := d.setPlan n { p with mot := t.m, phase := t.phase, lag := lag, xtgtNew := false, lanes := l, endP := t.m.p }
  d1.evt (pgAxis n) ((if t.landed then 1 else 0) + (if t.stopped then 2 else 0))

/-- A landing resets RCNT and ends the slow limit of a retry (R250). -/
def landedRetry (d : Dev) (n : Nat) : Dev :=
  let o := d.ob n
  d.setOb n { o with rcnt := 0, slow := false, retrying := if o.slow then false else o.retrying,
                     stalled := if o.slow then false else o.stalled }

/-- An entry completes (R90, R91). -/
def completeEntry (d : Dev) (n : Nat) (e : QEntry) (dwell : Nat) : Dev :=
  let q := d.queue n
  let d1 := d.setQueue n { q with act := none, dwell := some dwell, lastDone := some e.target }
  if e.irq then d1.ev (pgAxis n) 5 else d1

/-- A member of a rank that moved or braked in this tick (R96, R97). -/
def memberTick (d : Dev) (n r : Nat) : Dev :=
  let p := d.plan n
  let k := d.rank r
  match k.members.find? (fun m => m.axis == n) with
  | none => d.setPlan n { p with rankRun := none }
  | some m =>
    let ended := decide (k.phase = .idle ∨ k.phase = .wait)
    let c := rankCount m.start m.dist k.virt.p k.u
    let np := if m.dist = 0 then p.mot.p else c * two32
    let nv : Int := if ended ∨ m.dist = 0 then 0 else diff36 c (countOf p.mot.p) * (two32 : Nat)
    let t : TickOut := ⟨⟨np, nv, 0⟩, if ended ∧ k.landedNow then 0 else k.vphase, ended && k.landedNow, false,
      ended && !k.landedNow && m.dist != 0⟩
    let d1 := finishTick d n t 0 { p with rankRun := if ended then none else some r }
    if ended ∧ k.landedNow then
      let d2 := landedRetry d1 n
      match (d2.queue n).act with
      | some e => if e.rankMove then completeEntry d2 n e e.dwell else d2
      | none => d2
    else d1

/-- The tick of an axis that runs a stroke (R130, R131). -/
def strokeTick (d : Dev) (n : Nat) (s : StrokeRun) : Dev :=
  let p := d.plan n
  let q := d.queue n
  match s.dwell with
  | some k =>
    let d1 := d.setQueue n { q with stroke := some { s with dwell := some (k - 1) } }
    finishTick d1 n ⟨p.mot, 5, false, false, false⟩ 0 p
  | none =>
    match s.moves[s.mv]? with
    | none => d.setQueue n { q with stroke := none }
    | some m =>
      let t := positionTick p.mot (d.slowed n m.lim) m.target m.revdwell s.fresh
      let s1 := { s with fresh := false, dwell := if t.landed then some m.dwell else none }
      let d1 := finishTick (d.setQueue n { q with stroke := some s1 }) n t 0 p
      if t.landed then landedRetry d1 n else d1

/-- The tick of an axis in QUEUE mode (R90, R91, R93). -/
def queueTick (d : Dev) (n : Nat) : Dev :=
  let p := d.plan n
  let q := d.queue n
  match q.act with
  | some e =>
    let lim := d.slowed n e.lim
    let t := if e.thru then throughTick p.mot lim e.target (d.revdwell n)
      else positionTick p.mot lim e.target (d.revdwell n) e.fresh
    let d1 := d.setQueue n { q with act := some { e with fresh := false } }
    let d2 := finishTick d1 n t 0 p
    if t.landed then completeEntry (landedRetry d2 n) n e e.dwell
    else if t.done then completeEntry d2 n e 0
    else d2
  | none =>
    match q.dwell with
    | some (k + 1) =>
      finishTick (d.setQueue n { q with dwell := some k }) n ⟨p.mot, 5, false, false, false⟩ 0 p
    | _ =>
      let l := d.ovLim n (d.axLim n)
      let t := brakeTick p.mot l.d l.vsp (d.revdwell n)
      let waits := q.ready.isSome && decide (p.mot.v = 0)
      finishTick d n { t with phase := if waits then 7 else t.phase } 0 p

/-- The tick of an axis in a controlled stop (R83): the limits of the stop, of the active entry, or of the axis. -/
def haltedTick (d : Dev) (n : Nat) : Dev :=
  let p := d.plan n
  let q := d.queue n
  let own := if d.axMode n = 2 then (q.act.map QEntry.lim).getD (d.axLim n) else d.axLim n
  let l := d.ovLim n (p.stopLim.getD own)
  finishTick d n (brakeTick p.mot l.d l.vsp (d.revdwell n)) 0 p

/-- The tick of an axis in its mode. -/
def modeTick (d : Dev) (n : Nat) : Dev :=
  let p := d.plan n
  let l := d.slowed n (d.axLim n)
  match d.axMode n with
  | 0 =>
    match (d.queue n).stroke with
    | some s => strokeTick d n s
    | none =>
      let waits : Bool := match d.rankSel n with
        | some r => (d.rank r).phase == .wait
        | none => false
      if waits then
        let t := brakeTick p.mot l.d l.vsp (d.revdwell n)
        finishTick d n { t with phase := if p.mot.v = 0 then 7 else 4 } 0 p
      else
        let t := positionTick p.mot l (d.xtgt n) (d.revdwell n) p.xtgtNew
        let d1 := finishTick d n t 0 p
        if t.landed then landedRetry d1 n else d1
  | 1 =>
    finishTick d n (velocityTick p.mot l (sfld (d.rd (pgAxis n) Reg.axis.VTGT) 35 0) (d.revdwell n)) 0 p
  | 2 => queueTick d n
  | md =>
    let tgt := if md = 3 ∨ md = 4 then p.stgt else p.gtgt
    let d0 := if (md = 5 ∨ md = 6) ∧ d.badMaster n then d.overspeed n else d
    if md = 3 ∨ md = 5 then
      let (m, lag, wide) := directTick p.mot tgt
      let d1 := finishTick d0 n ⟨m, 6, false, false, false⟩ lag p
      if wide ∧ !((md = 5) ∧ d.badMaster n) then d1.overspeed n else d1
    else
      let t := positionTick p.mot l tgt (d.revdwell n) false
      finishTick d0 n t (diff36 tgt (countOf t.m.p)) p

/-- The rest of a retry (R250, step 2). -/
def retryRest (d : Dev) (n k : Nat) : Dev :=
  let o := d.ob n
  let p := d.plan n
  let d1 := d.setOb n { o with rdwell := if k ≤ 1 then none else some (k - 1), slow := o.slow || decide (k ≤ 1) }
  finishTick d1 n ⟨{ p.mot with v := 0 }, 0, false, false, false⟩ 0 p

/-- R207's tick for one axis. -/
def rampStep (rp : Nat) (rv : Int) (rdec : Nat) : Nat × Int :=
  let v := sgnI rv * max (absI rv - rdec) 0
  (addP rp v, v)

/-- R208: while the ramp engine holds the grove the Quills follow its position. -/
def rampedTick (d : Dev) (n : Nat) (idle : Bool) : Dev :=
  let p := d.plan n
  let g := d.ga n
  let (rp, _) := rampStep g.rp g.rv (d.rd (pgFire (n / 16)) (Reg.firebrk.RDEC + n % 16)).toNat
  finishTick d n ⟨{ p.mot with p := rp, v := 0 }, 0, false, false, false⟩ 0 { p with halted := p.halted || !idle }

/-- One tick of axis n (R72: each axis uses the words the others had before the tick). -/
def axisTick (d : Dev) (n : Nat) : Dev :=
  let p := d.plan n
  if d.rampHolds n then rampedTick d n (decide (d.sup.ps = .idle))
  else match p.rankRun with
    | some r => memberTick d n r
    | none =>
      if p.halted then haltedTick d n
      else match (d.ob n).rdwell with
        | some k => retryRest d n k
        | none => modeTick d n

/-! ### Status of an axis (R469) -/

/-- The target in effect of LANDED; none in VELOCITY, STEP and GEAR modes. -/
def landTarget (d : Dev) (n : Nat) : Option Nat :=
  let q := d.queue n
  match d.axMode n with
  | 0 =>
    match q.stroke with
    | some s => (s.moves[s.mv]?).map StrokeMove.target
    | none => if (d.rankSel n).isSome then some ((d.plan n).rankTgt.getD (d.xtgt n)) else some (d.xtgt n)
  | 2 =>
    if (d.rankSel n).isSome ∧ (d.plan n).rankTgt.isSome then (d.plan n).rankTgt
    else match q.act with
      | some e => some e.target
      | none => some (q.lastDone.getD (d.xtgt n))
  | _ => none

def axisLanded (d : Dev) (n : Nat) : Bool :=
  match landTarget d n with
  | some t => decide ((d.plan n).mot.v = 0 ∧ (d.plan n).mot.p = t * two32)
  | none => false

end Sys2Proof.Machine
end

