-- ==== Sys2Proof/Machine/Observer.lean ====
section
/-!
DEFINITION. The load observer (R242 to R258): sample checks, Margin, stall, retry, economy and calibration at speed.
-/
namespace Sys2Proof.Machine

/-- VBLIND_eff of R244. -/
def Dev.vblindEff (d : Dev) (n : Nat) : Nat :=
  max (d.rf (pgAxis n) Reg.axis.VBLIND 34 0) (d.rf (pgAxis n) Reg.axis.ZCW1 34 0)

/-- e_exp of R246. -/
def Dev.eexp (d : Dev) (n : Nat) (vel : Int) : Nat :=
  (d.rd (pgAxis n) Reg.axis.KE).toNat * (absI vel).toNat / 2 ^ 36

/-- The ring and both stall counters are emptied (R245, R251). -/
def Observer.empty (o : Observer) : Observer := { o with ring := [], lowcnt := 0, collcnt := 0 }

/-- A sample that counts toward the run of empties (R244); the fourth begins cause 5 (R245). -/
def emptyRun (d : Dev) (n : Nat) : Dev :=
  let o := d.ob n
  let d1 := d.setOb n { o with empties := o.empties + 1 }
  if o.empties = 3 then (d1.setOb n (d1.ob n).empty).ev (pgAxis n) 20 else d1

/-- y of R246. -/
def ratioOf (en : Int) (eexp : Nat) : Nat := (min 1023 (max 0 ((1023 * en).fdiv (eexp : Nat)))).toNat

/-- The mean of a full ring (R246). -/
def marginOf (r : List Nat) : Nat := (rhe ((r.foldl (· + ·) 0 : Nat) : Int) 4).toNat

/-- One calibration sample (R255), and the end of a calibration that has its n samples (R256). -/
def calSample (d : Dev) (n : Nat) (e : Int) (h : Nat) (vel : Int) : Dev :=
  let o := d.ob n
  match o.cal with
  | none => d
  | some (cnt, refm) =>
    let acc := o.acc + (e * (1 - 2 * (h : Int)) * 2 ^ 36).fdiv (absI vel)
    let d1 := d.setOb n { o with acc := acc, got := o.got + 1 }
    if o.got + 1 < cnt then d1
    else
      let ke := rhe (1023 * absI acc) ((cnt * refm : Nat) : Int)
      if ke = 0 then calEnd d1 n 3 1
      else if (2 : Int) ^ 36 ≤ ke then calEnd d1 n 3 2
      else
        let p := pgAxis n
        let d2 := { d1 with shadow := (d1.shadow.erase (key p Reg.axis.KE)).erase (key p Reg.axis.OBSCFG) }
        let d3 := (d2.wr p Reg.axis.KE (BitVec.ofNat 36 ke.toNat)).wf p Reg.axis.OBSCFG 34 34 (bnat (decide (acc < 0)))
        calEnd (d3.setOb n (d3.ob n).empty) n 2 0

/-- What a declared stall does on every axis (R249). -/
def declareStall (d : Dev) (n : Nat) (low coll : Bool) : Dev :=
  let p := pgAxis n
  let o := d.ob n
  let d1 := (d.setOb n { o with lowcnt := 0, collcnt := 0, esc := 4095 }).incSat p Reg.axis.STALLINFO 23 0
  let d2 := (d1.wf p Reg.axis.STALLINFO 24 24 (bnat low)).wf p Reg.axis.STALLINFO 25 25 (bnat coll)
  (d2.ev p 16).loseTrust n 1

/-- Whether economy is wanted for an axis: ECON.EN, or T2 on an axis whose KE is not 0 (R253). -/
def Dev.econWanted (d : Dev) (n : Nat) : Bool :=
  d.rb (pgAxis n) Reg.axis.ECON 35 || decide (2 ≤ d.sup.view.t)

/-- R254 for one sample. -/
def econStep (d : Dev) (n y : Nat) : Dev :=
  let o := d.ob n
  let ec := d.rd (pgAxis n) Reg.axis.ECON
  let active := d.econWanted n && !(d.plan n).halted && !o.retrying
  let esc : Nat :=
    if !active ∨ y < fld ec 19 10 then 4095
    else
      let step : Int := (((o.margin : Int) - (fld ec 9 0 : Nat)) * (fld ec 31 24 : Nat)).fdiv 256
      (min (4095 : Int) (max (d.rf (pgAxis n) Reg.axis.ECONLIM 11 0 : Nat) ((o.esc : Int) - step))).toNat
  d.setOb n { o with esc := esc }

/-- A valid sample while the axis is not blind, or blind for cause 6 (R245 to R248, R254). Answers whether it declared a
stall. -/
def ratioSample (d : Dev) (n : Nat) (e : Int) (eexp y : Nat) (vel : Int) : Bool × Dev :=
  let p := pgAxis n
  let o := d.ob n
  let ring := (o.ring ++ [y]).drop (o.ring.length + 1 - 4)
  let full := decide (ring.length = 4)
  let o1 := { o with ring := ring, margin := if full then marginOf ring else o.margin, blind := if full then 0 else 6 }
  let st := d.rd p Reg.axis.STALL
  let stalln := fld st 31 24
  let lowcnt := if 0 < stalln ∧ full ∧ o1.margin < fld st 9 0 then o.lowcnt + 1 else 0
  let vst := d.rf p Reg.axis.VSTALL 34 0
  let collcnt := if 0 < vst ∧ (vst : Int) ≤ absI vel ∧ absI e * 1024 < ((eexp * fld st 19 10 : Nat) : Int) then o.collcnt + 1 else 0
  let low := decide (0 < stalln ∧ stalln ≤ lowcnt)
  let coll := decide (fld st 23 20 ≤ collcnt)
  let d1 := d.setOb n { o1 with lowcnt := lowcnt, collcnt := collcnt }
  if low ∨ coll then (true, declareStall d1 n low coll)
  else (false, if full then econStep d1 n y else d1)

/-- One sample at a snapshot (R244, R246, R255). Answers whether it declared a stall. -/
def processSample (d : Dev) (n : Nat) (s : Sample) : Bool × Dev :=
  let p := pgAxis n
  let o := d.ob n
  if s.empty then (false, emptyRun (d.incSat p Reg.axis.OBSERR 35 24) n)
  else
    match (o.velHist.take 4).find? (fun h => h.1 == s.tag) with
    | none => (false, d.incSat p Reg.axis.OBSERR 23 12)
    | some (_, lane, asComputed) =>
      if !asComputed then (false, d.incSat p Reg.axis.OBSERR 23 12)
      else if s.ovr then (false, emptyRun (d.incSat p Reg.axis.OBSERR 11 0) n)
      else
        let vel := sgn 36 lane
        let e := s.value * (2 : Int) ^ (4 - s.gain)
        if absI vel < (d.vblindEff n : Nat) then (false, d)
        else if o.cal.isSome then
          let d1 := (d.setOb n { o with empties := 0 }).incWrap p Reg.axis.OBSCNT 35 0 1
          (false, calSample d1 n e s.half vel)
        else
          let ee := d.eexp n vel
          if ee = 0 then (false, d)
          else
            let en := e * (1 - 2 * (s.half : Int)) * (1 - 2 * (bnat (d.rb p Reg.axis.OBSCFG 34) : Int))
            let y := ratioOf en ee
            let d1 := (d.setOb n { o with empties := 0, ylast := y, blind := if o.blind = 5 then 6 else o.blind }).incWrap p Reg.axis.OBSCNT 35 0 1
            let d2 := (d1.wr p Reg.axis.SAMPLE (BitVec.ofNat 36 (s.coil * 2 ^ 35 + s.half % 2 * 2 ^ 34 + unsgn 28 en))).wr p
              Reg.axis.EEXP (BitVec.ofNat 36 ee)
            let b := (d2.ob n).blind
            if b = 0 ∨ b = 6 then ratioSample d2 n e ee y vel else (false, d2)

/-- The blind cause of an axis after its samples (R245): the lowest code that holds. -/
def Dev.blindCause (d : Dev) (n : Nat) : Nat :=
  let o := d.ob n
  let p := pgAxis n
  if !(d.rb p Reg.axis.OBSCFG 35 && d.rb p Reg.axis.ZCW0 35 && d.rb p Reg.PAGE_CTRL 8 && d.rb (pgGrove (n / 16)) Reg.PAGE_CTRL 0) then 1
  else if d.rd p Reg.axis.KE = 0 then 2
  else if o.cal.isSome then 3
  else if absI (sgn 36 (d.ga n).w1.vel) < (d.vblindEff n : Nat) then 4
  else if 4 ≤ o.empties then 5
  else if o.ring.length < 4 then 6
  else 0

/-- Samples in the order of R243: ascending tick tag (serially, from 128 ticks before the boundary on), coil A first. -/
def sampleKey (tk : Nat) (s : Sample) : Nat := (s.tag + 384 - tk % 256) % 256 * 2 + s.coil

def insertSample (tk : Nat) (s : Sample) : List Sample → List Sample
  | [] => [s]
  | x :: t => if sampleKey tk s < sampleKey tk x then s :: x :: t else x :: insertSample tk s t

def sortSamples (tk : Nat) (l : List Sample) : List Sample := l.foldl (fun acc s => insertSample tk s acc) []

/-- Processes the samples delivered before this boundary; answers whether a stall was declared (R243). -/
def processSamples (d : Dev) (n : Nat) : Bool × Dev :=
  let o := d.ob n
  let o1 := if o.refill then { o.empty with refill := false, margin := 0x3FF } else o
  let d1 := d.setOb n { o1 with samples := [], blind := if o.refill ∧ o.blind = 0 then 6 else o.blind }
  (sortSamples d.tk o.samples).foldl (fun acc s =>
    let (st, d2) := processSample acc.2 n s
    (acc.1 || st, d2)) (false, d1)

/-- Blindness and economy after the samples (R245, R253). -/
def observerEnd (d : Dev) (n : Nat) : Dev :=
  let b := d.blindCause n
  let o := d.ob n
  let o1 := if 1 ≤ b ∧ b ≤ 5 ∧ o.blind ≠ b then o.empty else o
  let act := decide (b = 0) && d.econWanted n && !(d.plan n).halted && !o.retrying
  d.setOb n { o1 with blind := b, econAct := act, esc := if act then o1.esc else 4095 }

/-- An action that holds the axis: v is 0 and p unchanged, with no braking (R249, HOLD). -/
def holdNow (d : Dev) (n : Nat) : Dev :=
  let d1 := leaveRank (endStroke d n) n
  let p := d1.plan n
  d1.setPlan n { p with halted := true, mot := { p.mot with v := 0 } }

/-- The cases in which RETRY acts as STOP (R250): 0 none, 1 RMAX reached, 2 another. -/
def Dev.retryStops (d : Dev) (n : Nat) : Nat :=
  if d.rf (pgAxis n) Reg.axis.RETRY 19 16 ≤ (d.ob n).rcnt then 1
  else if (d.queue n).stroke.isSome ∨ (d.plan n).rankRun.isSome ∨ 3 ≤ d.axMode n then 2 else 0

/-- The action of a stall, in the place of item 6 of R98 (R249, R250). -/
def stallAction (d : Dev) (n : Nat) : Dev :=
  if (d.plan n).halted then d
  else
    let mark (d : Dev) : Dev :=
      d.setOb n { d.ob n with stalled := true, retrying := false, slow := false, rdwell := none }
    match d.rf (pgAxis n) Reg.axis.STALL 33 32 with
    | 0 => mark (controlledStop d n)
    | 1 => mark (holdNow d n)
    | 2 =>
      match d.retryStops n with
      | 0 =>
        let o := d.ob n
        let k := d.rf (pgAxis n) Reg.axis.RETRY 15 0
        let p := d.plan n
        (d.setPlan n { p with mot := { p.mot with v := 0 } }).setOb n { o with
          rcnt := o.rcnt + 1, retrying := true, stalled := true, rdwell := if k = 0 then none else some k, slow := decide (k = 0) }
      | 1 => mark ((controlledStop d n).ev (pgAxis n) 19)
      | _ => mark (controlledStop d n)
    | _ => d

/-- The observer's part of a snapshot of axis n. -/
def snapObserver (d : Dev) (n : Nat) : Dev :=
  let (stall, d1) := processSamples d n
  let d2 := if stall then stallAction d1 n else d1
  observerEnd d2 n

/-- A VTGT or VMAX value that takes effect ends the slow limit of a retry in VELOCITY mode (R250, step 4). -/
def endSlow (d : Dev) (n : Nat) : Dev :=
  let o := d.ob n
  if d.axMode n = 1 ∧ o.slow then d.setOb n { o with slow := false, retrying := false, stalled := false } else d

/-- STALLED clears when HALTED clears under STOP or HOLD (R249): the Planner's releaseHalt does it. CUREN or DRVEN falling
ends a calibration (R256). -/
def calAbort (d : Dev) (n : Nat) : Dev := calEnd d n 4 0

end Sys2Proof.Machine
end

