-- ==== Sys2Proof/Machine/Time.lean ====
section
/-!
DEFINITION. The timebase (R314 to R330): canopy time, the grid of boundaries, reference sources, slewing, epochs and
timed strobes.
-/
namespace Sys2Proof.Machine

def two72 : Nat := 2 ^ 72
def two36 : Nat := 2 ^ 36

/-- Canopy-time units that one gck adds, over `nowDen`, at a rate correction in 2^-40 (R316, R318). -/
def gckNum (rate : Int) : Nat := 2 ^ 36 * (2 ^ 40 + rate).toNat
def nowDen : Nat := 400000000 * 2 ^ 40

/-- A time and its remainder after `k` gck at a rate. -/
def timeAfter (t rem k : Nat) (rate : Int) : Nat × Nat :=
  let n := rem + k * gckNum rate
  ((t + n / nowDen) % two72, n % nowDen)

/-- Time passes: `k` gck. In STANDBY and RETAIN canopy time stands (R403). -/
def Dev.advance (d : Dev) (k : Nat) : Dev :=
  if k = 0 then d
  else if d.sup.ps = .standby ∨ d.sup.ps = .retain then { d with clk := d.clk + k }
  else
    let tb := d.tb
    let (n, nr) := timeAfter tb.now tb.nowRem k (tb.rate + tb.slew)
    let (s, sr) := timeAfter tb.src tb.srcRem k tb.rate
    { d with clk := d.clk + k, tb := { tb with now := n, nowRem := nr, src := s, srcRem := sr } }

/-- Time passes up to instant `t`, if it lies ahead. -/
def Dev.advanceTo (d : Dev) (t : Nat) : Dev := d.advance (t - d.clk)

/-- Canopy time `age` gck ago, with the epoch it lies in (R314, R325, R376). -/
def Dev.stampAgo (d : Dev) (age : Nat) : Nat × Nat :=
  let now := unsgn 72 ((d.tb.now : Int) - (age * gckNum (d.tb.rate + d.tb.slew) / nowDen : Nat))
  let ep := d.rf pgTime Reg.time.EPOCH 11 0
  if d.clk < age + d.tb.stepAt then
    (unsgn 72 ((now : Int) - (d.rd72 pgTime Reg.time.STEP_LO : Nat)), (ep + 4095) % 4096)
  else (now, ep)

/-- Signed difference of two canopy times within one epoch (R13, R314). -/
def diff72 (x y : Nat) : Int := sgn 72 (unsgn 72 ((x : Int) - (y : Int)))

/-- gck until NOW reaches or passes the canopy time `t` (R316, R327). -/
def Dev.gckUntil (d : Dev) (t : Nat) : Nat :=
  let e := diff72 t d.tb.now
  if e ≤ 0 then 0
  else
    let need := e.toNat * nowDen - d.tb.nowRem
    (need + gckNum (d.tb.rate + d.tb.slew) - 1) / gckNum (d.tb.rate + d.tb.slew)

/-- The clk at which the next boundary falls. -/
def Dev.boundaryClk (d : Dev) : Nat := d.clk + d.gckUntil d.tb.bnext

/-! ### The grid (R316, R317) -/

/-- One step of the grid: R316's pseudocode. -/
def gridStep (tb : Timebase) : Timebase :=
  let q := tb.tper * two36 / 400000000
  let r := tb.tper * two36 - q * 400000000
  let rem := tb.grem + r
  let g := (tb.gnext + q) % two72
  let (g1, rem1) := if 400000000 ≤ rem then ((g + 1) % two72, rem - 400000000) else (g, rem)
  let lim : Int := (q / 10000 : Nat)
  let ofs := if tb.slewing then tb.gofs else tb.gofs - sgnI tb.gofs * min (absI tb.gofs) lim
  { tb with gnext := g1, grem := rem1, gofs := ofs, bnext := unsgn 72 ((g1 : Int) + ofs) }

/-- Distance of grid instant `j` from X, both scaled by 400,000,000. -/
def gridDist (num : Nat) (x : Int) (j : Int) : Int := absI ((j * (num : Nat)).fdiv 400000000 * 400000000 - x)

/-- R317: the grid anchored anew at a boundary whose canopy time is `b`: the next instant is the one nearest to
b + P_new, the earlier of two, and GOFS takes the difference. -/
def reanchor (tb : Timebase) (b : Nat) : Timebase :=
  let num := tb.tper * two36
  let x : Int := diff72 b tb.tgrid * 400000000 + (num : Nat)
  let j0 := x.fdiv (num : Nat)
  let a := if gridDist num x j0 ≤ gridDist num x (j0 + 1) then j0 else j0 + 1
  let j := if gridDist num x (j0 - 1) ≤ gridDist num x a then j0 - 1 else a
  let g := unsgn 72 ((tb.tgrid : Int) + (j * (num : Nat)).fdiv 400000000)
  let next := unsgn 72 ((b : Int) + ((num / 400000000 : Nat) : Int))
  { tb with gnext := g, grem := ((j * (num : Nat)) % 400000000).toNat, gofs := diff72 next g, bnext := next }

/-! ### Sources (R320 to R325) -/

/-- 1 µs in canopy-time units (R323, R324). -/
def oneMicro : Int := 68719

/-- STEPLIM in canopy-time units. -/
def Dev.stepLim (d : Dev) : Int := ((d.rf pgTime Reg.time.SLEW 19 0 * two36 / 1000000 : Nat) : Int)

/-- The offset of the selected source as it stands (TIME.OFFSET). -/
def Timebase.offset (tb : Timebase) : Int := diff72 tb.src tb.now

def Dev.setTb (d : Dev) (tb : Timebase) : Dev := { d with tb := tb }

/-- LOCKED follows the offset (R324); it reads 0 where the selected source has none (XTAL without a SET). -/
def relock (d : Dev) (hasOffset : Bool) : Dev :=
  let l := hasOffset && decide (absI d.tb.offset ≤ oneMicro)
  if l = d.tb.locked then d else (d.setTb { d.tb with locked := l }).ev pgTime 8

/-- A rate in 2^-40 of `ppm` parts per million. -/
def ppmRate (ppm : Nat) : Int := ((ppm * 2 ^ 40 / 1000000 : Nat) : Int)

/-- R324, R325: the offset Δ of the selected source is slewed, or an epoch start is decided. The slew's rate is a free
value of at most SLEWMAX. -/
def takeOffset (d : Dev) (delta : Int) : Dev :=
  if d.stepLim < absI delta then
    d.setTb { d.tb with epochPending := some delta, slewing := false, slew := 0 }
  else
    let (i, d1) := d.draw
    let ppm := 1 + Config.freeNat i % max 1 (d.rf pgTime Reg.time.SLEW 31 24)
    let tb := d1.tb
    relock (d1.setTb { tb with src := unsgn 72 ((tb.now : Int) + delta), srcRem := tb.nowRem, epochPending := none,
                               slewing := decide (delta ≠ 0), slew := sgnI delta * ppmRate ppm }) true

/-- The rate correction of the selected source: a free value within the clamp of R318. -/
def freeRate (d : Dev) : Dev :=
  let (i, d1) := d.draw
  let lim := ppmRate 200
  d1.setTb { d1.tb with rate := (Config.freeNat i % (2 * lim.toNat + 1) : Nat) - lim }

def Timebase.source (tb : Timebase) : TimeSource → SourceState
  | .sernyx => tb.sx
  | .pps => tb.pps
  | .xtal => SourceState.init

def Timebase.setSource (tb : Timebase) (k : TimeSource) (x : SourceState) : Timebase :=
  match k with
  | .sernyx => { tb with sx := x }
  | .pps => { tb with pps := x }
  | .xtal => tb

/-- The qualified source of highest priority (R321, R322). -/
def Dev.bestSource (d : Dev) : TimeSource :=
  let s := d.tb.sx.valid && d.tb.sx.qualified
  let p := d.tb.pps.valid && d.tb.pps.qualified
  if d.rb pgTime Reg.time.SRCCFG 0 then (if p then .pps else if s then .sernyx else .xtal)
  else if s then .sernyx else if p then .pps else .xtal

/-- Selects a source (R322): a slew stops where it has reached; XTAL after a loss is holdover. NOW never steps. -/
def select (d : Dev) (k : TimeSource) (lost : Bool) : Dev :=
  if d.tb.sel = k then d
  else
    let tb := d.tb
    let d1 := (d.setTb { tb with sel := k, slewing := false, slew := 0, src := tb.now, srcRem := tb.nowRem,
                                 epochPending := none, holdover := decide (k = .xtal) && lost }).ev pgTime 0
    if k = .xtal then relock (if lost then freeRate d1 else d1) false else d1

/-- A source becomes invalid (R320, R322), with its LCAUSE. -/
def loseSource (d : Dev) (k : TimeSource) (cause : Nat) : Dev :=
  let s := d.tb.source k
  if !s.valid then d
  else
    let was := decide (d.tb.sel = k)
    let d1 := d.setTb (d.tb.setSource k { s with valid := false, qualified := false, lostAt := if was then some d.clk else none })
    let d2 := d1.wf pgTime Reg.time.SRCSTAT 19 16 cause
    if was then select (d2.ev pgTime 1) d2.bestSource true else d2

/-- A source qualifies (R321, R322). -/
def qualify (d : Dev) (k : TimeSource) : Dev :=
  let s := d.tb.source k
  let d1 := (d.setTb (d.tb.setSource k { s with qualified := true })).ev pgTime 2
  select d1 d1.bestSource false

/-- A measured offset of a valid source (R320, R323). -/
def sourceOffset (d : Dev) (k : TimeSource) (delta : Int) : Dev :=
  let s := d.tb.source k
  let d1 :=
    if s.valid then d
    else
      let back := match s.lostAt with
        | some t => decide (d.clk ≤ t + 40000000 ∧ absI delta ≤ oneMicro)
        | none => false
      let d2 := d.setTb (d.tb.setSource k { s with valid := true, since := d.clk, qualified := back, lostAt := none })
      if back then select d2 k false else d2
  if d1.tb.sel = k then takeOffset (freeRate d1) delta else d1

/-- QTIME in gck. -/
def Dev.qtime (d : Dev) : Nat := d.rf pgTime Reg.time.SRCCFG 15 8 * 40000000

/-- A selected edge on PPS (R320): `refEdges` counts REFCLK edges since the edge before. -/
def ppsEdge (d : Dev) (refEdges : Nat) : Dev :=
  if !d.rb pgTime Reg.time.SRCCFG 1 then d
  else
    let s := d.tb.pps
    let d0 := d.setTb { d.tb with pps := { s with lastEdge := some d.tb.now } }
    match s.lastEdge with
    | none => d0
    | some t =>
      let iv := diff72 d.tb.now t
      let frac := d.tb.now % two36
      let delta : Int := if frac < two36 / 2 then -(frac : Int) else ((two36 - frac : Nat) : Int)
      if (400 * two36 / 1000000 : Nat) < absI (iv - (two36 : Nat)) then loseSource d0 .pps 3
      else if d.rb pgTime Reg.time.PPSCFG 1 ∧ ¬ (9998000 ≤ refEdges ∧ refEdges ≤ 10002000) then loseSource d0 .pps 4
      else if (200 * two36 / 1000000 : Nat) < absI (iv - (two36 : Nat)) then loseSource d0 .pps 5
      else sourceOffset d0 .pps delta

/-- The slew ends: the offset has been removed (R324). -/
def slewEnd (d : Dev) : Dev :=
  let tb := d.tb
  relock (d.setTb { tb with slewing := false, slew := 0, src := tb.now, srcRem := tb.nowRem }) true

/-- gck until a slew has removed its offset. -/
def Dev.slewTime (d : Dev) : Nat :=
  let per := 2 ^ 36 * (absI d.tb.slew).toNat
  if per = 0 then 0 else ((absI d.tb.offset).toNat * nowDen + per - 1) / per

/-- The write of SET_HI acts (R326); with SERNYX selected it is refused before. -/
def timeSet (d : Dev) (v : Nat) : Dev :=
  match d.tb.sel with
  | .pps =>
    let k := (diff72 (v / two36 * two36) (d.tb.now / two36 * two36)).fdiv (two36 : Nat)
    if k = 0 then d else d.setTb { d.tb with epochPending := some (k * (two36 : Nat)), slewing := false, slew := 0 }
  | _ => takeOffset d (diff72 v d.tb.now)

/-! ### Timed strobes (R327) -/

def tsOff (i : Nat) : Nat := Reg.time.TS_LO + 4 * i
def Dev.tsTime (d : Dev) (i : Nat) : Nat := d.rd72 pgTime (tsOff i)
/-- TSi_CTL.STATE. -/
def Dev.tsState (d : Dev) (i : Nat) : Nat := d.rf pgTime (tsOff i + 2) 18 16

/-- A slot fires, with its new STATE. -/
def tsFire (d : Dev) (i st : Nat) : Dev :=
  let d1 := (d.wf pgTime (tsOff i + 2) 18 16 st).ev pgTime 4
  d1.strobe (d.rf pgTime (tsOff i + 3) 31 0)

/-- ARM (R327). -/
def tsArm (d : Dev) (i : Nat) : Dev :=
  let d1 := d.wf pgTime (tsOff i + 2) 11 0 (d.rf pgTime Reg.time.EPOCH 11 0)
  if 0 < diff72 (d.tsTime i) d.tb.now then d1.wf pgTime (tsOff i + 2) 18 16 1
  else (tsFire d1 i 3).ev pgTime 6

def tsDisarm (d : Dev) (i : Nat) : Dev := d.wf pgTime (tsOff i + 2) 18 16 0

/-- R325, step 5. -/
def tsOldEpoch (d : Dev) : Dev :=
  d.each 8 (fun d i => if d.tsState i = 1 then (d.wf pgTime (tsOff i + 2) 18 16 4).ev pgTime 5 else d)

/-- An epoch starts at the boundary being placed (R325, steps 1 to 3 and 5). -/
def epochStart (d : Dev) (delta : Int) : Dev :=
  let tb := d.tb
  let d1 := d.setTb { tb with now := unsgn 72 ((tb.now : Int) + delta), src := unsgn 72 ((tb.now : Int) + delta),
                              srcRem := tb.nowRem, epochPending := none, slewing := false, slew := 0,
                              stepAt := d.clk }
  let d2 := (d1.incWrap pgTime Reg.time.EPOCH 11 0 1).wr72 pgTime Reg.time.STEP_LO (unsgn 72 delta)
  relock (tsOldEpoch (d2.ev pgTime 3)) true

/-- A boundary is placed (R316, R317, R325, R328): the epoch start that waits, new TPER and TGRID, and the next grid
instant. `grid` says that TPER or TGRID applied. -/
def placeNext (d : Dev) (grid : Bool) : Dev :=
  let b := d.tb.bnext
  match d.tb.epochPending with
  | some delta =>
    let d1 := epochStart d delta
    d1.setTb (reanchor d1.tb (unsgn 72 ((b : Int) + delta)))
  | none => if grid then d.setTb (reanchor d.tb b) else d.setTb (gridStep d.tb)

end Sys2Proof.Machine
end

