-- ==== Sys2Proof/Machine/Twin.lean ====
section
/-!
DEFINITION. Paired and split planners (R260 to R284), and the hand-over of output words to the groves (R30, R262 to
R264).
-/
namespace Sys2Proof.Machine

def Dev.setTw (d : Dev) (t : Twin) : Dev := { d with tw := t }

/-- TWIN events; on the FD9032 there is no TWIN page. -/
def Dev.twEv (d : Dev) (i : Nat) : Dev := if d.variant.full then d.ev pgTwin i else d

/-! ### CRC-64 and signatures (R265) -/

/-- One bit of the CRC, most significant bit first. -/
def crc64Bit (c : BitVec 64) (b : Bool) : BitVec 64 :=
  let s := c <<< 1
  if c.getLsbD 63 != b then s ^^^ 0x42F0E1EBA9EA3693#64 else s

/-- crc64 over the `n` low bits of `v`, most significant first. -/
def crc64 (c : BitVec 64) (v : Nat) : Nat → BitVec 64
  | 0 => c
  | n + 1 => crc64 (crc64Bit c (v.testBit n)) v n

/-- The record number of the canopy record of a Quill. -/
def canopyRecord : Nat := 128

/-- The signature over record contributions at checkpoint `ck` (R265): the axis records in ascending n, then the canopy
record. -/
def signature (ck : Nat) (axes : List Nat) : BitVec 64 :=
  (axes ++ [canopyRecord]).foldl (fun c x => crc64 c (Config.recordCrc ck x).toNat 64) 0

/-- The axes that a Quill computes. -/
def Dev.quillAxes (d : Dev) (q : Nat) : List Nat :=
  (List.range d.variant.axes).filter (fun n => computes d.variant d.tw.mode q (n / 16))

/-! ### Rates and bounds (R275) -/

def Dev.ckint (d : Dev) : Nat :=
  if d.variant.full then d.rf pgTwin Reg.twin.CKCFG 10 0 else d.rf pgPlanA Reg.plan.CKCFG 10 0

/-- The replay rate r. -/
def replayRate (tper load : Nat) : Nat := min 32 (81920000 * tper / (400000000 * load))

def Dev.load (d : Dev) : Nat := loadOf d.variant d.tw.mode
def Dev.rrate (d : Dev) : Nat := replayRate d.tb.tper d.load

/-- E_max = ceil((CKINT + 2 + r) / (r − 1)). -/
def emaxOf (ckint r : Nat) : Nat := (ckint + 2 + r + (r - 1) - 1) / (r - 1)

def Dev.recovOk (d : Dev) : Bool := decide (emaxOf d.ckint d.rrate ≤ 8)

/-- The first tick m with r·(m − k − 1) ≥ m − c + 1 (R274). -/
def resumeTick (r k c : Nat) : Nat := (r * (k + 1) + 1 - c + (r - 1) - 1) / (r - 1)

/-! ### Disagreement, recovery and escalation (R264, R274, R276) -/

/-- Words in an image: S = 64·A + 512 (R267). -/
def Dev.imageSize (d : Dev) : Nat := 64 * d.variant.axes + 512
def Dev.imageAddr (d : Dev) (slot copy : Nat) : Nat := (d.part 4).1 + (2 * slot + copy) * d.imageSize

/-- Reads an image: words with bad check bits are met as R40 says; answers the addresses that are uncorrectable. -/
def imageRead (d : Dev) (lo len : Nat) : List Nat × Dev :=
  (List.range len).foldl (fun acc i =>
    if (acc.2.mem.at (lo + i)).ecc = .clean then acc
    else
      let (r, d1) := acc.2.memGet (lo + i)
      (match r with
        | .ok _ => acc.1
        | .uncorrectable => i :: acc.1, d1)) ([], d)

/-- Records the reason of an escalation. -/
def escalated (d : Dev) (reason : Nat) : Dev :=
  ((d.wf pgTwin Reg.twin.RLAST 35 32 reason).incSat pgTwin Reg.twin.DCNT 11 0).ev pgTwin 2

/-- Whether a replay without handing words runs (R276). -/
def Twin.quiet (t : Twin) : Bool :=
  match t.recov with
  | some r => r.quiet
  | none => false

/-- The Quills restore and replay without handing words, where an image is there; a second escalation in the replay stops
both until reset (R276). -/
def replayQuiet (d : Dev) : Dev :=
  match d.tw.committed with
  | some (c, _) =>
    if d.tw.quiet then d.setTw { d.tw with dead := true, recov := none }
    else d.setTw { d.tw with recov := some ⟨d.tk, resumeTick d.rrate d.tk c, true⟩, writing := none }
  | none => d.setTw { d.tw with recov := none, writing := none }

/-- R276: every present grove is asked to ramp with cause TWIN, and the Quills replay. -/
def escalate (d : Dev) (reason : Nat) : Dev :=
  replayQuiet ((escalated d reason).eachGrove (fun d g => rampRequest d g 8))

/-- A disagreement of cause `c` is recorded (R264, R274 step 1); `info` holds AXIS, WLANE and TAG as DISAG places them. -/
def disRecord (d : Dev) (c info : Nat) : Dev :=
  let d1 := ((d.wr pgTwin Reg.twin.DISAG (BitVec.ofNat 36 (c * 2 ^ 32 + info))).wr pgTwin Reg.twin.DTICK (BitVec.ofNat 36 d.tk)).ev pgTwin 0
  (d1.incSat pgTwin Reg.twin.DCNT 35 24).setTw { d.tw with lastDis := some d.tk, writing := none, verdict := some false }

/-- Whether a disagreement at tick `k` follows another within 1,023 ticks (R276). -/
def disSoon (last : Option Nat) (k : Nat) : Bool :=
  match last with
  | some k1 => decide (1 ≤ (k + 2 ^ 36 - k1 % 2 ^ 36) % 2 ^ 36 ∧ (k + 2 ^ 36 - k1 % 2 ^ 36) % 2 ^ 36 ≤ 1023)
  | none => false

/-- A recovery begins from the committed checkpoint; without one it is an escalation (R274, R276). -/
def recoverNow (d : Dev) : Dev :=
  match d.tw.committed with
  | none => escalate d 4
  | some (k, _) => d.setTw { d.tw with recov := some ⟨d.tk, resumeTick d.rrate d.tk k, false⟩ }

/-- What follows a disagreement: recovery or escalation (R274, R276). `before` is TWIN's state at the disagreement. -/
def disFollow (before : Twin) (d : Dev) : Dev :=
  if before.recov.isSome then escalate d 2
  else if disSoon before.lastDis d.tk then escalate d 1
  else if !d.recovOk then escalate d 3
  else recoverNow d

/-- A disagreement of cause `c` in the tick in progress (R264, R282): DISAG records the lowest cause of a tick. -/
def disagree (d : Dev) (c info : Nat) : Dev :=
  if d.tw.mode ≠ .paired ∨ d.tw.dead then d
  else if d.tw.lastDis = some d.tk then
    if c < d.rf pgTwin Reg.twin.DISAG 35 32 then d.wr pgTwin Reg.twin.DISAG (BitVec.ofNat 36 (c * 2 ^ 32 + info)) else d
  else disFollow d.tw (disRecord d c info)

/-- The load of the committed image at the start of tick k + 1 (R274, step 3). -/
def loadImage (d : Dev) : Dev :=
  match d.tw.recov, d.tw.committed with
  | some r, some (_, slot) =>
    if r.k + 1 ≠ d.tk then d
    else
      let (bad0, d1) := imageRead d (d.imageAddr slot 0) d.imageSize
      if bad0.isEmpty then d1
      else
        let (bad1, d2) := imageRead (d1.twEv 7) (d.imageAddr slot 1) d.imageSize
        if bad0.any (fun i => bad1.contains i) then
          let d3 := if r.quiet then escalated d2 5 else (escalated d2 5).eachGrove (fun d g => rampRequest d g 8)
          d3.setTw { d3.tw with recov := none }
        else d2
  | _, _ => d

/-! ### Output words (R30, R262, R263) -/

/-- The 108 bits of the word computed for axis n, for interval tk + 1 (R70). -/
def Dev.word108 (d : Dev) (n : Nat) : Nat :=
  let l := (d.plan n).lanes
  l.pos + l.vel * 2 ^ 36 + (l.cur + ((d.tk + 1) % 256) * 2 ^ 12 + l.posf * 2 ^ 20) * 2 ^ 72

def wordTag (w : Nat) : Nat := nfld w 91 84
def gwordOf (w : Nat) : GWord := ⟨nfld w 35 0, nfld w 107 92, nfld w 71 36, nfld w 83 72⟩

/-- Whether words computed in the tick in progress are handed to groves (R274, R276). -/
def Dev.hands (d : Dev) : Bool :=
  !d.tw.dead && (match d.tw.recov with
    | some r => decide (r.m = d.tk) && !r.quiet
    | none => true)

/-- A word reaches its grove, in PAIRED mode with its second key: both copies agreed (R30, R262). -/
def acceptWord (d : Dev) (n w : Nat) : Dev :=
  let ga := d.ga n
  let gr := d.grove (n / 16)
  let ramped : Bool := match gr.ramp with
    | some r => r.took && !r.yields
    | none => false
  if ramped then d
  else if wordTag w ≠ (d.tk + 1) % 256 then d.setGa n { ga with refused := true }
  else d.setGa n { ga with accepted := some (gwordOf w) }

/-- The lane of the lowest bit in which two words differ (R264, DISAG.WLANE). -/
def diffLane (a b : Nat) : Nat :=
  if nfld a 35 0 ≠ nfld b 35 0 then 0 else if nfld a 71 36 ≠ nfld b 71 36 then 1 else 2

/-- DISAG's AXIS, WLANE and TAG fields. -/
def disInfo (n lane tag : Nat) : Nat := n * 2 ^ 24 + lane * 2 ^ 16 + tag * 2 ^ 8

/-- Quill `q` hands the word of axis n, with the bits of `diff` inverted by a fault (R30, R262). -/
def handWord (d : Dev) (q n diff : Nat) : Dev :=
  let w := d.word108 n ^^^ (diff % 2 ^ 108)
  if d.tw.mode = .paired then
    let ga := d.ga n
    let ga1 := if q = 0 then { ga with copyA := some w } else { ga with copyB := some w }
    let d1 := d.setGa n ga1
    match ga1.copyA, ga1.copyB with
    | some a, some b =>
      if a = b then acceptWord d1 n a else disagree d1 1 (disInfo n (diffLane a b) ((d.tk + 1) % 256))
    | _, _ => d1
  else acceptWord d n w

/-- A word that reaches its grove later than t_HAND before the boundary (R30): no effect but its count at the boundary;
in PAIRED mode the copy is missing. -/
def wordInTime (d : Dev) : Bool := decide (d.clk + 64 ≤ d.boundaryClk)

/-- Whether some copy of the word of axis n has not reached TWIN (R264). -/
def Dev.copyMissing (d : Dev) (n : Nat) : Bool := (d.ga n).copyA.isNone || (d.ga n).copyB.isNone

/-- The verdict for the coming interval (R263). -/
def Dev.verdictNow (d : Dev) : Bool :=
  if d.tw.mode ≠ .paired then true
  else d.tw.recov.isNone || d.hands

def Dev.allAgreed (d : Dev) : Bool :=
  (List.range d.variant.axes).all (fun n => match (d.ga n).copyA, (d.ga n).copyB with
    | some a, some b => a == b
    | _, _ => false)

/-- TWIN's verdict: AGREE only where every word came from both Quills and agreed, and no recovery holds words back. -/
def twinVerdict (d : Dev) : Dev :=
  d.setTw { d.tw with verdict := some (d.tw.mode != .paired || (d.allAgreed && d.verdictNow && d.tw.lastDis != some d.tk)) }

/-- The missing copies of a tick, t_HAND before its boundary (R264, cause 2). -/
def missingWords (d : Dev) : Dev :=
  if d.tw.mode ≠ .paired ∨ !d.hands ∨ d.tw.recov.isSome then d
  else match (List.range d.variant.axes).find? d.copyMissing with
    | some n => disagree d 2 (disInfo n 0 ((d.tk + 1) % 256))
    | none => d

/-- Whether the grove of axis n must ask for the ramp: 8 intervals extrapolated and no accepted word (R273). -/
def Dev.overrun (d : Dev) (n : Nat) : Bool :=
  decide (8 ≤ (d.ga n).extraN) && ((d.ga n).accepted.isNone || d.tw.verdict == some false) &&
    (match (d.grove (n / 16)).ramp with
      | some _ => false
      | none => !(d.grove (n / 16)).tripped)

/-- R273, R276: an extrapolation overrun in grove `g`. In PAIRED mode it is an escalation; else it trips that grove
alone. -/
def overrunTrip (d : Dev) (g : Nat) : Dev :=
  if d.tw.mode = .paired then escalate d 6
  else
    let d1 := rampRequest d g 8
    if d.variant.full then escalated d1 6 else d1

/-! ### Checkpoints (R266 to R270) -/

/-- Words of the log region beyond the four images. -/
def Dev.logCap (d : Dev) : Nat := (d.part 4).2 - 4 * d.imageSize

/-- Log words in use. -/
def Dev.logFill (d : Dev) : Nat := d.tw.logRecs.foldl (fun a r => a + r.2) 0

/-- Whether the boundary that has just been placed is a checkpoint boundary (R266). `resume`: a recovery resumes. -/
def Dev.isCheckpoint (d : Dev) (resume : Bool) : Bool :=
  if d.tw.recov.isSome ∧ !resume then false
  else resume || d.tw.ckEarly || (match d.tw.ckLast with
      | none => true
      | some c => decide (c + d.ckint ≤ d.tk)) ||
    (match d.tw.ckNow with
      | some t => decide (t + 173 ≤ d.clk)
      | none => false)

/-- Words of the input-log region that no record in use holds. -/
def Dev.logFree (d : Dev) : Nat := d.logCap - d.logFill

/-- The input-log record of a boundary (R269): a free length of 1 to 4,096 words, written as device-internal words; below
12,288 free words the next boundary is a checkpoint boundary. -/
def writeLog (d : Dev) : Dev :=
  if d.logCap < 4096 then d
  else
    let (i, d1) := d.draw
    let len := 1 + Config.freeNat i % 4096
    let tw := d1.tw
    let pos := if d1.logCap < tw.logPos + len then 0 else tw.logPos
    let d2 := { d1 with mem := d1.mem.putBlock ⟨(d1.part 4).1 + 4 * d1.imageSize + pos, len, i⟩ }
    let d3 := d2.setTw { tw with logRecs := tw.logRecs ++ [(d.tk, len)], logPos := pos + len }
    let low : Bool := Nat.blt d3.logFree 12288 && !tw.ckEarly
    if low then
      let d4 := ((d3.setTw { d3.tw with ckEarly := true }).ev pgPlanA 3).twEv 6
      if d.variant.full then d4.ev pgPlanB 3 else d4
    else d3

/-- MODE as the image's word 1 holds it. -/
def PMode.code : PMode → Nat
  | .paired => 0
  | .split => 1
  | .soloA => 2
  | .soloB => 3

def PMode.ofCode : Nat → PMode
  | 0 => .paired
  | 1 => .split
  | 2 => .soloA
  | _ => .soloB

/-- One copy of an image in the free slot (R267): word 0 holds c, word 1 the mode, words 2 and 3 the signature; the
others are device-internal. -/
def writeImage (d : Dev) (slot copy c : Nat) (mode : PMode) (sig : BitVec 64) : Dev :=
  let a := d.imageAddr slot copy
  let (i, d1) := d.draw
  let d2 := { d1 with mem := d1.mem.putBlock ⟨a, d1.imageSize, i⟩ }
  (((d2.memPut a (BitVec.ofNat 36 c)).memPut (a + 1) (BitVec.ofNat 36 mode.code)).memPut (a + 2) (BitVec.ofNat 36 sig.toNat)).memPut
    (a + 3) (BitVec.ofNat 36 (sig.toNat / 2 ^ 36))

/-- The signatures presented at a checkpoint boundary (R265); `sigErr` is the difference a fault has put between them. -/
def Dev.signatures (d : Dev) : BitVec 64 × BitVec 64 :=
  let ck := d.tk
  let a := if d.variant.full ∧ d.tw.mode = .soloB then 0#64 else signature ck (d.quillAxes 0)
  let b := if !d.variant.full ∨ d.tw.mode = .soloA then 0#64
    else if d.tw.mode = .paired then a ^^^ BitVec.ofNat 64 d.tw.sigErr else signature ck (d.quillAxes 1)
  (a, b)

/-- R265, R267: the records of a checkpoint boundary are written to the free slot, and the signatures presented. In
PAIRED mode signatures that differ are a disagreement of cause SIG, and the checkpoint is discarded. -/
def checkpoint (d : Dev) : Dev :=
  let (a, b) := d.signatures
  let slot := match d.tw.committed with
    | some (_, s) => 1 - s
    | none => 0
  let mode := d.tw.mode
  let sigB := if mode = .paired then b else if mode = .soloB then b else a
  let sigA := if mode = .soloB then b else a
  let d0 := if d.variant.full then
      (d.wr72 pgTwin Reg.twin.SIGA_LO a.toNat).wr72 pgTwin Reg.twin.SIGB_LO b.toNat
    else d
  let d1 := writeImage (writeImage d0 slot 0 d.tk mode sigA) slot 1 d.tk mode sigB
  let d2 := d1.setTw { d1.tw with ckFlag := false, sigErr := 0, writing := some ⟨d.tk, slot, mode, mode != .paired || a == b⟩ }
  if mode = .paired ∧ a ≠ b then disagree d2 3 0 else d2

/-- A checkpoint commits (R268): CKTICK, CKSLOT, and the log records before it are freed. -/
def commit (d : Dev) (w : Checkpoint) : Dev :=
  d.setTw { d.tw with writing := none, committed := some (w.tick, w.slot),
                      logRecs := d.tw.logRecs.filter (fun r => decide (w.tick ≤ r.1)) }

/-! ### Changing mode (R277 to R280) -/

/-- Whether a Quill takes on an axis in `new` that it does not compute now. -/
def Dev.isJoin (d : Dev) (new : PMode) : Bool :=
  [0, 1].any (fun q => (List.range d.variant.groves).any (fun g =>
    computes d.variant new q g && !(d.quillRuns q && computes d.variant d.tw.mode q g)))

/-- The modes that name a halted Quill (R277). -/
def Dev.namesHalted (d : Dev) (m : PMode) : Bool :=
  match m with
  | .soloA => d.tw.haltA
  | .soloB => d.tw.haltB
  | _ => d.tw.haltA || d.tw.haltB

/-- A mode takes effect: a Quill that computes an axis in it is no longer empty. -/
def setMode (d : Dev) (m : PMode) : Dev :=
  let has (q : Nat) : Bool := (List.range d.variant.groves).any (fun g => computes d.variant m q g)
  (d.setTw { d.tw with mode := m, emptyA := d.tw.emptyA && !has 0, emptyB := d.tw.emptyB && !has 1 }).twEv 3

/-- A pending mode request at checkpoint boundary c (R277 to R279). -/
def modeAtCheckpoint (d : Dev) : Dev :=
  match d.tw.pending with
  | some (m, t) =>
    if d.clk < t + 173 then d
    else
      let d1 := d.setTw { d.tw with pending := none }
      if d.isJoin m then d1.setTw { d1.tw with merging := some (m, d.tk) } else setMode d1 m
  | none => d

/-- A join completes at c + 4 (R279). -/
def joinStep (d : Dev) : Dev :=
  match d.tw.merging with
  | some (m, c) => if c + 4 ≤ d.tk then setMode (d.setTw { d.tw with merging := none }) m else d
  | none => d

/-- The other Quill's SOLO mode. -/
def soloOf (q : Nat) : PMode := if q = 0 then .soloB else .soloA

/-- A Quill halts at boundary h (R280). -/
def haltQuill (d : Dev) (q : Nat) : Dev :=
  let tw := { d.tw with haltA := d.tw.haltA || q == 0, haltB := d.tw.haltB || q == 1, broke := true,
                        pending := d.tw.pending.filter (fun p => !(p.1 == .paired || p.1 == .split || p.1 == soloOf (1 - q))) }
  let d1 := (d.setTw tw).twEv 4
  match d.tw.mode with
  | .paired => d1.setTw { tw with mode := soloOf q }
  | .split =>
    if rateOk d.tb.tper d.variant.axes ∧ d.tw.committed.isSome ∧ d.quillRuns (1 - q) then
      let c := (d.tw.committed.getD (0, 0)).1
      d1.setTw { tw with takeover := some (q, resumeTick (replayRate d.tb.tper d.variant.axes) d.tk c) }
    else d1
  | _ => d1

/-- Halt requests that are due at a boundary (R280): held while a recovery or a join runs. -/
def haltsDue (d : Dev) : Dev :=
  if d.tw.recov.isSome ∨ d.tw.merging.isSome then d
  else
    let due := d.tw.haltReq.filter (fun r => decide (r.2 + 173 ≤ d.clk))
    let d1 := d.setTw { d.tw with haltReq := d.tw.haltReq.filter (fun r => decide (d.clk < r.2 + 173)) }
    due.foldl (fun d r => haltQuill d r.1) d1

/-- A Quill is resumed (R280, R457): it runs and computes no axis until a join. -/
def resumeQuill (d : Dev) (q : Nat) : Dev :=
  let tw := d.tw
  if q = 0 then (if tw.haltA then d.setTw { tw with haltA := false, emptyA := true } else d)
  else if tw.haltB then d.setTw { tw with haltB := false, emptyB := true } else d

/-- Resume requests act at the next boundary (R457). -/
def resumesDue (d : Dev) : Dev :=
  d.tw.resumeReq.foldl (fun d r => resumeQuill d r.1) (d.setTw { d.tw with resumeReq := [] })

/-- A takeover ends: the running Quill's words resume for interval m + 1, and the mode is SOLO (R280). -/
def takeoverEnd (d : Dev) : Dev :=
  match d.tw.takeover with
  | some (q, m) => if m ≤ d.tk then d.setTw { d.tw with takeover := none, mode := soloOf q } else d
  | none => d

/-- The self-test ends (R281): a lane or the signature comparator that gave a wrong verdict is recorded. -/
def stestDone (d : Dev) (laneFail : Nat) (sigFail : Bool) : Dev :=
  let d1 := d.setTw { d.tw with stest := false, pairOk := decide (laneFail % 65536 = 0) && !sigFail }
  (d1.wr pgTwin Reg.twin.STRES (BitVec.ofNat 36 (bnat sigFail * 65536 + laneFail % 65536))).ev pgTwin 5

/-- An uncorrectable error in the state record of axis n in Quill q's memory, met in the tick (R84, R264). -/
def stateError (d : Dev) (q n : Nat) : Dev :=
  if !(d.quillRuns q && computes d.variant d.tw.mode q (n / 16)) then d
  else
    let p := if q = 0 then pgPlanA else pgPlanB
    let d1 := ((d.incSat p Reg.plan.UE 11 0).wf p Reg.plan.UE 27 16 n).ev p 0
    if d.tw.mode = .paired then disagree d1 4 0
    else
      let l := (d1.plan n).lanes
      let pl := d1.plan n
      let d2 := d1.setPlan n { pl with mot := { pl.mot with p := l.pos * two32 + l.posf * 65536, v := sgn 36 l.vel * 4096 } }
      controlledStop (d2.loseTrust n 3) n

end Sys2Proof.Machine
end

