-- ==== Sys2Proof/Machine/Journal.lean ====
section
/-!
DEFINITION. The external memory (R410 to R420) and the position journal (R421 to R427), but for the image's records,
which the loader writes.
-/
namespace Sys2Proof.Machine

def Dev.setJr (d : Dev) (x : Journal) : Dev := { d with jr := x }
def Dev.setFl (d : Dev) (x : Flash) : Dev := { d with fl := x }

/-! ### Bytes and words (R412) -/

/-- What an unlisted byte reads as: erased, or a free value where an abandoned operation left it. -/
def flashDflt (a : Nat) : List Block → Nat
  | [] => 0xFF
  | b :: t => if b.lo ≤ a ∧ a < b.lo + b.len then (Config.imageWord b.id (a - b.lo)).toNat % 256 else flashDflt a t

def Flash.dflt (f : Flash) (a : Nat) : Nat := flashDflt a f.blocks
def Flash.byte (f : Flash) (a : Nat) : Nat := f.bytes.get a (f.dflt a)
def Flash.putByte (f : Flash) (a v : Nat) : Flash := { f with bytes := f.bytes.set a (v % 256) (f.dflt a) }

/-- The canonical form of the listed bytes. -/
def Flash.wf (f : Flash) : Bool := Tab.wf f.dflt f.bytes

/-- Bytes from `a` on. -/
def Flash.putBytes (f : Flash) (a : Nat) : List Nat → Flash
  | [] => f
  | v :: t => Flash.putBytes (f.putByte a v) (a + 1) t

/-- The listed bytes outside a range. -/
def bytesOutside (lo len : Nat) (c : Tab Nat) : Tab Nat := c.filter (fun e => decide (¬ (lo ≤ e.1 ∧ e.1 < lo + len)))

/-- A range that an operation left in a state the spec does not state: free bytes. -/
def Flash.spoil (f : Flash) (b : Block) : Flash :=
  { bytes := bytesOutside b.lo b.len f.bytes,
    blocks := b :: f.blocks.filter (fun x => decide (¬ (b.lo ≤ x.lo ∧ x.lo + x.len ≤ b.lo + b.len))) }

/-- Erases a sector: every byte 0xFF. -/
def Flash.erase (f : Flash) (s : Nat) : Flash :=
  let lo := 4096 * s
  let f1 : Flash := { f with bytes := bytesOutside lo 4096 f.bytes }
  if f1.blocks.any (fun b => decide (b.lo < lo + 4096 ∧ lo < b.lo + b.len)) then
    (List.range 4096).foldl (fun f i => f.putByte (lo + i) 0xFF) f1
  else f1

/-- A flash word as it reads. -/
inductive FlashWord where
  | programmed (w : Word)
  | erased
  | corrupt
deriving DecidableEq, Repr

/-- The 36 bits that the five bytes at `a` carry. -/
def Flash.raw (f : Flash) (a : Nat) : Word :=
  BitVec.ofNat 36 (f.byte a % 16 * 2 ^ 32 + f.byte (a + 1) * 2 ^ 24 + f.byte (a + 2) * 2 ^ 16 + f.byte (a + 3) * 2 ^ 8 + f.byte (a + 4))

/-- Whether `n` bytes from `a` are erased. -/
def Flash.blank (f : Flash) (a : Nat) : Nat → Bool
  | 0 => true
  | n + 1 => f.byte a == 0xFF && f.blank (a + 1) n

/-- The word whose five bytes begin at `a`. -/
def Flash.word (f : Flash) (a : Nat) : FlashWord :=
  if f.blank a 5 then .erased else if f.byte a < 16 then .programmed (f.raw a) else .corrupt

/-- Byte address of word `w` of sector `s`. -/
def flashAddr (s w : Nat) : Nat := 4096 * s + 5 * w

/-- Byte address of a flash word address counted from the first word of sector `s`. -/
def flashSeq (s i : Nat) : Nat := flashAddr (s + i / 819) (i % 819)

/-- `n` consecutive programmed words, from a list of their byte addresses; none where one is not programmed. -/
def Flash.words (f : Flash) (addr : Nat → Nat) (n : Nat) : Option (List Word) :=
  (List.range n).foldr (fun i acc => match acc, f.word (addr i) with
    | some t, .programmed w => some (w :: t)
    | _, _ => none) (some [])

/-- Programs words from byte address `a` on. -/
def Flash.putWords (f : Flash) (a : Nat) : List Word → Flash
  | [] => f
  | w :: t => Flash.putWords (f.putBytes a (wordBytes w)) (a + 5) t

/-! ### Registers of XMEM -/

def Dev.xf (d : Dev) (off hi lo : Nat) : Nat := d.rf pgXmem off hi lo
def Dev.xw (d : Dev) (off hi lo v : Nat) : Dev := d.wf pgXmem off hi lo v

/-- FLASH.STATE is 1. -/
def Dev.flashReady (d : Dev) : Bool := d.xf Reg.xmem.FLASH 35 32 == 1

/-- Sectors of the memory found (R411): 2^(DENS − 15). -/
def Dev.flashSectors (d : Dev) : Nat := 2 ^ (d.xf Reg.xmem.FLASH 31 24 - 15)

def Dev.jbase (d : Dev) : Nat := d.xf Reg.xmem.LAYOUT1 15 0
def Dev.jsect (d : Dev) : Nat := d.xf Reg.xmem.LAYOUT2 29 24
def Dev.jspare (d : Dev) : Nat := d.xf Reg.xmem.LAYOUT2 21 16
def Dev.fina (d : Dev) : Nat := d.xf Reg.xmem.LAYOUT2 15 0
/-- JSTAT.MODE: 0 off, 1 normal, 2 final-record-only, 3 failed. -/
def Dev.jmode (d : Dev) : Nat := d.xf Reg.xmem.JSTAT 35 34
def Dev.jen (d : Dev) : Bool := d.rb pgXmem Reg.xmem.JCFG 35

/-- The BAD bits, as one number (R422). -/
def Dev.jbad (d : Dev) : Nat := (d.rd pgXmem Reg.xmem.JBAD).toNat % 2 ^ 32 + (d.rd pgXmem (Reg.xmem.JBAD + 1)).toNat % 2 ^ 32 * 2 ^ 32

/-- The ring (R421): the first JSECT sectors of the journal area that are not retired, as offsets from JBASE. -/
def Dev.jring (d : Dev) : List Nat :=
  ((List.range (d.jsect + d.jspare)).filter (fun i => !d.jbad.testBit i)).take d.jsect

/-- JSTAT.RETIRED and SPLEFT follow BAD. -/
def jcounts (d : Dev) : Dev :=
  let bad := (maskBits 64 d.jbad).length
  let left := (List.range (d.jsect + d.jspare)).length - d.jring.length - (maskBits (d.jsect + d.jspare) d.jbad).length
  (d.xw Reg.xmem.JSTAT 11 0 bad).xw Reg.xmem.JSTAT 29 24 left

/-! ### Records (R422) -/

def Dev.recordLen (d : Dev) : Nat := 7 + d.variant.axes + d.variant.groves

/-- Words 6 on: positions, then two flags for each axis. -/
def journalBody (d : Dev) (pos : Nat → Nat) (trust coasted : Nat → Bool) : List Word :=
  (List.range d.variant.axes).map (fun n => BitVec.ofNat 36 (pos n)) ++
    (List.range d.variant.groves).map (fun g =>
      BitVec.ofNat 36 (sumUpTo 16 (fun a => (bnat (trust (16 * g + a)) + 2 * bnat (coasted (16 * g + a))) * 4 ^ a)))

/-- Words 0 to 5 and 6 on of a snapshot; SEQ, BAD and CRC are set when the record is written. -/
def journalWords (d : Dev) (kind : Nat) (body : List Word) : List Word :=
  [BitVec.ofNat 36 (kind * 2 ^ 34 + d.variant.axes * 2 ^ 26 + d.rf pgTime Reg.time.EPOCH 11 0), 0, BitVec.ofNat 36 d.tk,
    BitVec.ofNat 36 (d.tb.now / 2 ^ 36), 0, 0] ++ body

/-- The record as it is programmed: SEQ, BAD and CRC in place. -/
def journalSeal (d : Dev) (ws : List Word) : List Word :=
  let w := listSet (listSet (listSet ws 1 (BitVec.ofNat 36 d.jr.nextSeq)) 4 (d.rd pgXmem Reg.xmem.JBAD)) 5
    (d.rd pgXmem (Reg.xmem.JBAD + 1))
  w ++ [BitVec.ofNat 36 (crc32c w 0 0)]

/-! ### Places (R421) -/

/-- Byte address of a record slot of a sector. -/
def slotByte (sector slot : Nat) : Nat := 4096 * sector + 1024 * slot

/-- Whether a slot of ring sector `s` is erased. -/
def Dev.slotFree (d : Dev) (s k : Nat) : Bool := d.fl.blank (slotByte (d.jbase + s) k) 1024

/-- The ring in order, from sector offset `s` on. -/
def Dev.ringFrom (d : Dev) (s : Nat) : List Nat :=
  d.jring.filter (fun x => decide (s ≤ x)) ++ d.jring.filter (fun x => decide (x < s))

/-- The next erased slot at or after slot `k` of ring sector `s`. -/
def Dev.nextSlot (d : Dev) (s k : Nat) : Option (Nat × Nat) :=
  let all := (d.ringFrom s).flatMap (fun x => (List.range 4).map (fun j => (x, j)))
  (all.filter (fun e => e.1 != s || decide (k ≤ e.2))).find? (fun e => d.slotFree e.1 e.2)

/-- The ring sector after `s`. -/
def Dev.ringNext (d : Dev) (s : Nat) : Option Nat := (d.ringFrom (s + 1)).head?

/-- The erase of a sector is started, or waits behind those begun before. -/
def jErase (d : Dev) (sector : Nat) : Dev :=
  if d.jr.erasing.contains sector then d else d.setJr { d.jr with erasing := d.jr.erasing ++ [sector] }

/-- The next record's place at or after slot `k` of sector `s`; with no erased slot the next ring sector is erased
(DEDUCED, log 40). -/
def jPlace (d : Dev) (s k : Nat) : Dev :=
  match d.nextSlot s k with
  | some p => d.setJr { d.jr with pos := some p }
  | none =>
    let d1 := d.setJr { d.jr with pos := none }
    match d1.ringNext s with
    | some x => jErase d1 (d1.jbase + x)
    | none => d1

/-- Starts the program of a record at the next place; a periodic record without one waits. -/
def jStart (d : Dev) (final : Bool) (ws : List Word) : Dev :=
  match d.jr.pos with
  | some (s, k) => d.setJr { d.jr with writing := some ⟨final, journalSeal d ws, d.jbase + s, k⟩, waiting := none }
  | none => if final then d else d.setJr { d.jr with waiting := some ws }

/-! ### Snapshots (R423, R424) -/

/-- A periodic snapshot at a checkpoint boundary (R423). -/
def periodicSnapshot (d : Dev) : Dev :=
  let due := match d.jr.lastSnap with
    | none => true
    | some t => decide (t + d.xf Reg.xmem.JCFG 13 0 * 400000 ≤ d.clk)
  if !d.jen ∨ d.jr.loading ∨ d.jmode ≠ 1 ∨ d.jr.finalDone ∨ !due then d
  else
    let d1 := d.setJr { d.jr with lastSnap := some d.clk }
    if d.jr.writing.isSome ∨ d.jr.waiting.isSome then
      (d1.incSat pgXmem Reg.xmem.JSTAT 23 12).ev pgXmem 5
    else
      let ws := journalWords d1 1 (journalBody d1 (fun n => countOf (d1.ga n).xact) (fun n => (d1.ob n).trust) (fun _ => false))
      if d.jr.op.isSome then d1.setJr { d1.jr with waiting := some ws } else jStart d1 false ws

/-- A host operation ends with a result (R420). -/
def opEnd (d : Dev) (result : Nat) : Dev := ((d.setJr { d.jr with op := none }).xw Reg.xmem.XSTAT 2 0 result).ev pgXmem 4

/-- What an abandoned or failed operation of the host leaves behind: free bytes. -/
def opSpoil (d : Dev) (o : FlashOp) : Dev :=
  let (i, d1) := d.draw
  match o.op with
  | 2 => d1.setFl (d1.fl.spoil ⟨flashAddr o.sect o.word, 5 * o.count, i⟩)
  | 3 => d1.setFl (d1.fl.spoil ⟨4096 * o.sect, 4096, i⟩)
  | _ => d1

/-- A record in progress is abandoned: its slot is left invalid, in a state the spec does not state. The CRC word is left
erased, so that no record stands there. -/
def recordAbandon (d : Dev) : Dev :=
  match d.jr.writing with
  | none => d
  | some r =>
    let (i, d1) := d.draw
    let n := 5 * (d.recordLen - 1)
    let d2 := (d1.setFl (d1.fl.spoil ⟨slotByte r.sector r.slot, n, i⟩)).setJr { d1.jr with writing := none }
    match d2.jr.pos with
    | some (s, k) => jPlace d2 s (k + 1)
    | none => d2

/-- The place of a final record in final-record-only mode (R427): the one of FINA and FINB that is erased, alternating. -/
def Dev.finPlace (d : Dev) : Option Nat :=
  let a := if d.jr.finNext = 0 then d.fina else d.jr.finB
  let b := if d.jr.finNext = 0 then d.jr.finB else d.fina
  if d.fl.blank (slotByte a 0) 1024 then some a else if d.fl.blank (slotByte b 0) 1024 then some b else none

/-- The final record is taken (R424), once per device reset; never while loading (R433). `live` is the device as it was
before the trips of the same action. -/
def finalRecord (d : Dev) : Dev :=
  if d.jr.finalDone ∨ d.jr.loading ∨ !d.jen ∨ !(d.jmode == 1 || d.jmode == 2) then d
  else
    let body := journalBody d (fun n => (d.ga n).ipos.getD (countOf (d.ga n).xact)) (fun n => (d.ob n).trust)
      (fun n => decide ((d.ga n).w1.vel ≠ 0))
    let ws := journalWords d 2 body
    let d1 := recordAbandon d
    let d2 := match d1.jr.op with
      | some o => opEnd (opSpoil d1 o) 3
      | none => d1
    let d3 := d2.setJr { d2.jr with finalDone := true, waiting := none }
    if d.jmode = 1 then jStart d3 true ws
    else match d3.finPlace with
      | some s => d3.setJr { d3.jr with writing := some ⟨true, journalSeal d3 ws, s, 0⟩ }
      | none => d3

/-! ### Ends of programs and erases (R421, R422, R427) -/

/-- Final-record-only mode begins (R427): FINA and FINB are erased where they are not. -/
def finalOnly (d : Dev) : Dev :=
  let d1 := (d.xw Reg.xmem.JSTAT 35 34 2).ev pgXmem 2
  let d2 := d1.setJr { d1.jr with waiting := none, pos := none, finNext := 0 }
  [d.fina, d.jr.finB].foldl (fun d s => if d.fl.blank (slotByte s 0) 1024 then d else jErase d s) d2

/-- A sector fails (R427): a ring sector is retired, FINA or FINB turns the journal off. -/
def retireSector (d : Dev) (sector : Nat) : Dev :=
  if d.jbase ≤ sector ∧ sector < d.jbase + d.jsect + d.jspare then
    let b := sector - d.jbase
    let r := Reg.xmem.JBAD + b / 32
    let d1 := jcounts ((d.wr pgXmem r (setBit (d.rd pgXmem r) (b % 32) true)).ev pgXmem 1)
    if d1.jring.length < d1.jsect ∧ d1.jmode = 1 then finalOnly d1 else d1
  else ((d.xw Reg.xmem.JSTAT 35 34 3).ev pgXmem 3).setJr { d.jr with waiting := none }

/-- A snapshot that waits is written when nothing keeps it (R433). -/
def jResume (d : Dev) : Dev :=
  match d.jr.waiting with
  | some ws => if d.jr.op.isSome ∨ d.jr.writing.isSome ∨ d.jmode ≠ 1 then d else jStart d false ws
  | none => d

/-- The program of a record ends (R422, R424, R427). -/
def recordEnd (d : Dev) (ok : Bool) : Dev :=
  match d.jr.writing with
  | none => d
  | some r =>
    if ok then
      let d1 := (d.setFl (d.fl.putWords (slotByte r.sector r.slot) r.words)).wr pgXmem Reg.xmem.JSEQ (BitVec.ofNat 36 d.jr.nextSeq)
      let d2 := d1.setJr { d1.jr with writing := none, nextSeq := (d.jr.nextSeq + 1) % 2 ^ 36, finalEnd := d.jr.finalEnd || r.final }
      if d.jmode = 1 then
        let s := r.sector - d.jbase
        let d3 := if r.slot = 0 then (match d2.ringNext s with
          | some x => if x = s then d2 else jErase d2 (d2.jbase + x)
          | none => d2) else d2
        jResume (jPlace d3 s (r.slot + 1))
      else d2.setJr { d2.jr with finNext := if r.sector = d.fina then 1 else 0 }
    else
      let (i, d1) := d.draw
      let d2 := d1.setFl (d1.fl.spoil ⟨slotByte r.sector r.slot, 5 * d.recordLen, i⟩)
      if r.final then d2.setJr { d2.jr with writing := none, finalEnd := true }
      else
        let d3 := retireSector (d2.setJr { d2.jr with writing := none }) r.sector
        if d3.jmode ≠ 1 then d3 else jStart (jPlace d3 (r.sector - d.jbase) 4) false r.words.dropLast

/-- The erase that the journal started ends (R421, R427). -/
def jEraseEnd (d : Dev) (ok : Bool) : Dev :=
  match d.jr.erasing with
  | [] => d
  | s :: rest =>
    let d1 := d.setJr { d.jr with erasing := rest }
    if ok then
      let d2 := d1.setFl (d1.fl.erase s)
      if d2.jmode = 1 ∧ d2.jr.pos.isNone then jResume (jPlace d2 (s - d2.jbase) 0) else d2
    else
      let (i, d2) := d1.draw
      let d3 := retireSector (d2.setFl (d2.fl.spoil ⟨4096 * s, 4096, i⟩)) s
      if d3.jmode ≠ 1 then d3
      else match d3.ringNext (s - d3.jbase) with
        | some x => if d3.slotFree x 0 ∨ d3.jring.length < 2 then d3 else jErase d3 (d3.jbase + x)
        | none => d3

/-! ### Operations of the host (R420) -/

/-- Base of the configuration shadow (R419). -/
def Dev.cshd (d : Dev) : Nat := (d.part 5).1
def Dev.bufAddr (d : Dev) (i : Nat) : Nat := d.cshd + 0xC000 + i

/-- The first sector of a slot, 1 A or 2 B. -/
def Dev.slotSect (d : Dev) (slot : Nat) : Nat := if slot = 1 then d.xf Reg.xmem.LAYOUT0 31 16 else d.xf Reg.xmem.LAYOUT0 15 0

/-- Sectors that the host may neither program nor erase (R420). -/
def Dev.sectLocked (d : Dev) (s : Nat) : Bool :=
  let slot := d.xf Reg.xmem.BOOT 23 22
  let lo := d.slotSect slot
  decide (d.jbase ≤ s ∧ s < d.jbase + d.jsect + d.jspare) || (d.jmode != 0 && (s == d.fina || s == d.jr.finB)) ||
    (slot != 0 && decide (lo ≤ s ∧ s < lo + d.xf Reg.xmem.LAYOUT1 31 16)) || (decide (s < 2) && !d.rb pgXmem Reg.xmem.CTL 0)

/-- A write of XCMD with GO: 4 RANGE, 3 BUSY, 0 accepted; `w` the word written. -/
def xcmdCheck (d : Dev) (w : Word) : Nat :=
  let op := fld w 33 32
  let word := fld w 19 10
  let count := fld w 9 0
  let s := d.xf Reg.xmem.XSECT 15 0
  if count = 0 ∨ 819 < word + count ∨ 8192 < d.xf Reg.xmem.XBUF 12 0 + count ∨ (d.flashReady ∧ d.flashSectors ≤ s) then 4
  else if 2 ≤ op ∧ d.sectLocked s then 4
  else if d.jr.op.isSome ∨ d.jr.loading ∨ d.sup.latch ∨ !d.flashReady then 3
  else 0

/-- The operation starts (R420); OP 0 names none. DIRWE falls when an XCMD is accepted. -/
def xcmdGo (d : Dev) : Dev :=
  let w := d.rd pgXmem Reg.xmem.XCMD
  let d1 := d.xw Reg.xmem.CTL 0 0 0
  if fld w 33 32 = 0 then d1
  else d1.setJr { d1.jr with op := some ⟨fld w 33 32, d.xf Reg.xmem.XSECT 15 0, fld w 19 10, fld w 9 0, d.xf Reg.xmem.XBUF 12 0⟩ }

/-- A word that the port reads from memory: 0 where it is uncorrectable (R40). -/
def Dev.memZero (d : Dev) (a : Nat) : Word × Dev :=
  match d.memGet a with
  | (.ok w, d1) => (w, d1)
  | (.uncorrectable, d1) => (0, d1)

def Dev.memZeros (d : Dev) (a : Nat) : Nat → List Word × Dev
  | 0 => ([], d)
  | n + 1 =>
    let (w, d1) := d.memZero a
    let (t, d2) := d1.memZeros (a + 1) n
    (w :: t, d2)

/-- Writes consecutive memory words. -/
def Dev.memPuts (d : Dev) (a : Nat) : List Word → Dev
  | [] => d
  | w :: t => (d.memPut a w).memPuts (a + 1) t

/-- A host operation ends with what the memory reports (R420). -/
def opDone (d : Dev) (o : FlashOp) (res : FlashOutcome) : Dev :=
  match o.op with
  | 1 =>
    if res = .done then
      opEnd (d.memPuts (d.bufAddr o.buf) ((List.range o.count).map (fun i => d.fl.raw (flashAddr o.sect (o.word + i))))) 0
    else
      let (i, d1) := d.draw
      opEnd { d1 with mem := d1.mem.putBlock ⟨d1.bufAddr o.buf, o.count, i⟩ } 4
  | 2 =>
    if (List.range o.count).any (fun i => d.fl.word (flashAddr o.sect (o.word + i)) ≠ .erased) then opEnd d 1
    else
      let (ws, d1) := d.memZeros (d.bufAddr o.buf) o.count
      match res with
      | .done => opEnd (d1.setFl (d1.fl.putWords (flashAddr o.sect o.word) ws)) 0
      | .differs => opEnd (opSpoil d1 o) 2
      | .failed => opEnd (opSpoil d1 o) 4
  | _ => if res = .done then opEnd (d.setFl (d.fl.erase o.sect)) 0 else opEnd (opSpoil d o) 4

/-- XDONE: while the journal writes, the operation has not started (R433). -/
def xdone (d : Dev) (res : FlashOutcome) : Dev :=
  match d.jr.op with
  | some o => if d.jr.writing.isSome then d else jResume (opDone d o res)
  | none => d

/-! ### Directory, slots and restore at boot (R413 to R417, R426) -/

/-- The directory of R413, as read. -/
structure Directory where
  slotA : Nat
  slotB : Nat
  slotSect : Nat
  jbase : Nat
  jsect : Nat
  spare : Nat
  fina : Nat
  finb : Nat
  jen : Bool
  jrestore : Bool
  jper : Nat
deriving DecidableEq, Repr

/-- Ranges of sectors, as first and length, do not overlap and lie within `n` sectors. -/
def rangesOk (n : Nat) : List (Nat × Nat) → Bool
  | [] => true
  | (lo, len) :: t => decide (lo + len ≤ n) && t.all (fun e => decide (lo + len ≤ e.1 ∨ e.1 + e.2 ≤ lo)) && rangesOk n t

/-- The limits of R413's table. -/
def Directory.ok (x : Directory) (sectors : Nat) : Bool :=
  decide (1 ≤ x.slotSect ∧ x.slotSect ≤ 61 ∧ 4 ≤ x.jsect ∧ x.jsect ≤ 60 ∧ x.spare ≤ 60 ∧ x.jsect + x.spare ≤ 64 ∧
    10 ≤ x.jper ∧ x.jper ≤ 10000) &&
  rangesOk sectors [(0, 2), (x.slotA, x.slotSect), (x.slotB, x.slotSect), (x.jbase, x.jsect + x.spare), (x.fina, 1), (x.finb, 1)]

/-- The copy of the directory in sector `s`, if it is valid (R413). -/
def readDirectory (d : Dev) (s : Nat) : Option Directory :=
  match d.fl.words (flashAddr s) 7 with
  | none => none
  | some ws =>
    let w (i : Nat) : Word := ws.getD i 0
    let x : Directory := ⟨fld (w 1) 31 16, fld (w 1) 15 0, fld (w 2) 31 16, fld (w 2) 15 0, fld (w 3) 29 24, fld (w 3) 21 16,
      fld (w 3) 15 0, fld (w 4) 15 0, bit (w 5) 35, bit (w 5) 34, fld (w 5) 13 0⟩
    if w 0 = 0x00FD9D ∧ crc32c (ws.take 6) 0 0 = fld (w 6) 31 0 ∧ x.ok d.flashSectors then some x else none

/-- Whether a flash word holds a value. -/
def FlashWord.value : FlashWord → Option Word
  | .programmed w => some w
  | _ => none

/-- The walk over records from word `i` (R415): whether it ends at word `last` with END. -/
def walkOk (f : Flash) (s last : Nat) : Nat → Nat → Bool
  | 0, _ => false
  | fuel + 1, i =>
    match (f.word (flashSeq s i)).value with
    | none => false
    | some h =>
      let count := fld h 31 24
      let addr := fld h 23 0
      match fld h 35 32 with
      | 0 => i == last && count == 0
      | 1 => decide (1 ≤ count ∧ addr + count ≤ 2 ^ 24 ∧ i + count < last) && walkOk f s last fuel (i + 1 + count)
      | 2 =>
        match (f.word (flashSeq s (i + 2))).value with
        | some n => decide (count = 2 ∧ 1 ≤ fld n 22 0 ∧ fld n 22 0 ≤ 4194304 ∧ addr + fld n 22 0 ≤ 2 ^ 24 ∧ i + 2 < last) &&
            walkOk f s last fuel (i + 3)
        | none => false
      | _ => false

/-- The variant's bit in VARIANTS (R414). -/
def imageBit : Variant → Nat
  | .fd9128 => 0
  | .fd9064 => 1
  | .fd9032 => 2

/-- The first condition of R416 that fails for the slot that begins at sector `s`, as BOOTFAIL codes it; 0 valid. -/
def slotCause (d : Dev) (s sects : Nat) : Nat :=
  let f := d.fl
  let v (i : Nat) : Option Word := (f.word (flashSeq s i)).value
  if v 0 ≠ some 0x00FD9A ∨ ((v 1).elim 0 (fun w => fld w 7 0)) ≠ 1 then 1
  else
    let len := (v 2).elim 0 BitVec.toNat
    if ¬ (8 ≤ len ∧ len ≤ 49152 ∧ len ≤ 819 * sects) then 2
    else if (List.range len).any (fun i => i != 4 && (v i).isNone) then 3
    else
      let ws := ((List.range (len - 2)).filter (· ≠ 4)).map (fun i => (v i).getD 0)
      let com := (v (len - 1)).getD 0
      let gen := fld ((v 1).getD 0) 35 24
      if crc32c ws 0 0 ≠ fld ((v (len - 2)).getD 0) 31 0 then 4
      else if fld com 35 24 ≠ 0xC3C ∨ fld com 11 0 ≠ gen then 5
      else if !bit ((v 3).getD 0) (imageBit d.variant) then 6
      else if walkOk f s (len - 3) len 5 then 0 else 7

/-- A slot's GEN and whether it is pinned: word 4 is programmed. -/
def Dev.slotGen (d : Dev) (s : Nat) : Nat := fld (((d.fl.word (flashSeq s 1)).value).getD 0) 35 24
def Dev.slotPinned (d : Dev) (s : Nat) : Bool := (d.fl.word (flashSeq s 4)).value.isSome

/-- R417: the slot to load, 0 none, 1 A, 2 B. -/
def slotSelect (va vb pa pb : Bool) (ga gb : Nat) : Nat :=
  match va, vb with
  | false, false => 0
  | true, false => 1
  | false, true => 2
  | true, true =>
    if pa ∧ !pb then 1 else if pb ∧ !pa then 2 else if later 12 gb ga then 2 else 1

/-- A valid record at byte address `a`: its words (R422). -/
def readRecord (d : Dev) (a : Nat) : Option (List Word) :=
  match d.fl.word a with
  | .programmed w0 =>
    let nax := fld w0 33 26
    let n := 7 + nax + nax / 16
    if 1024 < 5 * n then none
    else match d.fl.words (fun i => a + 5 * i) n with
      | some ws => if crc32c (ws.take (n - 1)) 0 0 = fld (ws.getD (n - 1) 0) 31 0 ∧ 1 ≤ fld w0 35 34 ∧ fld w0 35 34 ≤ 2 then some ws else none
      | none => none
  | _ => none

/-- The valid record with the latest SEQ (R426), with its sector and slot. -/
def latestRecord (d : Dev) : Option (List Word × Nat × Nat) :=
  let sectors := (List.range (d.jsect + d.jspare)).map (fun i => d.jbase + i) ++ [d.fina, d.jr.finB]
  let places := sectors.flatMap (fun s => (List.range 4).map (fun k => (s, k)))
  places.foldl (fun best e =>
    match readRecord d (slotByte e.1 e.2), best with
    | none, b => b
    | some ws, none => some (ws, e.1, e.2)
    | some ws, some (b, s, k) => if later 36 (ws.getD 1 0).toNat (b.getD 1 0).toNat then some (ws, e.1, e.2) else some (b, s, k)) none

/-- Step 4 of R418: the journal restore (R426), with the directory's JRESTORE. -/
def journalRestore (d : Dev) (x : Directory) : Dev :=
  let d0 := (d.xw Reg.xmem.JCFG 35 35 (bnat x.jen)).xw Reg.xmem.JCFG 13 0 x.jper
  let d1 := d0.xw Reg.xmem.JSTAT 35 34 1
  match latestRecord d1 with
  | none => jPlace (jcounts (d1.wr pgXmem Reg.xmem.JREST (BitVec.ofNat 36 (5 * 2 ^ 33)))) 0 0
  | some (ws, s, k) =>
    let w (i : Nat) : Word := ws.getD i 0
    let nax := fld (w 0) 33 26
    let final := fld (w 0) 35 34 == 2
    let d2 := (d1.wr pgXmem Reg.xmem.JBAD (BitVec.ofNat 36 (fld (w 4) 31 0))).wr pgXmem (Reg.xmem.JBAD + 1) (BitVec.ofNat 36 (fld (w 5) 31 0))
    let d3 := (jcounts d2).setJr { d2.jr with nextSeq := ((w 1).toNat + 1) % 2 ^ 36 }
    let res := if !x.jrestore then 3 else if nax ≠ d.variant.axes then 4 else if final then 1 else 2
    let d4 := d3.wr pgXmem Reg.xmem.JREST (BitVec.ofNat 36 (res * 2 ^ 33 + nax))
    let flags (n : Nat) : Nat := fld (w (6 + nax + n / 16)) (2 * (n % 16) + 1) (2 * (n % 16))
    let d5 := if res = 1 ∨ res = 2 then
        d4.setJr { d4.jr with restore := (List.range nax).map (fun n => (n, (w (6 + n)).toNat, final && flags n == 1)) }
      else d4
    if d5.jring.length < d5.jsect then
      let d6 := finalOnly d5
      if s = d6.fina ∨ s = d6.jr.finB then d6.setJr { d6.jr with finNext := if s = d6.fina then 1 else 0 } else d6
    else if d5.jbase ≤ s ∧ s < d5.jbase + d5.jsect + d5.jspare then jPlace d5 (s - d5.jbase) (k + 1)
    else jPlace d5 0 0

/-- Discovery (R411): XMEM.FLASH, and the bytes of the board's memory that differ from what the device left there. -/
def discover (d : Dev) (b : FlashBoard) : Dev :=
  let w := if b.state.val = 1 then
      1 * 2 ^ 32 + b.dens.val * 2 ^ 24 + b.rmode.val * 2 ^ 16 + bnat b.susp * 2 ^ 12 + bnat b.addr4 * 2 ^ 8
    else b.state.val * 2 ^ 32
  let d1 := d.wr pgXmem Reg.xmem.FLASH (BitVec.ofNat 36 w)
  d1.setFl (b.bytes.foldl (fun f e => f.putByte e.1 e.2.toNat) d1.fl)

/-- The directory in force (R413): sector 0's copy, else sector 1's. -/
def Dev.directory (d : Dev) : Option Directory := (readDirectory d 0) <|> (readDirectory d 1)

/-- LAYOUT0 to LAYOUT2 from the directory. -/
def setLayout (d : Dev) (x : Directory) : Dev :=
  (((d.wr pgXmem Reg.xmem.LAYOUT0 (BitVec.ofNat 36 (x.slotA * 2 ^ 16 + x.slotB))).wr pgXmem Reg.xmem.LAYOUT1
    (BitVec.ofNat 36 (x.slotSect * 2 ^ 16 + x.jbase))).wr pgXmem Reg.xmem.LAYOUT2
    (BitVec.ofNat 36 (x.jsect * 2 ^ 24 + x.spare * 2 ^ 16 + x.fina))).setJr { d.jr with finB := x.finb }

/-- BOOTDONE (R418, step 5); a journal without an erased slot begins to erase one. -/
def bootDone (d : Dev) : Dev :=
  if !d.jr.loading ∨ !d.jr.loaded then d else (d.setJr { d.jr with loading := false }).ev pgXmem 0

end Sys2Proof.Machine
end

