-- ==== Sys2Proof/Machine/Calib.lean ====
section
/-!
DEFINITION. Self-calibration of a grove and the test of restored factors (R232 to R237).
-/
namespace Sys2Proof.Machine

/-- Whether GO, APPLY and factor writes are refused with code BUSY (R232, R234, R235). -/
def Dev.calBusy (d : Dev) (g : Nat) : Bool := d.rb (pgGrove g) Reg.PAGE_CTRL 0 || d.calRuns g || d.calApplies g

/-- GO: every sequence of the grove is aborted and held triggers are dropped (R232). -/
def calGo (d : Dev) (g : Nat) : Dev :=
  if d.calBusy g then d else (d.each 4 (fun d i => dropSequence d (4 * g + i))).setCal g .running

/-- Sequences in mode CONT with EN at 1 start again at entry 0 (R233). -/
def calRestart (d : Dev) (g : Nat) : Dev :=
  d.each 4 (fun d i =>
    if d.rb (pgConv g i) Reg.conv.CTRL 16 ∧ d.rb (pgConv g i) Reg.conv.CTRL 4 then convTrigger d (4 * g + i) else d)

/-- One factor word that a calibration produces: a free value within the bits `hi` to 0 of its register (R233). -/
def calWrite (d : Dev) (g off hi : Nat) : Dev :=
  let (i, d1) := d.draw
  d1.wr (pgCal g) off (BitVec.ofNat 36 (fld (Config.calWord i off) hi 0))

/-- Every factor of the grove. -/
def calFactors (d : Dev) (g : Nat) : Dev :=
  let d1 := d.each 4 (fun d i => d.each 5 (fun d gn => calWrite d g (Reg.convcal.CFACT + 8 * i + gn) 31))
  let d2 := d1.each 32 (fun d j => calWrite d g (Reg.convcal.TRIM + j) 31)
  d2.each 64 (fun d k => calWrite d g (Reg.convcal.SWTRIM + k) 15)

/-- The end of a calibration (R233): `fcause` 0 a success, with `die` the corrected die-temperature value of step 2. -/
def calDone (d : Dev) (g fcause fitem : Nat) (die : Int) : Dev :=
  if !d.calRuns g then d
  else if fcause = 0 then
    let d1 := (calFactors d g).wr (pgCal g) Reg.convcal.CALTEMP (BitVec.ofNat 36 (tnowOf die))
    let d2 := d1.wr (pgCal g) Reg.convcal.CALSUM (BitVec.ofNat 36 (d1.calSum g))
    calRestart (((setTnow (d2.setCal g .calibrated) g die).wr (pgCal g) Reg.convcal.STAT 0).ev (pgCal g) 0) g
  else
    let d1 := (d.setCal g .failed).wr (pgCal g) Reg.convcal.STAT (BitVec.ofNat 36 (fitem * 2 ^ 16 + fcause * 2 ^ 8))
    calRestart (d1.ev (pgCal g) 0) g

/-- APPLY: converter 0's running entry is aborted for the temperature measurement unless SUM is wrong (R235). -/
def calApply (d : Dev) (g : Nat) : Dev :=
  if d.calBusy g then d
  else if d.calSum g ≠ (d.rd (pgCal g) Reg.convcal.CALSUM).toNat then d.setCal g .applying
  else (abortEntry d (4 * g)).setCal g .applying

/-- The end of an APPLY (R235): `die` is the corrected value of its measurement. -/
def calApplied (d : Dev) (g : Nat) (die : Int) : Dev :=
  if !d.calApplies g then d
  else if d.calSum g ≠ (d.rd (pgCal g) Reg.convcal.CALSUM).toNat then
    convNext ((d.setCal g .badsum).ev (pgCal g) 1) (4 * g) (modEdge g (d.clk + 1))
  else
    let near := decide (absI (sgn 16 (tnowOf die) - sfld (d.rd (pgCal g) Reg.convcal.CALTEMP) 15 0) ≤
      (16 * d.rf (pgCal g) Reg.convcal.TWIN 5 0 : Nat))
    let d1 := (setTnow d g die).setCal g (if near then .restored else .outwin)
    convNext (d1.ev (pgCal g) 1) (4 * g) (modEdge g (d.clk + 1))

/-- A write to a factor, CALTEMP or CALSUM closes the gate (R234). -/
def calClose (d : Dev) (g : Nat) : Dev := d.setCal g .none

end Sys2Proof.Machine
end

