-- ==== Sys2Proof/Machine/Nib.lean ====
section
/-!
DEFINITION. The Nibs' own events (R186, R190 to R194): node recognition, turn-ons, learning and the failed-stage
diagnostic.
-/
namespace Sys2Proof.Machine

/-- R193: the record after a measurement of `m` gck. -/
def learn (r : Delay) (m alpha : Nat) : Delay :=
  if !r.valid then { r with valid := true, lrn := m * 16 }
  else { r with lrn := ((r.lrn : Int) + ((m : Int) * 16 - (r.lrn : Int)).fdiv ((2 : Int) ^ alpha)).toNat }

/-- A recognition ends the measurement that waits for it (R192 to R194). -/
def measureEnd (d : Dev) (g k : Nat) (m : Measure) : Dev :=
  let l := d.leg (64 * g + k)
  let t := d.clk - m.start
  let r0 := { l.rec_ m.ty with miss := 0 }
  let r1 := if t ≤ d.dtMax g ∧ d.rb (pgNib g) Reg.nib.CFG 12 then learn r0 t (d.rf (pgNib g) Reg.nib.CFG 18 16) else r0
  d.setLeg (64 * g + k) { l.setRec m.ty r1 with meas := none }

/-- The side a measurement waits for: 2 high, 1 low (R192). -/
def Measure.side (m : Measure) : Nat := if m.ty = 1 ∨ m.ty = 2 then 2 else 1

/-- Whether a waiting turn-on needs the node on side `side` (R189). -/
def TurnOn.needs (t : TurnOn) (side : Nat) : Bool := t.cls != 0 && side == (if t.hi then 2 else 1)

/-- The node of leg `k` is recognised on a side (R186): 2 high, 1 low. -/
def nodeSeen (d : Dev) (g k side : Nat) : Dev :=
  let l := d.leg (64 * g + k)
  let turn := l.turnOn.map (fun t => if t.needs side && t.seen.isNone then { t with seen := some d.clk } else t)
  let d1 := d.setLeg (64 * g + k) { l with node := side, nodeAt := d.clk, turnOn := turn }
  match l.meas with
  | some m => if m.side = side then measureEnd d1 g k m else d1
  | none => d1

/-- A miss of a type (R194): the third in a row declares the stage failed. -/
def edgeMiss (d : Dev) (g k : Nat) (m : Measure) : Dev :=
  let l := d.leg (64 * g + k)
  let r := l.rec_ m.ty
  let n := min 3 (r.miss + 1)
  let d1 := d.setLeg (64 * g + k) { l.setRec m.ty { r with miss := n, stuck := r.stuck || n == 3 } with meas := none }
  if n < 3 then d1
  else
    let st := Reg.nib.STUCK + k / 32
    let d2 := (d1.wr (pgNib g) st (setBit (d1.rd (pgNib g) st) (k % 32) true)).ev (pgNib g) 2
    if d2.rb (pgFire g) Reg.firebrk.SRCEN 4 then d2.setGrove g { d2.grove g with due := (d2.grove g).due ||| 16 } else d2

/-- The incoming switch of leg `k` turns on now (R190 to R192). -/
def switchOn (d : Dev) (g k : Nat) (t : TurnOn) : Dev :=
  let l := d.leg (64 * g + k)
  let need := if t.hi then 2 else 1
  let meas : Option Measure :=
    if t.cls = 2 ∧ l.node ≠ need then some ⟨if t.hi then 2 else 3, d.clk⟩
    else if t.cls = 1 then l.meas else none
  let l1 := { l with turnOn := none, gh := l.gh || t.hi, gl := l.gl || !t.hi, meas := meas,
                     dtlast := if t.cls = 0 then l.dtlast else min (d.clk - t.t0) 2047 }
  let d1 := d.setLeg (64 * g + k) l1
  let a := k / 4
  let (c, s) := d.legSource g a (k % 4 / 2) (k % 2)
  let co := d1.coil (32 * g + 2 * a + c)
  if (bnat co.srcNeg = s) = t.hi then driveMarker d1 g (2 * a + c) d.clk false else d1

/-- RELEARN.ALL, and a change of DT that takes effect: VALID clears in every record (R193). -/
def relearn (d : Dev) (g : Nat) : Dev :=
  d.each 64 (fun d k =>
    let l := d.leg (64 * g + k)
    d.setLeg (64 * g + k) { l with dly := l.dly.map (fun r => { r with valid := false }) })

/-- A write of 1 to STUCK bits clears STUCK in the records of those legs. -/
def clearStuck (d : Dev) (g i mask : Nat) : Dev :=
  (maskBits 32 mask).foldl (fun d b =>
    let l := d.leg (64 * g + 32 * i + b)
    d.setLeg (64 * g + 32 * i + b) { l with dly := l.dly.map (fun r => { r with stuck := false }) }) d

/-- Overlap events of a leg in the last 1,024 carrier periods (NIB.LEGk.OVL). -/
def recentOverlaps (l : Leg) (carNo : Nat) : Nat := min 8 (l.events.filter (fun e => decide (carNo < e + 1024))).length

end Sys2Proof.Machine
end

