-- ==== Sys2Proof/Machine/Chopper.lean ====
section
/-!
DEFINITION. The carrier, the microstep sequencer, the chopper and the zero-current windows (R143 to R175), and the
override pointer (R197).
-/
namespace Sys2Proof.Machine

/-! ### The carrier (R154 to R157) -/

/-- PERIOD, CTRL.AUTOILV and the offsets in effect become those of the counter (R155). -/
def carTake (d : Dev) (g : Nat) : Dev :=
  let p := pgCarrier g
  let offs := (List.range 32).foldl (fun (t : Tab Nat) j => t.set j (d.rf p (Reg.carrier.OFF + j) 17 0) 0) []
  d.setGrove g { d.grove g with carPeriod := d.rf p Reg.carrier.PERIOD 17 0, carIlv := d.rb p Reg.carrier.CTRL 0,
                                carOff := offs }

/-- Brings the carrier of a grove to instant `t`: the wraps at or before `t` have happened. From the first wrap on, the
registers in effect now hold (R155). -/
def carTo (d : Dev) (g t : Nat) : Dev :=
  let gr := d.grove g
  if gr.held.isSome ∨ t < gr.carStart + gr.carPeriod then d
  else
    let d1 := carTake (d.setGrove g { gr with carStart := gr.carStart + gr.carPeriod, carNo := gr.carNo + 1 }) g
    let g1 := d1.grove g
    let k := (t - g1.carStart) / g1.carPeriod
    d1.setGrove g { g1 with carStart := g1.carStart + k * g1.carPeriod, carNo := g1.carNo + k }

/-- off_j for the counter in use (R156). -/
def Grove.off (gr : Grove) (j : Nat) : Nat :=
  if gr.carIlv then j * gr.carPeriod / 32 else gr.carOff.get j 0 % gr.carPeriod

/-- The first instant at or after `from_` at which the counter is at value `v`, where `v'` is that value after the next
wrap and `period'` the period then. -/
def nextAt (gr : Grove) (from_ v v' : Nat) : Nat :=
  if from_ ≤ gr.carStart + v ∧ v < gr.carPeriod then gr.carStart + v else gr.carStart + gr.carPeriod + v'

/-- The first start of a period of coil `j` at or after instant `from_` (R156). -/
def coilDue (d : Dev) (g j from_ : Nat) : Nat :=
  let d1 := carTo d g from_
  let gr := d1.grove g
  nextAt gr from_ (gr.off j) ((carTake d1 g).grove g |>.off j)

/-- The counter value of event `e` for a period (R157). -/
def Dev.evValue (d : Dev) (g e period : Nat) : Nat :=
  match e with
  | 0 => 0
  | 1 => period - 1
  | _ => d.rf (pgCarrier g) (Reg.carrier.EVCMP + (e - 2)) 17 0

/-- The next occurrence of carrier event `e` at or after `from_`; none where its compare value lies beyond the period. -/
def eventDue (d : Dev) (g e from_ : Nat) : Option Nat :=
  let d1 := carTo d g from_
  let gr := d1.grove g
  let nextP := ((carTake d1 g).grove g).carPeriod
  let v := d.evValue g e gr.carPeriod
  let v' := d.evValue g e nextP
  if v < gr.carPeriod ∧ from_ ≤ gr.carStart + v then some (gr.carStart + v)
  else if v' < nextP then some (gr.carStart + gr.carPeriod + v') else none

/-- Event `e` occurs now: its prescaler, its PAGE_EVT bit and its trigger (R157, R222). -/
def carrierEvent (d : Dev) (g e : Nat) : Dev :=
  let gr := d.grove g
  let occ := gr.evOcc.getD e 0 + 1
  let pre := d.rf (pgCarrier g) (Reg.carrier.EVPRE + e) 7 0
  let d1 := d.setGrove g { gr with evOcc := listSet gr.evOcc e (if pre < occ then 0 else occ),
                                   evNext := listSet gr.evNext e (d.clk + 1) }
  if pre < occ then offerTrigger (d1.ev (pgCarrier g) e) g 2 e else d1

/-! ### Setpoints (R145 to R152) -/

/-- The position interpolated at an instant (R145), with 16 fractional bits. -/
def interpAt (w0 w1 : GWord) (t tper : Nat) : Nat :=
  let q0 := w0.pos * 65536 + w0.posf
  let q1 := w1.pos * 65536 + w1.posf
  let dq := sgn 52 (unsgn 52 ((q1 : Int) - (q0 : Int)))
  let tt := min t tper
  unsgn 52 ((q0 : Int) + (dq * (tt : Nat)).fdiv (tper : Nat))

/-- The angle th of an axis at instant `s` (R145). -/
def thetaAt (w0 w1 : GWord) (t tper eoff : Nat) (rev : Bool) : Nat :=
  let cnt := interpAt w0 w1 t tper / 65536 % 4096
  if rev then (eoff + 4096 - cnt) % 4096 else (eoff + cnt) % 4096

/-- The quarter-wave table in effect (R148 to R150). -/
def Dev.waveTab (d : Dev) (g i : Nat) : Nat :=
  if d.rb (pgWave g) Reg.wave.CTRL 0 then
    let w := d.rd (pgWave g) (Reg.wave.TAB + i / 2)
    if i % 2 = 0 then fld w 15 0 else fld w 33 18
  else fixedWave i

/-- amp of R152. -/
def ampOf (base esc msc : Nat) : Nat := (rhe (rhe ((base * (esc + 1) : Nat) : Int) 4096 * (msc : Nat)) 256).toNat

/-- mag of R152. -/
def magOf (w : Int) (amp gain : Nat) : Nat := min 4095 (rhe (absI w * (amp : Nat) * (gain : Nat)) (2 ^ 25)).toNat

/-- What the sequencer computes for a period of coil `j` that starts at `s` (R144, R145, R152). -/
structure Setpoint where
  th : Nat
  half : Nat
  amp : Nat
  mag : Nat
  neg : Bool
deriving DecidableEq, Repr

/-- The setpoint for a period start `s`, from the registers in effect at s − 64 (R144). -/
def setpoint (d : Dev) (g j s : Nat) : Setpoint :=
  let v := d.asOf (s - 64)
  let n := 16 * g + j / 2
  let ga := d.ga n
  let ecfg := v.rd (pgAxis n) Reg.axis.ECFG
  let bal := v.rd (pgAxis n) Reg.axis.BAL
  let th := thetaAt ga.w0 ga.w1 (s - (d.grove g).lastB) (d.rf (pgGrove g) Reg.grove.TPER 16 0) (fld ecfg 11 0) (bit ecfg 12)
  let x := if j % 2 = 0 then (th + 1024) % 4096 else unsgn 12 ((th : Int) + sfld bal 35 28)
  let w := wave (v.waveTab g) x
  let amp := ampOf ga.base ga.w1.esc (v.mscAt g (s - 64))
  ⟨th, x / 2048, amp, magOf w amp (if j % 2 = 0 then fld bal 9 0 else fld bal 25 16), decide (w < 0)⟩

/-! ### The base amplitude at a boundary (R151) -/

/-- STILL.DELAY and RAMP of R151. -/
def baseStep (base still delay ramp ihold : Nat) : Nat :=
  if still ≤ delay then base
  else if ramp = 0 then ihold
  else if ihold < base then max (base - ramp) ihold
  else min (base + ramp) ihold

/-- R151 for an axis, from the words `w0` and `w1`; AMP.SRC is 0 IRUN, 1 ramping, 2 IHOLD, 3 hold forced. -/
def baseUpdate (d : Dev) (n : Nat) : Dev :=
  let ga := d.ga n
  let irun := d.rf (pgAxis n) Reg.axis.IRUN 11 0
  let ihold := d.rf (pgAxis n) Reg.axis.IHOLD 11 0
  let st := d.rd (pgAxis n) Reg.axis.STILL
  let isStill := decide (ga.w1.vel = 0 ∧ ga.w1.pos = ga.w0.pos ∧ ga.w1.posf = ga.w0.posf)
  let still := if ga.cuRose then 0 else if isStill then min (ga.still + 1) 65535 else 0
  let base :=
    if ga.cuRose then irun
    else if d.holdForced (n / 16) then ihold
    else if still = 0 then irun
    else baseStep ga.base still (fld st 31 16) (fld st 11 0) ihold
  let src :=
    if !ga.cuRose ∧ d.holdForced (n / 16) then 3
    else if still ≤ fld st 31 16 then 0
    else if base = ihold then 2 else 1
  d.setGa n { ga with still := still, base := base, ampSrc := src, cuRose := false }

/-! ### The chopper (R158 to R164) -/

/-- Whether the enables of coil `j` let it start a period at `s` (R172 to R174). -/
def Dev.coilEnabled (d : Dev) (g j s : Nat) : Bool :=
  let n := 16 * g + j / 2
  d.rb (pgGrove g) Reg.PAGE_CTRL 0 && d.rb (pgAxis n) Reg.PAGE_CTRL 8 && !(d.grove g).tripped &&
    decide ((d.coil (32 * g + j)).enabledAt ≤ s - 64)

/-- fastt after a period, and FASTSAT (R164). `c` describes the period just ended, `magNow` the one that starts. -/
def fasttNext (c : Coil) (magNow early filt astep fmin fmax : Nat) : Nat × Bool :=
  if !c.driveIn ∨ c.winIn then (c.fastt, false)
  else if c.tripped ∧ c.ton ≤ early + max filt 1 then
    let f := min (c.fastt + astep) fmax
    (f, f = fmax)
  else if !c.tripped ∧ c.mag ≤ magNow then (max (c.fastt - astep) fmin, false)
  else (c.fastt, false)

/-- Enters DRIVE with the setpoint of `c` (R159, R188): the tags of the change are those of the state before. -/
def enterDrive (d : Dev) (g j : Nat) (c : Coil) : Dev :=
  let d1 := setChop d g j { c with st := .drive, srcNeg := c.neg, blankEnd := none, tripped := false, driveIn := true,
                                   fast := false } d.clk
  let c1 := d1.coil (32 * g + j)
  driveMarker (d1.setCoil (32 * g + j) { c1 with hadDrive := true, zeroSeen := false, driveMag := c.mag }) g j d.clk true

/-- Enters DECAY at instant `at_`, with the fast phase where the mode has one (R160, R163). -/
def enterDecay (d : Dev) (g j at_ : Nat) (c : Coil) : Dev :=
  setChop d g j { c with st := .decay, decayAt := at_, blankEnd := none,
                         fast := decide ((c.dmode = 2 ∨ c.dmode = 3) ∧ 0 < c.fastUsed) } at_

/-- The period of coil `j` begins with its setpoint, outside a window (R159, R162). -/
def beginPeriod (d : Dev) (g j : Nat) (c : Coil) : Dev :=
  if 0 < c.mag then
    if c.st = .drive ∧ c.srcNeg = c.neg then d.setCoil (32 * g + j) { c with full := true, driveIn := true }
    else enterDrive d g j c
  else if !c.hadDrive then setChop d g j { c with st := .off } d.clk
  else if c.st = .drive then enterDecay d g j d.clk c
  else setChop d g j { c with st := .decay, fast := false } d.clk

/-- Whether a window opens at `s` (R165), given the half-cycle of this period. -/
def Dev.opensWindow (d : Dev) (g j s half : Nat) : Bool :=
  let n := 16 * g + j / 2
  let v := d.asOf (s - 64)
  let c := d.coil (32 * g + j)
  v.rb (pgAxis n) Reg.axis.ZCW0 35 && v.rb (pgAxis n) Reg.PAGE_CTRL 8 && v.rb (pgGrove g) Reg.PAGE_CTRL 0 && c.started &&
    c.half != half && decide ((v.rf (pgAxis n) Reg.axis.ZCW1 34 0 : Nat) ≤ absI (sgn 36 (d.ga n).w1.vel)) && c.win.isNone

/-- The commutation event of a period start of coil A (R197): the step of the mask pointer. -/
def sfullStep (old : Option Nat) (new : Nat) : Int :=
  match old with
  | none => 0
  | some o =>
    match (new + 4 - o) % 4 with
    | 1 => 1
    | 2 => 2
    | 3 => -1
    | _ => 0

/-- A step of the mask pointer of axis `a` (R197). -/
def ptrStep (d : Dev) (g a : Nat) (k : Int) : Dev :=
  if k = 0 then d
  else
    let n := d.rf (pgOvrd g) (Reg.ovrd.MCFG + a) 2 0 + 1
    let p := d.rf (pgOvrd g) (Reg.ovrd.PTR + a) 2 0
    refreshAxis (d.wf (pgOvrd g) (Reg.ovrd.PTR + a) 2 0 (((p : Int) + k) % (n : Nat)).toNat) g a

/-- fastt as the period that starts has it, and FASTSAT (R164). -/
def fastNow (d : Dev) (g j : Nat) (on : Bool) (mag : Nat) : Nat × Bool :=
  let n := 16 * g + j / 2
  let v := d.asOf (d.clk - 64)
  let dec := v.rd (pgAxis n) Reg.axis.DECAY
  let fst := v.rd (pgAxis n) Reg.axis.FAST
  let c := d.coil (32 * g + j)
  if fld dec 2 0 = 3 ∧ on ∧ c.win.isNone then
    fasttNext c mag (fld dec 27 16) (v.rf (pgCarrier g) Reg.carrier.FILT 7 0) (fld dec 15 8) (fld fst 23 12) (fld fst 35 24)
  else (c.fastt, false)

/-- The coil as its period starts, with the registers in effect at s − 64 (R144, R163, R164). -/
def coilStart (d : Dev) (g j : Nat) (sp : Setpoint) (ft : Nat) : Coil :=
  let n := 16 * g + j / 2
  let v := d.asOf (d.clk - 64)
  let mode := v.rf (pgAxis n) Reg.axis.DECAY 2 0
  let fst := v.rd (pgAxis n) Reg.axis.FAST
  let c := d.coil (32 * g + j)
  { c with
    s := d.clk, ran := true, started := v.rb (pgAxis n) Reg.PAGE_CTRL 8 && !(d.grove g).tripped, mag := sp.mag, neg := sp.neg,
    th := sp.th, half := sp.half, amp := sp.amp, fastt := ft,
    fastUsed := if mode = 3 then (if sp.mag < c.mag then fld fst 35 24 else ft) else fld fst 11 0, dmode := mode, full := false }

/-- The chopper takes the period (R159, R165, R170, R172): a window in progress goes on; a coil without its enables is OFF;
a window opens; or the period begins. `c` is the coil as the period starts. -/
def periodChop (d : Dev) (g j : Nat) (c : Coil) (on opens : Bool) : Dev :=
  if c.win.isSome then d.setCoil (32 * g + j) c
  else if !on then setChop d g j { c with st := .off, driveIn := false, winIn := false, resumeAt := none } d.clk
  else if opens then
    (setChop d g j { c with st := .zwin, win := some ⟨c.s, none, 0, false, c.mag, c.neg, c.half⟩, driveIn := false, winIn := true,
                            resumeAt := none, blankEnd := none, tonS := c.s } d.clk).incWrap (pgGrove g) Reg.grove.ZOPEN 35 0 1
  else beginPeriod d g j { c with driveIn := false, winIn := false, resumeAt := none, tonS := c.s }

/-- What a period start of coil A takes down for its axis (R197, R424): the quarter of the electrical turn, which steps the
mask pointer where MCFG says so, and the interpolated position, unless the grove is at its safe levels. -/
def periodAxis (d : Dev) (g j th : Nat) : Dev :=
  let n := 16 * g + j / 2
  let q := th / 1024
  let k := if d.rb (pgOvrd g) (Reg.ovrd.MCFG + j / 2) 4 then sfullStep (d.ga n).quarter q else 0
  let gr := d.grove g
  let ip := if gr.tripped ∧ gr.safe then (d.ga n).ipos
    else some (interpAt (d.ga n).w0 (d.ga n).w1 (d.clk - gr.lastB) (d.rf (pgGrove g) Reg.grove.TPER 16 0) / 65536)
  ptrStep (d.setGa n { d.ga n with quarter := some q, ipos := ip }) g (j / 2) k

/-- A period of coil `j` starts now (R144, R151 to R165, R170, R174). -/
def periodStart (d : Dev) (g j : Nat) : Dev :=
  let sp := setpoint d g j d.clk
  let on := d.coilEnabled g j d.clk
  let fast := fastNow d g j on sp.mag
  let d0 := if fast.2 then d.ev (pgAxis (16 * g + j / 2)) 11 else d
  let d1 := periodChop d0 g j (coilStart d g j sp fast.1) on (on && d.opensWindow g j d.clk sp.half)
  if j % 2 = 0 then periodAxis d1 g j sp.th else d1

/-- A recognised trip ends DRIVE; the command changes t_TCMD later (R160, R161, R175). -/
def tripRecognised (d : Dev) (g j blank : Nat) : Dev :=
  let c := d.coil (32 * g + j)
  enterDecay d g j (d.clk + 1) { c with tripped := true, ton := d.clk - blank }

/-- DRIVE ends at s + TONMAX (R160). -/
def tonmaxEnd (d : Dev) (g j : Nat) : Dev :=
  (enterDecay d g j d.clk (d.coil (32 * g + j))).ev (pgAxis (16 * g + j / 2)) 12

/-! ### Zero-current windows (R165 to R170) -/

/-- An empty sample of a window that closes without a completed conversion (R242). -/
def emptySample (d : Dev) (g j : Nat) (w : Window) : Dev :=
  let n := 16 * g + j / 2
  let tag := if w.z.isSome then w.zTick else (d.grove g).tick
  d.setOb n { d.ob n with samples := (d.ob n).samples ++ [⟨j % 2, w.half, tag, true, 0, false, 0⟩] }

/-- The window of coil `j` closes now (R168): DRIVE resumes 64 gck later where that leaves t_ZTAIL before the coil's next
period start. -/
def closeWindow (d : Dev) (g j : Nat) (w : Window) : Dev :=
  let c := d.coil (32 * g + j)
  let next := coilDue d g j (max (d.clk + 1) (c.s + 1))
  let resume := if d.clk + 64 + 128 ≤ next then some (d.clk + 64) else none
  d.setCoil (32 * g + j) { c with win := none, resumeAt := resume, mag := w.mag, neg := w.neg, tonS := w.s }

/-- Counts one outcome of R167: its PAGE_EVT bit and its ZSTAT field (`i`: 0 ZTIMEOUT, 1 ZCUT, 2 ZSKIP). -/
def zcount (d : Dev) (n i : Nat) : Dev :=
  let lo := 24 - 12 * i
  (d.incSat (pgAxis n) Reg.axis.ZSTAT (lo + 11) lo).ev (pgAxis n) (8 + i)

/-- A window closes at ZMAX (R167, R230). -/
def windowMax (d : Dev) (g j : Nat) (w : Window) : Dev :=
  let n := 16 * g + j / 2
  let d1 := if w.z.isNone then zcount d n 0 else zcount (removeRequest d g j).2 n 1
  emptySample (closeWindow d1 g j w) g j w

/-- Zero current is recognised in the window of coil `j` (R166, R188, R222). -/
def zeroSeen (d : Dev) (g j : Nat) (w : Window) : Dev :=
  let c := d.coil (32 * g + j)
  let d1 := d.setCoil (32 * g + j) { c with zeroSeen := true, win := some { w with z := some d.clk, zTick := (d.grove g).tick } }
  offerTrigger d1 g 4 j

/-- The urgent request of a window reaches the converters (R166, R167, R228). -/
def urgentRequest (d : Dev) (g j : Nat) (w : Window) : Dev :=
  let n := 16 * g + j / 2
  let z2 := d.rd (pgAxis n) Reg.axis.ZCW2
  let (ok, d1) := placeRequest d g ⟨j, fld z2 21 20, fld z2 18 16, fld z2 11 8⟩
  let c := d1.coil (32 * g + j)
  if ok then d1.setCoil (32 * g + j) { c with win := some { w with requested := true } }
  else emptySample (closeWindow (zcount d1 n 2) g j w) g j w

/-- Tags of R169 for the conversion of a window. -/
def tagged (r : Conversion) (w : Window) : Conversion :=
  { r with tick := w.zTick, half := w.half, dz := (w.z.getD w.s) - w.s }

/-- The end of the sampling of converter `c` (R166 step 6, R168, R229). -/
def conversionEnd (d : Dev) (c : Nat) (r : Conversion) : Dev :=
  match r.urgent with
  | none => samplingEnd d c r
  | some u =>
    let g := c / 4
    match (d.coil (32 * g + u.coil)).win with
    | some w => closeWindow (samplingEnd d c (tagged r w)) g u.coil w
    | none => samplingEnd d c r

/-- DRIVE resumes after a window, as at a period start (R168). -/
def driveResume (d : Dev) (g j : Nat) : Dev :=
  let c := d.coil (32 * g + j)
  beginPeriod (d.setCoil (32 * g + j) { c with resumeAt := none }) g j { c with resumeAt := none }

end Sys2Proof.Machine
end

