-- ==== Sys2Proof/Machine/Scribe.lean ====
section
/-!
DEFINITION. The Scribe, the Inkwell and the Stroke library (R104 to R142): the master coordinate, the ring of event
points and its pending table, firing, and strokes from firing to completion.
-/
namespace Sys2Proof.Machine

/-- serial(x) of R104. -/
def serial (x : Int) : Int := wrapS 36 x

def Dev.setScr (d : Dev) (s : Scribe) : Dev := { d with scr := s }

/-- Ring size N in points (R113). -/
def Dev.ringN (d : Dev) : Nat := (d.part 0).2 / 2

def Dev.scrRD (d : Dev) : Nat := d.rf pgScribe Reg.scribe.RD 21 0
def Dev.scrWR (d : Dev) : Nat := d.rf pgScribe Reg.scribe.WR 21 0

/-- FILL of R114 for pointers `rd`, `wr` and ring size `n`. -/
def ringFill (n rd wr : Nat) : Nat := if n = 0 then 0 else (wr + 2 * n - rd % (2 * n)) % (2 * n)

def Dev.scrFill (d : Dev) : Nat := ringFill d.ringN d.scrRD d.scrWR

/-- Word address of the point for pointer value `i` (R114). -/
def Dev.pointAddr (d : Dev) (i : Nat) : Nat := (d.part 0).1 + 2 * (i % d.ringN)

/-- The fetch pointer F: one past the points in the table. -/
def Dev.fetchPtr (d : Dev) : Nat :=
  if d.ringN = 0 then 0 else (d.scrRD + d.scr.table.length) % (2 * d.ringN)

/-! ### Master coordinate -/

/-- R107: one advance by source counts. -/
def ratioStep (macc ratio ds : Int) : Int × Int :=
  let a := macc + ratio * ds
  let w := a.fdiv 16777216
  (w, a - w * 16777216)

/-- R107 for the HOST source. -/
def hostStep (hfrac hvel : Int) : Int × Int :=
  let a := hfrac + hvel
  let w := a.fdiv 1048576
  (w, a - w * 1048576)

/-- R109: C and mvel from a broadcast, at canopy time `t`. f_tk is 400,000,000 / TPER. -/
def broadcastAt (b : Broadcast) (t tper : Nat) : Nat × Int :=
  let dt : Int := sgn 72 (unsgn 72 ((t : Int) - (b.t : Int)))
  (unsgn 36 ((b.c : Int) + (b.v * dt * 1000).fdiv (2 ^ 56)), rhe (b.v * 1000 * (tper : Nat)) 400000000)

/-- The raw value of the QDEC or AXIS source (R106, R371). -/
def Dev.masterRaw (d : Dev) : Nat :=
  let m := d.rd pgScribe Reg.scribe.MSRC
  if fld m 2 0 = 1 then (d.rd pgQdec (Reg.qdec.RAW + fld m 11 8)).toNat
  else countOf (d.ga (fld m 18 12)).xact

/-- R105 to R112 at a boundary whose canopy time is `t`. -/
def masterUpdate (d : Dev) (t tper cycle : Nat) : Dev :=
  let m := d.rd pgScribe Reg.scribe.MSRC
  let src := fld m 2 0
  let s0 := d.scr
  let raw := d.masterRaw
  let s := if s0.reanchor then
      { s0 with reanchor := false, rawPrev := raw, macc := 0, hfrac := 0, hist := List.replicate 256 s0.c }
    else s0
  let hist' := (s.c :: s.hist).take 256
  let ratio := sfld (d.rd pgScribe Reg.scribe.MRATIO) 35 0
  let (s1, lost) : Scribe × Bool :=
    if s0.reanchor then ({ s with hist := List.replicate 256 s0.c, mvel := if src = 0 then sfld (d.rd pgScribe Reg.scribe.HVEL) 35 0 else 0 }, false)
    else match src with
    | 0 =>
      let hv := sfld (d.rd pgScribe Reg.scribe.HVEL) 35 0
      let (w, f) := hostStep s.hfrac hv
      ({ s with c := unsgn 36 ((s.c : Int) + w), hfrac := f, mvel := hv, hist := hist' }, false)
    | 3 =>
      match s.broadcast with
      | none => ({ s with mvel := 0, hist := hist' }, false)
      | some b =>
        if fld m 27 24 < (cycle + 2 ^ 36 - b.cycle) % 2 ^ 36 ∨ s.mlost then ({ s with mvel := 0, hist := hist' }, true)
        else
          let (c, v) := broadcastAt b t tper
          ({ s with c := c, mvel := v, hist := hist' }, false)
    | _ =>
      let (w, f) := ratioStep s.macc ratio (serial ((raw : Int) - (s.rawPrev : Int)))
      let c := unsgn 36 ((s.c : Int) + w)
      let win := 2 ^ (fld m 23 20)
      let old := hist'.getD (win - 1) 0
      ({ s with c := c, macc := f, rawPrev := raw, hist := hist',
                mvel := rhe (serial ((c : Int) - (old : Int)) * 1048576) (win : Nat) }, false)
  let d1 := d.setScr s1
  let d2 := if lost ∧ !s1.mlost then (d1.setScr { s1 with mlost := true }).ev pgScribe 9 else d1
  let s2 := d2.scr
  if s2.msetNow then
    let s3 := { s2 with msetNow := false, msetAt := none }
    if src = 3 then (d2.setScr s3).ev pgScribe 11
    else
      let v := (d2.rd pgScribe Reg.scribe.MSET).toNat
      let off : Int := (v : Int) - (s2.c : Int)
      d2.setScr { s3 with c := v, hwm := v, hist := s3.hist.map (fun x => unsgn 36 ((x : Int) + off)) }
  else d2

/-- R122: the high-water mark. -/
def hwmUpdate (d : Dev) : Dev :=
  if later 36 d.scr.c d.scr.hwm then d.setScr { d.scr with hwm := d.scr.c } else d

def Scribe.reversed (s : Scribe) : Bool := later 36 s.hwm s.c

/-- R121. -/
def leadDist (mvel : Int) (lead : Nat) : Int := if mvel ≤ 0 then 0 else (mvel * (lead : Nat)).fdiv (2 ^ 28)

def Dev.axLead (d : Dev) (n : Nat) : Nat := if d.hasAxis n then d.rf pgScribe (Reg.scribe.AXCFG + n) 23 0 else 0

/-- LDMAX of R118: the largest lead distance over enabled axes. -/
def Dev.leadMax (d : Dev) : Int :=
  (List.range d.variant.axes).foldl (fun a n =>
    if d.rb pgScribe (Reg.scribe.AXCFG + n) 27 then max a (leadDist d.scr.mvel (d.axLead n)) else a) 0

/-! ### Retiring points and the ring (R115, R117, R120) -/

/-- LOW and EMPTY when FILL falls (R117). -/
def fillEvents (d : Dev) (was : Nat) : Dev :=
  let now := d.scrFill
  let mark := d.rf pgScribe Reg.scribe.LOWMARK 21 0
  let d1 := if mark < was ∧ now ≤ mark then d.ev pgScribe 0 else d
  if 0 < was ∧ now = 0 then d1.ev pgScribe 1 else d1

/-- Drops the retired points at the front of the table. -/
def dropRetired : List Point → Nat × List Point
  | [] => (0, [])
  | p :: t => if p.st = .retired then let (k, r) := dropRetired t; (k + 1, r) else (0, p :: t)

/-- RD advances over retired points. -/
def advanceRD (d : Dev) : Dev :=
  let was := d.scrFill
  let (k, rest) := dropRetired d.scr.table
  if k = 0 then d
  else
    let d1 := d.setScr { d.scr with table := rest }
    fillEvents (d1.wf pgScribe Reg.scribe.RD 21 0 ((d.scrRD + k) % (2 * d.ringN))) was

/-- Writes DONE into a retiring point: word 1 with DONE at 1, or whole where it cannot be read (R117). -/
def markDone (d : Dev) (ptr : Nat) : Dev :=
  let a := d.pointAddr ptr + 1
  match d.memGet a with
  | (.ok w, d1) => d1.memPut a (setFld w 8 8 1)
  | (.uncorrectable, d1) => d1.memPut a 0x100

/-- Points leave the table without retiring; F returns to RD (R120). -/
def clearTable (d : Dev) : Dev := d.setScr { d.scr with table := [], xprev := none }

/-! ### Fetching (R118, R119) -/

/-- The points that may be fetched in one tick: floor(2,000,000 / f_tk). -/
def fetchBudget (tper : Nat) : Nat := tper / 200

def pointOf (ptr : Nat) (w0 w1 : Word) : Point :=
  { ptr := ptr, x := w0.toNat, axis := fld w1 35 29, stroke := fld w1 28 15, rearm := bit w1 10, nolead := bit w1 9,
    param := fld w1 7 0, st := .pending }

/-- Fetches the point at F, if R118 allows, and checks it into the table or retires it (R119). -/
def fetchPoint (d : Dev) (tper : Nat) : Dev :=
  let s := d.scr
  let f := d.fetchPtr
  if !(s.running && d.variant.full) ∨ fetchBudget tper ≤ s.fetched ∨ 512 ≤ s.table.length ∨ f = d.scrWR ∨ d.ringN = 0 then d
  else
    let a := d.pointAddr f
    let (r0, d1) := d.memGet a
    let within := match r0 with
      | .ok w => decide (serial ((w.toNat : Int) - (s.hwm : Int)) ≤ s.ldmax + (d.rf pgScribe Reg.scribe.LOOKPAD 23 0 : Nat))
      | .uncorrectable => true
    if !within then d1
    else
      let (r1, d2) := d1.memGet (a + 1)
      let put (d : Dev) (p : Point) : Dev :=
        d.setScr { d.scr with table := d.scr.table ++ [p], fetched := d.scr.fetched + 1 }
      let retire (d : Dev) (p : Point) : Dev := advanceRD (markDone (put d { p with st := .retired }) f)
      match r0, r1 with
      | .ok w0, .ok w1 =>
        let p := pointOf f w0 w1
        if bit w1 8 then advanceRD (put d2 { p with st := .retired })
        else if 8 ≤ (fld w1 14 11 + 16 - d.rf pgScribe Reg.scribe.GEN 3 0) % 16 then
          ((retire d2 p).scribeCount (Reg.scribe.CNT_x + 3)).ev pgScribe 3
        else
          match s.xprev with
          | some x =>
            if serial ((p.x : Int) - (x : Int)) < 0 then ((retire d2 p).scribeCount (Reg.scribe.CNT_x + 4)).ev pgScribe 2
            else (put d2 p).setScr { (put d2 p).scr with xprev := some p.x }
          | none => (put d2 p).setScr { (put d2 p).scr with xprev := some p.x }
      | _, _ =>
        ((retire d2 ⟨f, 0, 0, 0, false, false, 0, .pending⟩).scribeCount (Reg.scribe.CNT_x + 9)).ev pgScribe 10

/-! ### Firing (R123 to R128) -/

/-- Strokes of the library (R137). -/
def Dev.libSlots (d : Dev) : Nat := (d.part 1).2 / 8
def Dev.slotAddr (d : Dev) (s : Nat) : Nat := (d.part 1).1 + 8 * s
def Dev.strokeOk (d : Dev) (s : Nat) : Bool := decide (256 ≤ s ∧ s < d.libSlots)

/-- R136: the strobe of a stroke is issued when the firing is decided. -/
def strokeStrobe (d : Dev) (s : Nat) : Dev :=
  if !d.strokeOk s then d
  else
    let (r0, d1) := d.memGet (d.slotAddr s)
    let (r7, d2) := d1.memGet (d.slotAddr s + 7)
    match r0, r7 with
    | .ok w0, .ok w7 => if bit w0 31 then d2.strobe (fld w7 31 0) else d2
    | _, _ => d2

/-- What the evaluation of one point does in a tick: the point afterwards, the count of firings, and the device. -/
def evalPoint (acc : Dev × Nat × List Point) (e : Point) : Dev × Nat × List Point :=
  let (d, fires, out) := acc
  let s := d.scr
  match e.st with
  | .retired => (d, fires, out ++ [e])
  | .held =>
    if later 36 e.x s.c then (d, fires, out ++ [e])
    else (markDone d e.ptr, fires, out ++ [{ e with st := .retired }])
  | .pending =>
    let dist := serial ((e.x : Int) - (s.c : Int))
    let ld := if e.nolead then 0 else leadDist s.mvel (d.axLead e.axis)
    if dist < -((d.rf pgScribe Reg.scribe.MISSWIN 23 0 : Nat) : Int) then
      (((markDone d e.ptr).scribeCount (Reg.scribe.CNT_x + 2)).ev pgScribe 4, fires, out ++ [{ e with st := .retired }])
    else if s.reversed then (d, fires, out ++ [e])
    else if dist ≤ ld then
      if fires = 64 then ((d.scribeCount Reg.scribe.CNT_x).ev pgScribe 5, fires, out ++ [e])
      else
        let d1 := d.setScr { s with fires := s.fires ++ [⟨e.ptr, e.axis, e.stroke, e.param⟩] }
        let d2 := ((strokeStrobe d1 e.stroke).wf pgScribe Reg.scribe.LASTFIRE 21 0 e.ptr).incWrap pgScribe Reg.scribe.CNT_FIRED 35 0 1
        let held := e.rearm && later 36 e.x s.c
        let d3 := if held then d2 else markDone d2 e.ptr
        let d4 := if s.mvel < (ld - dist) * 1048576 then (d3.scribeCount (Reg.scribe.CNT_x + 1)).ev pgScribe 6 else d3
        (d4, fires + 1, out ++ [{ e with st := if held then .held else .retired }])
    else (d, fires, out ++ [e])

/-- The Scribe's evaluation of the tick that ends at the coming boundary (R123). Its decisions are complete t_STB
before that boundary (R124), so a stroke's strobe counts as arrived then. -/
def scribeEvaluate (d : Dev) : Dev :=
  if !d.scr.running then d
  else
    let at_ := d.clk
    let (d1, _, out) := d.scr.table.foldl evalPoint (d, 0, [])
    let early := d1.strobes.map (fun s => if s.at_ = at_ then { s with at_ := at_ - 173 } else s)
    let kept := d1.strobes.take d.strobes.length ++ early.drop d.strobes.length
    advanceRD { d1 with strobes := kept, scr := { d1.scr with table := out } }

/-- R127: a reversal of REVHYST makes the held points beyond HWM pending again. -/
def rearmHeld (d : Dev) : Dev :=
  let s := d.scr
  let back := serial ((s.hwm : Int) - (s.c : Int))
  if (d.rf pgScribe Reg.scribe.REVHYST 23 0 : Nat) ≤ back then
    let k := (s.table.filter (fun e => e.st == .held && later 36 e.x s.hwm)).length
    let t := s.table.map (fun e => if e.st == .held && later 36 e.x s.hwm then { e with st := .pending } else e)
    (List.range k).foldl (fun d _ => d.scribeCount (Reg.scribe.CNT_x + 8)) (d.setScr { s with table := t })
  else d

/-- The Scribe's work at a boundary after its source (R105, R118, R120, R122, R127). -/
def scribeBoundary (d : Dev) (t tper cycle : Nat) : Dev :=
  let d1 := rearmHeld (hwmUpdate (masterUpdate d t tper cycle))
  let d2 := d1.setScr { d1.scr with ldmax := d1.leadMax, fetched := 0 }
  let run := d2.rb pgScribe Reg.PAGE_CTRL 0
  if d2.scr.running ∧ !run then (clearTable d2).setScr { (clearTable d2).scr with running := false }
  else if run ∧ !d2.scr.running then d2.setScr { d2.scr with running := true, xprev := none, table := [] }
  else d2

/-! ### Strokes (R130 to R139) -/

def profileLim (ws : List Word) : Lim :=
  ⟨fld (ws.getD 0 0) 34 0, (ws.getD 1 0).toNat, (ws.getD 2 0).toNat, fld (ws.getD 3 0) 34 0, fld (ws.getD 4 0) 34 0⟩

/-- A failed validation: STROKE.FAULT's MOVE and CAUSE. -/
abbrev StrokeFail := Nat × Nat

/-- Reads and validates the moves from `m` on (R130, R132). -/
def readMoves (d : Dev) (ws : List Word) (a : Nat) (param : Nat) : List Nat → (Except StrokeFail (List StrokeMove)) × Dev
  | [] => (.ok [], d)
  | m :: ms =>
    let w0 := ws.getD 0 0
    let pw := ws.getD (4 + m) 0
    let (p?, d1) := d.memGets (d.slotAddr (fld pw 35 28)) 6
    match p? with
    | none => (.error (m + 1, 4), d1)
    | some ps =>
      let lim := profileLim ps
      if !lim.ok then (.error (m + 1, 3), d1)
      else
        let t := sfld (ws.getD (1 + m) 0) 35 0
        let t1 := if bit w0 32 then rhe (t * (param : Nat)) 128 else t
        let tgt := unsgn 36 (if bit w0 33 then t1 else (a : Int) + t1)
        let (rest, d2) := readMoves d1 ws a param ms
        match rest with
        | .ok r => (.ok (⟨tgt, lim, fld (ps.getD 5 0) 7 0, fld pw 23 0⟩ :: r), d2)
        | .error e => (.error e, d2)

/-- Reads and validates stroke `s` with anchor `a` (R130, R132, R138). -/
def readStroke (d : Dev) (s a param : Nat) : (Except StrokeFail (List StrokeMove)) × Dev :=
  if !d.strokeOk s then (.error (0, 1), d)
  else
    let (ws?, d1) := d.memGets (d.slotAddr s) 8
    match ws? with
    | none => (.error (0, 4), d1)
    | some ws =>
      let n := fld (ws.getD 0 0) 35 34
      if n = 0 then (.error (0, 2), d1) else readMoves d1 ws a param (List.range n)

/-- A refused firing (R134). -/
def refuseFiring (d : Dev) : Dev := (d.scribeCount (Reg.scribe.CNT_x + 7)).ev pgScribe 8

/-- STROKE.FAULT of a firing refused under R132. -/
def strokeFault (d : Dev) (f : Firing) (e : StrokeFail) : Dev :=
  let w : Nat := f.stroke * 0x10000 + f.axis * 0x100 + e.1 * 0x10 + e.2
  ((refuseFiring d).wr pgStroke Reg.stroke.FAULT (BitVec.ofNat 36 w)).incSat pgStroke Reg.stroke.FAULTCNT 23 0 |>.ev pgStroke 1

/-- The refusals of R134 other than R132. -/
def Dev.refuses (d : Dev) (f : Firing) : Bool :=
  !d.hasAxis f.axis || !d.rb pgScribe (Reg.scribe.AXCFG + f.axis) 27 || d.axMode f.axis != 0 ||
    (d.plan f.axis).halted || d.tripped f.axis || !d.strokeOk f.stroke

/-- R130: starts the stroke of a firing on its axis, or refuses it (R132). Answers whether it started. -/
def startStroke (d : Dev) (f : Firing) : Bool × Dev :=
  let a := countOf (d.plan f.axis).mot.p
  match readStroke d f.stroke a f.param with
  | (.error e, d1) => (false, strokeFault d1 f e)
  | (.ok ms, d1) =>
    (true, d1.setQueue f.axis { d1.queue f.axis with stroke := some ⟨f.stroke, ms, 0, none, true⟩ })

/-- An axis is busy while a stroke is active or its rank moves. -/
def Dev.busyAxis (d : Dev) (n : Nat) : Bool := (d.queue n).stroke.isSome || (d.plan n).rankRun.isSome

def dropFiring (d : Dev) : Dev := (d.scribeCount (Reg.scribe.CNT_x + 5)).ev pgScribe 7

/-- R135, POLICY QUEUE: one firing. -/
def fireQueue (d : Dev) (f : Firing) : Dev :=
  if d.busyAxis f.axis then
    let q := d.queue f.axis
    if q.waiting.length < 4 then d.setQueue f.axis { q with waiting := q.waiting ++ [f] }
    else (d.scribeCount (Reg.scribe.CNT_x + 6)).ev pgScribe 7
  else (startStroke d f).2

/-- R135, POLICY DROP: one firing. -/
def fireDrop (d : Dev) (f : Firing) : Dev :=
  if d.busyAxis f.axis then dropFiring d else (startStroke d f).2

/-- R135, POLICY PREEMPT: of the firings of one axis at one snapshot the last that is not refused starts. -/
def firePreempt (d : Dev) (n : Nat) : List Firing → Dev
  | [] => d
  | f :: older =>
    let was := (d.plan n).rankRun
    match startStroke d f with
    | (false, d1) => firePreempt d1 n older
    | (true, d1) =>
      let d2 := if was.isSome then leaveRank d1 n else d1
      older.foldl (fun d _ => dropFiring d) d2

/-- Firings of one axis at one snapshot, in ring order. -/
def fireAxis (d : Dev) (n : Nat) (fs : List Firing) : Dev :=
  let good := fs.filter (fun f => !d.refuses f)
  let d1 := (fs.filter (fun f => d.refuses f)).foldl (fun d _ => refuseFiring d) d
  match d.rf pgScribe (Reg.scribe.AXCFG + n) 25 24 with
  | 0 => good.foldl fireQueue d1
  | 1 => firePreempt d1 n good.reverse
  | _ => good.foldl fireDrop d1

/-- A firing skipped under M2 (R397). -/
def skipFiring (d : Dev) : Dev := (d.incSat pgSupv Reg.supv.MSKIP 23 0).ev pgSupv 8

/-- Items 5 of R98 at a snapshot: the firings decided in the tick before. -/
def takeFirings (d : Dev) : Dev :=
  let fs := d.scr.fires
  let d0 := d.setScr { d.scr with fires := [] }
  (List.range 128).foldl (fun d n =>
    let mine := fs.filter (fun f => f.axis == n)
    if mine.isEmpty then d
    else if 2 ≤ d.sup.view.m (n / 16) then mine.foldl (fun d _ => skipFiring d) d
    else fireAxis d n mine) d0

/-- The stroke of an axis at a snapshot: the next move after a dwell, or completion (R131); then the oldest queued
firing (R135). -/
def snapStroke (d : Dev) (n : Nat) : Dev :=
  let q := d.queue n
  let d1 := match q.stroke with
    | some s =>
      if s.dwell = some 0 then
        if s.mv + 1 < s.moves.length then
          d.setQueue n { q with stroke := some { s with mv := s.mv + 1, dwell := none, fresh := true } }
        else
          let t := (s.moves[s.mv]?).elim 0 StrokeMove.target
          (d.setQueue n { q with stroke := none }).wr (pgAxis n) Reg.axis.XTGT (BitVec.ofNat 36 t)
      else d
    | none => d
  let q1 := d1.queue n
  if !d1.busyAxis n then
    match q1.waiting with
    | f :: rest =>
      let d2 := d1.setQueue n { q1 with waiting := rest }
      if d2.refuses f then refuseFiring d2 else (startStroke d2 f).2
    | [] => d1
  else d1

/-- STROKE.CHECK: the first failing stroke of a range and its cause (R142). -/
def checkStrokes (d : Dev) (start : Nat) : Nat → Option (Nat × Nat)
  | 0 => none
  | k + 1 =>
    match (readStroke d start 0 128).1 with
    | .error e => some (start, e.2)
    | .ok _ => checkStrokes d (start + 1) k

end Sys2Proof.Machine
end

