-- ==== Sys2Proof/Machine/Live.lean ====
section
/-!
DEFINITION. What each register reads (R9, R47 to R51, R57, R62 and the field tables of every chapter): the stored fields,
with the fields that the unit's own state gives. Reading changes nothing here; the side effects of a read are in
Access.lean.
-/
namespace Sys2Proof.Machine

/-- A word made of values at bit positions; each value lies within its field. -/
def mkw (l : List (Nat × Nat)) : Word := BitVec.ofNat 36 (l.foldl (fun a e => a + e.2 * 2 ^ e.1) 0)

/-- The word with live fields set. -/
def withFields (w : Word) (l : List (Nat × Nat × Nat)) : Word := l.foldl (fun w e => setFld w e.1 e.2.1 e.2.2) w

/-! ### Interrupts (R50, R68) -/

/-- Whether a page raises its request. -/
def Dev.pageIrq (d : Dev) (p : Nat) : Bool :=
  pagePresent d.variant p && ((d.rd p Reg.PAGE_EVT).toNat &&& (d.rd p Reg.PAGE_EVTEN).toNat) != 0

/-- The pages of grove g. -/
def grovePages (g : Nat) : List Nat :=
  [pgGrove g, pgCarrier g, pgFire g, pgNib g, pgOvrd g, pgConv g 0, pgConv g 1, pgConv g 2, pgConv g 3, pgCal g, pgWave g] ++
    (List.range 16).map (fun a => pgAxis (16 * g + a))

/-- The pages of interrupt source s. -/
def sourcePages (s : Nat) : List Nat :=
  if 24 ≤ s then grovePages (s - 24)
  else match s with
    | 0 => [pgCanopy]
    | 1 => [pgSupv]
    | 2 => [pgTime]
    | 3 => [pgHostp]
    | 4 => [pgPerip]
    | 5 => [pgXmem]
    | 6 => [pgLink]
    | 7 => [pgSched]
    | 8 => [pgNode]
    | 9 => [pgPlanA]
    | 10 => [pgPlanB]
    | 11 => [pgTwin]
    | 12 => [pgScribe]
    | 13 => [pgStroke]
    | 14 => [pgQdec]
    | 15 => [pgStepin]
    | 16 => [pgCapt]
    | 17 => [pgRanks]
    | 18 => [pgBlot]
    | _ => []

def Dev.sourceIrq (d : Dev) (s : Nat) : Bool := (sourcePages s).any d.pageIrq

/-- Whether IRQ_N[m] is driven low (R68, CANOPY.PAGE_CTRL.IRQ_TEST). -/
def Dev.irqLow (d : Dev) (m : Nat) : Bool :=
  d.rb pgCanopy Reg.PAGE_CTRL 0 || (List.range 32).any (fun s =>
    let q := d.rd pgCanopy (Reg.canopy.IRQMAP + s / 8)
    let i := 4 * (s % 8)
    bit q (i + 3) && fld q (i + 1) i == m && d.sourceIrq s)

def Dev.anyIrq (d : Dev) : Bool := (List.range 4).any d.irqLow

/-! ### Memory of a page's capability and status -/

/-- PAGE_CAP below PRESENT (R49). -/
def pageCap (v : Variant) (k : PageKind) : Nat :=
  match k with
  | .canopy => 2 ^ v.groves - 1
  | .supv => 3
  | .time => 0x83
  | .hostp => 3
  | .perip => 0xFF
  | .xmem => 1
  | .sxlink => if v.full then 15 else 13
  | .sxsched => 32
  | .sxnode => 0
  | .plan => v.groves
  | .twin => 1 + 16 * 2 ^ 16
  | .blot => 3
  | .scribe => 3
  | .stroke => 0
  | .qdec => 0x1FFFF
  | .stepin => 0xFFFF
  | .capt => 0xFFFFFFFF
  | .ranks => 0
  | .grove => 7
  | .carrier => 0
  | .firebrk => 3
  | .nib => 1
  | .ovrd => 3
  | .conv => 7
  | .convcal => 1
  | .wave => 0
  | .axis => 0x7010F

/-- Whether the Blotter's sources run. -/
def Dev.blotOn (d : Dev) : Bool := d.rb pgBlot Reg.blot.CTRL 0 || d.rb pgBlot Reg.blot.CTRL 1

def SleepPhase.code : SleepPhase → Nat
  | .awake => 0
  | .voting => 1
  | .committed => 2
  | .asleep => 3
  | .waking => 4

def PState.code : PState → Nat
  | .run => 0
  | .idle => 1
  | .standby => 2
  | .retain => 3

def CalState.code : CalState → Nat
  | .none => 0
  | .running => 1
  | .calibrated => 2
  | .restored => 3
  | .failed => 4
  | .outwin => 5
  | .badsum => 6
  | .applying => 7

def TimeSource.code : TimeSource → Nat
  | .xtal => 0
  | .sernyx => 1
  | .pps => 2

/-- The slots the node owns in the schedule in effect (R337). -/
def Dev.linkNode (d : Dev) : Nat := d.rf pgLink Reg.sxlink.CFG 34 30
def Dev.ownSlots (d : Dev) : List Nat :=
  (List.range (d.rf pgSched Reg.sxsched.NSLOT 5 0)).filter (fun i => d.rf pgSched (Reg.sxsched.SLOT + i) 12 8 == d.linkNode)

def Dev.linkOn (d : Dev) : Bool := d.rb pgLink Reg.PAGE_CTRL 0

/-- Listening only (R337, R349). -/
def Dev.listens (d : Dev) : Bool := d.linkOn && (d.lk.schmis || d.lk.majMis || d.ownSlots.isEmpty)

/-- DEG of the header (R338). -/
def Dev.degraded (d : Dev) : Bool := d.rb pgLink Reg.PAGE_CTRL 1 || decide (2 ≤ d.sup.lev.s)

/-- DVALID (R343): four reports on the port in use. -/
def Dev.dvalid (d : Dev) : Bool := decide ((if d.lk.portB then d.lk.repB else d.lk.repA) = 4)

/-- TVALID (R344, R360). -/
def Dev.tvalid (d : Dev) : Bool :=
  !d.lk.muted && d.dvalid && d.lk.linkup && !d.lk.master && decide (d.sup.ps = .run ∨ d.sup.ps = .idle)

/-- TERR in ns (R345), rounded up, with τ from the latest beacon. -/
def Dev.terr (d : Dev) : Nat :=
  if d.lk.master then 0
  else match d.lk.heard with
    | none => 2 ^ 24 - 1
    | some t => min (2 ^ 24 - 1) ((if d.dvalid then 25 else 150) + 10 + (d.clk - t + 19999) / 20000)

/-- The cycle period in gck. -/
def Dev.cycGck (d : Dev) : Nat := d.rf pgSched Reg.sxsched.CYC 11 0 * 400

/-- The number of the current cycle: the last one that began, advanced by the cycles that have passed since. -/
def Dev.cycleNow (d : Dev) : Nat :=
  if d.lk.heard.isNone ∧ !d.lk.master then 0
  else (d.lk.cycle + (d.clk - d.lk.cycleAt) / max 1 d.cycGck) % 2 ^ 36

/-- PAGE_STAT of each page. -/
def pageStat (d : Dev) (k : PageKind) (p : Nat) : Word :=
  let g := groveOf p
  match k with
  | .canopy => mkw [(0, bnat d.dataIdle)]
  | .supv => mkw [(0, d.sup.ps.code), (2, bnat d.sup.latch), (3, bnat d.pins.pfail)]
  | .time => mkw [(0, bnat d.tb.locked), (1, bnat d.tb.slewing), (2, bnat (decide (d.tb.gofs ≠ 0))), (3, bnat d.tb.holdover),
      (4, bnat d.lk.master)]
  | .hostp => mkw [(0, bnat d.pins.sel), (1, bnat d.hp.sync), (2, bnat d.hp.wdRun)]
  | .perip => mkw [(0, bnat d.pp.run.isSome), (1, bnat d.pp.halted), (2, bnat d.pp.selHeld.isSome)]
  | .xmem => mkw [(0, bnat d.jr.loading)]
  | .sxlink => mkw [(0, bnat d.lk.linkup), (1, bnat d.lk.muted), (2, bnat d.lk.master), (3, bnat d.tvalid), (4, bnat d.dvalid),
      (5, bnat d.lk.schmis), (6, bnat d.listens), (7, bnat (d.linkOn && d.degraded)), (8, d.lk.floor), (12, d.lk.sphase.code),
      (15, bnat d.lk.dupid)]
  | .plan =>
    let q := p - pgPlanA
    mkw [(0, bnat (d.quillRuns q)), (1, bnat (if q = 0 then d.tw.haltA else d.tw.haltB)),
      (2, bnat (d.tw.recov.isSome || (match d.tw.takeover with | some (h, _) => decide (h ≠ q) | none => false))),
      (8, bitsOf 8 (fun g => computes d.variant d.tw.mode q g && !(if q = 0 then d.tw.emptyA else d.tw.emptyB)))]
  | .twin => mkw [(0, d.tw.mode.code), (4, bnat d.tw.pairOk), (5, bnat d.tw.recov.isSome), (6, bnat d.recovOk),
      (7, bnat d.tw.merging.isSome), (8, bnat d.tw.broke), (9, bnat d.tw.stest), (10, bnat d.tw.pending.isSome)]
  | .blot => mkw [(0, bnat d.blotOn), (1, bnat d.bl.shed)]
  | .scribe => mkw [(0, bnat d.scr.running), (1, bnat d.scr.mlost), (2, bnat d.scr.reversed), (3, bnat (decide (d.scrFill = 0))),
      (4, bnat (decide (d.scr.table.length = 512)))]
  | .qdec => mkw [(0, d.inp.dirPos &&& d.inp.dirDef), (16, d.inp.dirDef)]
  | .capt => mkw [(0, bitsOf 16 (fun u => (d.inp.starts.look u).isSome))]
  | .grove =>
    withFields (d.rd p Reg.PAGE_STAT) [(2, 2, bnat (d.grove g).extrap), (1, 1, bnat (d.gateOpen g)),
      (0, 0, bnat (d.rb p Reg.PAGE_CTRL 0 && !(d.grove g).tripped))]
  | .firebrk => mkw [(0, bnat (d.grove g).tripped), (1, bnat (d.grove g).ramp.isSome), (2, bnat (d.grove g).held.isSome),
      (3, bnat ((List.range 64).any (fun k => d.safeCode g k == 3))), (4, bnat (d.rb p Reg.PAGE_CTRL 0)), (16, d.liveMask g)]
  | .ovrd => mkw [(0, d.rf p Reg.ovrd.MODE 1 0)]
  | .conv =>
    let c := d.conv (convOf p)
    mkw [(0, bnat c.seqOn), (1, bnat c.urgentRuns), (2, bnat (d.calRuns g)), (4, c.queue.length), (8, c.entry)]
  | .wave => mkw [(0, d.rf p Reg.wave.CTRL 0 0)]
  | .axis =>
    let n := axisOf p
    let pl := d.plan n
    let o := d.ob n
    let a := d.ga n
    mkw [(0, pl.phase), (3, bnat (axisLanded d n)), (4, bnat pl.halted), (5, bnat (d.queue n).act.isSome),
      (8, bnat (decide (d.rf p Reg.axis.STILL 31 16 < a.still) || d.holdForced g)),
      (9, bnat (d.coil (32 * g + 2 * (n % 16))).win.isSome), (10, bnat (d.coil (32 * g + 2 * (n % 16) + 1)).win.isSome),
      (11, bnat ((d.coil (32 * g + 2 * (n % 16))).full || (d.coil (32 * g + 2 * (n % 16) + 1)).full)),
      (16, bnat o.trust), (17, bnat (decide (o.blind ≠ 0))), (18, bnat o.stalled), (19, bnat o.econAct),
      (20, bnat o.cal.isSome), (21, bnat o.retrying)]
  | _ => 0

/-! ### Registers of each page with live fields -/

def canopyWord (d : Dev) (req off : Nat) : Word :=
  if off = Reg.canopy.DEVID then
    mkw [(20, match d.variant with | .fd9128 => 0x9128 | .fd9064 => 0x9064 | .fd9032 => 0x9032), (12, 1)]
  else if off = Reg.canopy.MEMSIZE then BitVec.ofNat 36 d.variant.memWords
  else if off = Reg.canopy.UPD_PEND then
    BitVec.ofNat 36 ((d.strobes.foldl (fun a s => a ||| s.mask) 0) % 2 ^ 32)
  else if off = Reg.canopy.IRQPEND then BitVec.ofNat 36 (bitsOf 32 d.sourceIrq)
  else if Reg.canopy.GIRQ ≤ off ∧ off < Reg.canopy.GIRQ + 8 then
    let g := off - Reg.canopy.GIRQ
    mkw [(0, bitsOf 16 (fun a => d.pageIrq (pgAxis (16 * g + a)))), (16, bitsOf 14 (fun o => d.pageIrq (pgGrove g + o)))]
  else if off = Reg.canopy.FENCE then mkw [(34, bnat (!d.acc.fencing.contains req))]
  else d.rd pgCanopy off

/-- LEVELS.MLEV and MBSTAT.LEVEL of a grove. -/
def Dev.mlev (d : Dev) (g : Nat) : Nat := if 0 < d.sup.lev.ov g then 4 + d.sup.lev.ov g else d.sup.lev.m g

def supvWord (d : Dev) (off : Nat) : Word :=
  if off = Reg.supv.LEVELS then
    mkw ([(0, d.sup.lev.s), (4, d.sup.lev.t)] ++ (List.range 8).map (fun g => (12 + 3 * g, d.mlev g)))
  else if Reg.supv.MBSTAT ≤ off ∧ off < Reg.supv.MBSTAT + 8 then
    if d.hasGrove (off - Reg.supv.MBSTAT) then withFields (d.rd pgSupv off) [(18, 16, d.mlev (off - Reg.supv.MBSTAT))] else 0
  else if Reg.supv.MBTHR ≤ off ∧ off < Reg.supv.MBSTAT ∧ !d.hasGrove (off % 8) then 0
  else d.rd pgSupv off

def timeWord (d : Dev) (off : Nat) : Word :=
  let tb := d.tb
  if off = Reg.time.NOW_LO then BitVec.ofNat 36 tb.now
  else if off = Reg.time.NOW_HI then BitVec.ofNat 36 (tb.now / 2 ^ 36)
  else if off = Reg.time.TICK then BitVec.ofNat 36 d.tk
  else if off = Reg.time.SRCSTAT then
    withFields (d.rd pgTime off) [(13, 13, bnat tb.pps.qualified), (12, 12, bnat tb.sx.qualified), (9, 9, bnat tb.pps.valid),
      (8, 8, bnat tb.sx.valid), (1, 0, tb.sel.code)]
  else if off = Reg.time.OFFSET then sword tb.offset
  else if off = Reg.time.RATE then sword tb.rate
  else if off = Reg.time.GOFS then sword tb.gofs
  else d.rd pgTime off

/-- WDSTAT.LEFT (R309): units of 10 µs left of the countdown. -/
def Dev.wdLeft (d : Dev) : Nat :=
  if d.hp.wdRun then d.rf pgHostp Reg.hostp.WDOG 15 0 - (d.clk - d.hp.wdAt) / 4000
  else d.rf pgHostp Reg.hostp.WDSTAT 15 0

def hostpWord (d : Dev) (off : Nat) : Word :=
  if off = Reg.hostp.WDSTAT then withFields (d.rd pgHostp off) [(15, 0, d.wdLeft)] else d.rd pgHostp off

def xmemWord (d : Dev) (off : Nat) : Word :=
  if off = Reg.xmem.XSTAT then withFields (d.rd pgXmem off) [(35, 35, bnat d.jr.op.isSome)] else d.rd pgXmem off

def linkWord (d : Dev) (off : Nat) : Word :=
  if off = Reg.sxlink.SLEEP then withFields (d.rd pgLink off) [(33, 33, bnat d.lk.wpend)]
  else if off = Reg.sxlink.CYCLE then BitVec.ofNat 36 d.cycleNow
  else if off = Reg.sxlink.TERR then BitVec.ofNat 36 d.terr
  else if off = Reg.sxlink.DELAY then mkw [(35, bnat (decide (d.lk.repA = 4))), (0, unsgn 24 d.lk.dhatA)]
  else if off = Reg.sxlink.DELAY + 1 then mkw [(35, bnat (decide (d.lk.repB = 4))), (0, unsgn 24 d.lk.dhatB)]
  else if off = Reg.sxlink.RQ_STAT then withFields (d.rd pgLink off) [(35, 35, bnat d.lk.rq.isSome)]
  else d.rd pgLink off

/-- The checkpoint registers, one at every place they appear (R270): offset 0 CKCFG, 1 CKTICK, 2 CKSLOT, 3 LOG. -/
def checkpointWord (d : Dev) (i : Nat) : Word :=
  match i with
  | 0 => BitVec.ofNat 36 d.ckint
  | 1 => BitVec.ofNat 36 (d.tw.committed.elim 0 Prod.fst)
  | 2 => mkw [(35, bnat d.tw.committed.isSome), (34, d.tw.committed.elim 0 Prod.snd), (0, d.imageSize)]
  | _ => mkw [(22, d.logCap / 256), (0, d.logFill)]

def planWord (d : Dev) (p off : Nat) : Word :=
  if off = Reg.plan.LOAD then
    BitVec.ofNat 36 ((List.range d.variant.groves).filter (computes d.variant d.tw.mode (p - pgPlanA))).length * 16
  else if Reg.plan.CKCFG ≤ off ∧ off ≤ Reg.plan.LOG then checkpointWord d (off - Reg.plan.CKCFG)
  else d.rd p off

/-- MSTAT.STEP and ATTICK of a mode change (R277 to R279). -/
def Dev.modeStep (d : Dev) : Nat × Nat :=
  match d.tw.merging, d.tw.pending with
  | some (_, c), _ => (if d.tk < c + 2 then 2 else if d.tk < c + 3 then 3 else 4, (c + 4) % 256)
  | none, some _ => (1, 0)
  | none, none => (0, 0)

def twinWord (d : Dev) (off : Nat) : Word :=
  if Reg.twin.CKCFG ≤ off ∧ off ≤ Reg.twin.LOG then checkpointWord d (off - Reg.twin.CKCFG)
  else if off = Reg.twin.RBOUND then mkw [(8, d.rrate), (0, min 255 (emaxOf d.ckint d.rrate))]
  else if off = Reg.twin.MSTAT then mkw [(8, d.modeStep.2), (0, d.modeStep.1)]
  else if off = Reg.twin.STEST then 0
  else d.rd pgTwin off

/-- FILL of the Blotter ring (R458). -/
def Dev.blotW (d : Dev) : Nat := (d.part 3).2
def Dev.blotFill (d : Dev) : Nat := ringFill d.blotW (d.rf pgBlot Reg.blot.RD 22 0) (d.rf pgBlot Reg.blot.WR 22 0)

def blotWord (d : Dev) (off : Nat) : Word :=
  if off = Reg.blot.FILL then BitVec.ofNat 36 d.blotFill
  else if off = Reg.blot.SIZE then BitVec.ofNat 36 d.blotW
  else d.rd pgBlot off

def scribeWord (d : Dev) (off : Nat) : Word :=
  let s := d.scr
  if off = Reg.scribe.MPOS then BitVec.ofNat 36 s.c
  else if off = Reg.scribe.MVEL then sword s.mvel
  else if off = Reg.scribe.HWM then BitVec.ofNat 36 s.hwm
  else if off = Reg.scribe.LDMAX then sword s.ldmax
  else if off = Reg.scribe.FILL then BitVec.ofNat 36 d.scrFill
  else if off = Reg.scribe.SIZE then BitVec.ofNat 36 d.ringN
  else if off = Reg.scribe.PEND then BitVec.ofNat 36 s.table.length
  else if Reg.scribe.AXSTAT ≤ off ∧ off < Reg.scribe.AXSTAT + 128 then
    let q := d.queue (off - Reg.scribe.AXSTAT)
    match q.stroke with
    | some r => mkw [(22, r.stroke), (4, r.mv + 1), (3, 1), (0, q.waiting.length)]
    | none => mkw [(0, q.waiting.length)]
  else d.rd pgScribe off

def strokeWord (d : Dev) (off : Nat) : Word :=
  if off = Reg.stroke.LIB then mkw [(16, d.libSlots % 2 ^ 15), (0, 256)]
  else if off = Reg.stroke.CHKSTAT then withFields (d.rd pgStroke off) [(35, 35, bnat d.scr.chkBusy.isSome)]
  else d.rd pgStroke off

def captWord (d : Dev) (req off : Nat) : Word :=
  let s := d.inp.shadows.look req
  if off = Reg.capt.FIFO then (d.inp.fifo.head?).elim 0 CapRecord.w0
  else if off = Reg.capt.FIFO + 1 then s.elim 0 CapRecord.w1
  else if off = Reg.capt.FIFO + 2 then s.elim 0 CapRecord.w2
  else if off = Reg.capt.FIFO + 3 then s.elim 0 CapRecord.w3
  else if off = Reg.capt.FSTAT then mkw [(9, bnat (decide (d.inp.fifo.length = 256))), (0, d.inp.fifo.length)]
  else if off = Reg.capt.LEVEL then BitVec.ofNat 36 d.inp.cap
  else d.rd pgCapt off

def RankPhase.code : RankPhase → Nat
  | .idle => 0
  | .wait => 1
  | .moving => 2
  | .braking => 3

def ranksWord (d : Dev) (off : Nat) : Word :=
  if Reg.ranks.STAT ≤ off ∧ off < Reg.ranks.STAT + 32 then
    let r := off - Reg.ranks.STAT
    mkw [(33, (d.rank r).phase.code), (16, (d.rankAxes r).length), (0, (d.rank r).lead)]
  else if Reg.ranks.MEMBER ≤ off ∧ off < Reg.ranks.MEMBER + 128 then
    let i := off - Reg.ranks.MEMBER
    BitVec.ofNat 36 (bitsOf 32 (fun b => d.hasAxis (32 * (i % 4) + b) && d.rankSel (32 * (i % 4) + b) == some (i / 4)))
  else d.rd pgRanks off

def carrierWord (d : Dev) (p off : Nat) : Word :=
  let gr := (carTo d (groveOf p) d.clk).grove (groveOf p)
  if off = Reg.carrier.CNT then BitVec.ofNat 36 (d.clk - gr.carStart)
  else if Reg.carrier.EVPRE ≤ off ∧ off < Reg.carrier.EVPRE + 6 then
    withFields (d.rd p off) [(15, 8, (d.grove (groveOf p)).evOcc.getD (off - Reg.carrier.EVPRE) 0)]
  else d.rd p off

def fireWord (d : Dev) (p off : Nat) : Word :=
  let gr := d.grove (groveOf p)
  if off = Reg.firebrk.CAUSE then mkw [(32, gr.first), (0, gr.causes)]
  else if off = Reg.firebrk.TTIME_LO then BitVec.ofNat 36 gr.ttime
  else if off = Reg.firebrk.TTIME_HI then BitVec.ofNat 36 (gr.ttime / 2 ^ 36)
  else if off = Reg.firebrk.CLEAR then 0
  else d.rd p off

def nibWord (d : Dev) (p off : Nat) : Word :=
  let g := groveOf p
  if Reg.nib.DLY ≤ off ∧ off < Reg.nib.DLY + 256 then
    let i := off - Reg.nib.DLY
    let r := (d.leg (64 * g + i / 4)).rec_ (i % 4)
    mkw [(35, bnat r.valid), (33, r.miss), (32, bnat r.stuck), (0, r.lrn % 2 ^ 15)]
  else if Reg.nib.LEG ≤ off ∧ off < Reg.nib.LEG + 64 then
    let l := d.leg (64 * g + (off - Reg.nib.LEG))
    mkw [(34, l.cmd), (32, l.cls), (30, l.tag), (16, l.dtlast % 2 ^ 11),
      (0, recentOverlaps l ((carTo d g d.clk).grove g).carNo)]
  else d.rd p off

def calWord (d : Dev) (p off : Nat) : Word :=
  let g := groveOf p
  if off = Reg.convcal.CMD then 0
  else if off = Reg.convcal.STAT then withFields (d.rd p off) [(3, 0, (d.calSt g).code)]
  else if off = Reg.convcal.SUM then BitVec.ofNat 36 (d.calSum g)
  else d.rd p off

def axisWord (d : Dev) (p off : Nat) : Word :=
  let n := axisOf p
  let g := groveOf p
  let a := d.ga n
  let cA := d.coil (32 * g + 2 * (n % 16))
  let cB := d.coil (32 * g + 2 * (n % 16) + 1)
  let o := d.ob n
  let q := d.queue n
  if off = Reg.axis.XFRAC then BitVec.ofNat 36 (a.xact % two32)
  else if off = Reg.axis.XACT then BitVec.ofNat 36 (countOf a.xact)
  else if off = Reg.axis.VACT then BitVec.ofNat 36 a.vact
  else if off = Reg.axis.LAG then sword (d.plan n).lag
  else if off = Reg.axis.QPTR then mkw [(16, q.tail), (0, q.head)]
  else if off = Reg.axis.QTAG then q.act.elim 0 QEntry.tag
  else if off = Reg.axis.QSTAT then
    mkw [(24, q.tunder), (11, q.fault), (10, bnat (decide (q.fault ≠ 0))), (0, (q.tail + 512 - q.head) % 512)]
  else if off = Reg.axis.ISETA then mkw [(12, bnat cA.neg), (0, cA.mag)]
  else if off = Reg.axis.ISETB then mkw [(12, bnat cB.neg), (0, cB.mag)]
  else if off = Reg.axis.AMP then mkw [(12, a.ampSrc), (0, cA.amp)]
  else if off = Reg.axis.FASTA then BitVec.ofNat 36 cA.fastt
  else if off = Reg.axis.FASTB then BitVec.ofNat 36 cB.fastt
  else if off = Reg.axis.THETA then BitVec.ofNat 36 cA.th
  else if off = Reg.axis.TRUSTSET then 0
  else if off = Reg.axis.MARGIN then
    mkw [(35, bnat (decide (o.blind ≠ 0))), (32, o.blind), (16, o.ylast), (0, if o.blind = 0 then o.margin else 0x3FF)]
  else if off = Reg.axis.LANGLE then BitVec.ofNat 36 (if o.blind = 0 then langleOf o.margin else 0)
  else if off = Reg.axis.ESC then BitVec.ofNat 36 o.esc
  else if off = Reg.axis.STALLINFO then withFields (d.rd p off) [(31, 28, o.tcause)]
  else if off = Reg.axis.CALSTAT then mkw [(33, if o.cal.isSome then 1 else o.calState), (30, o.calFail), (0, o.got)]
  else d.rd p off

/-- What the register at an offset of 0x010 and up reads. -/
def unitWord (d : Dev) (k : PageKind) (req p off : Nat) : Word :=
  match k with
  | .canopy => canopyWord d req off
  | .supv => supvWord d off
  | .time => timeWord d off
  | .hostp => hostpWord d off
  | .xmem => xmemWord d off
  | .sxlink => linkWord d off
  | .plan => planWord d p off
  | .twin => twinWord d off
  | .blot => blotWord d off
  | .scribe => scribeWord d off
  | .stroke => strokeWord d off
  | .capt => captWord d req off
  | .ranks => ranksWord d off
  | .carrier => carrierWord d p off
  | .firebrk => fireWord d p off
  | .nib => nibWord d p off
  | .convcal => calWord d p off
  | .axis => axisWord d p off
  | _ => d.rd p off

/-- The key of a requester and a page in the access tables (R37). -/
def accKey (req p : Nat) : Nat := req * 1024 + p

def Dev.unlocked (d : Dev) (req p : Nat) : Bool := d.acc.unlocked.contains (accKey req p)

/-- The word at any offset of a present page, as it reads for a requester at this moment (R47 to R51, R57, R62). -/
def pageWord (d : Dev) (k : PageKind) (req p off : Nat) : Word :=
  match off with
  | 0 => mkw [(24, pageType p), (16, pageInstance p), (8, 1)]
  | 1 => mkw [(35, 1), (0, pageCap d.variant k)]
  | 2 => d.rd p off
  | 3 => pageStat d k p
  | 4 => d.rd p off
  | 5 => d.rd p off
  | 6 => mkw [(1, bnat k.keyed), (0, bnat (d.unlocked req p))]
  | 7 => if k.buffered then withFields (d.rd p off) [(35, 35, bnat (d.pend p))] else 0
  | 8 => d.rd p off
  | _ =>
    if off < 16 then 0
    else match findReg k off with
      | none => 0
      | some _ => unitWord d k req p off

/-- Whether the register is a telemetry register (R66). -/
def isTelemetry (k : PageKind) (off : Nat) : Bool := decide (16 ≤ off) && (findReg k off).elim false RegDef.telemetry

/-- The supply and temperature readings that the spec leaves to the environment (log 8): free values. -/
def isReading (p off : Nat) : Bool :=
  p == pgSupv && (decide (Reg.supv.SUPPLY0 ≤ off ∧ off ≤ Reg.supv.TEMP1) || decide (Reg.supv.MBSTAT ≤ off ∧ off < Reg.supv.MBSTAT + 8))

/-- The bits of a reading register that hold readings. -/
def readingMask (off : Nat) : Nat :=
  if Reg.supv.MBSTAT ≤ off then 0xFFF else if off = Reg.supv.SUPPLY1 then 0xFFFFFF000 else 0xFFFFFFFFF

end Sys2Proof.Machine
end

