-- ==== Sys2Proof/Machine/Blot.lean ====
section
/-!
DEFINITION. The Blotter (R458 to R464).
-/
namespace Sys2Proof.Machine

def Dev.setBl (d : Dev) (x : Blotter) : Dev := { d with bl := x }

/-- The word that channel address `a` samples (R460): 0 at an unmapped address or an uncorrectable word; a corrected word
is written back and counts nothing. -/
def blotRead (d : Dev) (a : Nat) : Word × Dev :=
  if d.hasMem a then
    match (d.mem.at a).ecc with
    | .clean => ((d.mem.at a).data, d)
    | .single => ((d.mem.at a).data, { d with mem := d.mem.scrubbed a })
    | .double => (0, d)
  else if 0x800000 ≤ a ∧ a < 0xC00000 then
    let p := a / 1024 % 1024
    match pageKind p with
    | none => (0, d)
    | some k =>
      if pagePresent d.variant p then
        let w := pageWord d k 4 p (a % 1024)
        if isReading p (a % 1024) then
          let (i, d1) := d.draw
          let m := readingMask (a % 1024)
          (BitVec.ofNat 36 ((w.toNat &&& (2 ^ 36 - 1 - m)) + ((Config.freeWord i).toNat &&& m)), d1)
        else (w, d)
      else (0, d)
  else (0, d)

/-- A record header (R459). -/
def blotHeader (kind len tick : Nat) : Word := BitVec.ofNat 36 (kind * 2 ^ 32 + len * 2 ^ 27 + tick % 2 ^ 24)

/-- Writes words at WR and moves it past them. -/
def blotPut (d : Dev) : List Word → Dev
  | [] => d
  | w :: t =>
    let wp := d.rf pgBlot Reg.blot.WR 22 0
    let d1 := d.memPut ((d.part 3).1 + wp % max 1 d.blotW) w
    blotPut (d1.wf pgBlot Reg.blot.WR 22 0 ((wp + 1) % (2 * max 1 d.blotW))) t

/-- WRAP (R462): RD moves over whole records until `need` words have room. -/
def blotDrop (d : Dev) (need : Nat) : Nat → Dev
  | 0 => d
  | fuel + 1 =>
    if need ≤ d.blotW - d.blotFill then d
    else
      let rp := d.rf pgBlot Reg.blot.RD 22 0
      let (h, d1) := blotRead d ((d.part 3).1 + rp % max 1 d.blotW)
      let step := min (1 + fld h 31 27) d.blotFill
      let d2 := d1.wf pgBlot Reg.blot.RD 22 0 ((rp + step) % (2 * max 1 d.blotW))
      blotDrop (d2.incSat pgBlot Reg.blot.WRAPCNT 23 0) need fuel

/-- A record of boundary number `tick` reaches the ring (R462). -/
def blotEnter (d : Dev) (ws : List Word) (tick : Nat) : Dev :=
  let loss := if d.bl.lost = 0 then [] else [blotHeader 3 1 tick, BitVec.ofNat 36 (min d.bl.lost 16777215)]
  let all := loss ++ ws
  let d0 := if d.rb pgBlot Reg.blot.CTRL 16 then blotDrop d all.length 40 else d
  if all.length ≤ d0.blotW - d0.blotFill then
    let was := d0.blotFill
    let d1 := (blotPut d0 all).setBl { d0.bl with lost := 0 }
    let level := d.rf pgBlot Reg.blot.LEVEL 22 0
    if was < level ∧ level ≤ d1.blotFill then d1.ev pgBlot 0 else d1
  else ((d.incSat pgBlot Reg.blot.LOSTCNT 23 0).ev pgBlot 1).setBl { d.bl with lost := d.bl.lost + 1 }

/-- The channels of a sample. -/
def blotSample (d : Dev) : List Nat → List Word × Dev
  | [] => ([], d)
  | i :: t =>
    let (w, d1) := blotRead d (d.rf pgBlot (Reg.blot.CHAN + i) 23 0)
    let (ws, d2) := blotSample d1 t
    (w :: ws, d2)

/-- The sample of a boundary, when one is due (R460). -/
def blotStream (d : Dev) : Dev :=
  if !d.rb pgBlot Reg.blot.CTRL 0 then d
  else if d.bl.wait ≠ 0 then d.setBl { d.bl with wait := d.bl.wait - 1 }
  else
    let nch := d.rf pgBlot Reg.blot.CTRL 12 8
    let (ws, d1) := blotSample d (List.range nch)
    let d2 := d1.setBl { d1.bl with wait := d.rf pgBlot Reg.blot.DIV 15 0 }
    blotEnter d2 (blotHeader 1 nch d.tk :: ws) d.tk

/-- The event records of a boundary (R461), from the bits set in the tick that ended. -/
def blotTrace (d : Dev) (rose : Tab Nat) : Dev :=
  if !d.rb pgBlot Reg.blot.CTRL 1 then d
  else
    let m := (d.rd pgBlot Reg.blot.TMASK).toNat
    let watched (p : Nat) : Bool := (List.range 32).any (fun s => s != 18 && m.testBit s && (sourcePages s).contains p)
    let hits := rose.filter (fun e => e.2 != 0 && watched e.1)
    let ep := d.rf pgTime Reg.time.EPOCH 11 0
    let d1 := (hits.take 32).foldl (fun d e =>
      blotEnter d [blotHeader 2 2 d.tk, BitVec.ofNat 36 (ep * 2 ^ 24 + e.1), BitVec.ofNat 36 e.2] d.tk) d
    (hits.drop 32).foldl (fun d _ =>
      ((d.incSat pgBlot Reg.blot.LOSTCNT 23 0).ev pgBlot 1).setBl { d.bl with lost := d.bl.lost + 1 }) d1

/-- The Blotter at a boundary, after steps 1 to 4 of R26. -/
def blotBoundary (d : Dev) (rose : Tab Nat) : Dev := if d.blotW = 0 then d else blotTrace (blotStream d) rose

/-- RD and WR after a partition change (R458). -/
def blotClear (d : Dev) : Dev := ((d.wr pgBlot Reg.blot.RD 0).wr pgBlot Reg.blot.WR 0).setBl { d.bl with lost := 0 }

/-- A shedding level stops the Blotter (R464). -/
def blotShed (d : Dev) : Dev :=
  ((d.wf pgBlot Reg.blot.CTRL 1 0 0).setBl { d.bl with shed := true }).ev pgBlot 2

/-- The refusals of CTRL (R464): `w` is the word that would be stored. 0 accepted, 3 BUSY, 4 RANGE. -/
def blotCtrlCheck (d : Dev) (w : Word) : Nat :=
  let now := d.rd pgBlot Reg.blot.CTRL
  if fld w 12 8 = 0 ∨ 16 < fld w 12 8 then 4
  else if (fld w 1 0 ≠ 0) ∧ (d.blotW = 0 ∨ 1 ≤ d.sup.lev.s ∨ 2 ≤ d.sup.lev.t) then 3
  else if d.blotOn ∧ (fld w 12 8 ≠ fld now 12 8 ∨ bit w 16 ≠ bit now 16) then 3
  else 0

/-- CTRL takes effect: a sample is due at the first boundary after STREAM is written 1 (R460). -/
def blotCtrl (d : Dev) (old : Word) : Dev :=
  if d.rb pgBlot Reg.blot.CTRL 0 ∧ !bit old 0 then d.setBl { d.bl with wait := 0 } else d

/-- The refusals of RD (R463). -/
def blotRdCheck (d : Dev) (v : Nat) : Nat :=
  let w := d.blotW
  let wr := d.rf pgBlot Reg.blot.WR 22 0
  if d.rb pgBlot Reg.blot.CTRL 16 ∧ d.blotOn then 3
  else if 2 * w ≤ v ∨ d.blotFill < ringFill w v wr then 4
  else 0

end Sys2Proof.Machine
end

