-- ==== Sys2Proof/Machine/LinkCore.lean ====
section
/-!
DEFINITION. The Sernyx link's clockwork (R333 to R349, R354, R357): slots, the estimate of master time, cycle starts,
presence, the digest snapshot, enabling, mastership and the conditions of LINKUP and TVALID. Link.lean has its frames.
-/
namespace Sys2Proof.Machine

def Dev.setLk (d : Dev) (x : Link) : Dev := { d with lk := x }
def Dev.lkEv (d : Dev) (i : Nat) : Dev := d.ev pgLink i

/-- Time units of 2^-36 s as gck, and back. -/
def gckOfTime (x : Int) : Int := (x * 400000000).fdiv (2 ^ 36)
def timeOfGck (x : Int) : Int := (x * 2 ^ 36).fdiv 400000000

/-- RXCOMP as a time and in gck. -/
def Dev.rxcompTime (d : Dev) : Int := ((d.rf pgLink Reg.sxlink.CFG 7 0 : Nat) * 2 ^ 36 : Int).fdiv 1000000000
def Dev.rxcompGck (d : Dev) : Int := gckOfTime d.rxcompTime

/-- Whether a port is enabled: 0 A, 1 B; port B is absent on the FD9032 (R33). -/
def Dev.portOn (d : Dev) (i : Nat) : Bool :=
  d.rb pgLink Reg.sxlink.CFG (20 + i) && (i == 0 || d.variant.full)

/-- The slot start of the beacon to its SFD, 0.8 µs; the acceptance window, 400 ns (R333, R341, R362). -/
def sfdGck : Nat := 320
def winGck : Nat := 160

/-- O_i of R334. -/
def Dev.slotOff (d : Dev) (i : Nat) : Nat :=
  9680 + sumUpTo i (fun j => 2480 + 1440 * d.rf pgSched (Reg.sxsched.SLOT + j) 4 0)

/-- The payload words of slot i. -/
def Dev.slotP (d : Dev) (i : Nat) : Nat := 2 * d.rf pgSched (Reg.sxsched.SLOT + i) 4 0
def Dev.slotOwner (d : Dev) (i : Nat) : Nat := d.rf pgSched (Reg.sxsched.SLOT + i) 12 8
def Dev.nslot (d : Dev) : Nat := d.rf pgSched Reg.sxsched.NSLOT 5 0

/-- The payload words of the node's longest slot. -/
def Dev.longestSlot (d : Dev) : Nat := (d.ownSlots.map d.slotP).foldl max 0

/-- d̂ of the port in use. -/
def Dev.dhat (d : Dev) : Int := if d.lk.portB then d.lk.dhatB else d.lk.dhatA

/-- Offsets counted at the rate measured between the last two beacons heard (R335). -/
def Link.scale (l : Link) (x : Int) : Int :=
  match l.ratio with
  | some (m, n) => if n = 0 then x else (x * (m : Nat)).fdiv (n : Nat)
  | none => x

/-- The instant that lies `off` gck of the schedule after the slot start of the current cycle's beacon, on the node's
estimate of master time (R334, R335). -/
def Dev.linkAt (d : Dev) (off : Int) : Int :=
  if d.lk.master then (d.lk.sentAt.getD d.clk : Nat) + off
  else match d.lk.heard with
    | some h => (h : Int) - sfdGck - gckOfTime d.dhat + d.lk.scale ((d.lk.since : Nat) + off)
    | none => d.clk

/-- Whether the node counts cycles. -/
def Dev.linkCounts (d : Dev) : Bool :=
  d.linkOn && d.sup.ps != .retain && (d.lk.sphase != .asleep) && (if d.lk.master then d.lk.sentAt.isSome else d.lk.heard.isSome)

/-! ### Per-node entries (R348, R365) -/

def Dev.present (d : Dev) : Nat := (d.rd pgNode Reg.sxnode.PRESENT).toNat
def infoOff (m : Nat) : Nat := Reg.sxnode.INFO + 4 * m

def setPresent (d : Dev) (m : Nat) (v : Bool) : Dev :=
  (d.wr pgNode Reg.sxnode.PRESENT (setBit (d.rd pgNode Reg.sxnode.PRESENT) m v)).wf pgNode (infoOff m) 35 35 (bnat v)

/-- R348: presence ends when no valid frame came within the last 16 cycles. -/
def dropNodes (d : Dev) : Dev :=
  d.each 32 (fun d m =>
    if d.present.testBit m ∧ m ≠ d.linkNode ∧ 16 < (d.lk.cycle + 1 + 2 ^ 36 - d.lk.lastFrame.get m 0) % 2 ^ 36 then
      (setPresent d m false).lkEv 5
    else d)

/-! ### The digest snapshot (R354) -/

/-- One word of the configuration set: the value in effect, 0 where it is unmapped. -/
def digestWord (d : Dev) (a : Nat) : Word × Dev :=
  if d.hasMem a then d.memZero a
  else if 0x800000 ≤ a ∧ a < 0xC00000 then
    let p := (a % 0x100000) / 1024
    match pageKind p with
    | some k => (if pagePresent d.variant p then pageWord d k 4 p (a % 1024) else 0, d)
    | none => (0, d)
  else (0, d)

/-- The words of the DSET entries from entry `e` on, up to the first with COUNT 0. -/
def dsetWords (d : Dev) : Nat → Nat → List Word × Dev
  | 0, _ => ([], d)
  | n + 1, e =>
    let w := d.rd pgNode (Reg.sxnode.DSET + e)
    if fld w 31 24 = 0 then ([], d)
    else
      let (ws, d1) := (List.range (fld w 31 24)).foldl (fun acc i =>
        let (x, d2) := digestWord acc.2 ((fld w 23 0 + i) % 2 ^ 24)
        (x :: acc.1, d2)) (([] : List Word), d)
      let (t, d3) := dsetWords d1 n (e + 1)
      (ws.reverse ++ t, d3)

/-- The snapshot of cycle `n`: its tag and its bytes. -/
def snapshot (d : Dev) (n : Nat) : Dev :=
  let head := [d.rd pgSched Reg.sxsched.CYC, d.rd pgSched Reg.sxsched.GEN, d.rd pgSched Reg.sxsched.NSLOT] ++
    (List.range d.nslot).map (fun i => d.rd pgSched (Reg.sxsched.SLOT + i)) ++
    [d.rd pgTime Reg.time.TPER, d.rd pgTime Reg.time.TGRID_LO, d.rd pgTime Reg.time.TGRID_HI]
  let (ws, d1) := dsetWords d 64 0
  let gen := d.rf pgNode Reg.sxnode.GEN 11 0
  let bytes := (head ++ ws).flatMap wordBytes ++ [gen / 256, gen % 256]
  d1.setLk { d1.lk with snap := some (n / 16 % 256, bytes), snapQ := n / 16 }

/-! ### Cycle starts (R334, R336, R349) -/

/-- A vote that has run past cycle C + 8 without a sleep is over. -/
def voteExpire (d : Dev) (n : Nat) : Dev :=
  match d.lk.vote with
  | some v =>
    if later 36 n (v.c + 8) ∧ !d.lk.master then
      d.setLk { d.lk with vote := none, sphase := if d.lk.sphase = .voting ∨ d.lk.sphase = .committed then .awake else d.lk.sphase }
    else d
  | none => d

/-- A beacon was missed on both ports in the cycle that ends. -/
def countMiss (d : Dev) : Dev :=
  if d.lk.master ∨ d.lk.heardN = d.lk.cycle ∨ d.lk.heard.isNone then d
  else [0, 1].foldl (fun d i => if d.portOn i then d.incSat pgLink (Reg.sxlink.PORT + i) 11 0 else d) d

/-- A schedule that waits takes effect (R336, R361). -/
def applySched (d : Dev) : Dev :=
  match d.lk.sched with
  | none => d
  | some regs =>
    let d1 := regs.foldl (fun d e => d.wr pgSched e.1 e.2) d
    let vote := if d.lk.master then d.lk.vote.map (fun v => { v with abort := true }) else d.lk.vote
    (d1.setLk { d1.lk with sched := none, vote := vote }).ev pgSched 0

/-- Cycle `n` begins at clk `t`. -/
def cycleStart (d : Dev) (n t : Nat) : Dev :=
  let d1 := applySched (countMiss d)
  let l := d1.lk
  let d2 := d1.setLk { l with cycle := n, cycleAt := t, floor := l.floorNext.getD l.floor, floorNext := none,
                              measPrev := l.meas, meas := [] }
  let d3 := dropNodes (voteExpire d2 n)
  if n % 16 = 0 then snapshot d3 n else d3

/-- Cycles of a follower that have begun by now without its having heard their beacons. -/
def cycleCatch (d : Dev) : Nat → Dev
  | 0 => d
  | fuel + 1 =>
    if !d.linkCounts ∨ d.lk.master ∨ d.cycGck = 0 then d
    else
      let t := d.linkAt d.cycGck
      if (d.clk : Int) < t then d
      else
        let skip := if fuel = 20 then ((d.clk : Int) - t).toNat / d.cycGck - 20 else 0
        let k := 1 + skip
        let s := d.lk.since + k * d.cycGck
        let d1 := d.setLk { d.lk with since := s, cycle := (d.lk.cycle + skip) % 2 ^ 36 }
        cycleCatch (cycleStart d1 ((d1.lk.cycle + 1) % 2 ^ 36) (d1.linkAt 0).toNat) fuel

/-- The cycles that have begun by now; after a long silence only the first and the last of them are gone through. -/
def linkCatch (d : Dev) : Dev := cycleCatch d 42

/-! ### LINKUP, TVALID, MUTED, SCHMIS -/

/-- The conditions of LINKUP (R348). -/
def Dev.linkupNow (d : Dev) : Bool :=
  d.linkOn && d.sup.ps != .retain && decide (d.lk.sphase = .awake ∨ d.lk.sphase = .voting ∨ d.lk.sphase = .committed) &&
  (if d.lk.master then d.lk.sentAt.isSome
   else !d.lk.muted && (match d.lk.heard with
    | some h => decide (d.clk ≤ h + 4 * d.cycGck)
    | none => false))

/-- What follows from the link's state after a command: LINKUP, SCHMIS, TVALID and WPEND (R337, R344, R348, R356). -/
def linkSettle (d : Dev) : Dev :=
  let up := d.linkupNow
  let d1 := if up = d.lk.linkup then d else (d.setLk { d.lk with linkup := up }).lkEv 0
  let mis := d1.linkOn && !d1.lk.master && d1.lk.schgen.any (fun g => g != d1.rf pgSched Reg.sxsched.GEN 11 0)
  let d2 := if mis ∧ !d1.lk.schmis then d1.lkEv 3 else d1
  let d3 := d2.setLk { d2.lk with schmis := mis, wpend := d2.lk.wpend && !(up && d2.lk.sphase == .awake) }
  let tv := d3.tvalid
  let d4 := d3.setLk { d3.lk with wasTvalid := tv }
  if d3.lk.wasTvalid ∧ !tv then loseSource d4 .sernyx 1 else d4

/-- MUTED changes (R345). -/
def setMuted (d : Dev) (v : Bool) : Dev := if d.lk.muted = v then d else (d.setLk { d.lk with muted := v }).lkEv 1

/-- R345: TERR exceeds 500 ns. -/
def muteCheck (d : Dev) : Dev := if !d.lk.master ∧ 500 < d.terr then setMuted d true else d

/-! ### Mastership (R346, R347) -/

/-- The node stops being master; its wait of R346 begins again. It has then heard no beacon of the master it is to follow. -/
def stopMaster (d : Dev) : Dev :=
  if !d.lk.master then d
  else
    let l := d.lk
    muteCheck ((d.setLk { l with master := false, masterNode := none, sentAt := none, heard := none, ratio := none, since := 0,
                                 run := 0, waitFrom := d.clk, vote := none, propose := false, late := none,
                                 sphase := if l.sphase = .voting ∨ l.sphase = .committed then .awake else l.sphase }).lkEv 2)

/-- The wait of R346 in gck. -/
def Dev.masterWait (d : Dev) : Nat := (20 - d.rf pgLink Reg.sxlink.CFG 27 24) * d.cycGck + 8000 * d.linkNode

/-- MASTER_TAKEOVER (R346, R360); the link's master has no SERNYX source (R320, R328). -/
def becomeMaster (d : Dev) : Dev :=
  let l := d.lk
  if !d.linkOn ∨ l.master ∨ l.dupid ∨ d.rf pgLink Reg.sxlink.CFG 27 24 = 0 ∨ l.sphase = .asleep ∨
      !(d.sup.ps == .run || d.sup.ps == .idle) ∨ d.clk < l.waitFrom + d.masterWait then d
  else
    let n := if l.heard.isSome then (l.heardN + 1) % 2 ^ 36 else 0
    let d1 := (d.setLk { l with master := true, masterNode := some d.linkNode, nextN := n, sentAt := none, vote := none,
                                schmis := false }).lkEv 2
    loseSource (setMuted d1 false) .sernyx 1

/-! ### EN (R342, R343, R345) -/

/-- EN rises, or a wake from RETAIN acts as its rising (R406). -/
def linkEnRise (d : Dev) : Dev :=
  let l := d.lk
  let d1 := if l.muted then d else d.lkEv 1
  let d2 := d1.each 32 (fun d m => setPresent d m false)
  d2.setLk { Link.init with on := true, dhatA := d.rxcompTime, dhatB := d.rxcompTime, waitFrom := d.clk, seq := l.seq,
                            rq := l.rq.map (fun r => { r with cycle := 0 }), sched := l.sched, wpend := l.wpend,
                            txFrame := l.txFrame, txPattern := l.txPattern, coords := l.coords, linkup := l.linkup,
                            wasTvalid := l.wasTvalid, digQ := none }

/-- EN falls: the link stops. -/
def linkEnFall (d : Dev) : Dev :=
  let d1 := stopMaster d
  d1.setLk { d1.lk with on := false, sphase := .awake, vote := none, schmis := false }

/-- The link follows PAGE_CTRL.EN. -/
def linkEn (d : Dev) : Dev :=
  if d.linkOn ∧ !d.lk.on then linkSettle (linkEnRise d)
  else if !d.linkOn ∧ d.lk.on then linkSettle (linkEnFall d)
  else d

end Sys2Proof.Machine
end

