-- ==== Sys2Proof/Machine/Periph.lean ====
section
/-!
DEFINITION. The peripheral port and its queue (R428 to R433).
-/
namespace Sys2Proof.Machine

def Dev.setPp (d : Dev) (x : Periph) : Dev := { d with pp := x }

def Dev.pHead (d : Dev) : Nat := d.rf pgPerip Reg.perip.QPTR 5 0
def Dev.pTail (d : Dev) : Nat := d.rf pgPerip Reg.perip.QPTR 21 16

/-- Entries held, for a pair of pointers modulo 64 (R429). -/
def pCount (head tail : Nat) : Nat := (tail + 64 - head) % 64

/-- Address of the entry for pointer value `i` (R429). -/
def Dev.pEntryAddr (d : Dev) (i : Nat) : Nat := d.cshd + 0xE000 + 32 * (i % 32)

/-- R429: whether a TAIL write is accepted. -/
def peripTailOk (d : Dev) (t : Nat) : Bool :=
  decide (pCount d.pHead t ≤ 32 ∧ pCount d.pHead d.pTail ≤ pCount d.pHead t)

/-- R430: an entry that sends nothing and ends with RESULT 5. -/
def badEntry (w0 : Word) (frame : Bool) : Bool :=
  let n := fld w0 20 16 + fld w0 12 8
  decide (¬ (8 ≤ fld w0 29 24 ∧ fld w0 29 24 ≤ 36) ∨ ¬ (1 ≤ n ∧ n ≤ 30)) || (frame && fld w0 29 24 != 36)

/-- The low LEN bits of a word. -/
def lowBits (len : Nat) (w : Word) : Word := BitVec.ofNat 36 (w.toNat % 2 ^ len)

/-- The end of the head entry with a RESULT and the RX words that it stores (R430, R432). -/
def peripFinish (d : Dev) (w0 : Word) (res : Nat) (rx : List Word) : Dev :=
  let a := d.pEntryAddr d.pHead
  let d1 := d.memPuts (a + 2 + fld w0 20 16) rx
  let d2 := d1.memPut (a + 1) (BitVec.ofNat 36 (2 ^ 35 + res * 2 ^ 32 + d.tk % 4096))
  let d3 := d2.wf pgPerip Reg.perip.QPTR 5 0 (d.pHead + 1)
  let d4 := if bit w0 1 then d3.ev pgPerip 0 else d3
  let d5 := if res = 0 then d4 else d4.ev pgPerip 1
  let d6 := if d5.pHead = d5.pTail then d5.ev pgPerip 3 else d5
  let d7 := if res = 1 then d6.incSat pgPerip Reg.perip.ERRCNT 35 24
    else if res = 2 ∨ res = 3 then d6.incSat pgPerip Reg.perip.ERRCNT 23 12 else d6
  d7.setPp { d7.pp with run := none, endTick := some d.tk,
                        selHeld := if res = 0 ∧ bit w0 4 then some (fld w0 34 32, d.clk) else none,
                        halted := decide (res ≠ 0) && d.rb pgPerip Reg.perip.CFG 1 }

/-- The head entry starts (R430 to R432); nothing where its conditions do not hold. -/
def peripStart (d : Dev) : Dev :=
  if !d.rb pgPerip Reg.perip.CFG 0 ∨ d.pp.halted ∨ d.pp.run.isSome ∨ d.pHead = d.pTail ∨ d.sup.ps = .retain then d
  else
    let a := d.pEntryAddr d.pHead
    let (w0, d1) := d.memZero a
    if bit w0 3 ∧ d.pp.endTick.any (fun t => decide (d.tk ≤ t)) then d
    else
      let m := fld w0 34 32
      let frame := d.rb pgPerip (Reg.perip.SELCFG + m) 0
      if badEntry w0 frame then peripFinish d1 w0 5 []
      else
        let (ws, d2) := d1.memZeros (a + 2) (fld w0 20 16)
        let tx := ws.map (lowBits (fld w0 29 24))
        let other := d.pp.selHeld.any (fun e => decide (e.1 ≠ m))
        let d3 := if other then d2.incSat pgPerip Reg.perip.ERRCNT 11 0 else d2
        let sent := if frame then tx ++ [plainTrailer (d.rf pgPerip (Reg.perip.ALIVE + m) 3 0) tx] else tx
        let d4 := if frame then d3.incWrap pgPerip (Reg.perip.ALIVE + m) 3 0 1 else d3
        d4.setPp { d4.pp with run := some ⟨w0, tx, d.clk⟩, selHeld := none, sent := sent }

/-- The transfer ends: `rx` are the words that the peripheral drove, its trailer last where the entry is framed
(R430, R431). -/
def peripEnd (d : Dev) (rx : List Word) : Dev :=
  match d.pp.run with
  | none => d
  | some e =>
    let nrx := fld e.w0 12 8
    let words := (List.range nrx).map (fun i => lowBits (fld e.w0 29 24) (rx.getD i 0))
    let res :=
      if e.tx.length < d.pp.sent.length then
        let tr := rx.getD nrx 0
        if fld tr 31 0 ≠ fld (plainTrailer (fld tr 35 32) words) 31 0 then 2
        else if fld tr 35 32 ≠ fld (d.pp.sent.getLastD 0) 35 32 then 3
        else 0
      else 0
    peripFinish d e.w0 res words

/-- PREADY stays low for longer than RDYTO (R430). -/
def peripTimeout (d : Dev) : Dev :=
  match d.pp.run with
  | none => d
  | some e =>
    let cfg := d.rd pgPerip (Reg.perip.SELCFG + fld e.w0 34 32)
    if !bit cfg 4 then d else peripFinish (d.advanceTo (e.startAt + fld cfg 27 20 * 400)) e.w0 1 []

/-- No entry starts within CONTMAX (R432). -/
def peripContto (d : Dev) : Dev :=
  match d.pp.selHeld with
  | none => d
  | some (_, t) =>
    let d1 := d.advanceTo (t + d.rf pgPerip Reg.perip.CONTMAX 15 0 * 400)
    (d1.setPp { d1.pp with selHeld := none }).ev pgPerip 2

/-- Entry into RETAIN: an entry that runs ends aborted, and the select rises (R433). -/
def peripAbort (d : Dev) : Dev :=
  let d1 := match d.pp.run with
    | some e => peripFinish d e.w0 6 []
    | none => d
  d1.setPp { d1.pp with selHeld := none }

end Sys2Proof.Machine
end

