-- ==== Sys2Proof/Machine/Inputs.lean ====
section
/-!
DEFINITION. Quadrature, step and capture inputs (R366 to R385, R85, R197).
-/
namespace Sys2Proof.Machine

def Dev.setInp (d : Dev) (x : Inputs) : Dev := { d with inp := x }

/-- A mask with bit `i` set to `v`. -/
def maskSet (m i : Nat) (v : Bool) : Nat :=
  if v then m ||| 2 ^ i else if m.testBit i then m - 2 ^ i else m

/-- Length of a run in gck from its first sample to the sample that completes it (R367): `c` the filter code, `step` gck
per sample. -/
def runAge (c step : Nat) : Nat := (2 ^ c - 1) * step

/-- Levels when the planner island begins to run (R368): no transition, and no last direction. -/
def resample (d : Dev) (lv : InLevels) : Dev :=
  d.setInp { d.inp with qa := lv.qa.toNat, qb := lv.qb.toNat, cap := lv.cap.toNat, dirDef := 0 }

/-! ### Quadrature (R369 to R374) -/

/-- Position of a state (A, B) in the order 00, 10, 11, 01. -/
def quadPhase (a b : Bool) : Nat :=
  match a, b with
  | false, false => 0
  | true, false => 1
  | true, true => 2
  | false, true => 3

/-- Adds a step to both counts (R371). -/
def quadAdd (d : Dev) (i : Nat) (k : Int) : Dev :=
  let x := d.inp
  d.setInp { x with cnt := x.cnt.set i (unsgn 36 ((x.cnt.get i 0 : Int) + k)) 0,
                    raw := x.raw.set i (unsgn 36 ((x.raw.get i 0 : Int) + k)) 0 }

/-- The filtered levels of channel `i` become (a, b) (R369, R370). -/
def quadStep (d : Dev) (i : Nat) (a b : Bool) : Dev :=
  let x := d.inp
  let was := quadPhase (x.qa.testBit i) (x.qb.testBit i)
  let d1 := d.setInp { x with qa := maskSet x.qa i a, qb := maskSet x.qb i b }
  let cfg := d.rd pgQdec (Reg.qdec.CFG + i)
  if !bit cfg 0 then d1
  else
    let inv : Int := if bit cfg 1 then -1 else 1
    let dir (d : Dev) (k : Int) : Dev :=
      d.setInp { d.inp with dirPos := maskSet d.inp.dirPos i (decide (0 < k)), dirDef := maskSet d.inp.dirDef i true }
    match (quadPhase a b + 4 - was) % 4 with
    | 0 => d1
    | 1 => dir (quadAdd d1 i inv) inv
    | 3 => dir (quadAdd d1 i (-inv)) (-inv)
    | _ =>
      let d2 := (d1.incSat pgQdec (Reg.qdec.ERR + i) 23 0).ev pgQdec i
      if bit cfg 2 ∨ !x.dirDef.testBit i then d2 else quadAdd d2 i (if x.dirPos.testBit i then 2 else -2)

/-- An index event on channel `i` (R373, R374), its QI transition `age` gck ago. -/
def indexEvent (d : Dev) (i age : Nat) : Dev :=
  let ic := d.rd pgQdec (Reg.qdec.ICFG + i)
  let x := d.inp
  let gate := !bit ic 31 || (x.qa.testBit i == bit ic 30 && x.qb.testBit i == bit ic 29)
  if !bit ic 35 ∨ !gate ∨ age < runAge (fld ic 28 26) 4 then d
  else
    let c := x.cnt.get i 0
    let d1 := (d.wr pgQdec (Reg.qdec.IDXCNT + i) (BitVec.ofNat 36 c)).wr72 pgQdec (Reg.qdec.IDXT_LO + 2 * i) (d.stampAgo age).1
    let diff := wrapS 36 ((c : Int) - ((x.idxPrev.get i 0 - 1 : Nat) : Int))
    let bad := decide (fld ic 23 0 ≠ 0 ∧ x.idxPrev.get i 0 ≠ 0 ∧ absI diff ≠ (fld ic 23 0 : Nat))
    let d2 := if bad then (d1.incSat pgQdec (Reg.qdec.ERR + i) 35 24).ev pgQdec 32 else d1
    let left := if fld ic 33 32 = 1 ∨ fld ic 33 32 = 2 then 0 else c
    let d3 := if fld ic 33 32 = 2 then d2.wf pgQdec (Reg.qdec.ICFG + i) 33 32 0 else d2
    (d3.setInp { d3.inp with cnt := d3.inp.cnt.set i left 0, idxPrev := d3.inp.idxPrev.put i (left + 1) }).ev pgQdec (16 + i)

/-- EN of a quadrature channel, or IEN, rises: no last direction, no previous index event (R370, R374). -/
def quadEnRise (d : Dev) (i : Nat) : Dev :=
  d.setInp { d.inp with dirDef := maskSet d.inp.dirDef i false, idxPrev := d.inp.idxPrev.erase i }

def indexEnRise (d : Dev) (i : Nat) : Dev := d.setInp { d.inp with idxPrev := d.inp.idxPrev.erase i }

/-! ### Step and direction (R85, R102, R375) -/

/-- A filtered transition of STP on channel `i`, with the filtered DIR and the age of its occurrence. -/
def stepEdge (d : Dev) (i : Nat) (rising dir : Bool) (age : Nat) : Dev :=
  let cfg := d.rd pgStepin (Reg.stepin.CFG + i)
  if !bit cfg 0 ∨ rising = bit cfg 2 ∨ age < runAge (fld cfg 10 8) 1 then d
  else
    let x := d.inp
    let k : Int := if dir != bit cfg 1 then 1 else -1
    let occ := d.clk - age
    let last := x.stpLast.get i 0
    let d1 := d.setInp { x with stp := x.stp.set i (unsgn 36 ((x.stp.get i 0 : Int) + k)) 0, stpLast := x.stpLast.put i (occ + 1) }
    if last ≠ 0 ∧ occ < last - 1 + 80 then d1.ev pgStepin i else d1

/-! ### At a tick boundary (R371, R375) -/

/-- One quadrature channel: CNTSET that took effect, then CNT and RAW. -/
def latchQuad (d : Dev) (i : Nat) : Dev :=
  let x := d.inp
  let c := if x.cntNew.testBit i then (d.rd pgQdec (Reg.qdec.CNTSET + i)).toNat else x.cnt.get i 0
  ((d.setInp { x with cnt := x.cnt.set i c 0 }).wr pgQdec (Reg.qdec.CNT + i) (BitVec.ofNat 36 c)).wr pgQdec
    (Reg.qdec.RAW + i) (BitVec.ofNat 36 (x.raw.get i 0))

/-- One step channel: RATE is the count of the tick that ends. -/
def latchStep (d : Dev) (i : Nat) : Dev :=
  let c := d.inp.stp.get i 0
  let was := (d.rd pgStepin (Reg.stepin.CNT + i)).toNat
  (d.wr pgStepin (Reg.stepin.CNT + i) (BitVec.ofNat 36 c)).wr pgStepin (Reg.stepin.RATE + i) (sword ((c : Int) - (was : Int)))

def latchInputs (d : Dev) : Dev :=
  let d1 := (d.each 16 latchQuad).each 16 latchStep
  d1.setInp { d1.inp with cntNew := 0 }

/-! ### Time capture (R376 to R381) -/

/-- A saturating counter of CAPT with its PAGE_EVT bit. -/
def captCount (d : Dev) (off ev : Nat) : Dev := (d.incSat pgCapt off 23 0).ev pgCapt ev

/-- A record reaches the FIFO (R379, R381). -/
def captPut (d : Dev) (r : CapRecord) : Dev :=
  let x := d.inp
  if 256 ≤ x.fifo.length then (captCount d Reg.capt.LOSTCNT 1).setInp { x with loss := true }
  else
    let n := x.fifo.length + 1
    let d1 := d.setInp { x with fifo := x.fifo ++ [{ r with w0 := setBit r.w0 33 x.loss }], loss := false }
    if n = d.rf pgCapt Reg.capt.FLEVEL 8 0 then d1.ev pgCapt 0 else d1

/-- A record of a stamp `age` gck old. -/
def capRecord (d : Dev) (interval coinc rising : Bool) (src age : Nat) (ival : Word) : CapRecord :=
  let (t, ep) := d.stampAgo age
  let tick := if d.clk < age + d.tb.lastB then d.tk + 2 ^ 36 - 1 else d.tk
  { w0 := BitVec.ofNat 36 (2 ^ 35 + bnat interval * 2 ^ 34 + bnat coinc * 2 ^ 32 + bnat rising * 2 ^ 31 + src % 32 * 2 ^ 24 +
            ep * 4096 + tick % 4096),
    w1 := BitVec.ofNat 36 t, w2 := BitVec.ofNat 36 (t / 2 ^ 36), w3 := ival }

/-- Whether an edge field (0b01 rising, 0b10 falling, 0b11 both) selects an edge. -/
def edgeSel (f : Nat) (rising : Bool) : Bool := f.testBit (if rising then 0 else 1)

/-- The edge record of one transition (R376). -/
def edgeRecord (d : Dev) (e : CapEdge) : Dev :=
  if edgeSel (d.rf pgCapt (Reg.capt.CFG + e.input) 5 4) e.rising then
    captPut d (capRecord d false false e.rising e.input e.age 0)
  else d

/-- A pending start of unit `u` is discarded or replaced (R377, R378). -/
def orphanStart (d : Dev) (u : Nat) : Dev :=
  match d.inp.starts.look u with
  | some _ => captCount (d.setInp { d.inp with starts := d.inp.starts.erase u }) Reg.capt.ORPHSCNT 3
  | none => d

/-- The interval from a start at `a` to a stop at `b`; where filters of different length make the stop the earlier, the
spec states no number of gck: a free value. -/
def intervalOf (d : Dev) (a b : Nat) : Word × Dev :=
  if a ≤ b then (BitVec.ofNat 36 (b - a), d)
  else
    let (i, d1) := d.draw
    (Config.freeWord i, d1)

/-- A START edge on unit `u` (R377, step 3). -/
def unitStart (d : Dev) (u : Nat) (e : CapEdge) : Dev :=
  let d1 := orphanStart d u
  d1.setInp { d1.inp with starts := d1.inp.starts.put u (d.clk - e.age) }

/-- A STOP edge on unit `u` (R377, step 2). -/
def unitStop (d : Dev) (u : Nat) (e : CapEdge) : Dev :=
  match d.inp.starts.look u with
  | some a =>
    let (iv, d1) := intervalOf d a (d.clk - e.age)
    captPut (d1.setInp { d1.inp with starts := d1.inp.starts.erase u }) (capRecord d1 true false e.rising u e.age iv)
  | none => captCount d Reg.capt.ORPHCNT 2

/-- Unit `u` acts on the transitions of one sample (R377). -/
def unitAct (d : Dev) (u : Nat) (es : List CapEdge) : Dev :=
  let c := d.rd pgCapt (Reg.capt.UNIT + u)
  if !bit c 35 then d
  else
    let stop := es.find? (fun e => e.input.val == fld c 28 24 && edgeSel (fld c 21 20) e.rising)
    let start := es.find? (fun e => e.input.val == fld c 12 8 && edgeSel (fld c 5 4) e.rising)
    match stop, start with
    | some p, some q =>
      if p.input = q.input then unitStart (unitStop d u p) u q
      else
        captPut (captCount (orphanStart d u) Reg.capt.COINCNT 4) (capRecord d true true p.rising u p.age 0)
    | some p, none => unitStop d u p
    | none, some q => unitStart d u q
    | none, none => d

/-- The SPIN events of one sample (R197): edges on the CAP input that OVRD.PIN names step the pointers by one each. -/
def spinSteps (d : Dev) (e : CapEdge) : Dev :=
  d.eachGrove (fun d g =>
    let p := d.rd (pgOvrd g) Reg.ovrd.PIN
    if fld p 4 0 = e.input.val ∧ edgeSel (fld p 6 5) e.rising then
      d.each 16 (fun d a => if d.rb (pgOvrd g) (Reg.ovrd.MCFG + a) 6 then ptrStep d g a 1 else d)
    else d)

/-- Whether a recognised transition can be one (R367): it changes the filtered level, and its run is long enough. -/
def capValid (d : Dev) (e : CapEdge) : Bool :=
  d.inp.cap.testBit e.input != e.rising && decide (runAge (d.rf pgCapt (Reg.capt.CFG + e.input) 10 8) 1 ≤ e.age)

/-- The transitions recognised on one sample (R376, R377, R379): levels, edge records in ascending n, then units in
ascending u, then the override pointers. -/
def capEdges (d : Dev) (edges : List CapEdge) : Dev :=
  let es := edges.filter (capValid d)
  let d1 := es.foldl (fun d e => d.setInp { d.inp with cap := maskSet d.inp.cap e.input e.rising }) d
  let d2 := es.foldl edgeRecord d1
  let d3 := d2.each 16 (fun d u => unitAct d u es)
  es.foldl spinSteps d3

/-- A pending start times out (R378). -/
def startTimeout (d : Dev) (u : Nat) : Dev := orphanStart d u

/-- A read of FIFO0 (R380): word 0 of the head, and the device afterwards. -/
def fifoRead (d : Dev) (req : Nat) : Word × Dev :=
  match d.inp.fifo with
  | r :: rest => (r.w0, d.setInp { d.inp with fifo := rest, shadows := d.inp.shadows.put req r })
  | [] => (0, d.setInp { d.inp with shadows := d.inp.shadows.erase req })

/-- PAGE_CTRL.FLUSH (R380). -/
def captFlush (d : Dev) : Dev := d.setInp { d.inp with fifo := [] }

end Sys2Proof.Machine
end

