-- ==== Sys2Proof/Machine/Supervisor.lean ====
section
/-!
DEFINITION. The supervisor (R386 to R409): resets, shedding ladders, power states and wakes; and the host port reset
(R307, R308), which a wake from RETAIN causes.
-/
namespace Sys2Proof.Machine

def Dev.setSup (d : Dev) (x : Supv) : Dev := { d with sup := x }
def Dev.setHp (d : Dev) (x : HostPort) : Dev := { d with hp := x }

/-! ### Host port reset (R307, R308) -/

/-- The access state of one requester cleared (R37). -/
def clearRequester (d : Dev) (req : Nat) : Dev :=
  let a := d.acc
  { d with
    acc := { readShadow := a.readShadow.filter (fun e => e.1 / 1024 != req),
             writeShadow := a.writeShadow.filter (fun e => e.1 / 1024 != req),
             unlocked := a.unlocked.filter (fun k => k / 1024 != req),
             fencing := a.fencing.filter (fun r => r != req) },
    inp := { d.inp with shadows := d.inp.shadows.erase req } }

/-- A host port reset. -/
def hostPortReset (d : Dev) : Dev :=
  let d1 := clearRequester d 0
  let d2 := d1.setHp { d1.hp with sync := true, prevBad := 0, underrun := false, cut := false, gap := false,
                                  prevRef := false, prst := true, reply := none, capture := none }
  (d2.incSat pgHostp Reg.hostp.RSTCNT 23 12).ev pgHostp 5

/-! ### Reset (R389, R390) -/

/-- The bit of a reset cause. -/
def causeBit : ResetCause → Nat
  | .por => 0
  | .pin => 1
  | .soft => 2
  | .supply => 3
  | .overtemp => 4

/-- The memory after a reset: POR and SUPPLY leave its contents undefined (R390). -/
def memAfter (m : Mem) (c : ResetCause) : Mem :=
  match c with
  | .por => ⟨[], [], m.era + 1⟩
  | .supply => ⟨[], [], m.era + 1⟩
  | _ => m

/-- A reset cause becomes active: every unit goes to its reset values and the die is held in reset (R388, R389). RCAUSE
takes the cause's bit; POR sets it to 1. The PLL input that PLLREF asked for is in use from now on (R319). -/
def resetDevice (d : Dev) (c : ResetCause) : Dev :=
  let x := Dev.init d.variant
  let rc := if c = .por then 1 else d.rf pgSupv Reg.supv.RCAUSE 4 0 ||| 2 ^ causeBit c
  let d1 : Dev := { x with draws := d.draws, mem := memAfter d.mem c, pins := d.pins, fl := d.fl,
                           tap := if c = .por then x.tap else d.tap,
                           sup := { x.sup with inReset := true, causes := d.sup.causes ||| 2 ^ causeBit c } }
  let pll := if c = .por then 0 else d.rf pgTime Reg.time.PLL 0 0
  (d1.wr pgSupv Reg.supv.RCAUSE (BitVec.ofNat 36 rc)).wf pgTime Reg.time.PLL 8 8 pll

/-- The release of reset (R389): a device reset for every other unit; the self-test runs (R281). -/
def releaseReset (d : Dev) (lv : InLevels) : Dev :=
  if !d.sup.inReset then d else resample (d.setSup { d.sup with inReset := false, causes := 0 }) lv

/-! ### Ladders (R391 to R398) -/

/-- The levels in force change; the change is on its way to the Quills (R392). -/
def setLevels (d : Dev) (l : Levels) : Dev :=
  d.setSup { d.sup with lev := l, changes := d.sup.changes ++ [(d.clk, l)] }

/-- SHEDCNT counts `n` level entries in the field `hi:lo`. -/
def shedCount (d : Dev) (hi lo n : Nat) : Dev := d.each n (fun d _ => d.incSat pgSupv Reg.supv.SHEDCNT hi lo)

/-- Every present grove trips with cause SHED. -/
def shedTrips (d : Dev) : Dev := d.eachGrove (fun d g => trip d g 6)

/-- The actions of S3 (R394, R395). The final record, which is taken before the trips, is written once. -/
def s3Actions (d : Dev) : Dev :=
  let d1 := shedTrips (finalRecord d)
  if d1.sup.latch then d1 else d1.setSup { d1.sup with latch := true, latchAt := d1.clk }

/-- A logic-supply level is entered, with every lower level (R391, R393, R394). -/
def supplyEnter (d : Dev) (level : Nat) : Dev :=
  let s := d.sup.lev.s
  if level ≤ s ∨ 4 < level then d
  else
    let d1 := (shedCount (setLevels d { d.sup.lev with s := level }) 35 24 (level - s)).ev pgSupv 0
    let d2 := if s < 1 then blotShed d1 else d1
    let d3 := if s < 3 ∧ 3 ≤ level then s3Actions d2 else d2
    if level = 4 then resetDevice d3 .supply else d3

/-- The Blotter may run again once neither S1 nor T2 is in force (R464). -/
def unshed (d : Dev) : Dev :=
  if d.sup.lev.s < 1 ∧ d.sup.lev.t < 2 then d.setBl { d.bl with shed := false } else d

/-- The highest logic-supply level is left (R391, R393). -/
def supplyLeave (d : Dev) : Dev :=
  if d.sup.lev.s = 0 then d else unshed ((setLevels d { d.sup.lev with s := d.sup.lev.s - 1 }).ev pgSupv 0)

/-- PFAIL_N has been low for t_PFF (R395, R407). -/
def pfail (d : Dev) : Dev :=
  let d1 := ({ d with pins := { d.pins with pfail := true } }).setSup { d.sup with pfail := true, target := none }
  s3Actions (d1.ev pgSupv 3)

/-- PFAIL_N returns high (R395). -/
def pfailHigh (d : Dev) : Dev :=
  ({ d with pins := { d.pins with pfail := false } }).setSup { d.sup with pfail := false }

def Levels.setBus (l : Levels) (g m ov : Nat) : Levels := { l with bus := l.bus.set g (m, ov) (0, 0) }

/-- The threshold code of a motor-bus level: 1 to 4 M1 to M4, 5 and 6 OV1 and OV2. -/
def Dev.busCode (d : Dev) (g level : Nat) : Nat :=
  match level with
  | 1 => d.rf pgSupv (Reg.supv.MBTHR + g) 31 24
  | 2 => d.rf pgSupv (Reg.supv.MBTHR + g) 23 16
  | 3 => d.rf pgSupv (Reg.supv.MBTHR + g) 15 8
  | 4 => d.rf pgSupv (Reg.supv.MBTHR + g) 7 0
  | 5 => d.rf pgSupv (Reg.supv.MBOV + g) 15 8
  | 6 => d.rf pgSupv (Reg.supv.MBOV + g) 7 0
  | _ => 0

/-- Whether the grove islands run (R399). -/
def Dev.grovesRun (d : Dev) : Bool := !d.sup.inReset && (d.sup.ps == .run || d.sup.ps == .idle)

/-- A motor-bus level is entered (R396, R397). -/
def busEnter (d : Dev) (g level : Nat) : Dev :=
  if !d.hasGrove g ∨ !d.grovesRun ∨ d.busCode g level = 0 then d
  else
    let l := d.sup.lev
    if level ≤ 4 then
      if level ≤ l.m g then d
      else
        let d1 := (shedCount (setLevels d (l.setBus g level (l.ov g))) 23 12 (level - l.m g)).ev pgSupv 1
        if level = 4 then trip d1 g 6 else d1
    else if level - 4 ≤ l.ov g then d
    else
      let d1 := (shedCount (setLevels d (l.setBus g (l.m g) (level - 4))) 23 12 (level - 4 - l.ov g)).ev pgSupv 1
      if level = 6 then trip d1 g 6 else d1

/-- The highest motor-bus level of a side is left (R391, R396). -/
def busLeave (d : Dev) (g : Nat) (ov : Bool) : Dev :=
  let l := d.sup.lev
  if !d.grovesRun then d
  else if ov then (if l.ov g = 0 then d else (setLevels d (l.setBus g (l.m g) (l.ov g - 1))).ev pgSupv 1)
  else if l.m g = 0 then d else (setLevels d (l.setBus g (l.m g - 1) (l.ov g))).ev pgSupv 1

/-- A temperature level is entered (R398, R407). -/
def tempEnter (d : Dev) (level : Nat) : Dev :=
  let t := d.sup.lev.t
  if level ≤ t ∨ 4 < level then d
  else
    let d1 := (shedCount (setLevels d { d.sup.lev with t := level }) 11 0 (level - t)).ev pgSupv 2
    let d2 := if t < 2 ∧ 2 ≤ level then blotShed d1 else d1
    if level = 4 then
      let d3 := shedTrips (finalRecord d2)
      if d3.sup.latch then resetDevice d3 .overtemp else d3.setSup { d3.sup with t4At := d3.clk }
    else d2

def tempLeave (d : Dev) : Dev :=
  if d.sup.lev.t = 0 then d else unshed ((setLevels d { d.sup.lev with t := d.sup.lev.t - 1 }).ev pgSupv 2)

/-- The reset that follows T4: the final record has been written, none was to be written, or t_T4R has passed. -/
def t4Reset (d : Dev) : Dev :=
  if d.sup.lev.t < 4 then d
  else if d.jr.finalEnd ∨ d.jr.writing.isNone ∨ d.sup.t4At + 4000000 ≤ d.clk then resetDevice d .overtemp
  else d

/-- One change of level reaches the Quills: S2, T3 and M2 request controlled stops as they rise (R394, R397, R398). -/
def viewChange (d : Dev) (l : Levels) : Dev :=
  let v := d.sup.view
  let all : Bool := (decide (v.s < 2 ∧ 2 ≤ l.s)) || (decide (v.t < 3 ∧ 3 ≤ l.t))
  let d1 := d.eachGrove (fun d g =>
    if all ∨ (v.m g < 2 ∧ 2 ≤ l.m g) then
      (groveAxes g).foldl (fun d n => d.setPlan n { d.plan n with stopReq := true }) d
    else d)
  d1.setSup { d1.sup with view := l }

/-- The changes that reach the Quills at a boundary at this clk (R392). -/
def viewLevels (d : Dev) : Dev :=
  let due := d.sup.changes.filter (fun c => decide (c.1 + 173 ≤ d.clk))
  let d1 := d.setSup { d.sup with changes := d.sup.changes.filter (fun c => decide (d.clk < c.1 + 173)) }
  due.foldl (fun d c => viewChange d c.2) d1

/-- Both Quills stop at the first boundary after S3's actions (R394). -/
def shedHalt (d : Dev) : Dev :=
  if d.sup.latch ∧ d.sup.latchAt + 173 ≤ d.clk then d.setTw { d.tw with dead := true } else d

/-! ### Power states (R399 to R406) -/

/-- The cause for which a request is refused, 0 none (R400). -/
def psCause (d : Dev) (req : Nat) : Nat :=
  match req with
  | 0 => 0
  | 1 =>
    if d.sup.ps ≠ .run then 0
    else if (List.range d.variant.axes).any (fun n => (d.ga n).vact != 0) then 3
    else if d.scr.running then 4
    else if d.tw.recov.isSome ∨ d.tw.merging.isSome then 6 else 0
  | r =>
    if d.sup.ps.code = r then 0
    else if !d.dataIdle then 1
    else if (List.range d.variant.groves).any (fun g => !(d.grove g).tripped) then 2
    else if d.sup.latch then 5
    else if (List.range d.variant.groves).any (fun g => decide (d.calSt g = .running ∨ d.calSt g = .applying)) then 7
    else 0

/-- A refused request leaves its FCAUSE and its event. -/
def psRefused (d : Dev) (f : Nat) : Dev := (d.wf pgSupv Reg.supv.PSCTL 11 8 f).ev pgSupv 6

/-- R401: the ramp engines take the groves. -/
def enterIdle (d : Dev) : Dev :=
  let d1 := d.eachGrove (fun d g =>
    let gr := d.grove g
    if gr.ramp.isSome then d else d.setGrove g { gr with ramp := some ⟨0, d.clk, false, false, false, false⟩ })
  (d1.setSup { d1.sup with ps := .idle }).ev pgSupv 5

/-- R401: the Quills resume; each ramp engine yields at the first accepted word (R208). -/
def leaveIdle (d : Dev) : Dev :=
  let d1 := d.eachGrove (fun d g =>
    let gr := d.grove g
    match gr.ramp with
    | some r =>
      if r.trips then d
      else d.setGrove g { gr with ramp := if r.took then some { r with yields := true } else none }
    | none => d)
  (d1.setSup { d1.sup with ps := .run }).ev pgSupv 5

/-- A request that is not refused (R400 to R402). -/
def psRequest (d : Dev) (req : Nat) : Dev :=
  let s := d.sup
  if s.target.isSome then d
  else match req with
    | 0 =>
      if s.ps = .idle then leaveIdle d
      else if s.ps = .standby ∧ d.rb pgSupv Reg.supv.WAKECFG 0 then d.setSup { s with wakes := s.wakes ||| 1 }
      else d
    | 1 => if s.ps = .run then enterIdle d else d
    | r =>
      if s.ps.code = r then d
      else d.setSup { s with target := some (if r = 2 then .standby else .retain),
                             back := if s.ps = .run ∨ s.ps = .idle then s.ps else s.back }

/-- What an entry into STANDBY or RETAIN empties (R402). -/
def emptyQueues (d : Dev) : Dev :=
  let d1 := d.inp.starts.foldl (fun d e => orphanStart d e.1) d
  let d2 := d1.setInp { d1.inp with fifo := [], starts := [] }
  let d3 := d2.setHp { d2.hp with reply := none, capture := none }
  let d4 := d3.setLk { d3.lk with rsp := [] }
  d4.convs.foldl (fun d e => d.setConv e.1 { e.2 with queue := [] }) d4

/-- The entry completes (R402, R360, R433); a journal write in progress completes first. -/
def stateEntered (d : Dev) : Dev :=
  match d.sup.target with
  | none => d
  | some t =>
    if d.jr.writing.isSome then d
    else
      let d0 := if t = .retain then peripAbort d else d
      let d1 := emptyQueues d0
      let d2 := (d1.wf pgScribe Reg.PAGE_CTRL 0 0 0).setScr { d1.scr with running := false }
      let d3 := (d2.setSup { d2.sup with ps := t, target := none, enteredAt := d2.clk }).ev pgSupv 5
      let d4 := if d3.lk.sphase = .asleep then d3 else stopMaster d3
      let d5 := if t = .retain then d4.setHp { d4.hp with wdRun := false } else d4
      linkSettle d5

/-- The time in the state as the supervisor has counted it (R403): within ±500 ppm, a free value. -/
def sleptTime (d : Dev) : Nat × Dev :=
  let t := (d.clk - d.sup.enteredAt) * 2 ^ 36 / 400000000
  let (i, d1) := d.draw
  let lim := t * 500 / 1000000
  (t + Config.freeNat i % (2 * lim + 1) - lim, d1)

/-- The groves' counters stood while their islands stopped. -/
def groveStood (d : Dev) (k : Nat) : Dev :=
  d.eachGrove (fun d g =>
    let gr := d.grove g
    d.setGrove g { gr with carStart := gr.carStart + k, evNext := gr.evNext.map (· + k), lastB := d.clk, token := false,
                           ownStep := false, missing := 0, extrap := false })

/-- The timebase restarts (R403): XTAL is selected, NOW advances by the counted time as an epoch start, and the grid is
anchored anew. -/
def restartTime (d : Dev) : Dev :=
  let (t, d1) := sleptTime d
  let d2 := d1.setTb { d1.tb with sx := SourceState.init, pps := SourceState.init }
  let d3 := select d2 .xtal false
  let d4 := relock (epochStart (d3.setTb { d3.tb with rate := 0, holdover := false }) (t : Nat)) false
  d4.setTb { reanchor d4.tb d4.tb.now with lastB := d4.clk }

/-- The wake itself (R405, R406). -/
def wakeNow (d : Dev) (eff : Nat) (lv : InLevels) : Dev :=
  let s := d.sup
  let k := d.clk - s.enteredAt
  let retain : Bool := s.ps == .retain
  let d1 := d.wr pgSupv Reg.supv.SLEPT (BitVec.ofNat 36 (k / 400000))
  let d2 := restartTime (groveStood d1 k)
  let d3 := ((d2.setSup { s with ps := s.back, target := none, wakes := 0, scrubUe := false }).wr pgSupv Reg.supv.WAKESRC
    (BitVec.ofNat 36 eff)).ev pgSupv 4
  let d4 := if s.scrubUe then d3.ev pgSupv 7 else d3
  let d5 := resample d4 lv
  let asleep : Bool := d5.lk.sphase == .asleep
  let d6 := d5.setLk { d5.lk with wpend := d5.lk.wpend || asleep, waitFrom := d5.clk }
  if retain then
    let d7 := hostPortReset d6
    let d8 := d7.setHp { d7.hp with wdRun := d7.rb pgHostp Reg.hostp.WDOG 35 && !d7.rb pgHostp Reg.hostp.WDSTAT 35, wdAt := d7.clk }
    if d8.linkOn then
      let l := d8.lk
      let d9 := linkEnRise d8
      let keep : Bool := l.sphase == .asleep || l.sphase == .waking
      linkSettle (d9.setLk { d9.lk with sphase := if keep then l.sphase else .awake, master := keep && l.master,
                                        masterNode := if keep && l.master then some d9.linkNode else none,
                                        nextN := l.nextN, sleptAt := l.sleptAt, patternAt := l.patternAt,
                                        muted := !(keep && l.master) })
    else d8
  else linkSettle d6

/-- WAKE (R405, R406, R407): the sources that act, with those that acted during the entry. -/
def wake (d : Dev) (sources : Nat) (lv : InLevels) : Dev :=
  let cfg := d.rd pgSupv Reg.supv.WAKECFG
  let dev := maskBits 4 (sources % 16 &&& fld cfg 3 0 &&& 0xD)
  let ret : Bool := d.sup.ps == .retain || (d.sup.target == some .retain)
  let act := dev.filter (fun i => i != 0 || ret)
  let eff := d.sup.wakes ||| act.foldl (fun a i => a + 2 ^ i) 0
  if d.sup.target.isSome then d.setSup { d.sup with wakes := eff }
  else if !(d.sup.ps == .standby || d.sup.ps == .retain) ∨ eff = 0 then d
  else wakeNow d eff lv

/-- The walker's pass in RETAIN (R404). -/
def scrubPass (d : Dev) : Dev :=
  if d.sup.ps ≠ .retain then d
  else
    d.each d.variant.memWords (fun d a =>
      match (d.mem.at a).ecc with
      | .clean => d
      | .single => ({ d with mem := d.mem.scrubbed a }).incSat pgSupv Reg.supv.SCRUB 23 12
      | .double =>
        ((d.incSat pgSupv Reg.supv.SCRUB 11 0).wf pgSupv Reg.supv.SCRUBADDR 21 0 a).setSup { d.sup with scrubUe := true })

end Sys2Proof.Machine
end

