-- ==== Sys2Proof/Machine/Check.lean ====
section
/-!
DEFINITION. Which writes the owning chapters refuse (R52): the ranges of the field tables and the states in which a
write is refused with code BUSY. `m` is the word that the write would leave, with the WO bits that it writes as 1.
Every function answers a code of R52: 0 accepted, 3 BUSY, 4 RANGE.
-/
namespace Sys2Proof.Machine

abbrev codeBusy : Nat := 3
abbrev codeRange : Nat := 4

/-- RANGE where a value lies outside its limits. -/
def within (ok : Bool) : Nat := if ok then 0 else codeRange
/-- BUSY where a state forbids the write. -/
def busyIf (bad : Bool) : Nat := if bad then codeBusy else 0
/-- The first refusal. -/
def firstCode (a b : Nat) : Nat := if a = 0 then b else a

/-- The top of the velocity format (R81). -/
abbrev velTop : Nat := 0x200000000

/-! ### Partition (R43, R471) -/

/-- Base and size in granules of a PART word. -/
def partOf (w : Word) : Nat × Nat := (fld w 7 0, fld w 24 16)

/-- Two regions of non-zero size share a word. -/
def partsMeet (a b : Nat × Nat) : Bool := decide (0 < a.2 ∧ 0 < b.2 ∧ a.1 < b.1 + b.2 ∧ b.1 < a.1 + a.2)

/-- Pairs of region codes in the order of test 3: lower code, higher code. -/
def partPairs : List (Nat × Nat) :=
  (List.range 6).flatMap (fun hi => (List.range hi).map (fun lo => (lo, hi)))

/-- The size conditions of R43 other than those for a variant without a Scribe, for region `i`. -/
def partSizeOk (axes i size : Nat) : Bool :=
  match i with
  | 1 => decide (size ≤ 8)
  | 2 => decide (size = axes / 8)
  | 4 => decide (axes / 16 ≤ size)
  | 5 => decide (4 ≤ size)
  | _ => true

/-- The partition check: RESULT and REGION of the first test that fails, (0, 0) where none does (R471). -/
def partCheck (d : Dev) (set : List (Nat × Nat)) : Nat × Nat :=
  let at_ (i : Nat) : Nat × Nat := set.getD i (0, 0)
  if !d.dataIdle then (1, 0)
  else match (List.range 6).find? (fun i => decide (0 < (at_ i).2 ∧ d.variant.memWords < ((at_ i).1 + (at_ i).2) * 0x4000)) with
    | some i => (2, i)
    | none =>
      match partPairs.find? (fun e => partsMeet (at_ e.1) (at_ e.2)) with
      | some e => (3, e.2)
      | none =>
        match (List.range 6).find? (fun i => !partSizeOk d.variant.axes i (at_ i).2) with
        | some i => (4, i)
        | none =>
          match (List.range 2).find? (fun i => !d.variant.full && decide (0 < (at_ i).2)) with
          | some i => (5, i)
          | none => (0, 0)

/-- The six values in effect. -/
def Dev.partSet (d : Dev) : List (Nat × Nat) := (List.range 6).map (fun i => partOf (d.rd pgCanopy (Reg.canopy.PART + i)))

/-- The set of a group 0 write of region `i` (R470). -/
def Dev.partWith (d : Dev) (i : Nat) (w : Word) : List (Nat × Nat) := listSet d.partSet i (partOf w)

/-! ### Canopy pages -/

def checkCanopy (d : Dev) (p off : Nat) (m : Word) : Nat :=
  if Reg.canopy.PART ≤ off ∧ off < Reg.canopy.PART + 6 then
    if 256 < fld m 24 16 then codeRange
    else if d.group p = 0 then
      match (partCheck d (d.partWith (off - Reg.canopy.PART) m)).1 with
      | 0 => 0
      | 1 => codeBusy
      | _ => codeRange
    else 0
  else 0

/-- Non-zero codes strictly decrease from M1 to M4 (R409). -/
def thrFalls : List Nat → Bool
  | [] => true
  | a :: t => (t.all (fun b => decide (b < a))) && thrFalls t

/-- R409 for the M codes `t` and the OV codes `o` of a grove. -/
def busCodesOk (t o : Word) : Bool :=
  let ms := [fld t 31 24, fld t 23 16, fld t 15 8, fld t 7 0].filter (fun c => c != 0)
  let ovs := [fld o 7 0, fld o 15 8].filter (fun c => c != 0)
  thrFalls ms && decide (fld o 15 8 = 0 ∨ fld o 7 0 = 0 ∨ fld o 15 8 < fld o 7 0) &&
    ovs.all (fun v => ms.all (fun c => decide (c < v)))

def checkSupv (d : Dev) (off : Nat) (m : Word) : Nat :=
  if off = Reg.supv.PSCTL then busyIf (bit m 35 && psCause d (fld m 1 0) != 0)
  else if off = Reg.supv.WAKECFG then within (fld m 11 10 != 0)
  else if Reg.supv.MBTHR ≤ off ∧ off < Reg.supv.MBOV then
    within (busCodesOk m (d.rd pgSupv (Reg.supv.MBOV + (off - Reg.supv.MBTHR))))
  else if Reg.supv.MBOV ≤ off ∧ off < Reg.supv.MBCFG then
    within (busCodesOk (d.rd pgSupv (Reg.supv.MBTHR + (off - Reg.supv.MBOV))) m)
  else if Reg.supv.MBCFG ≤ off ∧ off < Reg.supv.OVDLIM then
    within (decide (1 ≤ fld m 35 27 ∧ fld m 35 27 ≤ 256 ∧ 1 ≤ fld m 26 19 ∧ 1 ≤ fld m 10 0))
  else if Reg.supv.OVDLIM ≤ off ∧ off < Reg.supv.MBSTAT then within (decide (0x200000 ≤ m.toNat))
  else 0

def checkTime (d : Dev) (p off : Nat) (m : Word) : Nat :=
  if off = Reg.time.TPER then
    firstCode (within (rateOk (fld m 16 0) d.load)) (busyIf (d.group p == 0 && !d.dataIdle))
  else if off = Reg.time.SRCCFG then within (fld m 15 8 != 0)
  else if off = Reg.time.SLEW then
    within (decide (1 ≤ fld m 31 24 ∧ fld m 31 24 ≤ 100 ∧ 10 ≤ fld m 19 0 ∧ fld m 19 0 ≤ 1000000))
  else if off = Reg.time.SET_HI then busyIf (d.tb.sel == .sernyx)
  else if Reg.time.TS_LO ≤ off ∧ off < Reg.time.TS_LO + 32 then
    let i := (off - Reg.time.TS_LO) / 4
    if (off - Reg.time.TS_LO) % 4 = 2 then within (!(bit m 35 && bit m 34)) else busyIf (d.tsState i == 1)
  else 0

def checkHostp (off : Nat) (m : Word) : Nat :=
  if off = Reg.hostp.WDOG then within (fld m 15 0 != 0) else 0

def checkPerip (d : Dev) (off : Nat) (m : Word) : Nat :=
  if off = Reg.perip.QPTR then within (peripTailOk d (fld m 21 16))
  else if Reg.perip.SELCFG ≤ off ∧ off < Reg.perip.SELCFG + 8 then within (fld m 35 28 != 0 && fld m 27 20 != 0)
  else 0

def checkXmem (d : Dev) (off : Nat) (m : Word) : Nat :=
  if off = Reg.xmem.CFG then within (fld m 3 0 != 0)
  else if off = Reg.xmem.JCFG then within (decide (10 ≤ fld m 13 0 ∧ fld m 13 0 ≤ 10000))
  else if off = Reg.xmem.XCMD then (if bit m 35 then xcmdCheck d m else 0)
  else 0

/-- The words of a remote request's item: header, address, write data (R351). -/
def rqItemLen (m : Word) : Nat := 2 + (if bit m 16 then fld m 13 12 + 1 else 0)

def checkLink (d : Dev) (off : Nat) (m : Word) : Nat :=
  if off = Reg.sxlink.CFG then
    firstCode (busyIf d.linkOn) (within (fld m 21 20 != 0 && decide (fld m 7 0 ≤ 200)))
  else if off = Reg.sxlink.SLEEP then
    firstCode (within (fld m 9 8 != 3)) (busyIf (bit m 35 && !(d.lk.master && decide (2 ≤ d.lk.floor) && d.lk.sphase == .awake)))
  else if off = Reg.sxlink.RQ_CTL ∧ bit m 35 then
    firstCode (busyIf (d.lk.rq.isSome || !d.lk.linkup))
      (within (fld m 29 24 != d.linkNode && decide (fld m 29 24 ≤ 0x20) && decide (rqItemLen m ≤ d.longestSlot)))
  else 0

/-- USED of R336 in 100 ns, for a schedule. -/
def schedUsed (nslot : Nat) (len : Nat → Nat) : Nat := 242 + sumUpTo nslot (fun i => 62 + 36 * len i) + 100

/-- RESULT of R336 for CYC, NSLOT and the slots' LEN: 0 it fits, 1 it does not, 2 a field is out of range. -/
def schedResult (cyc nslot : Nat) (len : Nat → Nat) : Nat :=
  if cyc < 250 ∨ 4000 < cyc ∨ 32 < nslot then 2
  else if cyc * 10 < schedUsed nslot len then 1 else 0

def checkSched (d : Dev) (p off : Nat) (m : Word) : Nat :=
  if off = Reg.sxsched.TSTR_CTL then
    busyIf (bit m 35 && !(d.lk.master && d.rf pgSched Reg.sxsched.TSTR_CTL 1 0 != 1 && decide (1 ≤ d.lk.floor)))
  else if Reg.sxsched.SLOT ≤ off ∧ off < Reg.sxsched.SLOT + 32 then within (fld m 4 0 != 0)
  else if d.group p ≠ 0 then 0
  else if off = Reg.sxsched.CYC then within (decide (250 ≤ fld m 11 0 ∧ fld m 11 0 ≤ 4000))
  else if off = Reg.sxsched.NSLOT then within (decide (fld m 5 0 ≤ 32))
  else 0

def checkPlan (off : Nat) (m : Word) : Nat :=
  if off = Reg.plan.CKCFG then within (decide (16 ≤ fld m 10 0 ∧ fld m 10 0 ≤ 1024)) else 0

def checkTwin (d : Dev) (off : Nat) (m : Word) : Nat :=
  if off = Reg.twin.MODE then
    let new := PMode.ofCode (fld m 1 0)
    let tw := d.tw
    firstCode
      (busyIf (tw.pending.isSome || tw.recov.isSome || tw.merging.isSome || tw.stest || (new == .paired && !tw.pairOk) ||
        d.namesHalted new))
      (within (rateOk d.tb.tper (loadOf d.variant new)))
  else if off = Reg.twin.CKCFG then within (decide (16 ≤ fld m 10 0 ∧ fld m 10 0 ≤ 1024))
  else if off = Reg.twin.STEST then
    busyIf (bit m 0 && (d.tw.mode == .paired || d.tw.merging.isSome || d.tw.recov.isSome))
  else 0

def checkBlot (d : Dev) (off : Nat) (m : Word) : Nat :=
  if off = Reg.blot.CTRL then blotCtrlCheck d m
  else if off = Reg.blot.RD then blotRdCheck d (fld m 22 0)
  else if off = Reg.blot.DIV ∨ off = Reg.blot.TMASK ∨ Reg.blot.CHAN ≤ off then busyIf d.blotOn
  else if off = Reg.blot.LEVEL then within (decide (1 ≤ fld m 22 0 ∧ fld m 22 0 ≤ d.blotW))
  else 0

/-- MSRC while RUN is 1: only TX may change (R111). -/
def msrcOnlyTx (old new : Word) : Bool := decide (setBit old 28 false = setBit new 28 false)

def checkScribe (d : Dev) (off : Nat) (m : Word) : Nat :=
  let n := d.ringN
  if off = Reg.PAGE_CTRL then busyIf (bit m 0 && n == 0)
  else if off = Reg.scribe.MSRC then
    firstCode
      (within (decide (fld m 2 0 ≤ 3 ∧ fld m 27 24 ≠ 0 ∧ fld m 23 20 ≤ 8) && !(bit m 28 && fld m 2 0 == 3)))
      (busyIf (d.rb pgScribe Reg.PAGE_CTRL 0 && !msrcOnlyTx (d.rd pgScribe off) m))
  else if off = Reg.scribe.REVHYST then within (fld m 23 0 != 0)
  else if off = Reg.scribe.RD then
    firstCode (busyIf (d.rb pgScribe Reg.PAGE_CTRL 0))
      (within (decide (fld m 21 0 < 2 * n ∧ ringFill n (fld m 21 0) d.scrWR ≤ n)))
  else if off = Reg.scribe.WR then
    within (decide (fld m 21 0 < 2 * n ∧ ringFill n d.scrRD (fld m 21 0) ≤ n ∧ d.scrFill ≤ ringFill n d.scrRD (fld m 21 0)))
  else if Reg.scribe.AXCFG ≤ off ∧ off < Reg.scribe.AXCFG + 128 then within (fld m 25 24 != 3)
  else 0

def checkStroke (d : Dev) (off : Nat) (m : Word) : Nat :=
  if off = Reg.stroke.CHECK ∧ bit m 35 then
    firstCode (busyIf d.scr.chkBusy.isSome) (within (decide (1 ≤ fld m 30 16 ∧ fld m 30 16 ≤ 16384)))
  else 0

def checkQdec (off : Nat) (m : Word) : Nat :=
  if Reg.qdec.ICFG ≤ off ∧ off < Reg.qdec.CNT then within (fld m 33 32 != 3) else 0

def checkCapt (off : Nat) (m : Word) : Nat :=
  if Reg.capt.UNIT ≤ off ∧ off < Reg.capt.UNIT + 16 then within (!bit m 35 || (fld m 21 20 != 0 && fld m 5 4 != 0))
  else if off = Reg.capt.FLEVEL then within (decide (1 ≤ fld m 8 0 ∧ fld m 8 0 ≤ 256))
  else 0

/-! ### Grove pages -/

def checkGrove (d : Dev) (g off : Nat) (m : Word) : Nat :=
  if off = Reg.PAGE_CTRL then busyIf (bit m 0 && !d.gateOpen g) else 0

def checkCarrier (off : Nat) (m : Word) : Nat :=
  if off = Reg.carrier.PERIOD then within (decide (800 ≤ fld m 17 0)) else 0

def checkFire (d : Dev) (g off : Nat) (m : Word) : Nat :=
  if off = Reg.firebrk.RAMPMAX then within (fld m 15 0 != 0)
  else if Reg.firebrk.RDEC ≤ off ∧ off < Reg.firebrk.RDEC + 16 then within (decide (0x200000 ≤ m.toNat))
  else if off = Reg.firebrk.CLEAR then busyIf (bit m 0 && d.clearBusy g)
  else 0

def checkNib (off : Nat) (m : Word) : Nat :=
  if off = Reg.nib.DT then within (decide (fld m 20 10 ≤ fld m 32 22))
  else if off = Reg.nib.SWTHR then within (decide (fld m 7 0 < fld m 15 8))
  else 0

def checkOvrd (d : Dev) (g off : Nat) (m : Word) : Nat :=
  if off = Reg.ovrd.MODE then firstCode (within (fld m 1 0 != 3)) (busyIf (d.rb (pgGrove g) Reg.PAGE_CTRL 0))
  else if Reg.ovrd.PTR ≤ off ∧ off < Reg.ovrd.PTR + 16 then
    within (decide (fld m 2 0 ≤ d.rf (pgOvrd g) (Reg.ovrd.MCFG + (off - Reg.ovrd.PTR)) 2 0))
  else 0

/-- R217, R219: the input code, PAIR and GAIN of an entry word. -/
def entryOk (m : Word) : Bool :=
  let c := fld m 6 0
  decide (c ≤ 0x64 ∧ fld m 30 28 ≤ 4) && (!bit m 8 || decide (0x20 ≤ c ∧ c < 0x60 ∧ c % 2 = 0))

def checkConv (off : Nat) (m : Word) : Nat :=
  if off = Reg.conv.TRIG then within (decide (fld m 2 0 ≤ 4))
  else if Reg.conv.ENT ≤ off ∧ off < Reg.conv.ENT + 16 then within (entryOk m)
  else 0

def checkCal (d : Dev) (g off : Nat) (m : Word) : Nat :=
  if off = Reg.convcal.CMD then
    firstCode (within (fld m 1 0 != 3)) (busyIf (fld m 1 0 != 0 && d.calBusy g))
  else if off = Reg.convcal.TWIN then within (fld m 5 0 != 0)
  else if off = Reg.convcal.CALTEMP ∨ off = Reg.convcal.CALSUM ∨ Reg.convcal.CFACT ≤ off then busyIf (d.calBusy g)
  else 0

def checkWave (d : Dev) (g off : Nat) : Nat :=
  if Reg.wave.TAB ≤ off then
    busyIf (d.rb (pgWave g) Reg.wave.CTRL 0 || bit (d.pendingWord (pgWave g) Reg.wave.CTRL) 0)
  else 0

def checkAxisMotion (d : Dev) (n off : Nat) (m : Word) : Nat :=
  if off = Reg.axis.MODE then within (fld m 2 0 != 7)
  else if off = Reg.axis.VMAX ∨ off = Reg.axis.VSTART ∨ off = Reg.axis.VSTOP then within (decide (fld m 34 0 ≤ velTop))
  else if off = Reg.axis.AMAX then within (m.toNat != 0)
  else if off = Reg.axis.DMAX then within (decide (0x200000 ≤ m.toNat))
  else if off = Reg.axis.QPTR then within (tailOk (d.queue n) (fld m 24 16))
  else 0

def checkAxisCurrent (off : Nat) (m : Word) : Nat :=
  if off = Reg.axis.DECAY then within (decide (1 ≤ fld m 15 8 ∧ fld m 2 0 ≤ 4))
  else if off = Reg.axis.FAST then within (decide (fld m 23 12 ≤ fld m 35 24))
  else if off = Reg.axis.ZCW0 then within (decide (fld m 34 22 ≤ 8000))
  else if off = Reg.axis.ZCW1 then within (decide (fld m 34 0 ≤ velTop))
  else if off = Reg.axis.ZCW2 then within (decide (fld m 18 16 ≤ 4 ∧ fld m 11 8 ≤ 7))
  else 0

/-- R255: whether GO is refused. -/
def Dev.obscalBusy (d : Dev) (n : Nat) : Bool :=
  let p := pgAxis n
  (d.ob n).cal.isSome || !d.rb p Reg.PAGE_CTRL 8 || !d.rb p Reg.axis.ZCW0 35 || !d.rb p Reg.axis.OBSCFG 35 ||
    (d.plan n).halted

def checkAxisObserver (d : Dev) (n off : Nat) (m : Word) : Nat :=
  if off = Reg.axis.VBLIND ∨ off = Reg.axis.VSLOW then within (decide (0x10000 ≤ fld m 34 0 ∧ fld m 34 0 ≤ velTop))
  else if off = Reg.axis.STALL then within (fld m 23 20 != 0)
  else if off = Reg.axis.VSTALL then within (decide (fld m 34 0 ≤ velTop))
  else if off = Reg.axis.OBSCAL then
    firstCode (within (decide (fld m 3 0 ≤ 8) && !(bit m 35 && fld m 25 16 == 0))) (busyIf (bit m 35 && d.obscalBusy n))
  else 0

def checkAxis (d : Dev) (n off : Nat) (m : Word) : Nat :=
  if off < 0x60 then checkAxisMotion d n off m
  else if off < 0xA0 then checkAxisCurrent off m
  else checkAxisObserver d n off m

/-- Whether the owning chapter refuses the write. A grove page refuses every write while its island stands (R402). -/
def checkWrite (d : Dev) (k : PageKind) (p off : Nat) (m : Word) : Nat :=
  let g := groveOf p
  if 0x100 ≤ p ∧ (d.sup.ps = .standby ∨ d.sup.ps = .retain) then codeBusy
  else if off = Reg.PAGE_UPD then busyIf (d.pend p)
  else match k with
    | .canopy => checkCanopy d p off m
    | .supv => checkSupv d off m
    | .time => checkTime d p off m
    | .hostp => checkHostp off m
    | .perip => checkPerip d off m
    | .xmem => checkXmem d off m
    | .sxlink => checkLink d off m
    | .sxsched => checkSched d p off m
    | .sxnode => 0
    | .plan => checkPlan off m
    | .twin => checkTwin d off m
    | .blot => checkBlot d off m
    | .scribe => checkScribe d off m
    | .stroke => checkStroke d off m
    | .qdec => checkQdec off m
    | .stepin => 0
    | .capt => checkCapt off m
    | .ranks => 0
    | .grove => checkGrove d g off m
    | .carrier => checkCarrier off m
    | .firebrk => checkFire d g off m
    | .nib => checkNib off m
    | .ovrd => checkOvrd d g off m
    | .conv => checkConv off m
    | .convcal => checkCal d g off m
    | .wave => checkWave d g off
    | .axis => checkAxis d (axisOf p) off m

end Sys2Proof.Machine
end

