-- ==== Sys2Proof/Machine/Effects.lean ====
section
/-!
DEFINITION. What a register write brings about beside its stored fields: the values that take effect (R58), the actions
of WO fields and of keyed bits, and what the units do when a bit of theirs rises or falls. Each function is called
after the write's fields have been stored.
-/
namespace Sys2Proof.Machine

/-! ### Buffered values that take effect -/

/-- PART_STAT and PART_DONE after a partition check (R44, R470). -/
def partDone (d : Dev) (result region : Nat) : Dev :=
  (d.wr pgCanopy Reg.canopy.PART_STAT (BitVec.ofNat 36 (region * 16 + result))).ev pgCanopy 1

/-- A partition change has taken effect: the pointers of the rings are 0 (R115, R458). -/
def partChanged (d : Dev) : Dev :=
  let d1 := clearTable ((d.wr pgScribe Reg.scribe.RD 0).wr pgScribe Reg.scribe.WR 0)
  partDone (blotClear (if d.variant.full then d1 else d)) 0 0

/-- FASTT as a coil takes it (R164). -/
def Dev.fastStart (d : Dev) (n : Nat) : Nat :=
  let f := d.rd (pgAxis n) Reg.axis.FAST
  min (max (fld f 11 0) (fld f 23 12)) (fld f 35 24)

/-- DECAY.MODE becomes 3: both coils take FASTT afresh (R164). -/
def decayTakes (d : Dev) (n : Nat) (old : Word) : Dev :=
  if d.rf (pgAxis n) Reg.axis.DECAY 2 0 = 3 ∧ fld old 2 0 ≠ 3 then
    [0, 1].foldl (fun d c =>
      let j := 32 * (n / 16) + 2 * (n % 16) + c
      d.setCoil j { d.coil j with fastt := d.fastStart n }) d
  else d

/-- A buffered register of an AXIS page took the value it now holds; `old` is the value before. -/
def axisTakes (d : Dev) (n off : Nat) (old : Word) : Dev :=
  if off = Reg.axis.MODE then d.setPlan n { d.plan n with modeNew := true }
  else if off = Reg.axis.XSET then d.setPlan n { d.plan n with xsetNew := true }
  else if off = Reg.axis.XTGT then d.setPlan n { d.plan n with xtgtNew := true }
  else if off = Reg.axis.OBSCFG ∨ off = Reg.axis.KE then d.setOb n { d.ob n with refill := true }
  else if off = Reg.axis.DECAY then decayTakes d n old
  else if off = Reg.axis.VTGT ∨ off = Reg.axis.VMAX then endSlow d n
  else d

/-- A change of NIB.DT that takes effect clears VALID in every delay record of the grove (R193). -/
def nibTakes (d : Dev) (g off : Nat) (old w : Word) : Dev := if off = Reg.nib.DT ∧ old ≠ w then relearn d g else d

/-- The override pointer of axis a of grove g is set to 0 (R197). -/
def ptrZero (d : Dev) (g a : Nat) : Dev := refreshAxis (d.wr (pgOvrd g) (Reg.ovrd.PTR + a) 0) g a

/-- The legs of the axes of a grove follow a new override setting. -/
def refreshGrove (d : Dev) (g : Nat) : Dev := d.each 16 (fun d a => refreshAxis d g a)

/-- A buffered register of an OVRD page took its value. -/
def ovrdTakes (d : Dev) (g off : Nat) (old : Word) : Dev :=
  if Reg.ovrd.MCFG ≤ off ∧ off < Reg.ovrd.MCFG + 16 then
    if fld old 2 0 = d.rf (pgOvrd g) off 2 0 then d else ptrZero d g (off - Reg.ovrd.MCFG)
  else if Reg.ovrd.MASK ≤ off ∧ off < Reg.ovrd.MASK + 32 then refreshAxis d g ((off - Reg.ovrd.MASK) / 2)
  else if Reg.ovrd.SWAP ≤ off ∧ off < Reg.ovrd.SWAP + 16 then refreshAxis d g (off - Reg.ovrd.SWAP)
  else d

/-- A buffered register takes value `w` at this moment (R58). The partition, the schedule and the tick period have
checks of their own at a boundary and do not come here. -/
def takeEffect (d : Dev) (p off : Nat) (w : Word) : Dev :=
  let old := d.rd p off
  let d0 := if 0x100 ≤ p then carTo d.note (groveOf p) d.clk else d
  let d1 := d0.wr p off w
  match pageKind p with
  | some .axis => axisTakes d1 (axisOf p) off old
  | some .ovrd => ovrdTakes d1 (groveOf p) off old
  | some .nib => nibTakes d1 (groveOf p) off old w
  | some .qdec => d1.setInp { d1.inp with cntNew := d1.inp.cntNew ||| 2 ^ (off - Reg.qdec.CNTSET) }
  | some .scribe => if off = Reg.scribe.MSET then d1.setScr { d1.scr with msetNow := true } else d1
  | _ => d1

/-- A buffered register of a page in group 0 takes a written value at once; MSET, TPER and TGRID act at a boundary
(R58, R112, R317), and a PART value has passed its check (R470). -/
def takeAtOnce (d : Dev) (p off : Nat) (w : Word) : Dev :=
  if p = pgCanopy then partChanged (d.wr p off w)
  else if p = pgTime ∧ off = Reg.time.TPER then
    (d.wr p off w).setTb { d.tb with tperAt := some d.clk }
  else if p = pgScribe ∧ off = Reg.scribe.MSET then (d.wr p off w).setScr { d.scr with msetAt := some d.clk }
  else takeEffect d p off w

/-! ### Canopy pages -/

/-- Zero in several registers. -/
def clears (d : Dev) (p : Nat) (offs : List Nat) : Dev := offs.foldl (fun d o => d.wr p o 0) d

def actCanopy (d : Dev) (req off : Nat) (direct : Bool) (wo clr : Word) : Dev :=
  if off = Reg.canopy.UPDATE then (if direct then d.strobe (fld wo 31 0) else d)
  else if off = Reg.canopy.FENCE then
    if bit wo 35 then { d with acc := { d.acc with fencing := nins d.acc.fencing req } } else d
  else if off = Reg.PAGE_EVT then
    let d1 := if bit clr 2 then d.wr pgCanopy Reg.canopy.UNMAP 0 else d
    let d2 := if bit clr 3 then d1.wf pgCanopy Reg.canopy.ECC 23 12 0 else d1
    if bit clr 4 then d2.wf pgCanopy Reg.canopy.ECC 11 0 0 else d2
  else d

def actSupv (d : Dev) (off : Nat) (m wo : Word) : Dev :=
  if off = Reg.supv.PSCTL then (if bit wo 35 then psRequest d (fld m 1 0) else d)
  else if off = Reg.supv.RESET then (if bit m 0 then resetDevice d .soft else d)
  else d

/-- A source whose enable has fallen (R320, LCAUSE 6), and the selection that ORDER gives (R321, R322). -/
def srcCfg (d : Dev) (old : Word) : Dev :=
  let new := d.rd pgTime Reg.time.SRCCFG
  let d1 := if bit old 2 ∧ !bit new 2 then loseSource d .sernyx 6 else d
  let d2 := if bit old 1 ∧ !bit new 1 then loseSource d1 .pps 6 else d1
  if bit old 0 = bit new 0 then d2 else select d2 d2.bestSource false

def actTime (d : Dev) (off : Nat) (old wo : Word) : Dev :=
  if off = Reg.time.SRCCFG then srcCfg d old
  else if Reg.time.TS_LO ≤ off ∧ off < Reg.time.TS_LO + 32 ∧ (off - Reg.time.TS_LO) % 4 = 2 then
    let i := (off - Reg.time.TS_LO) / 4
    if bit wo 35 then tsArm d i else if bit wo 34 then tsDisarm d i else d
  else d

/-- The watchdog's countdown restarts and FIRED falls (R309). -/
def wdRestart (d : Dev) : Dev :=
  (d.wf pgHostp Reg.hostp.WDSTAT 35 35 0).setHp { d.hp with wdRun := true, wdAt := d.clk }

/-- A kick: it counts while EN is 1 (R309). -/
def wdKick (d : Dev) : Dev := if d.rb pgHostp Reg.hostp.WDOG 35 then wdRestart d else d

/-- A write of WDOG: with EN at 1 the countdown restarts; with EN at 0 it stops. FIRED is cleared only by a kick. -/
def wdogWritten (d : Dev) : Dev :=
  if d.rb pgHostp Reg.hostp.WDOG 35 then d.setHp { d.hp with wdRun := true, wdAt := d.clk }
  else d.setHp { d.hp with wdRun := false }

/-- PAGE_CTRL.PRST acts at once; written by the host port itself it acts after its frame (R307), which the frame does. -/
def actHostp (d : Dev) (req off : Nat) (wo : Word) : Dev :=
  if off = Reg.PAGE_CTRL then
    let d1 := if bit wo 1 then clears d pgHostp [Reg.hostp.ERRA, Reg.hostp.ERRB, Reg.hostp.ERRC, Reg.hostp.RSTCNT] else d
    if bit wo 0 ∧ req ≠ 0 then hostPortReset d1 else d1
  else if off = Reg.hostp.WDOG then wdogWritten d
  else if off = Reg.hostp.WDKICK then (if bit wo 0 ∧ d.rb pgHostp Reg.hostp.WDOG 34 then wdKick d else d)
  else d

/-- CFG.EN rising sets the port going again after it has halted (R430). -/
def actPerip (d : Dev) (off : Nat) (old m : Word) : Dev :=
  if off = Reg.perip.CFG ∧ bit m 0 ∧ !bit old 0 then d.setPp { d.pp with halted := false } else d

def actXmem (d : Dev) (off : Nat) (wo : Word) : Dev :=
  if off = Reg.xmem.XCMD ∧ bit wo 35 then xcmdGo d else d

/-- A remote request starts (R352): its RREQ item, with the next SEQ. -/
def rqGo (d : Dev) : Dev :=
  let c := d.rd pgLink Reg.sxlink.RQ_CTL
  let n := fld c 13 12 + 1
  let wr := bit c 16
  let data := if wr then (List.range n).map (fun i => d.rd pgLink (Reg.sxlink.RQ_DATA + i)) else []
  let hdr := mkw [(32, 3), (26, 1 + data.length), (20, fld c 29 24), (19, bnat wr), (17, n - 1), (13, d.lk.seq)]
  let d1 := d.wr pgLink Reg.sxlink.RQ_STAT (mkw [(0, d.lk.seq)])
  d1.setLk { d1.lk with
    rq := some ⟨fld c 29 24, d.lk.seq, hdr :: BitVec.ofNat 36 (d.rf pgLink Reg.sxlink.RQ_ADDR 23 0) :: data, false, d.cycleNow⟩,
    seq := (d.lk.seq + 1) % 16 }

def actLink (d : Dev) (off : Nat) (wo : Word) : Dev :=
  if off = Reg.PAGE_CTRL then
    let d1 := if bit wo 2 then
        clears (clears d pgLink [Reg.sxlink.PORT, Reg.sxlink.PORT + 1, Reg.sxlink.LINKCNT, Reg.sxlink.RACCCNT]) pgNode
          ((List.range 32).map (fun m => Reg.sxnode.ERR + m))
      else d
    linkEn d1
  else if off = Reg.sxlink.SLEEP then
    let d1 := if bit wo 34 then d.setLk { d.lk with wpend := true } else d
    if bit wo 35 then d1.setLk { d1.lk with propose := true } else d1
  else if off = Reg.sxlink.RQ_CTL then (if bit wo 35 then rqGo d else d)
  else d

/-- TSTR_CTL.GO: the strobe goes into the next three beacons (R353). -/
def tstrGo (d : Dev) : Dev :=
  (d.wf pgSched Reg.sxsched.TSTR_CTL 1 0 1).setLk { d.lk with tsLeft := 3 }

/-- CKCFG is one register at every place it appears (R270). -/
def ckcfgWritten (d : Dev) (w wo : Word) : Dev :=
  let v := setFld 0 10 0 (fld w 10 0)
  let d1 := (d.wr pgPlanA Reg.plan.CKCFG v).wr pgPlanB Reg.plan.CKCFG v
  let d2 := d1.wr pgTwin Reg.twin.CKCFG v
  if bit wo 35 then d2.setTw { d2.tw with ckNow := some d2.clk } else d2

def actPlan (d : Dev) (p off : Nat) (m wo : Word) : Dev :=
  if off = Reg.plan.CKCFG then ckcfgWritten d m wo
  else if off = Reg.plan.PEAK ∧ bit wo 35 then d.wf p off 19 0 0
  else d

/-- A mode request (R277). -/
def modeReq (d : Dev) (m : Word) : Dev := d.setTw { d.tw with pending := some (PMode.ofCode (fld m 1 0), d.clk) }

/-- The self-test starts (R281). -/
def stestGo (d : Dev) : Dev := d.setTw { d.tw with stest := true, pairOk := false }

def actTwin (d : Dev) (off : Nat) (m wo : Word) : Dev :=
  if off = Reg.twin.CKCFG then ckcfgWritten d m wo
  else if off = Reg.twin.MODE then modeReq d m
  else if off = Reg.twin.STEST then (if bit m 0 then stestGo d else d)
  else if off = Reg.PAGE_CTRL ∧ bit wo 0 then d.wr pgTwin Reg.twin.DCNT 0
  else d

def actBlot (d : Dev) (off : Nat) (old wo : Word) : Dev :=
  if off = Reg.blot.CTRL then blotCtrl d old
  else if off = Reg.PAGE_CTRL ∧ bit wo 0 then clears d pgBlot [Reg.blot.LOSTCNT, Reg.blot.WRAPCNT]
  else d

/-- MSRC re-anchors where SRC, QCHAN, AXIS or NODE changes (R111). -/
def msrcWritten (d : Dev) (old : Word) : Dev :=
  let new := d.rd pgScribe Reg.scribe.MSRC
  if fld old 2 0 = fld new 2 0 ∧ fld old 11 8 = fld new 11 8 ∧ fld old 18 12 = fld new 18 12 ∧ fld old 34 30 = fld new 34 30 then d
  else d.setScr { d.scr with reanchor := true }

def actScribe (d : Dev) (off : Nat) (old wo : Word) : Dev :=
  if off = Reg.PAGE_CTRL then
    if bit wo 1 then clears d pgScribe (Reg.scribe.CNT_FIRED :: (List.range 11).map (fun i => Reg.scribe.CNT_x + i)) else d
  else if off = Reg.scribe.MSRC then msrcWritten d old
  else if off = Reg.scribe.RD then fillEvents (clearTable d) (ringFill d.ringN (fld old 21 0) d.scrWR)
  else d

/-- CHECK.GO (R142). -/
def checkGo (d : Dev) (wo : Word) : Dev := d.setScr { d.scr with chkBusy := some (fld wo 13 0, fld wo 30 16) }

def actStroke (d : Dev) (off : Nat) (wo : Word) : Dev :=
  if off = Reg.stroke.CHECK ∧ bit wo 35 then checkGo d wo else d

def actQdec (d : Dev) (off : Nat) (old m wo : Word) : Dev :=
  if off = Reg.PAGE_CTRL then
    if bit wo 0 then clears d pgQdec ((List.range 16).map (fun i => Reg.qdec.ERR + i)) else d
  else if Reg.qdec.CFG ≤ off ∧ off < Reg.qdec.CFG + 16 then
    if bit m 0 ∧ !bit old 0 then quadEnRise d (off - Reg.qdec.CFG) else d
  else if Reg.qdec.ICFG ≤ off ∧ off < Reg.qdec.ICFG + 16 then
    if bit m 35 ∧ !bit old 35 then indexEnRise d (off - Reg.qdec.ICFG) else d
  else d

/-- A write of UNITu discards a pending start (R378). -/
def actCapt (d : Dev) (off : Nat) (wo : Word) : Dev :=
  if off = Reg.PAGE_CTRL then
    let d1 := if bit wo 0 then clears d pgCapt [Reg.capt.ORPHCNT, Reg.capt.ORPHSCNT, Reg.capt.COINCNT, Reg.capt.LOSTCNT] else d
    if bit wo 1 then captFlush d1 else d1
  else if Reg.capt.UNIT ≤ off ∧ off < Reg.capt.UNIT + 16 then
    if (d.inp.starts.look (off - Reg.capt.UNIT)).isSome then orphanStart d (off - Reg.capt.UNIT) else d
  else d

/-! ### Grove pages -/

/-- DRVEN falls (R172): its windows and observer calibrations end (R170, R256). -/
def drvenOff (d : Dev) (g : Nat) : Dev := (groveAxes g).foldl calAbort (drvenFall d g)

/-- CUREN of an axis falls. -/
def curenOff (d : Dev) (n : Nat) : Dev := calAbort (curenFall d n) n

def actGrove (d : Dev) (g off : Nat) (old m wo : Word) : Dev :=
  if off = Reg.PAGE_CTRL then
    let p := pgGrove g
    let d1 := if bit wo 1 then (d.wr p Reg.PAGE_STAT 0).wr p Reg.grove.ZOPEN 0 else d
    if bit m 0 ∧ !bit old 0 then drvenRise d1 g
    else if !bit m 0 ∧ bit old 0 then drvenOff d1 g
    else d1
  else d

/-- OUTEN falling trips with cause HOST, as TRIP does; RSTOP asks for the ramp engine (R201). A FAULT source that is
enabled while its ball is low trips. -/
def actFire (d : Dev) (g off : Nat) (old m wo : Word) : Dev :=
  if off = Reg.PAGE_CTRL then
    let d1 := if (!bit m 0 ∧ bit old 0) ∨ bit wo 1 then trip d g 5 else d
    if bit wo 2 then rampRequest d1 g 11 else d1
  else if off = Reg.firebrk.CLEAR then (if bit m 0 then clearGrove d g else d)
  else if off = Reg.firebrk.SRCEN then
    if bit m 1 ∧ !bit old 1 ∧ d.pins.faultSeen.testBit g then trip d g 1 else d
  else d

/-- A write to EVPREe clears its occurrence count (R157). -/
def actCarrier (d : Dev) (g off : Nat) : Dev :=
  if Reg.carrier.EVPRE ≤ off ∧ off < Reg.carrier.EVPRE + 6 then
    d.setGrove g { d.grove g with evOcc := listSet (d.grove g).evOcc (off - Reg.carrier.EVPRE) 0 }
  else d

def actNib (d : Dev) (g off : Nat) (wo clr : Word) : Dev :=
  if off = Reg.PAGE_CTRL then (if bit wo 0 then d.wr (pgNib g) Reg.nib.SHOOTCNT 0 else d)
  else if off = Reg.nib.RELEARN then (if bit wo 0 then relearn d g else d)
  else if off = Reg.nib.STUCK ∨ off = Reg.nib.STUCK + 1 then clearStuck d g (off - Reg.nib.STUCK) (fld clr 31 0)
  else d

def actOvrd (d : Dev) (g off : Nat) : Dev :=
  if off = Reg.ovrd.MODE then refreshGrove (d.each 16 (fun d a => d.wr (pgOvrd g) (Reg.ovrd.PTR + a) 0)) g
  else if Reg.ovrd.PTR ≤ off ∧ off < Reg.ovrd.PTR + 16 then refreshAxis d g (off - Reg.ovrd.PTR)
  else d

/-- CTRL: EN written 0 ends the sequence (R224), START starts it (R222). WIN: the comparator begins anew as EN rises
(R227). -/
def actConv (d : Dev) (c off : Nat) (old m wo : Word) : Dev :=
  if off = Reg.PAGE_CTRL then
    if bit wo 0 then
      clears d (pgCv c) [Reg.conv.SEQCNT, Reg.conv.PCNT, Reg.conv.MCNT, Reg.conv.RDRCNT, Reg.conv.TOVRCNT, Reg.conv.UCNT]
    else d
  else if off = Reg.conv.CTRL then
    if !bit m 16 then convNext (dropSequence d c) c (modEdge (c / 4) (d.clk + 1))
    else if bit wo 35 then convTrigger d c else d
  else if off = Reg.conv.WIN then
    if bit m 16 ∧ !bit old 16 then d.setConv c { d.conv c with winPrev := none } else d
  else d

def actCal (d : Dev) (g off : Nat) (m : Word) : Dev :=
  if off = Reg.convcal.CMD then (if bit m 0 then calGo d g else if bit m 1 then calApply d g else d)
  else if off = Reg.convcal.CALTEMP ∨ off = Reg.convcal.CALSUM ∨ Reg.convcal.CFACT ≤ off then calClose d g
  else d

/-- An observer calibration starts (R255): n = 16·2^NCAL samples for margin REFM. -/
def obscalGo (d : Dev) (n : Nat) (wo : Word) : Dev :=
  let o := d.ob n
  d.setOb n { o with cal := some (16 * 2 ^ fld wo 3 0, fld wo 25 16), calState := 1, calFail := 0, acc := 0, got := 0 }

/-- TRUSTSET.SET (R252). -/
def trustSet (d : Dev) (n : Nat) : Dev := d.setOb n { d.ob n with trust := true }

/-- PAGE_CTRL of an AXIS page: CUREN (R173), ZCLR and OCLR. -/
def axisCtrl (d : Dev) (n : Nat) (old m wo : Word) : Dev :=
  let p := pgAxis n
  let d1 := if bit wo 9 then d.wr p Reg.axis.ZSTAT 0 else d
  let d2 := if bit wo 16 then (clears d1 p [Reg.axis.OBSCNT, Reg.axis.OBSERR]).wf p Reg.axis.STALLINFO 23 0 0 else d1
  if bit m 8 ∧ !bit old 8 then curenRise d2 n
  else if !bit m 8 ∧ bit old 8 then curenOff d2 n
  else d2

def actAxis (d : Dev) (n off : Nat) (old m wo : Word) : Dev :=
  if off = Reg.PAGE_CTRL then axisCtrl d n old m wo
  else if off = Reg.axis.QCTRL then
    let d1 := if bit wo 0 then flushQueue d n else d
    if bit wo 1 then resumeQueue d1 n else d1
  else if off = Reg.axis.QPTR then d.setQueue n { d.queue n with tail := fld m 24 16 }
  else if off = Reg.axis.OBSCAL then
    let d1 := if bit wo 34 then calAbort d n else d
    if bit wo 35 then obscalGo d1 n wo else d1
  else if off = Reg.axis.TRUSTSET then (if bit m 0 then trustSet d n else d)
  else d

/-! ### All pages -/

/-- The actions of a write of a register that is not one word of a 72-bit value: `old` the stored word before, `m` the
word written, `wo` its WO bits, `clr` the W1C bits that clear. -/
def actWrite (d : Dev) (k : PageKind) (p off req : Nat) (direct : Bool) (old m wo clr : Word) : Dev :=
  let g := groveOf p
  if off = Reg.PAGE_ERR then (if bit wo 35 then d.wr p Reg.PAGE_ERR 0 else d)
  else match k with
    | .canopy => actCanopy d req off direct wo clr
    | .supv => actSupv d off m wo
    | .time => actTime d off old wo
    | .hostp => actHostp d req off wo
    | .perip => actPerip d off old m
    | .xmem => actXmem d off wo
    | .sxlink => actLink d off wo
    | .sxsched => if off = Reg.sxsched.TSTR_CTL ∧ bit wo 35 then tstrGo d else d
    | .plan => actPlan d p off m wo
    | .twin => actTwin d off m wo
    | .blot => actBlot d off old wo
    | .scribe => actScribe d off old wo
    | .stroke => actStroke d off wo
    | .qdec => actQdec d off old m wo
    | .capt => actCapt d off wo
    | .grove => actGrove d g off old m wo
    | .firebrk => actFire d g off old m wo
    | .nib => actNib d g off wo clr
    | .ovrd => actOvrd d g off
    | .conv => actConv d (convOf p) off old m wo
    | .convcal => actCal d g off m
    | .axis => actAxis d (axisOf p) off old m wo
    | .sxnode => d
    | .stepin => d
    | .ranks => d
    | .carrier => actCarrier d g off
    | .wave => d

end Sys2Proof.Machine
end

