-- ==== Sys2Proof/Machine/Access.lean ====
section
/-!
DEFINITION. The requesters' accesses (R36 to R40, R47 to R58, R60 to R66, R296, R467): where an address lies, writes
of registers and memory with their refusals and records, writes all or none, and reads.
-/
namespace Sys2Proof.Machine

/-! ### Addresses (R38, R39) -/

/-- What an address names. -/
inductive Place where
  | mem (a : Nat)
  | reg (k : PageKind) (p off : Nat) (win : Sys2Proof.Window)
  | unmapped
deriving DecidableEq, Repr

def windowOf (i : Nat) : Sys2Proof.Window :=
  match i with
  | 0 => .direct
  | 1 => .setBits
  | 2 => .clearBits
  | _ => .toggleBits

/-- An offset of a page by number, through a window. -/
def Dev.regPlace (d : Dev) (p off : Nat) (win : Sys2Proof.Window) : Place :=
  if pagePresent d.variant p then
    match pageKind p with
    | some k => .reg k p off win
    | none => .unmapped
  else .unmapped

def Dev.place (d : Dev) (a : Nat) : Place :=
  if a < 0x400000 then (if d.hasMem a then .mem a else .unmapped)
  else if 0x800000 ≤ a ∧ a < 0xC00000 then
    d.regPlace (a % 0x100000 / 1024) (a % 1024) (windowOf (a / 0x100000 - 8))
  else .unmapped

/-! ### Records of failed and irregular accesses (R39, R51) -/

/-- What an access leaves on record, whether or not its frame applies. -/
inductive Note where
  | unmapped (addr : Nat)
  | err (p off code : Nat)
  | part (result region : Nat)
  | power (fcause : Nat)
deriving DecidableEq, Repr

/-- CANOPY.UNMAP (R39). -/
def unmapRecord (d : Dev) (req a : Nat) : Dev :=
  let n := min 1023 (d.rf pgCanopy Reg.canopy.UNMAP 33 24 + 1)
  (d.wr pgCanopy Reg.canopy.UNMAP (mkw [(34, req), (24, n), (0, a)])).ev pgCanopy 2

/-- The page locks again for the requester (R63). -/
def lockPage (d : Dev) (req p : Nat) : Dev :=
  { d with acc := { d.acc with unlocked := d.acc.unlocked.filter (fun x => x != accKey req p) } }

def unlockPage (d : Dev) (req p : Nat) : Dev :=
  { d with acc := { d.acc with unlocked := nins d.acc.unlocked (accKey req p) } }

/-- PAGE_ERR (R51). -/
def pageErr (d : Dev) (req p off code : Nat) : Dev :=
  let n := min 2047 (d.rf p Reg.PAGE_ERR 18 8 + 1)
  d.wr p Reg.PAGE_ERR (mkw [(33, req), (29, code), (19, off), (8, n), (0, d.tk % 256)])

/-- A wrong key leaves the page locked (R62). -/
def record (d : Dev) (req : Nat) (x : Note) : Dev :=
  match x with
  | .unmapped a => unmapRecord d req a
  | .err p off code => pageErr (if code = 2 then lockPage d req p else d) req p off code
  | .part result region => partDone d result region
  | .power f => psRefused d f

def records (d : Dev) (req : Nat) (xs : List Note) : Dev := xs.foldl (fun d x => record d req x) d

/-! ### The word a write forms (R53, R467) -/

/-- The bits of the fields that satisfy `f`. -/
def maskOf (fs : List RegField) (f : RegField → Bool) : Word :=
  BitVec.ofNat 36 ((fs.filter f).foldl (fun a x => a ||| (2 ^ (x.hi + 1) - 2 ^ x.lo)) 0)

/-- A window acting on the bits of `data` within `mask`, from `cur`. -/
def aliasOp (win : Sys2Proof.Window) (cur data mask : Word) : Word :=
  match win with
  | .direct => (cur &&& ~~~mask) ||| (data &&& mask)
  | .setBits => cur ||| (data &&& mask)
  | .clearBits => cur &&& ~~~(data &&& mask)
  | .toggleBits => cur ^^^ (data &&& mask)

/-- A write as formed from its register. -/
structure Formed where
  now : Word             -- the stored word after the write: RW and RWK fields written, W1C bits cleared
  shadow : Option Word   -- the word of the buffered fields, where the write reaches one
  wo : Word              -- WO bits written as 1
  clr : Word             -- W1C bits that clear
  m : Word               -- every field as written
  keyed : Bool           -- a keyed write (R54, R467)
deriving DecidableEq, Repr

def formWrite (d : Dev) (p off : Nat) (fs : List RegField) (win : Sys2Proof.Window) (data : Word) : Formed :=
  let cur := d.rd p off
  let pend := d.pendingWord p off
  let imm := maskOf fs (fun f => f.ty == .rw || f.ty == .rwk)
  let buf := maskOf fs RegField.buffered
  let key := maskOf fs RegField.keyed
  let now0 := aliasOp win cur data imm
  let sh := aliasOp win pend data buf
  let wo := if win = .direct then data &&& maskOf fs (fun f => f.ty == .wo) else 0
  let clr := if win = .clearBits then 0 else data &&& maskOf fs (fun f => f.ty == .w1c)
  let now := now0 &&& ~~~clr
  let reaches := buf != 0 && (win == .direct || (data &&& buf) != 0)
  let before := if win = .direct then cur else pend
  let changes := (((now ^^^ cur) &&& imm) ||| (if reaches then (sh ^^^ before) &&& buf else 0)) &&& key
  let writable := fs.filter RegField.writable
  { now := now, shadow := if reaches then some (sh &&& buf) else none, wo := wo, clr := clr,
    m := (now &&& imm) ||| (sh &&& buf) ||| wo,
    keyed := (!writable.isEmpty && writable.all RegField.keyed) || changes != 0 }

/-! ### Register writes -/

/-- The outcome of a write: its element status (R298), what it leaves on record, and the device with its effect. -/
structure WriteRes where
  st : Nat
  notes : List Note
  dev : Dev

def stOk : Nat := 0
def stUnmapped : Nat := 1
def stRefused : Nat := 2

/-- A write that is ignored, or that only leaves a record. -/
def ignored (d : Dev) (notes : List Note) : WriteRes := ⟨stOk, notes, d⟩
def refuse (d : Dev) (p off code : Nat) (more : List Note) : WriteRes := ⟨stRefused, .err p off code :: more, d⟩

/-- What a refused check leaves beside PAGE_ERR: PART_STAT (R470), FCAUSE (R400). -/
def refusalNotes (d : Dev) (k : PageKind) (p off : Nat) (m : Word) : List Note :=
  if k = .canopy ∧ Reg.canopy.PART ≤ off ∧ off < Reg.canopy.PART + 6 ∧ fld m 24 16 ≤ 256 ∧ d.group p = 0 then
    let c := partCheck d (d.partWith (off - Reg.canopy.PART) m)
    [.part c.1 c.2]
  else if k = .supv ∧ off = Reg.supv.PSCTL then [.power (psCause d (fld m 1 0))]
  else []

/-- Whether a keyed write passes: the loader needs no unlock (R63, R418). -/
def keyOk (d : Dev) (req p : Nat) (keyed : Bool) : Bool := !keyed || req == 3 || d.unlocked req p

/-- The unlock that a keyed write consumes. -/
def consume (d : Dev) (req p : Nat) (keyed : Bool) : Dev := if keyed ∧ req ≠ 3 then lockPage d req p else d

/-- Registers whose keyed bit is an action and reads 0: they store nothing. -/
def actsOnly (k : PageKind) (off : Nat) : Bool :=
  match k with
  | .supv => off == Reg.supv.RESET
  | .twin => off == Reg.twin.STEST
  | .firebrk => off == Reg.firebrk.CLEAR
  | .convcal => off == Reg.convcal.CMD
  | .axis => off == Reg.axis.TRUSTSET
  | _ => false

/-- The fields of a write stored, and its shadow written or taken at once (R58). -/
def storeWrite (d : Dev) (k : PageKind) (p off : Nat) (f : Formed) : Dev :=
  let d0 := if 0x100 ≤ p then carTo d.note (groveOf p) d.clk else d
  let d1 := if actsOnly k off then d0 else d0.wr p off f.now
  match f.shadow with
  | none => d1
  | some w => if d.group p = 0 then takeAtOnce d1 p off w else d1.shadowPut p off w

/-- A write of a register that is one word by itself. -/
def writeSingle (d : Dev) (k : PageKind) (p off req : Nat) (fs : List RegField) (win : Sys2Proof.Window) (data : Word) : WriteRes :=
  let f := formWrite d p off fs win data
  if !keyOk d req p f.keyed then refuse d p off 1 []
  else
    let code := checkWrite d k p off f.m
    if code ≠ 0 then refuse d p off code (refusalNotes d k p off f.m)
    else
      let old := d.rd p off
      let d1 := storeWrite (consume d req p f.keyed) k p off f
      ⟨stOk, [], actWrite d1 k p off req (win == .direct) old f.m f.wo f.clr⟩

/-- A write of PAGE_LOCK (R54, R62, R63). -/
def writeLock (d : Dev) (p req : Nat) (win : Sys2Proof.Window) (data : Word) : WriteRes :=
  let d1 := lockPage d req p
  if win ≠ .direct then ⟨stOk, [], d1⟩
  else if data.toNat = 0x6C5A93000 + p then ⟨stOk, [], unlockPage d1 req p⟩
  else refuse d p Reg.PAGE_LOCK 2 []

/-- The word a write of one half of a 72-bit value forms: an alias starts from the word in effect (R56). -/
def pairWord (d : Dev) (p off : Nat) (win : Sys2Proof.Window) (data : Word) : Word := aliasOp win (d.rd p off) data (BitVec.allOnes 36)

/-- The low word goes to the requester's write shadow of the page (R56). -/
def writeLow (d : Dev) (k : PageKind) (p off req : Nat) (win : Sys2Proof.Window) (data : Word) : WriteRes :=
  let code := checkWrite d k p off data
  if code ≠ 0 then refuse d p off code []
  else
    ⟨stOk, [], { d with acc := { d.acc with writeShadow := d.acc.writeShadow.put (accKey req p) (pairWord d p off win data) } }⟩

/-- Both words of a 72-bit value apply: TGRID is buffered (R317), SET sets the time (R326), the others are stored. -/
def applyPair (d : Dev) (k : PageKind) (p off : Nat) (lo hi : Word) : Dev :=
  if k = .time ∧ off = Reg.time.SET_HI then timeSet d (lo.toNat + hi.toNat * two36)
  else if k = .time ∧ off = Reg.time.TGRID_HI then
    if d.group p = 0 then
      let d1 := (d.wr p (off - 1) lo).wr p off hi
      d1.setTb { d1.tb with tgridAt := some d1.clk }
    else (d.shadowPut p (off - 1) lo).shadowPut p off hi
  else (d.wr p (off - 1) lo).wr p off hi

/-- The high word applies both words with the low word of the write shadow, 0 where there is none (R56). A keyed value
is one keyed write, made at the high word. -/
def writeHigh (d : Dev) (k : PageKind) (p off req : Nat) (keyed : Bool) (win : Sys2Proof.Window) (data : Word) : WriteRes :=
  if !keyOk d req p keyed then refuse d p off 1 []
  else
    let code := checkWrite d k p off data
    if code ≠ 0 then refuse d p off code []
    else
      let lo := d.acc.writeShadow.get (accKey req p) 0
      ⟨stOk, [], applyPair (consume d req p keyed) k p off lo (pairWord d p off win data)⟩

/-- The part a register plays in a 72-bit value. -/
def pairPart (k : PageKind) (off : Nat) : PairPart := if off < 16 then .single else (findReg k off).elim .single RegDef.pair

/-- The motor-bus registers of an absent grove ignore writes (R409). -/
def ignoresWrites (d : Dev) (k : PageKind) (off : Nat) : Bool :=
  k == .supv && decide (Reg.supv.MBTHR ≤ off ∧ off < Reg.supv.MBSTAT + 8) && !d.hasGrove (off % 8)

/-- A write at an offset of a present page (R52 to R56, R467). -/
def writeReg (d : Dev) (k : PageKind) (p off req : Nat) (win : Sys2Proof.Window) (data : Word) : WriteRes :=
  if d.sup.inReset then ⟨stOk, [], d⟩
  else match fieldsAt k off with
  | none => ignored d [.err p off 5]
  | some fs =>
    if off = Reg.PAGE_LOCK then writeLock d p req win data
    else if !fs.isEmpty && fs.all (fun f => !f.writable) then ignored d [.err p off 6]
    else if ignoresWrites d k off then ignored d []
    else match pairPart k off with
      | .single => writeSingle d k p off req fs win data
      | .low => writeLow d k p off req win data
      | .high => writeHigh d k p off req (fs.any RegField.keyed) win data

/-- A write at a page number and offset. -/
def writePage (d : Dev) (p off req : Nat) (win : Sys2Proof.Window) (data : Word) : WriteRes :=
  match d.regPlace p off win with
  | .reg k p off win => writeReg d k p off req win data
  | _ => ⟨stUnmapped, [.unmapped (0x800000 + p * 1024 + off)], d⟩

/-- A write at an address. -/
def writeAddr (d : Dev) (req a : Nat) (data : Word) : WriteRes :=
  match d.place a with
  | .mem a => ⟨stOk, [], d.memPut a data⟩
  | .reg k p off win => writeReg d k p off req win data
  | .unmapped => ⟨stUnmapped, [.unmapped a], d⟩

/-! ### Writes all or none (R296) -/

/-- Writes in element order, each against the state that the earlier ones leave: the statuses, the notes and the
device with every write applied. -/
def tryWrites (d : Dev) (req : Nat) : List (Nat × Word) → List Nat × List Note × Dev
  | [] => ([], [], d)
  | (a, w) :: t =>
    let r := writeAddr d req a w
    let (ss, ns, d2) := tryWrites r.dev req t
    (r.st :: ss, r.notes ++ ns, d2)

/-- The writes of one frame: none applies where one is refused; every record stands. -/
def applyWrites (d : Dev) (req : Nat) (ws : List (Nat × Word)) : List Nat × Bool × Dev :=
  let (ss, ns, d1) := tryWrites d req ws
  let refused := ss.contains stRefused
  (ss, refused, records (if refused then d else d1) req ns)

/-- A single write by page and offset, as a command of the table makes it. PRST by the host port acts after it. -/
def writeCommand (d : Dev) (p off : Nat) (w : RegWrite) : Dev :=
  let req := w.req.id
  let r := writePage d p off req w.win w.data
  let d1 := records r.dev req r.notes
  if p = pgHostp ∧ off = Reg.PAGE_CTRL ∧ req = 0 ∧ w.win = .direct ∧ bit w.data 0 ∧ r.st = stOk then hostPortReset d1 else d1

/-! ### Reads (R55, R64, R66) -/

/-- The device as a register is sampled for a read: telemetry comes from one of the last two boundaries, a free choice
(R66); supply and temperature readings are free values (log 8). -/
def sampled (tele1 tele2 d : Dev) (k : PageKind) (off : Nat) : Dev × Dev :=
  if isTelemetry k off then
    let (i, d1) := d.draw
    (if Config.freeBool i then tele2 else tele1, d1)
  else (d, d)

/-- The word of a register at a moment, with the readings as free values. -/
def liveWord (src d : Dev) (k : PageKind) (req p off : Nat) : Word × Dev :=
  let w := pageWord src k req p off
  if isReading p off then
    let (i, d1) := d.draw
    let m := BitVec.ofNat 36 (readingMask off)
    ((w &&& ~~~m) ||| (Config.freeWord i &&& m), d1)
  else (w, d)

/-- A read at an offset of a present page; a low word latches its high word, and a high word comes from the latch or
is recorded as TORN (R55). -/
def readReg (tele1 tele2 d : Dev) (k : PageKind) (p off req : Nat) : Word × Dev :=
  if k = .capt ∧ off = Reg.capt.FIFO then fifoRead d req
  else
    match pairPart k off with
    | .high =>
      match d.acc.readShadow.look (accKey req p) with
      | some (o, w) =>
        if o = off then (w, d)
        else
          let (src, d1) := sampled tele1 tele2 d k off
          (pageWord src k req p off, pageErr d1 req p off 7)
      | none =>
        let (src, d1) := sampled tele1 tele2 d k off
        (pageWord src k req p off, pageErr d1 req p off 7)
    | .low =>
      let (src, d1) := sampled tele1 tele2 d k off
      (pageWord src k req p off,
        { d1 with acc := { d1.acc with readShadow := d1.acc.readShadow.put (accKey req p) (off + 1, pageWord src k req p (off + 1)) } })
    | .single =>
      let (src, d1) := sampled tele1 tele2 d k off
      liveWord src d1 k req p off

/-- A read at an address: its element status and word (R39, R40, R298). -/
def readAddr (tele1 tele2 d : Dev) (req a : Nat) : Nat × Word × Dev :=
  match d.place a with
  | .mem a =>
    match d.memGet a with
    | (.ok w, d1) => (stOk, w, d1)
    | (.uncorrectable, d1) => (3, 0, d1)
  | .reg k p off _ =>
    let (w, d1) := readReg tele1 tele2 d k p off req
    (stOk, w, d1)
  | .unmapped => (stUnmapped, 0, unmapRecord d req a)

/-- Reads in element order. -/
def readAddrs (tele1 tele2 d : Dev) (req : Nat) : List Nat → List (Nat × Word) × Dev
  | [] => ([], d)
  | a :: t =>
    let (s, w, d1) := readAddr tele1 tele2 d req a
    let (rs, d2) := readAddrs tele1 tele2 d1 req t
    ((s, w) :: rs, d2)

/-- Element statuses as ESTAT holds them (R298). -/
def estatOf (ss : List Nat) : Nat := (ss.zipIdx).foldl (fun a e => a + (e.1 % 4) * 4 ^ e.2) 0

/-! ### DISCARD (R61, R306) -/

/-- Every pending shadow of the groups in the mask is set back to the value in effect, whoever wrote it; bits 0 and 31
have no effect. -/
def discardGroups (d : Dev) (mask : Nat) : Dev :=
  let hit (key : Nat) : Bool := let g := d.group (key / 1024); decide (0 < g ∧ g < 31) && mask.testBit g
  { d with shadow := d.shadow.filter (fun e => !hit e.1),
           strobes := d.strobes.map (fun s => { s with captured := s.captured.filter (fun c => !hit c.key) }) }

end Sys2Proof.Machine
end

