-- ==== Sys2Proof/Machine/Link.lean ====
section
/-!
DEFINITION. The frames of the Sernyx link (R332, R337 to R361): beacons and node frames as they are built and sent,
received and checked, their items, remote access, timed strobes over the link, and the sleep vote.
-/
namespace Sys2Proof.Machine

/-! ### Building blocks -/

/-- A frame's words as transmitted: header and payload, then the trailer (R332). -/
def linkWords (ws : List Word) : List Word := ws ++ [plainTrailer 0 ws]

/-- A payload filled with zero words to `p` words. -/
def padTo (p : Nat) (ws : List Word) : List Word := ws ++ List.replicate (p - ws.length) 0

/-- Field positions of a header that beacons and node frames share (R338). -/
def hdrKind (h : Word) : Nat := fld h 35 32
def hdrNode (h : Word) : Nat := fld h 31 27
def hdrMaj (h : Word) : Nat := fld h 26 23
def hdrMin (h : Word) : Nat := fld h 22 19

/-- SCHEMA of this node. -/
def Dev.schema (d : Dev) : Nat := d.rf pgLink Reg.sxlink.VERSION 7 0

/-- A bit of one of SXNODE's masks; its event where it rises. -/
def nodeMask (d : Dev) (off m ev : Nat) (v : Bool) : Dev :=
  let d1 := d.wr pgNode off (setBit (d.rd pgNode off) m v)
  if v ∧ !d.rb pgNode off m then d1.ev pgNode ev else d1

/-- The header of node m is recorded (R349, R365). Fields that a beacon's header lacks are left as they are. -/
def recordHeader (d : Dev) (m : Nat) (h : Word) : Dev :=
  let d1 := d.wr pgNode (Reg.sxnode.NSTAT + 4 * m) h
  let other : Bool := hdrMaj h != 1
  let d2 := nodeMask d1 Reg.sxnode.MAJDIFF m 2 other
  let i := d2.rd pgNode (infoOff m)
  let i1 := withFields i [(32, 32, bnat other), (8, 5, hdrMaj h), (4, 1, hdrMin h)]
  if hdrKind h ≠ 1 ∨ other then d2.wr pgNode (infoOff m) i1
  else
    let diff : Bool := fld h 18 11 != d.schema
    let d3 := nodeMask d2 Reg.sxnode.SCHDIFF m 1 diff
    let d4 := if diff then nodeMask d3 Reg.sxnode.DIGMIS m 0 false else d3
    d4.wr pgNode (infoOff m) (withFields i1 [(34, 34, if diff then 0 else fld i 34 34), (33, 33, bnat diff), (29, 29, fld h 8 8),
      (16, 9, fld h 18 11), (0, 0, fld h 7 7)])

/-- A valid frame from node m: its presence (R348). -/
def heardNode (d : Dev) (m : Nat) : Dev :=
  let d1 := d.setLk { d.lk with lastFrame := d.lk.lastFrame.put m ((d.lk.cycle + 1) % 2 ^ 36) }
  if d1.present.testBit m then d1 else (setPresent d1 m true).lkEv 6

/-- A frame with the node's own NODE that it did not send (R342). -/
def dupId (d : Dev) : Dev :=
  if d.lk.dupid then d else stopMaster ((d.setLk { d.lk with dupid := true }).lkEv 11)

/-- FLOOR as the master gives it in its next beacon (R349). -/
def Dev.floorNow (d : Dev) : Nat :=
  ((maskBits 32 d.present).filter (fun m => m != d.linkNode && d.rf pgNode (infoOff m) 8 5 == 1)).foldl
    (fun a m => min a (d.rf pgNode (infoOff m) 4 1)) 2

/-- FLOOR changes at the next cycle start (R349). -/
def floorTo (d : Dev) (f : Nat) : Dev :=
  if f = d.lk.floor then d.setLk { d.lk with floorNext := none }
  else if d.lk.floorNext = some f then d
  else (d.setLk { d.lk with floorNext := some f }).lkEv 4

/-! ### Timed strobes (R353) -/

/-- The strobe that a beacon carries arms its TIME slot. In STANDBY it is not armed (R360). -/
def armStrobe (d : Dev) (slot t mask : Nat) : Dev :=
  if d.lk.floor < 1 ∨ !(d.sup.ps == .run || d.sup.ps == .idle) then d
  else if d.tsState slot ≠ 0 ∧ d.tsTime slot = t then d
  else if d.tsState slot = 1 then d.lkEv 12
  else
    let d1 := (d.wr72 pgTime (tsOff slot) t).wr pgTime (tsOff slot + 3) (BitVec.ofNat 36 mask)
    tsArm d1 slot

/-! ### The sleep vote (R356, R357) -/

/-- The conditions of ACCEPT. -/
def Dev.canSleep (d : Dev) : Bool :=
  d.rb pgLink Reg.sxlink.SLEEP 16 && !d.lk.wpend && (d.rf pgLink Reg.sxlink.SLEEP 9 8 == 0 || d.dataIdle)

/-- The VOTE field of a frame sent in the current cycle, and the vote with what has been sent. -/
def voteField (d : Dev) : Nat × Option Vote :=
  match d.lk.vote with
  | none => (0, none)
  | some v =>
    if !later 36 (v.c + 8) d.lk.cycle ∨ d.lk.floor < 2 then (0, some v)
    else if v.own = 1 ∧ d.lk.wpend then
      (3, some { v with cancel := v.cancel || d.lk.master, cancelAt := if d.lk.master then d.lk.cycle else v.cancelAt })
    else if later 36 (v.c + 5) d.lk.cycle then
      if d.canSleep then (1, some { v with own := 1 }) else (2, some { v with own := 2, veto := v.veto || d.lk.master })
    else (0, some v)

/-- A VOTE heard by the master from node m. -/
def takeVote (d : Dev) (m x : Nat) : Dev :=
  match d.lk.vote with
  | none => d
  | some v =>
    if !d.lk.master then d
    else
      let open_ := later 36 (v.c + 5) d.lk.cycle
      let v1 := match x with
        | 1 => if open_ then { v with accepts := v.accepts ||| 2 ^ m } else v
        | 2 => if open_ then { v with veto := true } else v
        | 3 => { v with cancel := true, cancelAt := d.lk.cycle }
        | _ => v
      d.setLk { d.lk with vote := some v1 }

/-- Whether every node present at C, and the master itself, has sent ACCEPT. -/
def Dev.voteCarried (d : Dev) (v : Vote) : Bool :=
  (maskBits 32 v.present).all (fun m => v.accepts.testBit m) && !v.veto && !v.cancel && !v.abort &&
    (v.own == 1 || (d.ownSlots.isEmpty && d.canSleep))

/-- The link's phase and the vote after a SLEEPOP; every ABORT sets its event. -/
def takeOp (d : Dev) (n op target : Nat) : Dev :=
  let l := d.lk
  let c := (target + 2 ^ 36 - 8) % 2 ^ 36
  let fresh : Vote := ⟨c, 0, 0, false, false, 0, 0, none, false⟩
  let v := l.vote.getD fresh
  if l.floor < 2 then d
  else match op with
    | 1 => d.setLk { l with vote := some v, sphase := .voting }
    | 2 => d.setLk { l with vote := some { v with heard := some 2 }, sphase := .committed }
    | 3 => (d.setLk { l with vote := none, sphase := .awake }).lkEv 7
    | _ =>
      match l.vote with
      | some v =>
        if n = (v.c + 8) % 2 ^ 36 ∧ v.heard = none then d.setLk { l with vote := none, sphase := .awake } else d
      | none => d

/-- The SLEEPOP that the master's beacon `n` carries, with its vote: none where the master sends nothing (R357). -/
def masterOp (d : Dev) (n : Nat) : Option (Nat × Dev) :=
  let l := d.lk
  match l.vote with
  | none =>
    if l.propose then
      some (1, d.setLk { l with propose := false, sphase := .voting,
                                vote := some ⟨n, d.present &&& (2 ^ 32 - 1 - 2 ^ d.linkNode), 0, false, false, 0, 0, none, false⟩ })
    else some (0, d)
  | some v =>
    let abort : Dev := (d.setLk { l with sphase := .awake, vote := some { v with abort := true } }).lkEv 7
    let k := (n + 2 ^ 36 - v.c) % 2 ^ 36
    if k < 5 then (if v.abort then some (3, abort) else some (1, d))
    else if k < 8 then
      if v.abort ∨ v.cancel ∨ (v.heard = none ∧ !d.voteCarried v) then some (3, abort)
      else some (2, d.setLk { l with sphase := .committed, vote := some { v with heard := some 2 } })
    else if v.abort ∨ v.heard ≠ some 2 then some (0, d.setLk { l with vote := none, sphase := .awake })
    else if v.cancel ∧ (v.cancelAt + 1) % 2 ^ 36 = n then
      some (3, (d.setLk { l with vote := none, sphase := .awake, silent := v.accepts, late := some d.clk }).lkEv 7)
    else none

/-! ### Beacons sent (R334, R339, R343, R347, R353, R359) -/

/-- The node reported next: the present nodes but the master's own in turn. -/
def Dev.nextReported (d : Dev) : Option Nat :=
  let ns := (maskBits 32 d.present).filter (fun m => m != d.linkNode)
  match ns.find? (fun m => decide (d.lk.rnode < m)) with
  | some m => some m
  | none => ns.head?

/-- A ranging report: a port without a measurement holds a free value. -/
def reportWord (d : Dev) (r : Option Int) : Word × Dev :=
  match r with
  | some x => (sword x, d)
  | none =>
    let (i, d1) := d.draw
    (Config.freeWord i, d1)

/-- Words 3 to 5 of a beacon. -/
def reportWords (d : Dev) : List Word × Dev :=
  let mpri := d.rf pgLink Reg.sxlink.CFG 27 24
  match d.nextReported with
  | none =>
    let (i, d1) := d.draw
    let (j, d2) := d1.draw
    ([mkw [(24, mpri)], Config.freeWord i, Config.freeWord j], d2)
  | some m =>
    let d0 := d.setLk { d.lk with rnode := m }
    let r := d.lk.measPrev.find? (fun x => x.node == m)
    let (a, d1) := reportWord d0 (r.bind Ranging.rA)
    let (b, d2) := reportWord d1 (r.bind Ranging.rB)
    ([mkw [(31, m), (30, bnat r.isSome), (24, mpri)], a, b], d2)

/-- The timed strobe that goes out: words 7 to 9. The first copy arms the master's own slot. -/
def strobeWords (d : Dev) : List Word × Dev :=
  if d.lk.tsLeft = 0 ∨ d.lk.floor < 1 then ([0, 0, 0], d)
  else
    let t := d.rd72 pgSched Reg.sxsched.TSTR_LO
    let slot := d.rf pgSched Reg.sxsched.TSTR_CTL 10 8
    let mask := d.rf pgSched Reg.sxsched.TSTR_MASK 31 0
    let d1 := if d.lk.tsLeft = 3 then armStrobe d slot t mask else d
    let d2 := d1.setLk { d1.lk with tsLeft := d1.lk.tsLeft - 1 }
    let d3 := if d2.lk.tsLeft = 0 then (d2.wf pgSched Reg.sxsched.TSTR_CTL 1 0 2).ev pgSched 2 else d2
    ([BitVec.ofNat 36 t, BitVec.ofNat 36 (t / two36), mkw [(35, 1), (32, slot), (0, mask)]], d3)

/-- Beacon `n` leaves now with a SLEEPOP. -/
def sendBeacon (d : Dev) (n op : Nat) : Dev :=
  let target := match d.lk.vote with
    | some v => (v.c + 8) % 2 ^ 36
    | none => n
  let f := d.floorNow
  let d1 := floorTo d f
  let h := mkw [(27, d.linkNode), (23, 1), (19, 2), (15, f), (3, d.rf pgSched Reg.sxsched.GEN 11 0), (0, op)]
  let (rep, d2) := reportWords d1
  let (ts, d3) := strobeWords d2
  let ws := [h, BitVec.ofNat 36 n, BitVec.ofNat 36 d.tb.now, BitVec.ofNat 36 (d.tb.now / two36)] ++ rep ++
    [BitVec.ofNat 36 (if op = 0 then 0 else target)] ++ ts
  recordHeader (d3.setLk { d3.lk with txFrame := linkWords ws }) d.linkNode h

/-- COLL: a beacon read back wrong on every port (R347). -/
def collide (d : Dev) : Dev := stopMaster ((d.incSat pgLink Reg.sxlink.LINKCNT 23 12).lkEv 13)

/-- The wake pattern is driven from now on for t_WPAT (R358, R359). -/
def drivePattern (d : Dev) : Dev :=
  d.setLk { d.lk with patternAt := some (d.clk + 20000), txPattern := d.lk.txPattern + 1 }

/-- The slot start of the master's next beacon: CYC after the last one, or `dt` from now for the first. -/
def Dev.beaconAt (d : Dev) (dt : Nat) : Nat :=
  match d.lk.sentAt with
  | some t => t + d.cycGck
  | none => d.clk + dt

/-- Cycle `n` begins at the master, at this instant. -/
def masterCycle (d : Dev) (n : Nat) : Dev :=
  let d1 := cycleStart d n d.clk
  d1.setLk { d1.lk with since := 0, sentAt := some d.clk, nextN := (n + 1) % 2 ^ 36,
                        sphase := if d1.lk.sphase = .waking then .awake else d1.lk.sphase }

/-- Whether the beacon that is due is replaced by the wake pattern (R359). -/
def Dev.lateWake (d : Dev) : Bool :=
  match d.lk.late with
  | some t => decide (t + 400000 ≤ d.clk) && d.lk.silent != 0
  | none => false

/-- BEACON_SEND: the master opens its next cycle. -/
def beaconSend (d : Dev) (dt : Nat) (readBad : Bool) : Dev :=
  if !d.linkOn ∨ !d.lk.master ∨ d.lk.dupid ∨ d.lk.sphase = .asleep ∨ !(d.sup.ps == .run || d.sup.ps == .idle) then d
  else
    let d0 := d.advanceTo (d.beaconAt dt)
    let n := d0.lk.nextN
    match masterOp d0 n with
    | none => d0
    | some (op, d1) =>
      let d2 := masterCycle d1 n
      if d2.lateWake then
        let d3 := drivePattern d2
        linkSettle (d3.setLk { d3.lk with late := none, silent := 0 })
      else
        let l := d2.lk
        let old : Bool := l.late.any (fun t => t != d2.clk && l.silent == 0)
        let d3 := sendBeacon (if old then d2.setLk { l with late := none } else d2) n op
        linkSettle (if readBad then collide d3 else d3)

/-! ### Reception (R341) -/

/-- The count of a frame discarded by check 1 or 2 on a port, against the slot's owner. -/
def discardFrame (d : Dev) (port : Nat) (owner : Option Nat) (check : Nat) : Dev :=
  let (hi, lo) := if check = 1 then (23, 12) else (35, 24)
  let (ehi, elo) := if check = 1 then (35, 24) else (23, 12)
  let d1 := d.incSat pgLink (Reg.sxlink.PORT + port) hi lo
  match owner with
  | some m => d1.incSat pgNode (Reg.sxnode.ERR + m) ehi elo
  | none => d1

/-- Checks 1 and 2 of one port's frame of `len` words; `e` is the expected SFD instant, if there is one. -/
def checkPort (d : Dev) (port len : Nat) (owner : Option Nat) (e : Option Int) (x : Option PortRx) : Option PortRx × Dev :=
  match x with
  | none => (none, d)
  | some r =>
    let at_ : Int := ((d.clk + r.delay : Nat) : Int)
    let outside : Bool := e.any (fun e => decide ((winGck : Int) < absI (at_ - e)))
    let ws := r.words.take (len - 1)
    let good : Bool := !r.bad && r.words.length == len && fld (r.words.getD (len - 1) 0) 31 0 == crc32c ws 0 0
    if !d.portOn port then (none, d)
    else if outside then (none, discardFrame d port owner 1)
    else if !good then (none, discardFrame d port owner 2)
    else (some r, d)

/-- Check 3: a node frame whose NODE is not the owner's. -/
def checkOwner (d : Dev) (owner : Nat) (x : Option PortRx) : Option PortRx × Dev :=
  match x with
  | none => (none, d)
  | some r =>
    if hdrNode (r.words.headD 0) = owner then (some r, d)
    else (none, d.incSat pgNode (Reg.sxnode.ERR + owner) 11 0)

/-- The frame used: port A's where it is valid, else port B's; frames that differ are counted. -/
def chooseFrame (d : Dev) (a b : Option PortRx) : Option (PortRx × Bool) × Dev :=
  match a, b with
  | some x, some y =>
    (some (x, false), if x.words = y.words then d else d.incSat pgLink Reg.sxlink.LINKCNT 35 24)
  | some x, none => (some (x, false), d)
  | none, some y => (some (y, true), d)
  | none, none => (none, d)

/-- Whether the link takes frames. -/
def Dev.linkHears (d : Dev) : Bool := d.linkOn && d.sup.ps != .retain && decide (d.lk.sphase ≠ .asleep)

/-! ### Beacons received (R343 to R349, R353, R357) -/

/-- R343's update of one port's d̂ from a report `r`. -/
def rangeStep (dhat : Int) (reports : Nat) (r used : Int) : Int × Nat :=
  let smp := (r + used).fdiv 2
  (if reports = 0 then smp else dhat + rhe (smp - dhat) 4, min (reports + 1) 4)

/-- The beacon's report, where it is for this node. -/
def takeReport (d : Dev) (w3 rA rB : Word) : Dev :=
  if !bit w3 30 ∨ fld w3 35 31 ≠ d.linkNode then d
  else
    let l := d.lk
    let used := if l.usedIn.isSome then l.used else d.dhat
    let (a, na) := rangeStep l.dhatA l.repA (sfld rA 35 0) used
    let (b, nb) := rangeStep l.dhatB l.repB (sfld rB 35 0) used
    d.setLk { l with dhatA := a, repA := na, dhatB := b, repB := nb }

/-- θ of R344, from the SFD arrival, and the offset it gives the timebase. -/
def takeTheta (d : Dev) (delay bn : Nat) : Dev :=
  let arrival := unsgn 72 ((d.tb.now : Int) + timeOfGck delay)
  let due := unsgn 72 ((bn : Int) + timeOfGck sfdGck)
  let theta := diff72 arrival due - d.dhat
  let d1 := d.wr pgLink Reg.sxlink.THETA (sword theta)
  if d1.tvalid ∧ d1.rb pgTime Reg.time.SRCCFG 2 then sourceOffset d1 .sernyx (-theta) else d1

/-- Whether a master yields to the sender of a beacon (R347). -/
def Dev.yieldsTo (d : Dev) (h w3 : Word) : Bool :=
  let own := d.rf pgLink Reg.sxlink.CFG 27 24
  decide (own < fld w3 27 24 ∨ (own = fld w3 27 24 ∧ hdrNode h < d.linkNode))

/-- The arrival of a beacon becomes the origin of the follower's schedule (R335, R345, R346). -/
def beaconOrigin (d : Dev) (m n delay : Nat) (portB : Bool) : Dev :=
  let at_ := d.clk + delay
  let l0 := d.lk
  let same : Bool := l0.masterNode == some m
  let d0 := if same then d else (d.setLk { l0 with masterNode := some m }).lkEv 2
  let l := d0.lk
  let gap := (n + 2 ^ 36 - l.heardN) % 2 ^ 36
  let ratio := match l.heard with
    | some t => if same ∧ gap ≠ 0 then some (at_ - t, gap * d.cycGck) else l.ratio
    | none => none
  let run := if l.heard.isSome ∧ gap = 1 then l.run + 1 else 1
  let d1 := d0.setLk { l with heard := some at_, heardN := n, ratio := ratio, since := 0, run := run, waitFrom := at_,
                              portB := portB, sphase := if l.sphase = .waking then .awake else l.sphase }
  let d2 := if n = l.cycle ∧ l.heard.isSome then d1 else cycleStart d1 n (d1.linkAt 0).toNat
  d2.setLk { d2.lk with cycle := n, cycleAt := (d2.linkAt 0).toNat }

/-- A follower unmutes after the beacons of two consecutive cycles (R345). -/
def unmute (d : Dev) : Dev := if d.lk.muted ∧ 2 ≤ d.lk.run ∧ d.terr ≤ 500 then setMuted d false else d

/-- A valid beacon of protocol version MAJ 1. -/
def followBeacon (d : Dev) (ws : List Word) (delay : Nat) (portB : Bool) : Dev :=
  let w (i : Nat) : Word := ws.getD i 0
  let h := w 0
  let m := hdrNode h
  let n := (w 1).toNat
  let d1 := beaconOrigin d m n delay portB
  let d2 := heardNode (recordHeader d1 m h) m
  let d3 := floorTo (d2.setLk { d2.lk with majMis := false, schgen := some (fld h 14 3) }) (fld h 18 15)
  let d4 := linkSettle (unmute (takeReport d3 (w 4) (w 5) (w 6)))
  let d5 := takeTheta d4 delay ((w 2).toNat + (w 3).toNat * two36)
  let d6 := if bit (w 10) 35 then
      armStrobe d5 (fld (w 10) 34 32) ((w 8).toNat + (w 9).toNat * two36) (fld (w 10) 31 0)
    else d5
  linkSettle (takeOp d6 n (fld h 2 0) (w 7).toNat)

/-- A valid beacon. -/
def takeBeacon (d : Dev) (ws : List Word) (delay : Nat) (portB : Bool) : Dev :=
  let h := ws.headD 0
  let d0 := if hdrNode h = d.linkNode then dupId d else d
  if d0.lk.master ∧ !d0.yieldsTo h (ws.getD 4 0) then d0
  else
    let d1 := stopMaster d0
    if hdrMaj h ≠ 1 then
      recordHeader (d1.setLk { d1.lk with majMis := true, waitFrom := d1.clk + delay }) (hdrNode h) h
    else followBeacon d1 ws delay portB

/-- A port that is enabled and brought no valid beacon misses one. -/
def missPort (d : Dev) (port : Nat) (x : Option PortRx) : Dev :=
  if d.portOn port ∧ x.isNone then d.incSat pgLink (Reg.sxlink.PORT + port) 11 0 else d

/-- BEACON_RECEIVED, at the earliest SFD instant. -/
def beaconReceived (d : Dev) (rx : LinkRx) : Dev :=
  let d0 := linkCatch (d.advance rx.dt)
  if !d0.linkHears then d0
  else
    let e : Option Int := if d0.linkCounts then some (d0.linkAt 0 + sfdGck + d0.rxcompGck) else none
    let owner := if d0.lk.master then some d0.linkNode else d0.lk.masterNode
    let (a, d1) := checkPort d0 0 12 owner e rx.a
    let (b, d2) := checkPort d1 1 12 owner e rx.b
    match chooseFrame d2 a b with
    | (none, d3) => linkSettle d3
    | (some (x, portB), d3) =>
      if hdrKind (x.words.headD 0) ≠ 0 then d3
      else linkSettle (takeBeacon (missPort (missPort d3 0 a) 1 b) (x.words.take 11) x.delay portB)

/-! ### Node frames sent (R335, R337, R340, R350, R355) -/

/-- The MCOORD item of a slot that starts now (R350): the latest boundary at least t_BUILD before. -/
def coordItem (d : Dev) : List Word :=
  match d.lk.coords.find? (fun k => decide (k.at_ + 800 ≤ d.clk)) with
  | none => []
  | some k => [mkw [(32, 1), (26, 4)], BitVec.ofNat 36 k.c, sword k.v, BitVec.ofNat 36 k.t, BitVec.ofNat 36 (k.t / two36)]

/-- Whether the node broadcasts its coordinate. -/
def Dev.broadcasts (d : Dev) : Bool :=
  d.variant.full && d.rb pgScribe Reg.scribe.MSRC 28 && decide (1 ≤ d.lk.floor) && (d.sup.ps == .run || d.sup.ps == .idle)

/-- The MCOORD part of a frame of `p` payload words. -/
def coordPart (d : Dev) (p : Nat) : List Word × Dev :=
  if !d.broadcasts then ([], d)
  else if p < 5 then ([], d.incSat pgLink Reg.sxlink.LINKCNT 11 0)
  else (coordItem d, d)

/-- The responses that fit into `room` words, in order, and those that wait. -/
def fitItems : List (List Word) → Nat → List Word × List (List Word)
  | [], _ => ([], [])
  | x :: t, room =>
    if x.length ≤ room then
      let (ws, rest) := fitItems t (room - x.length)
      (x ++ ws, rest)
    else ([], x :: t)

/-- The outstanding request goes out; a request to all nodes ends with that (R352). -/
def requestPart (d : Dev) (room : Nat) : List Word × Dev :=
  match d.lk.rq with
  | some r =>
    if r.sent ∨ room < r.words.length then ([], d)
    else if r.target = 32 then
      (r.words, ((d.setLk { d.lk with rq := none }).wf pgLink Reg.sxlink.RQ_STAT 34 34 1).lkEv 9)
    else (r.words, d.setLk { d.lk with rq := some { r with sent := true } })
  | none => ([], d)

/-- The DIGEST item, in its window of cycles (R355). -/
def digestPart (d : Dev) (room : Nat) : List Word × Dev :=
  let l := d.lk
  match l.digQ with
  | some q =>
    let first := 16 * q + 8 + d.linkNode % 8
    if l.digSent = some q ∨ room < 3 ∨ !d.rb pgNode Reg.sxnode.DTAG 35 ∨ l.cycle < first ∨ 16 * (q + 1) + 8 ≤ l.cycle then ([], d)
    else
      ([mkw [(32, 2), (26, 2), (14, d.rf pgNode Reg.sxnode.GEN 11 0), (6, d.rf pgNode Reg.sxnode.DTAG 7 0)],
        d.rd pgNode Reg.sxnode.DLOC_HI, d.rd pgNode Reg.sxnode.DLOC_LO], d.setLk { l with digSent := some q })
  | none => ([], d)

/-- The items of a frame of `p` payload words, in their order: MCOORD, RRSP, RREQ, DIGEST. -/
def frameItems (d : Dev) (p : Nat) : List Word × Dev :=
  let (c, d1) := coordPart d p
  let (r, rest) := fitItems d1.lk.rsp (p - c.length)
  let d2 := d1.setLk { d1.lk with rsp := rest }
  let (q, d3) := requestPart d2 (p - c.length - r.length)
  let (g, d4) := digestPart d3 (p - c.length - r.length - q.length)
  (c ++ r ++ q ++ g, d4)

/-- A frame leaves in slot `i`, now. -/
def sendFrame (d : Dev) (i : Nat) : Dev :=
  let p := d.slotP i
  let (vote, v) := voteField d
  let (items, d1) := frameItems (d.setLk { d.lk with vote := v }) p
  let h := mkw [(32, 1), (27, d.linkNode), (23, 1), (19, 2), (11, d.schema), (9, vote), (8, bnat d.degraded),
    (7, bnat d.tvalid), (0, items.length)]
  let l := d1.lk
  let first : Bool := l.usedIn != some l.cycle
  let d2 := d1.setLk { l with txFrame := linkWords (h :: padTo p items), used := if first then d.dhat else l.used, usedIn := some l.cycle }
  recordHeader d2 d.linkNode h

/-- Whether the node may transmit in its slots. -/
def Dev.mayTalk (d : Dev) : Bool :=
  d.linkHears && d.linkCounts && !d.lk.muted && !d.lk.dupid && !d.lk.majMis && !d.lk.schmis && decide (d.lk.sphase ≠ .waking)

/-- The start of slot `i`: in the current cycle or, where that has passed, in a follower's next. -/
def Dev.slotStart (d : Dev) (i : Nat) : Int :=
  let t := d.linkAt (d.slotOff i)
  if t < (d.clk : Int) ∧ !d.lk.master then d.linkAt (d.slotOff i + d.cycGck : Nat) else t

/-- NODE_FRAME_SEND, at the start of slot `i`. -/
def nodeFrameSend (d : Dev) (i : Nat) : Dev :=
  let dc := linkCatch d
  let t := dc.slotStart i
  if !dc.linkHears ∨ !dc.linkCounts ∨ dc.nslot ≤ i ∨ dc.slotOwner i ≠ dc.linkNode ∨ t < (dc.clk : Int) then d
  else
    let d0 := linkSettle (muteCheck (linkCatch (dc.advanceTo t.toNat)))
    if d0.mayTalk then linkSettle (sendFrame d0 i) else d0

/-! ### Node frames received (R340, R350 to R352, R355) -/

/-- MCOORD: the coordinate becomes available to the Scribe where it comes from its source (R109, R110). -/
def takeCoord (d : Dev) (m : Nat) (ws : List Word) : Dev :=
  let src := d.rd pgScribe Reg.scribe.MSRC
  if !d.variant.full ∨ d.lk.floor < 1 ∨ fld src 2 0 ≠ 3 ∨ fld src 34 30 ≠ m then d
  else
    let t := (ws.getD 2 0).toNat + (ws.getD 3 0).toNat * two36
    d.setScr { d.scr with mlost := false, broadcast := some ⟨(ws.getD 0 0).toNat, sfld (ws.getD 1 0) 35 0, t, d.lk.cycle⟩ }

/-- How a GEN compares with the node's own (R355): 0 equal, 1 later, 2 earlier, 3 each earlier. -/
def genRel (theirs own : Nat) : Nat :=
  if theirs = own then 0 else if later 12 theirs own then 1 else if later 12 own theirs then 2 else 3

/-- DIGEST (R355). -/
def takeDigest (d : Dev) (m : Nat) (h : Word) (ws : List Word) : Dev :=
  let o := infoOff m
  let hi := ws.getD 0 0
  let lo := ws.getD 1 0
  let d1 := (d.wr pgNode (Reg.sxnode.DIG_LO + 4 * m) lo).wr pgNode (Reg.sxnode.DIG_HI + 4 * m) hi
  let d2 := d1.wr pgNode o (withFields (d1.rd pgNode o) [(31, 30, genRel (fld h 25 14) (d.rf pgNode Reg.sxnode.GEN 11 0)),
    (28, 17, fld h 25 14)])
  let same : Bool := d2.rb pgNode Reg.sxnode.DTAG 35 && d2.rf pgNode Reg.sxnode.DTAG 7 0 == fld h 13 6 && !d2.rb pgNode o 33
  if !same then d2
  else
    let mis : Bool := lo != d2.rd pgNode Reg.sxnode.DLOC_LO || hi != d2.rd pgNode Reg.sxnode.DLOC_HI
    (nodeMask d2 Reg.sxnode.DIGMIS m 0 mis).wf pgNode o 34 34 (bnat mis)

/-- A request is counted as applied or not (R351). -/
def countRequest (d : Dev) (applied : Bool) : Dev :=
  if applied then d.incSat pgLink Reg.sxlink.RACCCNT 23 12 else d.incSat pgLink Reg.sxlink.RACCCNT 11 0

/-- The RRSP item of a request. -/
def rrspItem (m seq count estat : Nat) (data : List Word) : List Word :=
  mkw [(32, 4), (26, data.length), (21, m), (17, seq), (9, estat % 256), (7, count)] :: data

/-- A response waits for a slot. -/
def queueRsp (d : Dev) (item : List Word) : Dev := d.setLk { d.lk with rsp := d.lk.rsp ++ [item] }

/-- RREQ: a request of node `m` (R351), as requester 1. -/
def serveRequest (tele1 tele2 d : Dev) (m : Nat) (h : Word) (ws : List Word) : Dev :=
  let target := fld h 25 20
  let wr : Bool := bit h 19
  let n := fld h 18 17 + 1
  let seq := fld h 16 13
  let all : Bool := target == 32
  let addr := fld (ws.headD 0) 23 0
  let refused := estatOf (List.replicate n stRefused)
  if target ≠ d.linkNode ∧ !all then d
  else if !d.lk.linkup ∨ (!all ∧ 4 ≤ d.lk.rsp.length) then countRequest d false
  else if !d.rb pgLink Reg.sxlink.RACC (bnat wr) then
    let d1 := countRequest d false
    if all then d1
    else queueRsp d1 (rrspItem m seq (n - 1) refused (if wr ∨ d.longestSlot < 1 + n then [] else List.replicate n 0))
  else if !wr ∧ !all ∧ d.longestSlot < 1 + n then
    queueRsp (countRequest d false) (rrspItem m seq (n - 1) refused [])
  else if wr then
    let (ss, _, d1) := applyWrites d 1 ((List.range n).map (fun i => (addr + i, ws.getD (1 + i) 0)))
    if d1.sup.inReset then d1
    else
      let d2 := countRequest d1 true
      if all then d2 else queueRsp d2 (rrspItem m seq (n - 1) (estatOf ss) [])
  else
    let (rs, d1) := readAddrs tele1 tele2 d 1 ((List.range n).map (fun i => addr + i))
    let d2 := countRequest d1 true
    if all then d2 else queueRsp d2 (rrspItem m seq (n - 1) (estatOf (rs.map Prod.fst)) (rs.map Prod.snd))

/-- RRSP: the response to the outstanding request (R352). -/
def takeResponse (d : Dev) (h : Word) (ws : List Word) : Dev :=
  match d.lk.rq with
  | none => d
  | some r =>
    if !r.sent ∨ fld h 25 21 ≠ d.linkNode ∨ fld h 20 17 ≠ r.seq then d
    else
      let d1 := (ws.take 4).zipIdx.foldl (fun d e => d.wr pgLink (Reg.sxlink.RSP_DATA + e.2) e.1) d
      ((d1.wr pgLink Reg.sxlink.RQ_STAT (mkw [(34, 1), (8, fld h 16 9), (0, r.seq)])).setLk { d1.lk with rq := none }).lkEv 9

/-- The items of a frame of node `m`: a word of 0 or an unknown type ends them (R340). -/
def takeItems (tele1 tele2 d : Dev) (m : Nat) : Nat → List Word → Dev
  | 0, _ => d
  | _ + 1, [] => d
  | fuel + 1, h :: t =>
    let len := fld h 31 26
    let data := t.take len
    if d.sup.inReset ∨ t.length < len then d
    else match fld h 35 32 with
      | 1 => takeItems tele1 tele2 (takeCoord d m data) m fuel (t.drop len)
      | 2 => takeItems tele1 tele2 (takeDigest d m h data) m fuel (t.drop len)
      | 3 => takeItems tele1 tele2 (serveRequest tele1 tele2 d m h data) m fuel (t.drop len)
      | 4 => takeItems tele1 tele2 (takeResponse d h data) m fuel (t.drop len)
      | _ => d

/-- The master measures r on each port for a node's first frame of a cycle (R343). -/
def measure (d : Dev) (m slot : Nat) (a b : Option PortRx) : Dev :=
  if !d.lk.master ∨ d.lk.meas.any (fun x => x.node == m) then d
  else
    let e := d.linkAt (d.slotOff slot) + sfdGck
    let r (x : Option PortRx) : Option Int := x.map (fun x => timeOfGck (((d.clk + x.delay : Nat) : Int) - e))
    d.setLk { d.lk with meas := d.lk.meas ++ [⟨m, r a, r b⟩] }

/-- A node heard in cycle C + 8 is not silent (R359). -/
def notSilent (d : Dev) (m : Nat) : Dev :=
  if d.lk.late = some d.lk.cycleAt then d.setLk { d.lk with silent := d.lk.silent &&& (2 ^ 32 - 1 - 2 ^ m) } else d

/-- A valid node frame from node `m` in a slot. -/
def takeFrame (tele1 tele2 d : Dev) (slot m : Nat) (ws : List Word) (a b : Option PortRx) : Dev :=
  let h := ws.headD 0
  let d1 := recordHeader (if m = d.linkNode then dupId d else d) m h
  if hdrMaj h ≠ 1 then d1
  else
    let d2 := takeVote (notSilent (measure (heardNode d1 m) m slot a b) m) m (fld h 10 9)
    takeItems tele1 tele2 d2 m 64 ws.tail

/-- NODE_FRAME_RECEIVED, at the earliest SFD instant. -/
def nodeFrameReceived (tele1 tele2 d : Dev) (slot : Nat) (rx : LinkRx) : Dev :=
  let d0 := linkSettle (muteCheck (linkCatch (d.advance rx.dt)))
  if !d0.linkHears ∨ !d0.linkCounts ∨ d0.nslot ≤ slot then d0
  else
    let owner := d0.slotOwner slot
    let len := d0.slotP slot + 2
    let e := d0.linkAt (d0.slotOff slot) + sfdGck + d0.rxcompGck
    let (a0, d1) := checkPort d0 0 len (some owner) (some e) rx.a
    let (b0, d2) := checkPort d1 1 len (some owner) (some e) rx.b
    let (a, d3) := checkOwner d2 owner a0
    let (b, d4) := checkOwner d3 owner b0
    match chooseFrame d4 a b with
    | (none, d5) => linkSettle d5
    | (some (x, _), d5) =>
      if hdrKind (x.words.headD 0) ≠ 1 then d5
      else
        let d6 := takeFrame tele1 tele2 d5 slot owner (x.words.take (len - 1)) a b
        if d6.sup.inReset then d6 else linkSettle d6

/-! ### What time brings (R345, R348, R352, R354) -/

/-- The link at an instant `dt` from now, with the cycles that have begun. -/
def linkAfter (d : Dev) (dt : Nat) : Dev := linkCatch (d.advance dt)

/-- RQTO: no response within 8 cycles. -/
def requestTimeout (d : Dev) : Dev :=
  match d.lk.rq with
  | none => d
  | some r =>
    if (d.cycleNow + 2 ^ 36 - r.cycle) % 2 ^ 36 < 8 then d
    else ((d.setLk { d.lk with rq := none }).wf pgLink Reg.sxlink.RQ_STAT 33 33 1).lkEv 10

/-- MUTE, and LINKUP as it follows. -/
def linkMute (d : Dev) : Dev := linkSettle (muteCheck d)

/-- NODE_LOST: presence ends with the cycle that makes it 16 without a frame. -/
def nodeLost (d : Dev) : Dev := linkSettle (if d.linkCounts then dropNodes d else d)

/-- DIGEST_READY: the digest of the snapshot (R354). -/
def digestReady (d : Dev) : Dev :=
  match d.lk.snap with
  | none => d
  | some (tag, bytes) =>
    let v := digest72 bytes
    let d1 := (d.wr72 pgNode Reg.sxnode.DLOC_LO v).wr pgNode Reg.sxnode.DTAG (mkw [(35, 1), (0, tag)])
    (d1.setLk { d1.lk with snap := none, digQ := some d1.lk.snapQ }).ev pgNode 3

/-! ### Sleep and wake (R357, R358) -/

/-- Whether a vote's outcome is that the node sleeps. -/
def Dev.votesSleep (d : Dev) (v : Vote) : Bool :=
  if d.lk.master then v.heard == some 2 && !v.abort && !(v.cancel && (v.cancelAt + 1) % 2 ^ 36 == (v.c + 8) % 2 ^ 36)
  else match v.heard with
    | some 2 => !d.ownSlots.isEmpty || d.canSleep
    | some _ => false
    | none => v.own == 1

/-- The end of the beacon window of cycle C + 8, where it lies in this cycle or the next. -/
def Dev.sleepAt (d : Dev) (v : Vote) : Option Int :=
  let k := (v.c + 8 + 2 ^ 36 - d.lk.cycle) % 2 ^ 36
  if k ≤ 1 then some (d.linkAt (k * d.cycGck + 9840 : Nat)) else none

/-- The link sleeps now: the node enters the power state of SLEEP.PSTATE, or that is refused (R358, R400). -/
def fallAsleep (d : Dev) : Dev :=
  let l := d.lk
  let d1 := linkSettle (d.setLk { l with sphase := .asleep, sleptAt := d.clk, heard := none, sentAt := none, ratio := none,
                                         since := 0, run := 0, vote := none, late := none, patternAt := none })
  let ps := d1.rf pgLink Reg.sxlink.SLEEP 9 8
  if ps = 0 then d1
  else
    let c := psCause d1 (ps + 1)
    if c = 0 then psRequest d1 (ps + 1) else psRefused d1 c

/-- LINK_SLEEP. -/
def linkSleep (d : Dev) : Dev :=
  let dc := linkCatch d
  if !dc.linkHears ∨ !dc.linkCounts then d
  else match dc.lk.vote with
    | none => d
    | some v =>
      match dc.sleepAt v with
      | none => d
      | some t =>
        let d0 := linkCatch (dc.advanceTo t.toNat)
        match d0.lk.vote with
        | some v1 => if d0.votesSleep v1 then fallAsleep d0 else linkSettle (voteExpire d0 (v1.c + 9))
        | none => d0

/-- WAKE_PATTERN_SEND: t_WDWELL after sleep entry, and again t_WBEAC after a pattern that brought no link up. -/
def patternSend (d : Dev) : Dev :=
  let l := d.lk
  let due : Bool := match l.patternAt with
    | some t => decide (t + 4000000 ≤ d.clk)
    | none => decide (l.sleptAt + 400000 ≤ d.clk)
  if !d.linkOn ∨ !l.wpend ∨ !due ∨ (l.sphase ≠ .asleep ∧ l.sphase ≠ .waking) ∨ d.sup.ps = .retain then d else drivePattern d

/-- WAKE_PATTERN_DETECT (R358, R405): a node in STANDBY or RETAIN has a wake source. -/
def patternDetect (d : Dev) : Dev :=
  if !d.linkOn ∨ d.lk.sphase ≠ .asleep then d
  else
    let d1 := (d.setLk { d.lk with sphase := .waking, heard := none, waitFrom := d.clk }).lkEv 8
    if d1.rb pgSupv Reg.supv.WAKECFG 1 ∧ (d1.sup.ps = .standby ∨ d1.sup.ps = .retain ∨ d1.sup.target.isSome) then
      d1.setSup { d1.sup with wakes := d1.sup.wakes ||| 2 }
    else d1

end Sys2Proof.Machine
end

