-- ==== Sys2Proof/Machine/Boundary.lean ====
section
/-!
DEFINITION. The tick (R24 to R30): the token, the boundary with its fixed order of events, what falls due between
boundaries, and the checkpoint that a boundary begins.
-/
namespace Sys2Proof.Machine

/-! ### Rests that run out (R78, R90, R131, R151, R250)

A count that runs out in a tick ends with a command of its own. Until that command the count stands at its last tick and
a bit of `Dev.due` says so; the next boundary takes every end that no command has taken. -/

def restQueue : Nat := 0
def restTurn : Nat := 1
def restStroke : Nat := 2
def restRetry : Nat := 3
def restStill : Nat := 4

def Dev.restDue (d : Dev) (n i : Nat) : Bool := (d.due.get n 0).testBit i
def Dev.setRest (d : Dev) (n i : Nat) (v : Bool) : Dev := { d with due := d.due.set n (maskSet (d.due.get n 0) i v) 0 }

/-- The DWELL of a completed queue entry ends (R90). -/
def queueDwellOver (d : Dev) (n : Nat) : Dev :=
  if d.restDue n restQueue then (d.setQueue n { d.queue n with dwell := some 0 }).setRest n restQueue false else d

/-- The count after a braking stop ends (R78). -/
def turnOver (d : Dev) (n : Nat) : Dev :=
  if d.restDue n restTurn then
    let p := d.plan n
    (d.setPlan n { p with mot := { p.mot with rwait := 0 } }).setRest n restTurn false
  else d

/-- The dwell after a stroke move ends (R131). -/
def strokeDwellOver (d : Dev) (n : Nat) : Dev :=
  if d.restDue n restStroke then
    let q := d.queue n
    (d.setQueue n { q with stroke := q.stroke.map (fun s => { s with dwell := some 0 }) }).setRest n restStroke false
  else d

/-- The rest of a retry ends, and the slow limit begins (R250). -/
def retryOver (d : Dev) (n : Nat) : Dev :=
  if d.restDue n restRetry then
    (d.setOb n { d.ob n with rdwell := none, slow := true }).setRest n restRetry false
  else d

/-- The still count has passed DELAY: the base amplitude begins to move (R151). -/
def stillOver (d : Dev) (n : Nat) : Dev :=
  if d.restDue n restStill then
    let ga := d.ga n
    let st := d.rd (pgAxis n) Reg.axis.STILL
    let ihold := d.rf (pgAxis n) Reg.axis.IHOLD 11 0
    let base := baseStep ga.base ga.still (fld st 31 16) (fld st 11 0) ihold
    (d.setGa n { ga with base := base, ampSrc := if base = ihold then 2 else 1 }).setRest n restStill false
  else d

/-- Every end that no command has taken. -/
def restsOver (d : Dev) : Dev :=
  d.due.foldl (fun d e =>
    stillOver (retryOver (strokeDwellOver (turnOver (queueDwellOver d e.1) e.1) e.1) e.1) e.1) d

/-- A tick has brought counts of axis `n` to their end. -/
def markRests (before d : Dev) (n : Nat) : Dev :=
  let q := d.queue n
  let d1 := if q.dwell = some 0 then (d.setQueue n { q with dwell := some 1 }).setRest n restQueue true else d
  let q1 := d1.queue n
  let d2 := match q1.stroke with
    | some s => if s.dwell = some 0 then
        (d1.setQueue n { q1 with stroke := some { s with dwell := some 1 } }).setRest n restStroke true
      else d1
    | none => d1
  let p := d2.plan n
  let d3 := if (before.plan n).mot.rwait = 1 ∧ p.mot.rwait = 0 ∧ p.mot.v = 0 then
      (d2.setPlan n { p with mot := { p.mot with rwait := 1 } }).setRest n restTurn true
    else d2
  let o := d3.ob n
  if (before.ob n).rdwell.isSome ∧ o.rdwell.isNone ∧ o.retrying then
    (d3.setOb n { o with rdwell := some 1, slow := false }).setRest n restRetry true
  else d3

/-! ### Tokens (R24, R25) -/

/-- The number of the next boundary (R315). -/
def Dev.nextTick (d : Dev) : Nat := if d.tb.started then (d.tk + 1) % two36 else 0

/-- The low 8 bits of the boundary number that a grove counts next. -/
def Dev.groveTag (d : Dev) (g : Nat) : Nat := if d.tb.started then ((d.grove g).tick + 1) % 256 else 0

/-- The token of the next boundary, t_TOKLEAD before it. The groves in `lost` receive none; a token whose tag does not
match the grove's own count is discarded (R25), and a grove in HOLD ignores it (R210). -/
def sendToken (d : Dev) (lost : Nat) : Dev :=
  d.eachGrove (fun d g =>
    if lost.testBit g ∨ (d.grove g).held.isSome ∨ d.nextTick % 256 ≠ d.groveTag g then d
    else d.setGrove g { d.grove g with token := true })

/-- A grove that has stepped on its own count raises TOKEN_LATE at its locally counted boundary (R25, R318). -/
def tokenLate (d : Dev) (g : Nat) : Dev :=
  let gr := d.grove g
  if gr.ownStep then
    let d1 := d.advanceTo gr.lastB
    (d1.setGrove g { d1.grove g with ownStep := false }).ev (pgFire g) 3
  else d

/-- Whether a ramp-first cause of a grove has been taken. -/
def Dev.hasCause (d : Dev) (g c : Nat) : Bool := (d.grove g).causes.testBit c

/-- Tokens have been missing for 8 consecutive boundaries (R25). -/
def tokenLoss (d : Dev) (g : Nat) : Dev :=
  if 8 ≤ (d.grove g).missing ∧ !d.hasCause g 7 then rampRequest d g 7 else d

/-! ### The end of a ramp (R201) -/

/-- The ramp engine has brought every axis to rest: the trip latches. -/
def rampComplete (d : Dev) (g : Nat) : Dev :=
  match (d.grove g).ramp with
  | some r => if r.took ∧ r.trips ∧ r.done then rampTrip d g else d
  | none => d

/-- RAMPMAX ticks have passed: the trip latches and RAMPTO sets. -/
def rampExpire (d : Dev) (g : Nat) : Dev :=
  match (d.grove g).ramp with
  | some r =>
    if r.took ∧ r.trips ∧ !r.done ∧ d.rf (pgFire g) Reg.firebrk.RAMPMAX 15 0 ≤ r.ticks ∧ !(d.grove g).tripped then
      (rampTrip d g).ev (pgFire g) 2
    else d
  | none => d

/-! ### Checkpoints (R265 to R268, R277, R423) -/

/-- Records of axes that no Quill computes (R280): the position at which the ramp engine holds the axis, at rest. -/
def heldRecords (d : Dev) : Dev :=
  d.eachAxis (fun d n =>
    if !d.computed n ∧ d.rampHolds n then
      let p := d.plan n
      d.setPlan n { p with mot := { p.mot with p := (d.ga n).rp, v := 0 } }
    else d)

/-- What happens at a checkpoint boundary after its snapshot: records and signatures, the journal's snapshot, and a
pending change of mode. -/
def checkpointAct (d : Dev) : Dev :=
  if d.tw.ckFlag then modeAtCheckpoint (periodicSnapshot (checkpoint (heldRecords d))) else d

/-- The checkpoint being written commits (R268). -/
def commitNow (d : Dev) : Dev :=
  match d.tw.writing with
  | some w => if w.agree then commit d w else d.setTw { d.tw with writing := none }
  | none => d

/-- A checkpoint that no command has committed by t_CKCOM commits then. -/
def commitLate (d : Dev) : Dev :=
  match d.tw.writing with
  | some w => if w.tick + 2 ≤ d.nextTick then commitNow d else d
  | none => d

/-! ### What falls due before a boundary -/

/-- Everything that lies before the coming boundary and that no command has taken. -/
def dueBefore (d : Dev) : Dev :=
  let d1 := restsOver (checkpointAct d)
  commitLate (d1.eachGrove (fun d g => tokenLoss (tokenLate (rampExpire (rampComplete d g) g) g) g))

/-- Whether some axis of grove `g` must ask for the ramp (R273). -/
def Dev.groveOverrun (d : Dev) (g : Nat) : Bool := (groveAxes g).any d.overrun

/-- R273 for one grove, t_HAND before the boundary. -/
def overrunCheck (d : Dev) (g : Nat) : Dev := if d.groveOverrun g then overrunTrip d g else d

/-- TWIN's verdict for the coming interval, with the copies that are missing by then (R263, R264). -/
def verdictAct (d : Dev) : Dev := if d.tb.started then twinVerdict (missingWords d) else d

/-- t_HAND before the boundary: the verdict, if none has been sent, and extrapolation overruns. -/
def handDeadline (d : Dev) : Dev :=
  let d1 := d.advanceTo (d.boundaryClk - 64)
  let d2 := if d1.tw.verdict.isNone then verdictAct d1 else d1
  d2.eachGrove overrunCheck

/-! ### Step 1 and 2: strobes and group 31 (R26, R27, R58 to R60) -/

/-- Captured shadows in the order of their writes. -/
def insertSeq (c : Captured) : List Captured → List Captured
  | [] => [c]
  | x :: t => if c.seq < x.seq then c :: x :: t else x :: insertSeq c t

def sortSeq (l : List Captured) : List Captured := l.foldl (fun acc c => insertSeq c acc) []

/-- Of several captures of one register the last written (R27). -/
def lastWritten : List Captured → List Captured
  | [] => []
  | c :: t => if t.any (fun x => x.key == c.key) then lastWritten t else c :: lastWritten t

/-- t_STB in gck, rounded up to a whole gck. -/
def tStb : Nat := 173

/-- The shadows that apply at this boundary: those of the strobes that arrived at least t_STB before, and those of
group 31. -/
def Dev.applying (d : Dev) : List Captured :=
  let due := d.strobes.filter (fun s => decide (s.at_ + tStb ≤ d.clk))
  let free := d.shadow.filter (fun e => d.group (e.1 / 1024) == 31 && decide (e.2.at_ + tStb ≤ d.clk))
  lastWritten (sortSeq (due.flatMap Strobe.captured ++ free.map (fun e => ⟨e.1, e.2.seq, e.2.val⟩)))

/-- The applied values are no longer pending, in any shadow or strobe. -/
def dropApplied (d : Dev) (cs : List Captured) : Dev :=
  let used (key seq : Nat) : Bool := cs.any (fun c => c.key == key && decide (seq ≤ c.seq))
  { d with shadow := d.shadow.filter (fun e => !used e.1 e.2.seq),
           strobes := (d.strobes.filter (fun s => decide (d.clk < s.at_ + tStb))).map (fun s =>
             { s with captured := s.captured.filter (fun c => !used c.key c.seq) }) }

/-- The value that a set gives a register, or the one in effect. -/
def setValue (d : Dev) (p : Nat) (cs : List Captured) (off : Nat) : Word :=
  match cs.find? (fun c => c.key == key p off) with
  | some c => c.val
  | none => d.rd p off

/-- The partition check at a boundary (R44, R470): the set applies whole or is discarded whole. -/
def applyPart (d : Dev) (cs : List Captured) : Dev :=
  if cs.isEmpty then d
  else
    let set := (List.range 6).map (fun i => partOf (setValue d pgCanopy cs (Reg.canopy.PART + i)))
    let (res, region) := partCheck d set
    if res = 0 then partChanged (cs.foldl (fun d c => d.wr pgCanopy (c.key % 1024) c.val) d) else partDone d res region

/-- TPER and TGRID at a boundary (R317). -/
def applyTime (d : Dev) (cs : List Captured) : Dev :=
  cs.foldl (fun d c =>
    let off := c.key % 1024
    if off = Reg.time.TPER then
      if d.dataIdle then
        let d1 := d.wr pgTime off c.val
        d1.setTb { d1.tb with tperAt := some 0 }
      else d.ev pgTime 7
    else
      let d1 := d.wr pgTime off c.val
      d1.setTb { d1.tb with tgridAt := some 0 }) d

/-- TPER and TGRID values whose boundary this is go to the grid; answers whether one applied. -/
def takeGrid (d : Dev) : Bool × Dev :=
  let tb := d.tb
  let isDue (o : Option Nat) : Bool := match o with
    | some t => t == 0 || decide (t + tStb ≤ d.clk)
    | none => false
  let a := isDue tb.tperAt
  let b := isDue tb.tgridAt
  let tb1 := if a then { tb with tper := d.rf pgTime Reg.time.TPER 16 0, tperAt := none } else tb
  let tb2 := if b then { tb1 with tgrid := d.rd72 pgTime Reg.time.TGRID_LO, tgridAt := none } else tb1
  (a || b, d.setTb tb2)

/-- A schedule set at a boundary (R336): checked as one with what already waits; valid, it waits for a cycle start. -/
def applyNewSched (d : Dev) (cs : List Captured) : Dev :=
  if cs.isEmpty then d
  else
    let waits := d.lk.sched.getD []
    let new := cs.foldl (fun (t : Tab Word) c => t.put (c.key % 1024) c.val) waits
    let val (off : Nat) : Word := new.get off (d.rd pgSched off)
    let cyc := fld (val Reg.sxsched.CYC) 11 0
    let ns := fld (val Reg.sxsched.NSLOT) 5 0
    let len (i : Nat) : Nat := fld (val (Reg.sxsched.SLOT + i)) 4 0
    let res := schedResult cyc ns len
    let d1 := (d.wf pgSched Reg.sxsched.STAT 19 16 res).wf pgSched Reg.sxsched.STAT 15 0 (schedUsed (min ns 32) len)
    if res = 0 then d1.setLk { d1.lk with sched := some new } else d1.ev pgSched 1

/-- Steps 1 and 2 of R26. -/
def strobesApply (d : Dev) : Dev :=
  let some_ := d.strobes.any (fun s => decide (s.at_ + tStb ≤ d.clk))
  let cs := d.applying
  let d1 := dropApplied d cs
  let d2 := if some_ then d1.ev pgCanopy 0 else d1
  let of (p : Nat) := cs.filter (fun c => c.key / 1024 == p)
  let rest := cs.filter (fun c => c.key / 1024 != pgCanopy && c.key / 1024 != pgTime && c.key / 1024 != pgSched)
  let d3 := applyNewSched (applyTime (applyPart d2 (of pgCanopy)) (of pgTime)) (of pgSched)
  let d4 := rest.foldl (fun d c => takeEffect d (c.key / 1024) (c.key % 1024) c.val) d3
  match d4.scr.msetAt with
  | some t => if t + tStb ≤ d4.clk then d4.setScr { d4.scr with msetAt := none, msetNow := true } else d4
  | none => d4

/-- The boundary is placed, with a new period or grid where one applies (R316, R317, R325). The first boundary has
number 0 (R315). -/
def placeBoundary (d : Dev) : Dev :=
  let (grid, d1) := takeGrid d
  let d2 := placeNext { d1 with tk := d1.nextTick } grid
  d2.setTb { d2.tb with started := true, lastB := d2.clk }

/-! ### Step 3: the groves' intervals (R30, R145, R207, R208, R263, R271 to R273) -/

/-- Whether some Quill plans axis `n`: it computes it, or replays it in a takeover (R280). -/
def Dev.planned (d : Dev) (n : Nat) : Bool :=
  d.computed n || (match d.tw.takeover with
    | some (q, _) => computes d.variant d.tw.mode q (n / 16) && d.quillRuns (1 - q)
    | none => false)

/-- The word that the Quills computed for axis `n`, as a grove holds it. -/
def Dev.ownWord (d : Dev) (n : Nat) : GWord :=
  let l := (d.plan n).lanes
  ⟨l.pos, l.posf, l.vel, l.cur⟩

/-- The words of axis `n` move on: what was executed is XACT and VACT's word (R469), nothing is accepted yet. -/
def shiftWords (ga : GAxis) : GAxis :=
  { ga with xact := ga.rp, vact := ga.w1.vel, w0 := ga.w1, accepted := none, refused := false,
            copyA := none, copyB := none }

/-- The interval's word is `w`, whose end state is (rp, rv); `own` says that the Quills computed it so. -/
def beginWord (d : Dev) (n : Nat) (w : GWord) (rp : Nat) (rv : Int) (extraN : Nat) (own : Bool) : Dev :=
  let d1 := d.setGa n { shiftWords (d.ga n) with w1 := w, rp := rp, rv := rv, extraN := extraN }
  d1.setOb n { d1.ob n with velHist := ((d.tk % 256, w.vel, own) :: (d1.ob n).velHist).take 4 }

/-- R272: the Quills take over the end state of a word other than theirs. -/
def adopt (d : Dev) (n : Nat) : Dev :=
  if d.planned n ∧ d.sup.ps = .run then
    let p := d.plan n
    d.setPlan n { p with mot := { p.mot with p := (d.ga n).rp, v := (d.ga n).rv } }
  else d

/-- The state from which extrapolation or the ramp engine goes on. -/
def GAxis.tail (ga : GAxis) (ramped : Bool) : Nat × Int := if ga.extraN = 0 ∧ !ramped then endState ga.w1 else (ga.rp, ga.rv)

/-- One interval of axis `n` under the ramp engine (R207). -/
def rampWord (d : Dev) (n : Nat) (ramped : Bool) : Dev :=
  let (sp, sv) := (d.ga n).tail ramped
  let (rp, rv) := rampStep sp sv (d.rdec n)
  beginWord d n (wordOf rp rv 4095) rp rv 0 false

/-- One extrapolated interval of axis `n` (R271). -/
def extraWord (d : Dev) (n : Nat) (ramped : Bool) : Dev :=
  let ga := d.ga n
  let (sp, sv) := ga.tail ramped
  let rp := addP sp sv
  adopt (beginWord d n (wordOf rp sv ga.w1.esc) rp sv (ga.extraN + 1) false) n

/-- One interval of axis `n` with an accepted word. -/
def quillWord (d : Dev) (n : Nat) (w : GWord) : Dev :=
  if w = d.ownWord n then beginWord d n w (d.plan n).endP (endState w).2 0 true
  else adopt (beginWord d n w (endState w).1 (endState w).2 0 false) n

/-- How a word of the coming interval fell out: 0 accepted, 1 refused or discarded, 2 late or missing (R30, R263). -/
def wordFate (ga : GAxis) (agree : Bool) : Nat :=
  if ga.accepted.isSome ∧ agree then 0
  else if ga.accepted.isSome ∨ ga.refused ∨ ga.copyA.isSome ∨ ga.copyB.isSome then 1 else 2

/-- A counter field that saturates, advanced by `n`. -/
def Dev.addSat (d : Dev) (p off hi lo n : Nat) : Dev := d.wf p off hi lo (min (2 ^ (hi - lo + 1) - 1) (d.rf p off hi lo + n))

/-- GROVE.PAGE_STAT.LATE and REFUSED (R30). -/
def countWords (d : Dev) (g refused late : Nat) : Dev :=
  if refused = 0 ∧ late = 0 then d
  else
    let p := pgGrove g
    ((d.addSat p Reg.PAGE_STAT 23 12 refused).addSat p Reg.PAGE_STAT 35 24 late).ev p 0

/-- The ramp engine of a grove at a boundary: it takes the grove t_HAND after its request (R207), and yields at the first
accepted Quill word (R208). -/
def rampNow (gr : Grove) (clk : Nat) (accepted : Bool) : Option Ramp :=
  match gr.ramp with
  | none => none
  | some r =>
    if r.took ∧ r.yields ∧ accepted then none
    else if r.took then some { r with ticks := r.ticks + 1 }
    else if r.asked + 64 ≤ clk then some { r with took := true, ticks := 0 }
    else some r

/-- Whether the ramp engine supplies the words. -/
def rampTook (r : Option Ramp) : Bool := match r with
  | some r => r.took
  | none => false

/-- The interval of grove `g` begins. `agree`: the words it accepted are executed. -/
def groveWords (d : Dev) (g : Nat) (agree : Bool) : Dev :=
  let gr := d.grove g
  let axes := groveAxes g
  let got := agree && axes.any (fun n => (d.ga n).accepted.isSome)
  let was := rampTook gr.ramp
  let ramp := rampNow gr d.clk got
  if rampTook ramp then
    let d1 := axes.foldl (fun d n => rampWord d n was) d
    let done := axes.all (fun n => (d1.ga n).rv == 0)
    d1.setGrove g { gr with ramp := ramp.map (fun r => { r with done := done }), extrap := false }
  else
    let fates := axes.map (fun n => wordFate (d.ga n) agree)
    let d1 := axes.foldl (fun d n =>
      match (d.ga n).accepted with
      | some w => if agree then quillWord d n w else extraWord d n was
      | none => extraWord d n was) d
    let d2 := d1.setGrove g { gr with ramp := ramp, extrap := fates.any (fun f => f != 0) }
    countWords d2 g (fates.filter (· == 1)).length (fates.filter (· == 2)).length

/-- R151 at a boundary, up to the end of the still delay, which is an event of its own. -/
def baseBoundary (d : Dev) (n : Nat) : Dev :=
  let was := d.ga n
  let d1 := baseUpdate d n
  let now := d1.ga n
  let delay := d.rf (pgAxis n) Reg.axis.STILL 31 16
  if was.still ≤ delay ∧ delay < now.still ∧ !d.holdForced (n / 16) then
    (d1.setGa n { now with base := was.base, ampSrc := 0 }).setRest n restStill true
  else d1

/-- Step 3 of R26 for one grove. Without a token it steps on its own count (R25, R318). -/
def groveBegin (d : Dev) (g : Nat) (first : Bool) : Dev :=
  let gr := d.grove g
  if gr.held.isSome then d
  else
    let p := pgGrove g
    let tper := d.rf p Reg.grove.TPER 16 0
    let agree := gr.token && d.tw.verdict != some false
    let d1 := if first then d else groveWords d g agree
    let d2 := d1.setGrove g { d1.grove g with
      tick := d.tk % 256, token := false, ownStep := !gr.token, missing := if gr.token then 0 else gr.missing + 1,
      lastB := if gr.token then d.clk else gr.lastB + tper + (tper + 2047) / 2048 }
    let d3 := (groveAxes g).foldl baseBoundary (d2.wf p Reg.grove.TPER 16 0 d.tb.tper)
    tickTrigger d3 g

/-! ### Step 4: the snapshot (R26, R98) -/

/-- R426: positions restored from the journal, as XSET does. -/
def journalPlace (d : Dev) : Dev :=
  d.jr.restore.foldl (fun d e =>
    let (n, pos, trust) := e
    let p := d.plan n
    let d1 := (d.setPlan n { p with mot := { p.mot with p := pos * two32, v := 0 } }).wr (pgAxis n) Reg.axis.XTGT (BitVec.ofNat 36 pos)
    if trust then d1.setOb n { d1.ob n with trust := true } else d1) (d.setJr { d.jr with restore := [] })

/-- Over the axes that the Quills plan. -/
def Dev.eachPlanned (d : Dev) (f : Dev → Nat → Dev) : Dev := d.eachAxis (fun d n => if d.planned n then f d n else d)

/-- Items 1 to 4 of R98. -/
def snapInputs (d : Dev) (n : Nat) : Dev := snapRankSel (snapXtgt (snapXset (snapMode d n) n) n) n

/-- Item 5 of R98: strokes, and the override pointers that step as a move starts (R197). -/
def snapStrokes (d : Dev) (n : Nat) : Dev :=
  let d1 := snapStroke d n
  let starts : Bool := match (d1.queue n).stroke with
    | some s => s.fresh && s.dwell.isNone
    | none => false
  if starts ∧ d1.rb (pgOvrd (n / 16)) (Reg.ovrd.MCFG + n % 16) 5 then ptrStep d1 (n / 16) (n % 16) 1 else d1

/-- Item 6 of R98, with the observer's samples before it (R243) and the trip (R206), then the queue and the follow
accumulators. -/
def snapRest (d : Dev) (n : Nat) : Dev :=
  let d1 := snapQueue (snapStop (snapTrip (snapObserver d n) n) n) n
  d1.setPlan n (follow d1 n (d1.plan n))

/-- The Quills' snapshot. -/
def snapshotAxes (d : Dev) : Dev :=
  let d1 := (journalPlace d).eachPlanned snapInputs
  ((takeFirings d1).eachPlanned snapStrokes).eachPlanned snapRest

/-! ### The planners' mode at a boundary (R264, R266, R274, R277 to R280) -/

/-- A recovery ends at boundary m + 1 (R274, step 6); an escalation's replay ends there without it. -/
def recoveryEnd (d : Dev) : Bool × Dev :=
  match d.tw.recov with
  | some r =>
    if d.tk ≤ r.m then (false, d)
    else
      let d1 := d.setTw { d.tw with recov := none }
      if r.quiet then (false, d1)
      else (true, ((d1.incSat pgTwin Reg.twin.DCNT 23 12).wf pgTwin Reg.twin.RLAST 7 0 (r.m - r.k)).twEv 1)
  | none => (false, d)

/-- The changes of a boundary to pairing and recovery, and whether it is a checkpoint boundary. -/
def twinBoundary (d : Dev) : Dev :=
  let (resumed, d1) := recoveryEnd d
  let d2 := takeoverEnd (joinStep (resumesDue (haltsDue d1)))
  let d3 := loadImage d2
  if d3.isCheckpoint resumed then
    d3.setTw { d3.tw with ckFlag := true, ckLast := some d3.tk, ckNow := none, ckEarly := false }
  else d3

/-! ### Step 7 -/

/-- PLANx.TICKS, USE and PEAK of Quill `q`: pck spent, a free value of at most one tick (R31). -/
def quillUse (d : Dev) (q : Nat) : Dev :=
  if !d.quillRuns q then d
  else
    let p := if q = 0 then pgPlanA else pgPlanB
    let (i, d1) := d.draw
    let use := Config.freeNat i % (d.tb.tper * 5 / 4 + 1)
    ((d1.incWrap p Reg.plan.TICKS 35 0 1).wf p Reg.plan.USE 19 0 use).wf p Reg.plan.PEAK 19 0
      (max use (d1.rf p Reg.plan.PEAK 19 0))

/-- The tick of one axis, with the counts that it brings to their end. -/
def tickAxis (d : Dev) (n : Nat) : Dev := markRests d (axisTick d n) n

/-- The Quills compute the words of the next interval; `ue` lists the state records met with an uncorrectable error. -/
def compute (d : Dev) (ue : List (Nat × Nat)) : Dev :=
  let d1 := (d.each 32 rankTick).eachPlanned tickAxis
  (quillUse (quillUse (ue.foldl (fun d e => stateError d e.1 e.2) d1) 0) 1)

/-! ### The boundary -/

/-- The Scribe's remaining fetches of the tick that ends (R118), at most its budget. -/
def fetchRest (d : Dev) : Nat → Dev
  | 0 => d
  | k + 1 =>
    let d1 := fetchPoint d d.tb.tper
    if d1.scr.fetched = d.scr.fetched then d1 else fetchRest d1 k

/-- The values of R109 at a boundary, for a broadcast (R350); the latest 16 boundaries are kept. -/
def keepCoord (d : Dev) : Dev :=
  let v := rhe (d.scr.mvel * 400000) (max 1 d.tb.tper : Nat)
  d.setLk { d.lk with coords := (⟨d.clk, d.scr.c, v, d.tb.now⟩ :: d.lk.coords).take 16 }

/-- Steps 4 to 6 of R26 for the Quills; in IDLE they are clock-gated (R401). -/
def quillBoundary (d : Dev) : Dev :=
  if d.sup.ps = .run then
    let d1 := snapshotAxes d
    let d2 := twinBoundary d1
    if d2.quillRuns 0 ∨ d2.quillRuns 1 then writeLog d2 else d2
  else d.setTw { d.tw with ckLast := d.tw.ckLast.map (· + 1) }

/-- GATHER_T's capture boundary (R303): its elements read as of this boundary. `sample` holds the telemetry of this
boundary and the values after steps 1 to 4. -/
def gatherCapture (sample d : Dev) : Dev :=
  match d.hp.capture with
  | some c =>
    if c.taken.isSome ∨ d.clk < c.at_ + tStb then d
    else if (match d.hp.reply with | some r => r.wait.isSome | none => false) then
      let vals := (readAddrs sample sample sample 0 c.addrs).1
      let d1 := (readAddrs sample sample d 0 c.addrs).2
      d1.setHp { d1.hp with capture := some { c with taken := some vals } }
    else d.setHp { d.hp with capture := none }
  | none => d

/-- Up to the boundary: what falls due, the Scribe's tick, and the carriers. -/
def toBoundary (d : Dev) : Dev :=
  let d1 := handDeadline (dueBefore d)
  let d2 := d1.advanceTo d1.boundaryClk
  let d3 := scribeEvaluate (fetchRest d2 (fetchBudget d2.tb.tper))
  (d3.note).eachGrove (fun d g => carTo d g (d.clk - 1))

/-- Steps 1 to 4 of R26, with what the other units do at a boundary. -/
def boundarySteps (d : Dev) : Dev :=
  let rose := d.rose
  let first := !d.tb.started
  let d1 := placeBoundary (strobesApply { d with rose := [] })
  let d2 := d1.eachGrove (fun d g => groveBegin d g first)
  let d3 := d2.setTw { d2.tw with verdict := none }
  let d4 := shedHalt (viewLevels (scribeBoundary (latchInputs d3) d3.tb.now d3.tb.tper d3.cycleNow))
  blotBoundary (keepCoord (quillBoundary d4)) rose

/-- TICK_BOUNDARY: the device after the boundary, and its sample. The boundary's number is settled as it is reached
(R315). -/
def tickBoundary (d : Dev) (ue : List (Nat × Nat)) : Dev × Dev :=
  let n := d.nextTick
  let d1 := boundarySteps (toBoundary d)
  let d2 := if d1.sup.ps = .run then compute d1 ue else d1
  let sample := { d1 with plans := d2.plans, tk := n }
  ({ gatherCapture sample d2 with tk := n }, sample)

/-- The balls of a grove's legs, in the canonical form of a table. -/
def groveBalls (d : Dev) (g : Nat) : Tab Nat :=
  ((List.range 64).map (fun k => (64 * g + k, ballOf d g k))).filter (fun e => e.2 != 0)

/-- The levels of every gate ball. -/
def ballsOf (d : Dev) : Tab Nat := (List.range 8).flatMap (groveBalls d)

/-- Causes that a step itself found trip at once (R185, R194). -/
def settle (d : Dev) : Dev := d.eachGrove fireDue

/-- The state after a command whose effect on the device is `f`: the samples of the last boundaries do not outlive a
reset, and the balls follow the device. -/
def State.after (s : State) (d : Dev) : State :=
  let d1 := settle d
  { s with dev := d1, tele1 := if d1.sup.inReset then d1 else s.tele1, tele2 := if d1.sup.inReset then d1 else s.tele2,
           balls := ballsOf d1 }

/-- The state after a boundary: `sample` is the boundary's own, and the one before it is kept (R66). -/
def State.afterTick (s : State) (d sample : Dev) : State := { s.after d with tele1 := sample, tele2 := s.tele1 }

/-- A command that acts while the die is not held in reset (R389). -/
def State.run (s : State) (f : Dev → Dev) : State := if s.dev.sup.inReset then s else s.after (f s.dev)

end Sys2Proof.Machine
end

