-- ==== Sys2Proof/Machine/Loader.lean ====
section
/-!
DEFINITION. The loader (R411 to R418, R426): discovery, directory, slot selection, the image's records as requester 3,
and the journal restore.
-/
namespace Sys2Proof.Machine

/-- BOOT.RESULT takes a value. -/
def bootResult (d : Dev) (r : Nat) : Dev := d.xw Reg.xmem.BOOT 18 16 r

/-- One write of the loader (R418, step 2): a refused write is recorded and counts in BOOT.REFCNT. -/
def loaderWrite (d : Dev) (a : Nat) (w : Word) : Dev :=
  let r := writeAddr d 3 a w
  let d1 := records r.dev 3 r.notes
  if r.st = stRefused then d1.incSat pgXmem Reg.xmem.BOOT 15 0 else d1

/-- A WRITE record. -/
def loaderWrites (d : Dev) (a : Nat) : List Word → Dev
  | [] => d
  | w :: t => loaderWrites (loaderWrite d a w) (a + 1) t

/-- A FILL record. -/
def loaderFill (d : Dev) (a : Nat) (w : Word) : Nat → Dev
  | 0 => d
  | n + 1 => loaderFill (loaderWrite d a w) (a + 1) w n

/-- The records of an image from word `i` on, as R415 walks them; a soft reset ends them. -/
def loaderRecords (d : Dev) (ws : List Word) : Nat → Nat → Dev
  | 0, _ => d
  | fuel + 1, i =>
    if d.sup.inReset then d
    else
      let h := ws.getD i 0
      let count := fld h 31 24
      let addr := fld h 23 0
      match fld h 35 32 with
      | 1 => loaderRecords (loaderWrites d addr ((ws.drop (i + 1)).take count)) ws fuel (i + 1 + count)
      | 2 => loaderRecords (loaderFill d addr (ws.getD (i + 1) 0) (fld (ws.getD (i + 2) 0) 22 0)) ws fuel (i + 3)
      | _ => d

/-- The words of the image that begins at sector `s`, as its bytes carry them. -/
def imageWords (f : Flash) (s len : Nat) : List Word := (List.range len).map (fun i => f.raw (flashSeq s i))

/-- Steps 1 to 3 of R418 for a selected slot. -/
def loadSlot (d : Dev) (slot : Nat) : Dev :=
  let s := d.slotSect slot
  let len := (d.fl.raw (flashSeq s 2)).toNat
  let ws := imageWords d.fl s len
  let w1 := ws.getD 1 0
  let d1 := (d.xw Reg.xmem.BOOT 35 24 (fld w1 35 24)).xw Reg.xmem.BOOT 23 22 slot
  let d2 := d1.xw Reg.xmem.BOOT 21 21 (bnat (d.slotPinned s))
  let d3 := loaderRecords (d2.memPuts d2.cshd ws) ws len 5
  if d3.sup.inReset then d3
  else
    let d4 := bootResult d3 (if d3.xf Reg.xmem.BOOT 15 0 = 0 then 1 else 2)
    (d4.wf pgNode Reg.sxnode.GEN 11 0 (fld w1 35 24)).wf pgLink Reg.sxlink.VERSION 7 0 (fld w1 23 16)

/-- BOOTFAIL, VALIDA and VALIDB (R416). -/
def slotChecks (d : Dev) (ca cb : Nat) : Dev :=
  let d1 := d.wr pgXmem Reg.xmem.BOOTFAIL (BitVec.ofNat 36 (ca * 16 + cb))
  (d1.xw Reg.xmem.BOOT 20 20 (bnat (decide (ca = 0)))).xw Reg.xmem.BOOT 19 19 (bnat (decide (cb = 0)))

/-- Loading with a valid directory (R416 to R418). Without a valid slot only the journal restore runs. -/
def loadWith (d : Dev) (x : Directory) : Dev :=
  let d0 := setLayout d x
  let ca := slotCause d0 x.slotA x.slotSect
  let cb := slotCause d0 x.slotB x.slotSect
  let d1 := slotChecks d0 ca cb
  let slot := slotSelect (ca == 0) (cb == 0) (d0.slotPinned x.slotA) (d0.slotPinned x.slotB) (d0.slotGen x.slotA) (d0.slotGen x.slotB)
  let d2 := if slot = 0 then bootResult d1 3 else loadSlot d1 slot
  if d2.sup.inReset then d2 else journalRestore d2 x

/-- IMAGE_LOAD (R411, R413, R418): once per device reset. -/
def imageLoad (d : Dev) (board : FlashBoard) : Dev :=
  if !d.jr.loading ∨ d.jr.loaded then d
  else
    let d1 := discover d board
    let d2 := if !d1.flashReady then bootResult d1 5
      else match d1.directory with
        | none => bootResult d1 4
        | some x => loadWith d1 x
    if d2.sup.inReset then d2 else d2.setJr { d2.jr with loaded := true }

end Sys2Proof.Machine
end

