-- ==== Sys2Proof/Machine/HostPort.lean ====
section
/-!
DEFINITION. The host port (R285 to R313): frame checks, the acts of each opcode, replies, and the host watchdog.
-/
namespace Sys2Proof.Machine

/-! ### Frames (R290 to R295) -/

/-- The header word of a frame with opcode `op`. -/
def frameHeader (op : Nat) (f : Frame) : Word :=
  mkw [(32, op), (28, f.alive.val), (24, f.count.val), (0, f.addr.toNat)]

/-- N of R290. -/
def frameN (f : Frame) : Nat := f.count.val + 1

/-- Request data words of an opcode (R291). -/
def reqWords (op n : Nat) : Nat :=
  match op with
  | 1 => n
  | 2 => n
  | 4 => n
  | 5 => n
  | 6 => n
  | 8 => 1
  | _ => 0

/-- Reply data words of an opcode (R291). -/
def replyWords (op n : Nat) : Nat := if op = 3 ∨ op = 4 ∨ op = 5 then n else 0

/-- The COUNT and address condition of an opcode (R291). -/
def formatOk (op : Nat) (f : Frame) : Bool :=
  match op with
  | 1 => decide (f.addr.toNat + frameN f ≤ 0x1000000)
  | 2 => decide (frameN f % 2 = 0)
  | 3 => decide (f.addr.toNat + frameN f ≤ 0x1000000)
  | 4 => true
  | 5 => true
  | 6 => decide (f.count.val = 7 ∨ f.count.val = 15)
  | _ => decide (f.count.val = 0)

/-- The request CRC (R292). -/
def crcOk (op : Nat) (f : Frame) : Bool :=
  crc32c (frameHeader op f :: f.data) (fld f.trailer 35 32) 4 == fld f.trailer 31 0

/-- d of R295; in sync state every ALIVE is accepted without GAP. -/
def aliveStep (hp : HostPort) (v : Nat) : Nat := if hp.sync then 1 else (v + 16 - hp.last) % 16

/-- The reason for which a complete frame is ignored, by its code in R294; 0 accepted. -/
def frameReason (hp : HostPort) (op : Nat) (f : Frame) : Nat :=
  if !crcOk op f then 3
  else if 9 ≤ op then 4
  else if !formatOk op f then 5
  else if aliveStep hp f.alive.val = 0 then 6
  else 0

/-- The counter of an ignored frame (R313), and PAGE_EVT.BADFRAME. -/
def countBad (d : Dev) (why : Nat) : Dev :=
  let d1 := match why with
    | 3 => d.incSat pgHostp Reg.hostp.ERRA 35 24
    | 6 => d.incSat pgHostp Reg.hostp.ERRA 23 12
    | 4 => d.incSat pgHostp Reg.hostp.ERRB 35 24
    | 5 => d.incSat pgHostp Reg.hostp.ERRB 35 24
    | _ => d.incSat pgHostp Reg.hostp.ERRA 11 0
  d1.ev pgHostp 0

/-! ### Replies (R297 to R301) -/

/-- STATUS (R297): the flags of the previous frame and LAST from `hp` as it stood when this frame began; WDOG, IRQ and
TICK as they stand in `d`. -/
def statusWord (hp : HostPort) (d : Dev) : Word :=
  mkw [(35, bnat (decide (hp.prevBad ≠ 0))), (32, hp.prevBad), (31, bnat hp.underrun), (30, bnat hp.cut), (29, bnat hp.gap),
    (28, bnat hp.prevRef), (27, bnat hp.prst), (26, d.rf pgHostp Reg.hostp.WDSTAT 35 35), (25, bnat d.anyIrq),
    (20, if hp.sync then 0 else hp.last), (0, d.tk % 65536)]

/-- STATUS is formed while the frame's writes apply: before them or after them, a free choice. -/
def formStatus (hp : HostPort) (before after : Dev) : Word × Dev :=
  let (i, d) := after.draw
  (statusWord hp (if Config.freeBool i then before else after), d)

/-- The words of a reply as driven (R299, R301): each word clocked while READY is low repeats STATUS. -/
def drivenWords (r : Reply) : List Word :=
  let ws := List.replicate (r.early + 1) r.status ++ r.estat :: r.data
  ws ++ [trailerOf (r.flags + bnat (decide (0 < r.early))) ws]

/-- The flags IGN, REF and ELEM of a reply trailer, in bits 3 to 1 (R299). -/
def replyFlags (ign ref : Bool) (estat : Nat) : Nat := bnat ign * 8 + bnat ref * 4 + bnat (decide (estat ≠ 0)) * 2

/-- A reply is ready: its words are driven, and a repeat is counted. -/
def replyReady (d : Dev) (r : Reply) : Dev :=
  let d1 := d.setHp { d.hp with reply := some { r with wait := none, driven := drivenWords r },
                                underrun := decide (0 < r.early) }
  let d2 : Dev := { d1 with pins := { d1.pins with sel := false } }
  if 0 < r.early then (d2.incSat pgHostp Reg.hostp.ERRB 23 12).ev pgHostp 1 else d2

/-- SEL_N rises before the end of the reply trailer (R301, R310). -/
def cutReply (d : Dev) : Dev :=
  match d.hp.reply with
  | none => d
  | some r =>
    if r.cut then d
    else
      let late := r.wait.isSome && decide (0 < r.early)
      let d1 := d.setHp { d.hp with reply := some { r with wait := none, cut := true }, cut := true,
                                    underrun := d.hp.underrun || late }
      let d2 : Dev := { d1 with pins := { d1.pins with sel := false } }
      let d3 := if late then d2.incSat pgHostp Reg.hostp.ERRB 23 12 else d2
      (d3.incSat pgHostp Reg.hostp.ERRB 11 0).ev pgHostp 1

/-- A frame that begins while a reply still waits has cut it. -/
def endReply (d : Dev) : Dev :=
  match d.hp.reply with
  | some r => if r.wait.isSome then cutReply d else d
  | none => d

/-! ### The watchdog (R309, R310) -/

/-- The instant at which the countdown reaches 0. -/
def Dev.wdDue (d : Dev) : Nat := d.hp.wdAt + d.rf pgHostp Reg.hostp.WDOG 15 0 * 4000

/-- The countdown has reached 0 (R309). -/
def wdFire (d : Dev) : Dev :=
  let d1 := ((d.setHp { d.hp with wdRun := false }).wr pgHostp Reg.hostp.WDSTAT (BitVec.ofNat 36 (2 ^ 35))).ev pgHostp 4
  let d2 := d1.incSat pgHostp Reg.hostp.RSTCNT 11 0
  let w := d2.rd pgHostp Reg.hostp.WDOG
  if bit w 33 then d2.eachGrove (fun d g => if bit w (16 + g) then rampRequest d g 10 else d) else d2

/-- A countdown that has reached 0 by now fires before the frame that arrives kicks it (R310). -/
def wdCatch (d : Dev) : Dev := if d.hp.wdRun ∧ d.wdDue ≤ d.clk then wdFire d else d

/-- WATCHDOG_EXPIRY. -/
def wdExpire (d : Dev) : Dev := if d.hp.wdRun then wdFire (d.advanceTo d.wdDue) else d

/-! ### The acts of the opcodes (R296, R302 to R306) -/

/-- What an accepted frame did: ESTAT, reply data, whether its writes were refused, what its reply waits for. -/
structure FrameAct where
  estat : Nat
  data : List Word
  ref : Bool
  wait : Option ReplyWait
  dev : Dev

def plainAct (d : Dev) : FrameAct := ⟨0, [], false, none, d⟩

/-- The writes of a WRITE frame, by address. -/
def writeList (f : Frame) : List (Nat × Word) := f.data.zipIdx.map (fun e => (f.addr.toNat + e.2, e.1))

/-- The pairs of a SCATTER frame. -/
def scatterList : List Word → List (Nat × Word)
  | a :: w :: t => (fld a 23 0, w) :: scatterList t
  | _ => []

/-- Whether a write asks for a host port reset (R307). -/
def asksPrst (d : Dev) (e : Nat × Word) : Bool :=
  d.place e.1 == .reg .hostp pgHostp Reg.PAGE_CTRL .direct && bit e.2 0

/-- Writes of a frame, all or none (R296). A PRST among them acts once the frame has been accepted. -/
def frameWrites (d : Dev) (ws : List (Nat × Word)) : FrameAct :=
  let (ss, refused, d1) := applyWrites d 0 ws
  let d2 := if refused then (d1.incSat pgHostp Reg.hostp.ERRC 23 12).ev pgHostp 3 else d1
  ⟨estatOf ss, [], refused, none, d2⟩

/-- Reads of a frame (R302). -/
def frameReads (tele1 tele2 d : Dev) (addrs : List Nat) : FrameAct :=
  let (rs, d1) := readAddrs tele1 tele2 d 0 addrs
  ⟨estatOf (rs.map Prod.fst), rs.map Prod.snd, false, none, d1⟩

/-- Every element with one status. -/
def allStatus (n s : Nat) : Nat := estatOf (List.replicate n s)

/-- A QUEUE frame that is refused. -/
def queueRefused (d : Dev) (p off code n : Nat) : FrameAct :=
  ⟨allStatus n stRefused, [], true, none, ((pageErr d 0 p off code).incSat pgHostp Reg.hostp.ERRC 23 12).ev pgHostp 3⟩

/-- One or two segment entries appended at TAIL (R304). -/
def queueAppend (d : Dev) (n : Nat) (ws : List Word) : Dev :=
  let q := d.queue n
  let d1 := d.memPuts (d.segAddr n q.tail) (ws.take 8)
  let d2 := if ws.length = 16 then d1.memPuts (d.segAddr n (q.tail + 1)) (ws.drop 8) else d1
  d2.setQueue n { d2.queue n with tail := (q.tail + ws.length / 8) % 512 }

/-- QUEUE (R304). A grove page refuses it while its island stands (R402). -/
def frameQueue (d : Dev) (f : Frame) : FrameAct :=
  let n := frameN f
  match d.place f.addr.toNat with
  | .unmapped => ⟨allStatus n stUnmapped, [], false, none, unmapRecord d 0 f.addr.toNat⟩
  | .mem _ => queueRefused d pgCanopy 0 codeRange n
  | .reg k p off win =>
    if k ≠ .axis ∨ win ≠ .direct ∨ off ≠ Reg.axis.QPTR then queueRefused d p off codeRange n
    else if d.sup.ps = .standby ∨ d.sup.ps = .retain then queueRefused d p off codeBusy n
    else
      let q := d.queue (axisOf p)
      if 256 < (q.tail + 512 - q.head) % 512 + n / 8 then queueRefused d p off codeRange n
      else ⟨0, [], false, none, queueAppend d (axisOf p) f.data⟩

/-- The act of an accepted frame. -/
def frameAct (tele1 tele2 d : Dev) (op : Nat) (f : Frame) : FrameAct :=
  let addrs := f.data.map (fun w => fld w 23 0)
  match op with
  | 1 => frameWrites d (writeList f)
  | 2 => frameWrites d (scatterList f.data)
  | 3 => frameReads tele1 tele2 d ((List.range (frameN f)).map (fun i => f.addr.toNat + i))
  | 4 => frameReads tele1 tele2 d addrs
  | 5 => { plainAct (d.setHp { d.hp with capture := some ⟨addrs, d.clk, none⟩ }) with wait := some (.gatherT addrs) }
  | 6 => frameQueue d f
  | 7 => { plainAct { d with acc := { d.acc with fencing := nins d.acc.fencing 0 } } with wait := some .fence }
  | 8 => plainAct (discardGroups d (fld (f.data.headD 0) 31 0))
  | _ => plainAct d

/-- Whether a frame asks for a host port reset. -/
def frameAsksPrst (d : Dev) (op : Nat) (f : Frame) : Bool :=
  match op with
  | 1 => (writeList f).any (asksPrst d)
  | 2 => (scatterList f.data).any (asksPrst d)
  | _ => false

/-! ### A frame from its header to its reply -/

/-- The flags of the frame that ends, for the next STATUS (R297). -/
def framePrev (d : Dev) (why : Nat) (gap ref : Bool) : Dev :=
  d.setHp { d.hp with prevBad := why, gap := gap, prevRef := ref, underrun := false, cut := false, prst := false, reply := none }

/-- The reply of an ignored frame: none after a CRC error, else STATUS with IGN. -/
def replyIgnored (d : Dev) (hp0 : HostPort) (why op : Nat) (f : Frame) : Dev :=
  let d1 := framePrev (countBad d why) why false false
  if why = 3 then { d1 with pins := { d1.pins with sel := false } }
  else
    let (st, d2) := formStatus hp0 d1 d1
    replyReady d2 ⟨st, 0, List.replicate (replyWords op (frameN f)) 0, replyFlags true false 0, [], none, 0, false⟩

/-- The reply of an accepted frame. -/
def replyAccepted (d : Dev) (hp0 : HostPort) (before : Dev) (gap : Bool) (a : FrameAct) (early : Nat) : Dev :=
  let d1 := framePrev d 0 gap a.ref
  let (st, d2) := formStatus hp0 before d1
  let r : Reply := ⟨st, BitVec.ofNat 36 a.estat, a.data, replyFlags false a.ref a.estat, [], a.wait, early, false⟩
  if a.wait.isSome then d2.setHp { d2.hp with reply := some r } else replyReady d2 { r with early := 0 }

/-- The counters of an accepted frame: FRAMES, LASTHDR, LAST, and GAP. -/
def countAccepted (d : Dev) (op : Nat) (f : Frame) (gap : Bool) : Dev :=
  let d1 := (d.incWrap pgHostp Reg.hostp.FRAMES 35 0 1).wr pgHostp Reg.hostp.LASTHDR (frameHeader op f)
  let d2 := d1.setHp { d1.hp with last := f.alive.val, sync := false }
  if gap then (d2.incSat pgHostp Reg.hostp.ERRC 35 24).ev pgHostp 2 else d2

/-- An accepted frame: its act, its kick (R309), its reply; a PRST in it acts last (R307). A frame whose writes reset
the device has no reply. -/
def acceptFrame (tele1 tele2 d : Dev) (hp0 : HostPort) (op : Nat) (f : Frame) : Dev :=
  let gap := decide (2 ≤ aliveStep hp0 f.alive.val)
  let d1 := countAccepted d op f gap
  let a := frameAct tele1 tele2 d1 op f
  if a.dev.sup.inReset then a.dev
  else
    let d2 := if a.dev.rb pgHostp Reg.hostp.WDOG 34 then a.dev else wdKick a.dev
    if frameAsksPrst d op f ∧ !a.ref then
      let d3 := hostPortReset d2
      { d3 with pins := { d3.pins with sel := false } }
    else replyAccepted d2 hp0 d1 gap a f.early

/-- Whether the port takes frames (R21, R310, R452). -/
def Dev.hostUp (d : Dev) : Bool := d.hp.up && !d.sup.inReset && d.sup.ps != .retain

/-- A frame with opcode `op` whose trailer ends `f.dt` gck from now (R294). -/
def hostFrame (tele1 tele2 d : Dev) (op : Nat) (f : Frame) : Dev :=
  let d0 := d.advance f.dt
  if !d0.hostUp ∨ f.data.length ≠ reqWords op (frameN f) then d0
  else
    let d1 := endReply (wdCatch d0)
    let hp0 := d1.hp
    let d2 : Dev := { d1 with pins := { d1.pins with sel := true } }
    let why := frameReason hp0 op f
    let d3 := if why ≠ 3 ∧ bit f.trailer 35 then d2.incSat pgHostp Reg.hostp.ERRC 11 0 else d2
    let d4 := d3.setHp { d3.hp with ta := d3.rf pgHostp Reg.hostp.CFG 1 0 }
    if why ≠ 0 then replyIgnored d4 hp0 why op f else acceptFrame tele1 tele2 d4 hp0 op f

/-- FRAME_ABORTED: SEL_N rises after `bits` request bits, before the trailer ends (R294); none is no frame. -/
def frameAborted (d : Dev) (bits : Nat) : Dev :=
  if !d.hostUp ∨ bits = 0 then d
  else
    let why := if bits % 36 = 0 then 2 else 1
    framePrev (countBad (endReply d) why) why false false

/-- RESET_PATTERN (R307): at the rise of SEL_N; the port takes frames again t_PRDY later (R312). -/
def resetPattern (d : Dev) : Dev :=
  if !d.hostUp then d
  else
    let d1 := hostPortReset (endReply d)
    d1.setHp { d1.hp with up := false }

/-- HOST_PORT_READY (R312, R452). -/
def hostPortReady (d : Dev) : Dev :=
  if d.hp.up ∨ d.sup.inReset ∨ d.sup.ps = .retain then d else d.setHp { d.hp with up := true }

/-- GATHER_T_CAPTURE: the reply is ready with what was captured at the boundary (R303); where the reply has been cut the
results are discarded. -/
def gatherReady (d : Dev) : Dev :=
  match d.hp.capture.bind Capture.taken with
  | none => d
  | some rs =>
    let d1 := d.setHp { d.hp with capture := none }
    match d1.hp.reply with
    | some r =>
      if r.wait.isSome then
        let e := estatOf (rs.map Prod.fst)
        replyReady d1 { r with estat := BitVec.ofNat 36 e, data := rs.map Prod.snd, flags := replyFlags false false e }
      else d1
    | none => d1

/-- FENCE_COMPLETE (R65, R305): the requester's earlier writes have taken effect. -/
def fenceComplete (d : Dev) (req : Nat) : Dev :=
  if !d.acc.fencing.contains req then d
  else
    let d1 : Dev := { d with acc := { d.acc with fencing := d.acc.fencing.filter (fun r => r != req) } }
    match d1.hp.reply with
    | some r => if req = 0 ∧ r.wait = some .fence then replyReady d1 r else d1
    | none => d1

end Sys2Proof.Machine
end

