-- ==== Sys2Proof/Machine/Jtag.lean ====
section
/-!
DEFINITION. The TAP (R454 to R457): its instructions, the boundary-scan pattern, memory access as requester 2, and
HALTCTL.
-/
namespace Sys2Proof.Machine

def Dev.setTap (d : Dev) (x : Jtag) : Dev := { d with tap := x }

/-- The level that a boundary-scan pattern asks of a leg's balls, with the interlock in force: 0 neither, 1 GL, 2 GH;
both together drive neither (R454). -/
def askedLevel (a : BallAsk) : Nat := if a.gh = a.gl then 0 else if a.gh then 2 else 1

/-- A pattern as the boundary-scan register holds it; of two entries for one leg the later stands. -/
def scanOf (ps : List BallAsk) : Tab Nat := ps.foldl (fun t a => t.set a.leg.val (askedLevel a) 0) []

/-- The identity word (R454). -/
def Dev.idcode (d : Dev) : Nat :=
  2 ^ 28 + (match d.variant with | .fd9128 => 0x9128 | .fd9064 => 0x9064 | .fd9032 => 0x9032) * 2 ^ 12 + 0x4D3 * 2 + 1

/-- An instruction is loaded; it alone decides whether the boundary-scan register drives the balls. -/
def loadIr (d : Dev) (code : Nat) : Dev := d.setTap { d.tap with ir := code, extest := decide (code = 0) }

/-- IDCODE: what the next Capture-DR loads. -/
def tapIdcode (d : Dev) : Dev :=
  let d1 := loadIr d 0x3E
  d1.setTap { d1.tap with out := d1.idcode }

/-- BYPASS: the 1-bit register captures 0, as IEEE 1149.1 has it (log 7). -/
def tapBypass (d : Dev) : Dev :=
  let d1 := loadIr d 0x3F
  d1.setTap { d1.tap with out := 0 }

/-- EXTEST with a pattern. -/
def tapExtest (d : Dev) (ps : List BallAsk) : Dev :=
  let d1 := loadIr d 0
  d1.setTap { d1.tap with scan := scanOf ps }

/-- SAMPLE/PRELOAD with a pattern. -/
def tapPreload (d : Dev) (ps : List BallAsk) : Dev :=
  let d1 := loadIr d 1
  d1.setTap { d1.tap with scan := scanOf ps }

/-- TAP_RESET: only the TAP; Test-Logic-Reset selects IDCODE (log 7). No halt resumes or ends. -/
def tapReset (d : Dev) : Dev := d.setTap { d.tap with ir := 0x3E, extest := false, out := d.idcode }

/-- What Capture-DR loads under MEMACC. -/
def tapCapture (t : Jtag) : Nat := bnat t.busy * 2 ^ 61 + t.status % 4 * 2 ^ 59 + t.data.toNat

/-- The access ends, with its status and the word last read. -/
def tapAccess (d : Dev) (status : Nat) (w : Word) : Dev :=
  let t := { d.tap with status := status, data := w }
  d.setTap { t with out := tapCapture t }

/-- A write of MEMACC: its element status and the device. -/
def tapWrite (d : Dev) (a : Nat) (w : Word) : Nat × Dev :=
  let r := writeAddr d 2 a w
  (r.st, records r.dev 2 r.notes)

/-- MEMACC at Update-DR (R455): OP 1 reads, 2 writes, 3 writes and then reads. While reset or RETAIN stops the islands
nothing answers. -/
def memacc (tele1 tele2 d : Dev) (op a : Nat) (w : Word) : Dev :=
  let d0 := loadIr d 0x10
  if d0.tap.busy ∨ d0.sup.inReset ∨ d0.sup.ps = .retain then d0
  else match op with
    | 1 =>
      let (s, x, d1) := readAddr tele1 tele2 d0 2 a
      tapAccess d1 s x
    | 2 =>
      let (s, d1) := tapWrite d0 a w
      if d1.sup.inReset then d1 else tapAccess d1 s d1.tap.data
    | 3 =>
      let (s, d1) := tapWrite d0 a w
      if d1.sup.inReset then d1
      else
        let (s2, x, d2) := readAddr tele1 tele2 d1 2 a
        tapAccess d2 (if s = stOk then s2 else s) x
    | _ => d0

/-- Whether halt requests act: not while the planner and grove islands are stopped (R457). -/
def Dev.haltsAct (d : Dev) : Bool := !d.sup.inReset && (d.sup.ps == .run || d.sup.ps == .idle)

/-- What Capture-DR loads under HALTCTL (R456). -/
def haltCapture (d : Dev) : Nat :=
  bitsOf 8 (fun g => (d.grove g).held.isSome || ((d.grove g).tripped && (d.grove g).causes.testBit 9)) * 2 ^ 16 +
    bnat d.tw.haltB * 8 + bnat d.tw.haltA * 4 + bnat d.tw.broke * 2

/-- HALTCTL after its Update-DR. -/
def haltDone (d : Dev) : Dev :=
  let d1 := loadIr d 0x11
  d1.setTap { d1.tap with out := haltCapture d1 }

/-- GROVE_HALT: no effect on an absent or a tripped grove (R209, R457). -/
def groveHalt (d : Dev) (g : Nat) : Dev :=
  haltDone (if !d.haltsAct ∨ !d.hasGrove g ∨ (d.grove g).tripped then d else haltGrove d g)

/-- GROVE_RESUME: it ends a HOLD (R210, R457). -/
def groveResume (d : Dev) (g : Nat) : Dev :=
  haltDone (if !d.hasGrove g ∨ (d.grove g).held.isNone then d else holdTrip d g)

/-- Whether the Quill is present. -/
def Dev.hasQuill (d : Dev) (q : Nat) : Bool := q == 0 || d.variant.full

/-- QUILL_RESUME: it acts at the next boundary that follows by t_STB (R457). -/
def resumeRequest (d : Dev) (q : Nat) : Dev :=
  if !d.hasQuill q ∨ d.sup.inReset then d else d.setTw { d.tw with resumeReq := d.tw.resumeReq ++ [(q, d.clk)] }

/-- QUILL_HALT (R280); with a resume of the same Quill in one Update-DR the halt is discarded (R457). -/
def haltRequest (d : Dev) (q : Nat) (withResume : Bool) : Dev :=
  if withResume then resumeRequest d q
  else if !d.haltsAct ∨ !d.hasQuill q then d
  else d.setTw { d.tw with haltReq := d.tw.haltReq ++ [(q, d.clk)] }

end Sys2Proof.Machine
end

