-- ==== Sys2Proof/Machine/Commands.lean ====
section
/-!
DEFINITION. What the meanings of the commands share: an outcome, register writes as commands, the power states in which
a unit acts, and pins.
-/
namespace Sys2Proof.Machine

/-- What a command answers. -/
abbrev Answer := Host.Outcome State Fault Refusal

/-- The outcome of a command whose effect on the device is `f`; while reset lasts it has none (R389). -/
def State.does (s : State) (f : Dev → Dev) : Answer := .next (s.run f)

/-- A register write, `w.dt` gck from now. In RETAIN no requester reaches a page (R399). -/
def regWrite (d : Dev) (w : RegWrite) (p off : Nat) : Dev :=
  let d1 := d.advance w.dt
  if d1.sup.ps = .retain then d1 else writeCommand d1 p off w

/-- The outcome of a command that is a write of the register at `off` of page `p`. -/
def State.writes (s : State) (w : RegWrite) (p off : Nat) : Answer := s.does (fun d => regWrite d w p off)

/-- The planner and grove islands run in RUN and IDLE only (R399): what they do, after `dt` gck. -/
def inIslands (dt : Nat) (f : Dev → Dev) (d : Dev) : Dev :=
  let d1 := d.advance dt
  if d1.grovesRun then f d1 else d1

/-- The islands that also run in STANDBY (R399). -/
def inPorts (dt : Nat) (f : Dev → Dev) (d : Dev) : Dev :=
  let d1 := d.advance dt
  if d1.sup.ps = .retain then d1 else f d1

/-- Whether the carrier, the sequencer, the chopper and the Nib timers of a grove run: in HOLD they stand (R209). -/
def Dev.groveLive (d : Dev) (g : Nat) : Bool := d.grovesRun && d.hasGrove g && (d.grove g).held.isNone

/-- What a running grove does, after `dt` gck. -/
def inGrove (g dt : Nat) (f : Dev → Dev) (d : Dev) : Dev :=
  let d1 := d.advance dt
  if d1.groveLive g then f d1 else d1

/-- What happens at an instant that the device itself sets; where that instant has passed, now. -/
def atInstant (t : Nat) (f : Dev → Dev) (d : Dev) : Dev := f (d.advanceTo t)

/-- Time passes; while reset lasts none is counted (R389). -/
def Dev.pass (d : Dev) (dt : Nat) : Dev := if d.sup.inReset then d else d.advance dt

/-- The outcome of a change of a pin, which holds its level through a reset as well. -/
def State.pin (s : State) (dt : Nat) (f : Dev → Dev) : Answer := .next (s.after (f (s.dev.pass dt)))

end Sys2Proof.Machine
end

