-- ==== Sys2Proof/Machine/CmdConv.lean ====
section
/-!
DEFINITION. The meanings of the commands of the converters and of calibration (R216 to R237), and of the observer's
register commands (R252, R255, R256).
-/
namespace Sys2Proof.Machine

/-- What a converter of a running grove does, after `dt` gck; a HOLD does not stop it (R209). -/
def inConv (c dt : Nat) (f : Dev → Dev) (d : Dev) : Dev :=
  let d1 := d.advance dt
  if d1.grovesRun ∧ d1.hasGrove (c / 4) then f d1 else d1

/-- SEQUENCE_TRIGGER (R222, R223): a trigger of the source that TRIG selects; with SRC 0 none does. A trigger that a
command of the model itself brings about is offered with that command. -/
def execSequenceTrigger (dt : Nat) (c : Fin 32) (s : State) : Answer :=
  s.does (inConv c dt (fun d => if d.rf (pgCv c) Reg.conv.TRIG 2 0 = 0 then d else convTrigger d c))

/-- START (R222): a write of CONV.CTRL. -/
def execConvStart (c : Fin 32) (w : RegWrite) (s : State) : Answer := s.writes w (pgCv c) Reg.conv.CTRL

/-- CONV_EN (R224): a write of CONV.CTRL. -/
def execConvEn (c : Fin 32) (w : RegWrite) (s : State) : Answer := s.writes w (pgCv c) Reg.conv.CTRL

/-- The conversion that samples comes to its end. -/
def samplingReached (d : Dev) (c : Nat) : Dev :=
  match (d.conv c).run with
  | some r => atInstant r.endAt (fun d => conversionEnd d c r) d
  | none => d

/-- CONVERSION_END (R229). -/
def execConversionEnd (c : Fin 32) (s : State) : Answer := s.does (inConv c 0 (fun d => samplingReached d c))

/-- Whether LSWAP reverses the sign of an entry's leg pair (R199): the bit of the position that carries the coil's
commands. -/
def Dev.pairReversed (d : Dev) (c : Nat) (w : Word) : Bool :=
  let g := c / 4
  let j := (fld w 6 0 - 0x20) / 2
  let sw := d.rd (pgOvrd g) (Reg.ovrd.SWAP + j / 2)
  let pos := if bit sw 2 then 1 - j % 2 else j % 2
  bit w 8 && d.rf (pgOvrd g) Reg.ovrd.MODE 1 0 == 2 && bit sw pos

/-- The oldest result of a converter's filter is ready (R225, R226): `raw` as the unreversed leg pair or input gives
it. -/
def resultReady (d : Dev) (c : Nat) (raw : Int) (overload : Bool) : Dev :=
  let v := d.conv c
  match v.filter with
  | r :: rest =>
    let x := if d.pairReversed c r.word then -raw else raw
    let (y, ovr) := d.corrected c (fld r.word 30 28) x overload
    let d1 := d.setConv c { v with filter := rest }
    match r.urgent with
    | some u => urgentResult d1 c r u y ovr
    | none => sequenceResult d1 c r y ovr
  | [] => d

/-- RESULT_READY (R226). -/
def execResultReady (dt : Nat) (c : Fin 32) (raw : Int) (overload : Bool) (s : State) : Answer :=
  s.does (inConv c dt (fun d => resultReady d c raw overload))

/-- GO (R232): the keyed write of CONVCAL.CMD. -/
def execCalGo (g : Fin 8) (w : RegWrite) (s : State) : Answer := s.writes w (pgCal g) Reg.convcal.CMD

/-- CALDONE (R233): `fcause` 0 a success, with `die` the corrected die-temperature value. -/
def execCaldone (dt : Nat) (g : Fin 8) (fcause : Fin 8) (fitem : Fin 64) (die : Int) (s : State) : Answer :=
  s.does (inConv (4 * g) dt (fun d => calDone d g fcause fitem die))

/-- APPLY (R235): the keyed write of CONVCAL.CMD. -/
def execCalApply (g : Fin 8) (w : RegWrite) (s : State) : Answer := s.writes w (pgCal g) Reg.convcal.CMD

/-- APPLIED (R235). -/
def execCalApplied (dt : Nat) (g : Fin 8) (die : Int) (s : State) : Answer :=
  s.does (inConv (4 * g) dt (fun d => calApplied d g die))

/-- OBSCAL_GO (R255): a write of AXIS.OBSCAL. -/
def execObscalGo (n : Fin 128) (w : RegWrite) (s : State) : Answer := s.writes w (pgAxis n) Reg.axis.OBSCAL

/-- OBSCAL_ABORT (R256): a write of AXIS.OBSCAL. -/
def execObscalAbort (n : Fin 128) (w : RegWrite) (s : State) : Answer := s.writes w (pgAxis n) Reg.axis.OBSCAL

/-- TRUSTSET (R252): the keyed write of AXIS.TRUSTSET. -/
def execTrustset (n : Fin 128) (w : RegWrite) (s : State) : Answer := s.writes w (pgAxis n) Reg.axis.TRUSTSET

end Sys2Proof.Machine
end

