-- ==== Sys2Proof/Machine/CmdDebug.lean ====
section
/-!
DEFINITION. The meanings of the commands of the TAP (R454 to R457, R280) and of the Blotter (R463, R464). The TAP has
no clock of the device, so its own commands act in every power state; while reset lasts they reach no island.
-/
namespace Sys2Proof.Machine

/-- The outcome of a command of the TAP, which acts while reset lasts as well. -/
def State.tapDoes (s : State) (dt : Nat) (f : Dev → Dev) : Answer := .next (s.after (f (s.dev.pass dt)))

/-- MEMACC (R455). -/
def execMemacc (dt : Nat) (op : Fin 4) (addr : BitVec 24) (data : BitVec 36) (s : State) : Answer :=
  s.tapDoes dt (fun d => memacc s.tele1 s.tele2 d op addr.toNat data)

/-- GROVE_HALT (R209). -/
def execGroveHalt (dt : Nat) (g : Fin 8) (s : State) : Answer := s.tapDoes dt (fun d => groveHalt d g)

/-- GROVE_RESUME (R210, R457). -/
def execGroveResume (dt : Nat) (g : Fin 8) (s : State) : Answer := s.tapDoes dt (fun d => groveResume d g)

/-- QUILL_HALT (R280). -/
def execQuillHalt (dt : Nat) (q : Fin 2) (withResume : Bool) (s : State) : Answer :=
  s.tapDoes dt (fun d => haltDone (haltRequest d q withResume))

/-- QUILL_RESUME (R457). -/
def execQuillResume (dt : Nat) (q : Fin 2) (s : State) : Answer := s.tapDoes dt (fun d => haltDone (resumeRequest d q))

/-- IDCODE (R454). -/
def execIdcode (dt : Nat) (s : State) : Answer := s.tapDoes dt tapIdcode

/-- BYPASS (R454). -/
def execBypass (dt : Nat) (s : State) : Answer := s.tapDoes dt tapBypass

/-- EXTEST (R454). -/
def execExtest (dt : Nat) (pattern : List BallAsk) (s : State) : Answer := s.tapDoes dt (fun d => tapExtest d pattern)

/-- SAMPLE_PRELOAD (R454). -/
def execSamplePreload (dt : Nat) (pattern : List BallAsk) (s : State) : Answer := s.tapDoes dt (fun d => tapPreload d pattern)

/-- TAP_RESET (R454). -/
def execTapReset (dt : Nat) (s : State) : Answer := s.tapDoes dt tapReset

/-- BLOT_CTRL (R464): a write of BLOT.CTRL. -/
def execBlotCtrl (w : RegWrite) (s : State) : Answer := s.writes w pgBlot Reg.blot.CTRL

/-- BLOT_RD_WRITE (R463): a write of BLOT.RD. -/
def execBlotRdWrite (w : RegWrite) (s : State) : Answer := s.writes w pgBlot Reg.blot.RD

end Sys2Proof.Machine
end

