-- ==== Sys2Proof/Machine/CmdFlash.lean ====
section
/-!
DEFINITION. The meanings of the commands of the external memory, its loader and journal, and the peripheral port (R411
to R433).
-/
namespace Sys2Proof.Machine

/-- IMAGE_LOAD (R418). -/
def execImageLoad (dt : Nat) (board : FlashBoard) (s : State) : Answer := s.does (inPorts dt (fun d => imageLoad d board))

/-- BOOTDONE (R418). -/
def execBootdone (dt : Nat) (s : State) : Answer := s.does (inPorts dt bootDone)

/-- XCMD_READ (R420): a write of XMEM.XCMD. -/
def execXcmdRead (w : RegWrite) (s : State) : Answer := s.writes w pgXmem Reg.xmem.XCMD

/-- XCMD_PROGRAM (R420): a write of XMEM.XCMD. -/
def execXcmdProgram (w : RegWrite) (s : State) : Answer := s.writes w pgXmem Reg.xmem.XCMD

/-- XCMD_ERASE (R420): a write of XMEM.XCMD. -/
def execXcmdErase (w : RegWrite) (s : State) : Answer := s.writes w pgXmem Reg.xmem.XCMD

/-- XDONE (R420). -/
def execXdone (dt : Nat) (outcome : FlashOutcome) (s : State) : Answer := s.does (inPorts dt (fun d => xdone d outcome))

/-- JOURNAL_RECORD_WRITTEN (R422). -/
def execJournalRecordWritten (dt : Nat) (ok : Bool) (s : State) : Answer := s.does (inPorts dt (fun d => recordEnd d ok))

/-- JOURNAL_ERASE_END (R421, R427). -/
def execJournalEraseEnd (dt : Nat) (ok : Bool) (s : State) : Answer := s.does (inPorts dt (fun d => jEraseEnd d ok))

/-- PERIP_TAIL_WRITE (R429): a write of PERIP.QPTR. -/
def execPeripTailWrite (w : RegWrite) (s : State) : Answer := s.writes w pgPerip Reg.perip.QPTR

/-- PERIP_ENTRY_START (R430). -/
def execPeripEntryStart (dt : Nat) (s : State) : Answer := s.does (inPorts dt peripStart)

/-- PERIP_ENTRY_END (R430). -/
def execPeripEntryEnd (dt : Nat) (rx : List (BitVec 36)) (s : State) : Answer := s.does (inPorts dt (fun d => peripEnd d rx))

/-- READY_TIMEOUT (R430). -/
def execReadyTimeout (s : State) : Answer := s.does (inPorts 0 peripTimeout)

/-- CONTTO (R432). -/
def execContto (s : State) : Answer := s.does (inPorts 0 peripContto)

end Sys2Proof.Machine
end

