-- ==== Sys2Proof/Machine/CmdGrove.lean ====
section
/-!
DEFINITION. The meanings of the commands of the groves: carrier, chopper and windows (R154 to R170), Nibs (R183 to
R194), the Firebreak (R201 to R205) and debug HOLD (R210).
-/
namespace Sys2Proof.Machine

/-! ### Carrier and chopper -/

/-- The first instant from now on at which coil `j` may start its next period. -/
def Dev.coilFrom (d : Dev) (g j : Nat) : Nat :=
  let c := d.coil (32 * g + j)
  max d.clk (if c.ran then c.s + 1 else 0)

/-- The coil's next period start. -/
def Dev.coilNext (d : Dev) (g j : Nat) : Nat := coilDue d g j (d.coilFrom g j)

/-- The next period of coil `j` starts. -/
def coilStarts (d : Dev) (g j : Nat) : Dev := atInstant (d.coilNext g j) (fun d => periodStart (carTo d g d.clk) g j) d

/-- COIL_PERIOD_START (R156). -/
def execCoilPeriodStart (g : Fin 8) (j : Fin 32) (s : State) : Answer := s.does (inGrove g 0 (fun d => coilStarts d g j))

/-- The next occurrence of carrier event `e`, if it has one. -/
def eventOccurs (d : Dev) (g e : Nat) : Dev :=
  match eventDue d g e (max d.clk ((d.grove g).evNext.getD e 0)) with
  | some t => atInstant t (fun d => carrierEvent (carTo d g d.clk) g e) d
  | none => d

/-- CARRIER_EVENT (R157). -/
def execCarrierEvent (g : Fin 8) (e : Fin 6) (s : State) : Answer := s.does (inGrove g 0 (fun d => eventOccurs d g e))

/-- max(FILT, 1): samples that a recognition takes (R161, R166). -/
def Dev.tripRun (d : Dev) (g : Nat) : Nat := max (d.rf (pgCarrier g) Reg.carrier.FILT 7 0) 1

/-- The instant at which TONMAX ends DRIVE (R160). -/
def Dev.tonmaxAt (d : Dev) (g j : Nat) : Nat := (d.coil (32 * g + j)).tonS + d.rf (pgCarrier g) Reg.carrier.TONMAX 17 0

/-- A recognised trip, where DRIVE runs, blanking has ended and the filter's run can be complete (R160, R161). -/
def tripSeen (d : Dev) (g j : Nat) : Dev :=
  let c := d.coil (32 * g + j)
  match c.blankEnd with
  | some b =>
    if c.st = .drive ∧ b + d.tripRun g ≤ d.clk + 1 ∧ d.clk ≤ d.tonmaxAt g j then tripRecognised d g j b else d
  | none => d

/-- TRIP_RECOGNISED (R161). -/
def execTripRecognised (dt : Nat) (g : Fin 8) (j : Fin 32) (s : State) : Answer :=
  s.does (inGrove g dt (fun d => tripSeen d g j))

/-- Whether instant `t` comes before the next period start of the coil. -/
def Dev.beforeNext (d : Dev) (g j t : Nat) : Bool := decide (max t d.clk < coilDue d g j (max d.clk ((d.coil (32 * g + j)).s + 1)))

/-- DRIVE ends at TONMAX where that lies before the next period start (R160). -/
def tonmaxReached (d : Dev) (g j : Nat) : Dev :=
  if (d.coil (32 * g + j)).st = .drive ∧ d.beforeNext g j (d.tonmaxAt g j) then
    atInstant (d.tonmaxAt g j) (fun d => tonmaxEnd d g j) d
  else d

/-- TONMAX (R160). -/
def execTonmax (g : Fin 8) (j : Fin 32) (s : State) : Answer := s.does (inGrove g 0 (fun d => tonmaxReached d g j))

/-- The slow phase begins, where the next period start does not come first (R163). -/
def fastOver (d : Dev) (g j : Nat) : Dev :=
  let c := d.coil (32 * g + j)
  let t := c.decayAt + c.fastUsed
  if c.st = .decay ∧ c.fast ∧ d.beforeNext g j t then
    atInstant t (fun d => setChop d g j { c with fast := false } d.clk) d
  else d

/-- FAST_PHASE_END (R163). -/
def execFastPhaseEnd (g : Fin 8) (j : Fin 32) (s : State) : Answer := s.does (inGrove g 0 (fun d => fastOver d g j))

/-! ### Zero-current windows -/

/-- ZMAX and ZDLY of a coil (R166, R167), and the end of its ZBLANK. -/
def Dev.zmaxAt (d : Dev) (g j : Nat) (w : Sys2Proof.Machine.Window) : Nat := w.s + d.rf (pgAxis (16 * g + j / 2)) Reg.axis.ZCW0 34 22
def Dev.zdly (d : Dev) (g j : Nat) : Nat := d.rf (pgAxis (16 * g + j / 2)) Reg.axis.ZCW0 21 12
def Dev.zblankEnd (d : Dev) (g j : Nat) (w : Sys2Proof.Machine.Window) : Nat := w.s + d.rf (pgAxis (16 * g + j / 2)) Reg.axis.ZCW2 7 0

/-- Zero current is recognised in an open window (R166, step 4). -/
def zeroRecognised (d : Dev) (g j : Nat) : Dev :=
  match (d.coil (32 * g + j)).win with
  | some w =>
    if w.z.isNone ∧ d.zblankEnd g j w + d.tripRun g ≤ d.clk + 1 ∧ d.clk < d.zmaxAt g j w then zeroSeen d g j w else d
  | none => d

/-- ZERO_CURRENT_RECOGNISED (R166). -/
def execZeroCurrentRecognised (dt : Nat) (g : Fin 8) (j : Fin 32) (s : State) : Answer :=
  s.does (inGrove g dt (fun d => zeroRecognised d g j))

/-- The request of a window: t_ZLAUNCH, 2 to 4 gck, after z + ZDLY, unless ZMAX comes first (R166, R167, R175). -/
def urgentDue (d : Dev) (g j : Nat) : Dev :=
  match (d.coil (32 * g + j)).win with
  | some w =>
    match w.z with
    | some z =>
      let (i, d1) := d.draw
      let t := z + d.zdly g j + 2 + Config.freeNat i % 3
      if !w.requested ∧ t < d.zmaxAt g j w then atInstant t (fun d => urgentRequest d g j w) d1 else d
    | none => d
  | none => d

/-- URGENT_REQUEST (R228). -/
def execUrgentRequest (g : Fin 8) (j : Fin 32) (s : State) : Answer := s.does (inGrove g 0 (fun d => urgentDue d g j))

/-- A window reaches ZMAX (R167). -/
def zmaxReached (d : Dev) (g j : Nat) : Dev :=
  match (d.coil (32 * g + j)).win with
  | some w => atInstant (d.zmaxAt g j w) (fun d => windowMax d g j w) d
  | none => d

/-- ZMAX_EXPIRY (R167). -/
def execZmaxExpiry (g : Fin 8) (j : Fin 32) (s : State) : Answer := s.does (inGrove g 0 (fun d => zmaxReached d g j))

/-- DRIVE resumes after a window (R168). -/
def resumeReached (d : Dev) (g j : Nat) : Dev :=
  match (d.coil (32 * g + j)).resumeAt with
  | some t => atInstant t (fun d => driveResume d g j) d
  | none => d

/-- DRIVE_RESUME (R168). -/
def execDriveResume (g : Fin 8) (j : Fin 32) (s : State) : Answer := s.does (inGrove g 0 (fun d => resumeReached d g j))

/-! ### Nibs -/

/-- NODE_RECOGNISED (R186): the comparator's reading changes side. -/
def execNodeRecognised (dt : Nat) (g : Fin 8) (k : Fin 64) (high : Bool) (s : State) : Answer :=
  s.does (inGrove g dt (fun d =>
    let side := if high then 2 else 1
    if (d.leg (64 * g + k)).node = side then d else nodeSeen d g k side))

/-- The incoming switch turns on when it is due (R190). -/
def turnOnReached (d : Dev) (g k : Nat) : Dev :=
  match (d.leg (64 * g + k)).turnOn with
  | some t => atInstant (turnOnDue d g (d.leg (64 * g + k)) t) (fun d => switchOn d g k t) d
  | none => d

/-- INCOMING_TURN_ON (R190). -/
def execIncomingTurnOn (g : Fin 8) (k : Fin 64) (s : State) : Answer := s.does (inGrove g 0 (fun d => turnOnReached d g k))

/-- DT_MAX passes without the recognition that a measurement waits for (R194). -/
def missReached (d : Dev) (g k : Nat) : Dev :=
  match (d.leg (64 * g + k)).meas with
  | some m => atInstant (m.start + d.dtMax g) (fun d => edgeMiss d g k m) d
  | none => d

/-- EDGE_MISS (R194). -/
def execEdgeMiss (g : Fin 8) (k : Fin 64) (s : State) : Answer := s.does (inGrove g 0 (fun d => missReached d g k))

/-- OVERLAP_EVENT (R183 to R185): an overlap that a stage finds. One that the command at the Nib input causes is counted
with the command that causes it, and while that lasts there is no further event. -/
def execOverlapEvent (dt : Nat) (g : Fin 8) (k : Fin 64) (s : State) : Answer :=
  s.does (inGrove g dt (fun d => if (d.leg (64 * g + k)).overlap then d else overlapEvent d g k))

/-! ### The Firebreak -/

/-- Whether a low pulse of `ns` nanoseconds on FAULT_N or ESTOP_N is recognised (R203): never below t_FREJ, always from
t_FPW on, a free choice between. -/
def pulseSeen (d : Dev) (ns : Nat) : Bool × Dev :=
  if ns < 10 then (false, d)
  else if 40 ≤ ns then (true, d)
  else
    let (i, d1) := d.draw
    (Config.freeBool i, d1)

/-- FAULT_N[g] is low from now on for `ns`, and whether that is recognised. -/
def faultLevel (g : Nat) (seen : Bool) (d : Dev) : Dev :=
  { d with pins := { d.pins with fault := maskSet d.pins.fault g true,
                                 faultSeen := if seen then maskSet d.pins.faultSeen g true else d.pins.faultSeen } }

/-- A falling edge of FAULT_N[g] (R201, R203). -/
def faultFalls (g ns : Nat) (d : Dev) : Dev :=
  if d.pins.fault.testBit g ∨ !d.hasGrove g then d
  else
    let (seen, d1) := pulseSeen d ns
    let d2 := faultLevel g seen d1
    if seen ∧ d2.rb (pgFire g) Reg.firebrk.SRCEN 1 ∧ !d2.sup.inReset then trip d2 g 1 else d2

/-- FAULT_N_LOW (R203): the path has no clock, so it acts in every power state. -/
def execFaultNLow (dt : Nat) (g : Fin 8) (ns : Nat) (s : State) : Answer :=
  s.pin dt (faultFalls g ns)

/-- FAULT_N[g] is high. -/
def faultHigh (g : Nat) (d : Dev) : Dev :=
  { d with pins := { d.pins with fault := maskSet d.pins.fault g false, faultSeen := maskSet d.pins.faultSeen g false } }

/-- FAULT_N_HIGH (R204). -/
def execFaultNHigh (dt : Nat) (g : Fin 8) (s : State) : Answer := s.pin dt (faultHigh g)

/-- ESTOP_N is low from now on, and whether that is recognised. -/
def estopLevel (seen : Bool) (d : Dev) : Dev :=
  { d with pins := { d.pins with estop := true, estopSeen := seen || d.pins.estopSeen } }

/-- A falling edge of ESTOP_N: every present grove trips (R201, R203). -/
def estopFalls (ns : Nat) (d : Dev) : Dev :=
  if d.pins.estop then d
  else
    let (seen, d1) := pulseSeen d ns
    let d2 := estopLevel seen d1
    if seen ∧ !d2.sup.inReset then d2.eachGrove (fun d g => trip d g 2) else d2

/-- ESTOP_N_LOW (R203). -/
def execEstopNLow (dt : Nat) (ns : Nat) (s : State) : Answer :=
  s.pin dt (estopFalls ns)

/-- ESTOP_N is high. -/
def estopHigh (d : Dev) : Dev := { d with pins := { d.pins with estop := false, estopSeen := false } }

/-- ESTOP_N_HIGH (R204). -/
def execEstopNHigh (dt : Nat) (s : State) : Answer := s.pin dt estopHigh

/-- t_SAFEDT after the trip, 2^c to 2^(c+1) µs (R202, R212): the legs go to their safe levels. -/
def safeReached (d : Dev) (g : Nat) : Dev :=
  let gr := d.grove g
  if !d.hasGrove g ∨ !gr.tripped ∨ gr.safe then d
  else
    let (i, d1) := d.draw
    let us := 400 * 2 ^ d.rf (pgFire g) Reg.firebrk.SAFEDT 1 0
    atInstant (gr.tripAt + us + Config.freeNat i % (us + 1)) (fun d => d.setGrove g { d.grove g with safe := true }) d1

/-- SAFE_LEVELS (R202). -/
def execSafeLevels (g : Fin 8) (s : State) : Answer := s.does (fun d => safeReached d g)

/-- TRIP (R201): a write of FIREBRK.PAGE_CTRL. -/
def execTrip (g : Fin 8) (w : RegWrite) (s : State) : Answer := s.writes w (pgFire g) Reg.PAGE_CTRL

/-- OUTEN (R182, R205): the keyed write of FIREBRK.PAGE_CTRL. -/
def execOuten (g : Fin 8) (w : RegWrite) (s : State) : Answer := s.writes w (pgFire g) Reg.PAGE_CTRL

/-- RSTOP (R201): a write of FIREBRK.PAGE_CTRL. -/
def execRstop (g : Fin 8) (w : RegWrite) (s : State) : Answer := s.writes w (pgFire g) Reg.PAGE_CTRL

/-- CLEAR (R204): the keyed write of FIREBRK.CLEAR. -/
def execClear (g : Fin 8) (w : RegWrite) (s : State) : Answer := s.writes w (pgFire g) Reg.firebrk.CLEAR

/-- A HOLD reaches the HOLDMAX that it began with (R210). -/
def holdExpires (d : Dev) (g : Nat) : Dev :=
  match (d.grove g).held with
  | some h => if h.holdmax = 0 then d else atInstant (h.since + 400 * h.holdmax) (fun d => holdTrip (d.ev (pgFire g) 4) g) d
  | none => d

/-- HOLDMAX_EXPIRY (R210). -/
def execHoldmaxExpiry (g : Fin 8) (s : State) : Answer := s.does (inIslands 0 (fun d => holdExpires d g))

end Sys2Proof.Machine
end

