-- ==== Sys2Proof/Machine/CmdHost.lean ====
section
/-!
DEFINITION. The meanings of the commands of the host port (R285 to R313), of update strobes (R60, R61), fences (R65),
keys (R63), and of a register write that has no row of its own (R467).
-/
namespace Sys2Proof.Machine

/-- NOP (R291). -/
def execNop (f : Frame) (s : State) : Answer := s.does (fun d => hostFrame s.tele1 s.tele2 d 0 f)
/-- WRITE (R296). -/
def execWrite (f : Frame) (s : State) : Answer := s.does (fun d => hostFrame s.tele1 s.tele2 d 1 f)
/-- SCATTER (R296). -/
def execScatter (f : Frame) (s : State) : Answer := s.does (fun d => hostFrame s.tele1 s.tele2 d 2 f)
/-- READ (R302). -/
def execRead (f : Frame) (s : State) : Answer := s.does (fun d => hostFrame s.tele1 s.tele2 d 3 f)
/-- GATHER (R302). -/
def execGather (f : Frame) (s : State) : Answer := s.does (fun d => hostFrame s.tele1 s.tele2 d 4 f)
/-- GATHER_T (R303). -/
def execGatherT (f : Frame) (s : State) : Answer := s.does (fun d => hostFrame s.tele1 s.tele2 d 5 f)
/-- QUEUE (R304). -/
def execQueue (f : Frame) (s : State) : Answer := s.does (fun d => hostFrame s.tele1 s.tele2 d 6 f)
/-- FENCE (R305). -/
def execFence (f : Frame) (s : State) : Answer := s.does (fun d => hostFrame s.tele1 s.tele2 d 7 f)
/-- DISCARD (R306). -/
def execDiscard (f : Frame) (s : State) : Answer := s.does (fun d => hostFrame s.tele1 s.tele2 d 8 f)
/-- UNDEFINED_OPCODE_FRAME (R294). -/
def execUndefinedOpcodeFrame (op : Fin 16) (f : Frame) (s : State) : Answer :=
  s.does (fun d => if 9 ≤ op.val then hostFrame s.tele1 s.tele2 d op f else d)

/-- GATHER_T_CAPTURE (R303): the reply with what the capture boundary gave. -/
def execGatherTCapture (dt : Nat) (s : State) : Answer := s.does (inPorts dt gatherReady)

/-- FENCE_COMPLETE (R65). -/
def execFenceComplete (dt : Nat) (req : Requester) (s : State) : Answer := s.does (inPorts dt (fun d => fenceComplete d req.id))

/-- FRAME_ABORTED (R294). -/
def execFrameAborted (dt : Nat) (bits : Nat) (s : State) : Answer := s.does (inPorts dt (fun d => frameAborted d bits))

/-- RESET_PATTERN (R307). -/
def execResetPattern (dt : Nat) (s : State) : Answer := s.does (inPorts dt resetPattern)

/-- PRST (R307): a write of HOSTP.PAGE_CTRL. -/
def execPrst (w : RegWrite) (s : State) : Answer := s.writes w pgHostp Reg.PAGE_CTRL

/-- REPLY_CUT (R301). -/
def execReplyCut (dt : Nat) (s : State) : Answer := s.does (inPorts dt cutReply)

/-- WATCHDOG_EXPIRY (R309). -/
def execWatchdogExpiry (s : State) : Answer := s.does (inPorts 0 wdExpire)

/-- KICK (R309): a write of HOSTP.WDKICK. -/
def execKick (w : RegWrite) (s : State) : Answer := s.writes w pgHostp Reg.hostp.WDKICK

/-- HOST_PORT_READY (R452). -/
def execHostPortReady (dt : Nat) (s : State) : Answer := s.does (inPorts dt hostPortReady)

/-- UPDATE (R60): a write of CANOPY.UPDATE. -/
def execUpdate (w : RegWrite) (s : State) : Answer := s.writes w pgCanopy Reg.canopy.UPDATE

/-- A selected edge is seen: it counts, and its strobe reaches the planner island t_UPDIN, 5 to 8 gck, later (R61). -/
def updSeen (d : Dev) : Dev :=
  let d1 := (d.incWrap pgCanopy Reg.canopy.UPDIN_CNT 35 0 1).ev pgCanopy 5
  let (i, d2) := d1.draw
  let d3 := d2.advance (5 + Config.freeNat i % 4)
  d3.strobe (d3.rf pgCanopy Reg.canopy.UPDIN_CFG 31 0)

/-- A change of UPD_IN (R61): one that follows a level shorter than t_UPDPW, 4 gck, may be missed. -/
def updEdge (rising : Bool) (d : Dev) : Dev :=
  if d.pins.upd = rising then d
  else
    let short := decide (d.clk < d.pins.updAt + 4)
    let d1 : Dev := { d with pins := { d.pins with upd := rising, updAt := d.clk } }
    if !d1.grovesRun ∨ !edgeSel (d1.rf pgCanopy Reg.canopy.UPDIN_CFG 33 32) rising then d1
    else if short then
      let (i, d2) := d1.draw
      if Config.freeBool i then updSeen d2 else d2
    else updSeen d1

/-- UPD_IN_EDGE (R61). -/
def execUpdInEdge (dt : Nat) (rising : Bool) (s : State) : Answer := s.pin dt (updEdge rising)

/-- FENCE_REQ (R65): a write of CANOPY.FENCE. -/
def execFenceReq (w : RegWrite) (s : State) : Answer := s.writes w pgCanopy Reg.canopy.FENCE

/-- PART_WRITE (R470): a keyed write of a PART register. -/
def execPartWrite (i : Fin 6) (w : RegWrite) (s : State) : Answer := s.writes w pgCanopy (Reg.canopy.PART + i)

/-- PAGE_LOCK (R62, R63): a write of the PAGE_LOCK of a page. -/
def execPageLock (p : BitVec 10) (w : RegWrite) (s : State) : Answer := s.writes w p.toNat Reg.PAGE_LOCK

/-- REGISTER_WRITE (R467): a write of any register. -/
def execRegisterWrite (p : BitVec 10) (off : BitVec 10) (w : RegWrite) (s : State) : Answer := s.writes w p.toNat off.toNat

end Sys2Proof.Machine
end

