-- ==== Sys2Proof/Machine/CmdInputs.lean ====
section
/-!
DEFINITION. The meanings of the commands of the inputs (R366 to R382).
-/
namespace Sys2Proof.Machine

/-- QUAD_STEP (R369). -/
def execQuadStep (dt : Nat) (i : Fin 16) (a b : Bool) (s : State) : Answer := s.does (inIslands dt (fun d => quadStep d i a b))

/-- INDEX_EVENT (R374). -/
def execIndexEvent (dt : Nat) (i : Fin 16) (age : Nat) (s : State) : Answer := s.does (inIslands dt (fun d => indexEvent d i age))

/-- STEP_EDGE (R375). -/
def execStepEdge (dt : Nat) (i : Fin 16) (rising dir : Bool) (age : Nat) (s : State) : Answer :=
  s.does (inIslands dt (fun d => stepEdge d i rising dir age))

/-- CAP_EDGE (R376, R377). -/
def execCapEdge (dt : Nat) (edges : List CapEdge) (s : State) : Answer := s.does (inIslands dt (fun d => capEdges d edges))

/-- A pending start of unit `u` has waited 2^36 − 1 gck (R378). -/
def startExpires (d : Dev) (u : Nat) : Dev :=
  match d.inp.starts.look u with
  | some a => atInstant (a + (2 ^ 36 - 1)) (fun d => startTimeout d u) d
  | none => d

/-- START_TIMEOUT (R378). -/
def execStartTimeout (u : Fin 16) (s : State) : Answer := s.does (inIslands 0 (fun d => startExpires d u))

/-- FIFO0_READ (R380): a read of CAPT.FIFO0 by a requester. -/
def execFifo0Read (dt : Nat) (req : Requester) (s : State) : Answer := s.does (inPorts dt (fun d => (fifoRead d req.id).2))

/-- CAPT_FLUSH (R380): a write of CAPT.PAGE_CTRL. -/
def execCaptFlush (w : RegWrite) (s : State) : Answer := s.writes w pgCapt Reg.PAGE_CTRL

end Sys2Proof.Machine
end

