-- ==== Sys2Proof/Machine/CmdLink.lean ====
section
/-!
DEFINITION. The meanings of the commands of the Sernyx link (R331 to R361).
-/
namespace Sys2Proof.Machine

/-- BEACON_SEND (R334): `dt` runs to a new master's first beacon; the others follow at CYC. -/
def execBeaconSend (dt : Nat) (readBad : Bool) (s : State) : Answer := s.does (fun d => beaconSend d dt readBad)

/-- BEACON_RECEIVED (R344). -/
def execBeaconReceived (rx : LinkRx) (s : State) : Answer := s.does (fun d => beaconReceived d rx)

/-- NODE_FRAME_SEND (R337). -/
def execNodeFrameSend (slot : Fin 32) (s : State) : Answer := s.does (fun d => nodeFrameSend d slot)

/-- NODE_FRAME_RECEIVED (R341). -/
def execNodeFrameReceived (slot : Fin 32) (rx : LinkRx) (s : State) : Answer :=
  s.does (fun d => nodeFrameReceived s.tele1 s.tele2 d slot rx)

/-- RQ_GO (R352): a write of SXLINK.RQ_CTL. -/
def execRqGo (w : RegWrite) (s : State) : Answer := s.writes w pgLink Reg.sxlink.RQ_CTL

/-- RQTO (R352). -/
def execRqto (dt : Nat) (s : State) : Answer := s.does (fun d => requestTimeout (linkAfter d dt))

/-- MASTER_TAKEOVER (R346). -/
def execMasterTakeover (dt : Nat) (s : State) : Answer := s.does (fun d => linkSettle (becomeMaster (linkAfter d dt)))

/-- MUTE (R345). -/
def execMute (dt : Nat) (s : State) : Answer := s.does (fun d => linkMute (linkAfter d dt))

/-- NODE_LOST (R348). -/
def execNodeLost (dt : Nat) (s : State) : Answer := s.does (fun d => nodeLost (linkAfter d dt))

/-- LINKUP_LOST (R348). -/
def execLinkupLost (dt : Nat) (s : State) : Answer := s.does (fun d => linkSettle (linkAfter d dt))

/-- DIGEST_READY (R354). -/
def execDigestReady (dt : Nat) (s : State) : Answer := s.does (inPorts 0 (fun d => digestReady (linkAfter d dt)))

/-- TSTR_GO (R353): a write of SXSCHED.TSTR_CTL. -/
def execTstrGo (w : RegWrite) (s : State) : Answer := s.writes w pgSched Reg.sxsched.TSTR_CTL

/-- PROPOSE (R357): a write of SXLINK.SLEEP. -/
def execPropose (w : RegWrite) (s : State) : Answer := s.writes w pgLink Reg.sxlink.SLEEP

/-- WAKEREQ (R356): a write of SXLINK.SLEEP. -/
def execWakereq (w : RegWrite) (s : State) : Answer := s.writes w pgLink Reg.sxlink.SLEEP

/-- LINK_SLEEP (R358). -/
def execLinkSleep (s : State) : Answer := s.does linkSleep

/-- WAKE_PATTERN_SEND (R358, R359). -/
def execWakePatternSend (dt : Nat) (s : State) : Answer := s.does (inPorts dt patternSend)

/-- WAKE_PATTERN_DETECT (R358): the wake detector is in the supervisor's island, so it acts in every power state. -/
def execWakePatternDetect (dt : Nat) (s : State) : Answer := s.does (fun d => patternDetect (d.advance dt))

end Sys2Proof.Machine
end

