-- ==== Sys2Proof/Machine/CmdMotion.lean ====
section
/-!
DEFINITION. The meanings of the register commands of the segment queues (R89 to R93), the Scribe (R111, R115, R120) and
the stroke library (R142).
-/
namespace Sys2Proof.Machine

/-- FLUSH (R93): a write of AXIS.QCTRL. -/
def execFlush (n : Fin 128) (w : RegWrite) (s : State) : Answer := s.writes w (pgAxis n) Reg.axis.QCTRL

/-- RESUME (R92): a write of AXIS.QCTRL. -/
def execResume (n : Fin 128) (w : RegWrite) (s : State) : Answer := s.writes w (pgAxis n) Reg.axis.QCTRL

/-- QPTR_TAIL_WRITE (R89): a write of AXIS.QPTR. -/
def execQptrTailWrite (n : Fin 128) (w : RegWrite) (s : State) : Answer := s.writes w (pgAxis n) Reg.axis.QPTR

/-- SCRIBE_RUN (R120): a write of SCRIBE.PAGE_CTRL. -/
def execScribeRun (w : RegWrite) (s : State) : Answer := s.writes w pgScribe Reg.PAGE_CTRL

/-- INKWELL_WR_WRITE (R115): a write of SCRIBE.WR. -/
def execInkwellWrWrite (w : RegWrite) (s : State) : Answer := s.writes w pgScribe Reg.scribe.WR

/-- INKWELL_RD_WRITE (R115): a write of SCRIBE.RD. -/
def execInkwellRdWrite (w : RegWrite) (s : State) : Answer := s.writes w pgScribe Reg.scribe.RD

/-- MSRC_WRITE (R111): a write of SCRIBE.MSRC. -/
def execMsrcWrite (w : RegWrite) (s : State) : Answer := s.writes w pgScribe Reg.scribe.MSRC

/-- CHECK (R142): a write of STROKE.CHECK. -/
def execStrokeCheck (w : RegWrite) (s : State) : Answer := s.writes w pgStroke Reg.stroke.CHECK

/-- The end of a check of the stroke library (R142): CHKSTAT and CHKDONE. -/
def checkDone (d : Dev) : Dev :=
  match d.scr.chkBusy with
  | some (start, count) =>
    let w := match checkStrokes d start count with
      | some (stroke, cause) => mkw [(33, 1), (16, stroke), (0, cause)]
      | none => 0
    ((d.setScr { d.scr with chkBusy := none }).wr pgStroke Reg.stroke.CHKSTAT w).ev pgStroke 0
  | none => d

/-- CHKDONE (R142). -/
def execChkdone (dt : Nat) (s : State) : Answer := s.does (inIslands dt checkDone)

end Sys2Proof.Machine
end

