-- ==== Sys2Proof/Machine/CmdPower.lean ====
section
/-!
DEFINITION. The meanings of the commands of the supervisor: ladders and power states (R391 to R407). Its island runs in
every power state.
-/
namespace Sys2Proof.Machine

/-- SUPPLY_LEVEL_ENTER (R393, R394). -/
def execSupplyLevelEnter (dt : Nat) (level : Fin 5) (s : State) : Answer := s.does (fun d => supplyEnter (d.advance dt) level)

/-- SUPPLY_LEVEL_LEAVE (R391). -/
def execSupplyLevelLeave (dt : Nat) (s : State) : Answer := s.does (fun d => supplyLeave (d.advance dt))

/-- t_PFF of R408, in ns. -/
def tPff : Nat := 1000

/-- PFAIL (R395): PFAIL_N low for `ns`; a pulse shorter than t_PFF does nothing. -/
def execPfail (dt : Nat) (ns : Nat) (s : State) : Answer :=
  s.does (fun d =>
    let d1 := d.advance dt
    if tPff ≤ ns ∧ !d1.sup.pfail then pfail d1 else d1)

/-- PFAIL_N_HIGH (R395). -/
def execPfailNHigh (dt : Nat) (s : State) : Answer := s.pin dt pfailHigh

/-- MOTOR_BUS_LEVEL_ENTER (R396, R397). -/
def execMotorBusLevelEnter (dt : Nat) (g : Fin 8) (level : Fin 7) (s : State) : Answer :=
  s.does (fun d => busEnter (d.advance dt) g level)

/-- MOTOR_BUS_LEVEL_LEAVE (R396). -/
def execMotorBusLevelLeave (dt : Nat) (g : Fin 8) (ov : Bool) (s : State) : Answer :=
  s.does (fun d => busLeave (d.advance dt) g ov)

/-- TEMP_LEVEL_ENTER (R398). -/
def execTempLevelEnter (dt : Nat) (level : Fin 5) (s : State) : Answer := s.does (fun d => tempEnter (d.advance dt) level)

/-- TEMP_LEVEL_LEAVE (R398). -/
def execTempLevelLeave (dt : Nat) (s : State) : Answer := s.does (fun d => tempLeave (d.advance dt))

/-- T4_RESET (R398). -/
def execT4Reset (dt : Nat) (s : State) : Answer := s.does (fun d => t4Reset (d.advance dt))

/-- RUN_REQUEST (R400): a write of SUPV.PSCTL. -/
def execRunRequest (w : RegWrite) (s : State) : Answer := s.writes w pgSupv Reg.supv.PSCTL

/-- IDLE_REQUEST (R401): a write of SUPV.PSCTL. -/
def execIdleRequest (w : RegWrite) (s : State) : Answer := s.writes w pgSupv Reg.supv.PSCTL

/-- STANDBY_REQUEST (R402): a write of SUPV.PSCTL. -/
def execStandbyRequest (w : RegWrite) (s : State) : Answer := s.writes w pgSupv Reg.supv.PSCTL

/-- RETAIN_REQUEST (R402): a write of SUPV.PSCTL. -/
def execRetainRequest (w : RegWrite) (s : State) : Answer := s.writes w pgSupv Reg.supv.PSCTL

/-- STATE_ENTERED (R402). -/
def execStateEntered (dt : Nat) (s : State) : Answer := s.does (fun d => stateEntered (d.advance dt))

/-- WAKE (R405, R406). -/
def execWake (dt : Nat) (sources : BitVec 4) (lv : InLevels) (s : State) : Answer :=
  s.does (fun d => wake (d.advance dt) sources.toNat lv)

/-- SCRUB_PASS (R404). -/
def execScrubPass (dt : Nat) (s : State) : Answer := s.does (fun d => scrubPass (d.advance dt))

end Sys2Proof.Machine
end

