-- ==== Sys2Proof/Machine/CmdReset.lean ====
section
/-!
DEFINITION. The meanings of the reset commands (R388 to R390).
-/
namespace Sys2Proof.Machine

/-- DEVICE_RESET (R389): a cause becomes active, also while another one holds the reset. -/
def execDeviceReset (dt : Nat) (cause : ResetCause) (s : State) : Answer := .next (s.after (resetDevice (s.dev.pass dt) cause))

/-- RESET_RELEASE (R389, R390): nothing is counted while reset lasts, so the release is the instant 0. -/
def execResetRelease (_dt : Nat) (lv : InLevels) (s : State) : Answer := .next (s.after (releaseReset s.dev lv))

/-- t_RSTPW of R408, in ns. -/
def tRstpw : Nat := 1000

/-- RESET_N_LOW (R389): a pulse shorter than t_RSTPW is no cause. -/
def execResetNLow (dt : Nat) (ns : Nat) (s : State) : Answer :=
  let d := s.dev.pass dt
  .next (s.after (if tRstpw ≤ ns then resetDevice d .pin else d))

/-- SOFT_RESET (R389): the keyed write of SUPV.RESET. -/
def execSoftReset (w : RegWrite) (s : State) : Answer := s.writes w pgSupv Reg.supv.RESET

end Sys2Proof.Machine
end

