-- ==== Sys2Proof/Machine/CmdTick.lean ====
section
/-!
DEFINITION. The meanings of the commands of the tick (R24 to R30) and of counts that run out in it (R78, R90, R131,
R151, R250), and of the planners' checkpoints, words and verdicts (R262 to R282).
-/
namespace Sys2Proof.Machine

/-- TICK_TOKEN (R24, R25), t_TOKLEAD before the boundary; the groves in `lost` receive none. -/
def execTickToken (lost : BitVec 8) (s : State) : Answer :=
  s.does (inIslands 0 (fun d =>
    let d1 := checkpointAct d
    sendToken (d1.advanceTo (d1.boundaryClk - 160)) lost.toNat))

/-- TICK_BOUNDARY (R26). The samples of the last two boundaries are kept for telemetry (R66). -/
def execTickBoundary (ue : List (Fin 2 × Fin 128)) (s : State) : Answer :=
  if !s.dev.grovesRun then .next s
  else
    let r := tickBoundary s.dev (ue.map (fun e => (e.1.val, e.2.val)))
    .next (s.afterTick r.1 r.2)

/-- QUEUE_DWELL_END (R90). -/
def execQueueDwellEnd (n : Fin 128) (s : State) : Answer := s.does (inIslands 0 (fun d => queueDwellOver d n))

/-- REVDWELL_END (R78). -/
def execRevdwellEnd (n : Fin 128) (s : State) : Answer := s.does (inIslands 0 (fun d => turnOver d n))

/-- STROKE_DWELL_END (R131). -/
def execStrokeDwellEnd (n : Fin 128) (s : State) : Answer := s.does (inIslands 0 (fun d => strokeDwellOver d n))

/-- RETRY_DWELL_END (R250). -/
def execRetryDwellEnd (n : Fin 128) (s : State) : Answer := s.does (inIslands 0 (fun d => retryOver d n))

/-- STILL_DELAY_EXPIRY (R151). -/
def execStillDelayExpiry (n : Fin 128) (s : State) : Answer := s.does (inIslands 0 (fun d => stillOver d n))

/-- Whether no broadcast has arrived for HOLD cycles (R110). -/
def Dev.coordLost (d : Dev) : Bool :=
  d.variant.full && d.rf pgScribe Reg.scribe.MSRC 2 0 == 3 && !d.scr.mlost &&
    (match d.scr.broadcast with
      | none => true
      | some b => decide (d.rf pgScribe Reg.scribe.MSRC 27 24 < (d.cycleNow + 2 ^ 36 - b.cycle) % 2 ^ 36))

/-- C holds and mvel is 0 (R110). -/
def coordLoss (d : Dev) : Dev := if d.coordLost then (d.setScr { d.scr with mlost := true, mvel := 0 }).ev pgScribe 9 else d

/-- MLOST (R110). -/
def execMlost (s : State) : Answer := s.does (inIslands 0 coordLoss)

/-- SCRIBE_FETCH (R118, R119): one point. -/
def execScribeFetch (dt : Nat) (s : State) : Answer := s.does (inIslands dt (fun d => fetchPoint d d.tb.tper))

/-- CHECKPOINT (R267): what the checkpoint boundary just placed has frozen. -/
def execCheckpoint (s : State) : Answer := s.does (inIslands 0 checkpointAct)

/-- CHECKPOINT_COMMIT (R268). -/
def execCheckpointCommit (dt : Nat) (s : State) : Answer := s.does (inIslands dt (fun d => commitNow (checkpointAct d)))

/-- Whether Quill `q` gives a word of axis `n` in the tick in progress. -/
def Dev.gives (d : Dev) (q n : Nat) : Bool :=
  d.tb.started && d.sup.ps == .run && d.hasAxis n && d.quillRuns q && computes d.variant d.tw.mode q (n / 16)

/-- A word replayed during a recovery is compared and handed to no grove (R274, step 4; R276). -/
def replayWord (d : Dev) (n diff : Nat) : Dev :=
  match d.tw.recov with
  | some r =>
    if d.tw.mode = .paired ∧ r.k + 2 ≤ d.tk ∧ diff % 2 ^ 108 ≠ 0 then
      disagree d 5 (disInfo n (diffLane (d.word108 n) (d.word108 n ^^^ (diff % 2 ^ 108))) ((d.tk + 1) % 256))
    else d
  | none => d

/-- A word of Quill `q` arrives (R30): one that is late has no effect but its count at the boundary. -/
def wordArrives (d : Dev) (q n diff : Nat) : Dev :=
  if !d.gives q n ∨ !wordInTime d then d else if d.hands then handWord d q n diff else replayWord d n diff

/-- OUTPUT_WORD (R30, R262). -/
def execOutputWord (dt : Nat) (q : Fin 2) (n : Fin 128) (diff : BitVec 108) (s : State) : Answer :=
  s.does (inIslands dt (fun d => wordArrives (checkpointAct d) q n diff.toNat))

/-- TWIN_VERDICT (R263), t_HAND before the boundary. -/
def execTwinVerdict (s : State) : Answer :=
  s.does (inIslands 0 (fun d =>
    let d1 := checkpointAct d
    verdictAct (d1.advanceTo (d1.boundaryClk - 64))))

/-- MISSING_WORD (R264, cause 2), t_HAND before the boundary. -/
def execMissingWord (s : State) : Answer :=
  s.does (inIslands 0 (fun d =>
    let d1 := checkpointAct d
    let d2 := d1.advanceTo (d1.boundaryClk - 64)
    if d2.tb.started then missingWords d2 else d2))

/-- EXTRAPOLATION_OVERRUN (R273), t_HAND before the boundary. -/
def execExtrapolationOverrun (g : Fin 8) (s : State) : Answer :=
  s.does (inGrove g 0 (fun d => overrunCheck (d.advanceTo (d.boundaryClk - 64)) g))

/-- TOKEN_LATE (R25). -/
def execTokenLate (g : Fin 8) (s : State) : Answer := s.does (inGrove g 0 (fun d => tokenLate d g))

/-- TOKEN_LOSS (R25). -/
def execTokenLoss (g : Fin 8) (s : State) : Answer := s.does (inGrove g 0 (fun d => tokenLoss d g))

/-- RAMP_COMPLETE (R201). -/
def execRampComplete (g : Fin 8) (s : State) : Answer := s.does (inGrove g 0 (fun d => rampComplete d g))

/-- RAMPMAX_EXPIRY (R201). -/
def execRampmaxExpiry (g : Fin 8) (s : State) : Answer := s.does (inGrove g 0 (fun d => rampExpire d g))

/-- MODE_REQ (R277): the keyed write of TWIN.MODE. -/
def execModeReq (w : RegWrite) (s : State) : Answer := s.writes w pgTwin Reg.twin.MODE

/-- The page and the offset at which CKCFG is written (R270). -/
def ckPlace : CkPage → Nat × Nat
  | .twin => (pgTwin, Reg.twin.CKCFG)
  | .plana => (pgPlanA, Reg.plan.CKCFG)
  | .planb => (pgPlanB, Reg.plan.CKCFG)

/-- CKNOW (R266, R270). -/
def execCknow (page : CkPage) (w : RegWrite) (s : State) : Answer := s.writes w (ckPlace page).1 (ckPlace page).2

/-- STEST_GO (R281). -/
def execStestGo (w : RegWrite) (s : State) : Answer := s.writes w pgTwin Reg.twin.STEST

/-- STEST_DONE (R281). The FD9032 has no TWIN (R33). -/
def execStestDone (dt : Nat) (laneFail : BitVec 16) (sigFail : Bool) (s : State) : Answer :=
  s.does (inIslands dt (fun d => if d.variant.full ∧ d.tw.stest then stestDone d laneFail.toNat sigFail else d))

end Sys2Proof.Machine
end

