-- ==== Sys2Proof/Machine/CmdTime.lean ====
section
/-!
DEFINITION. The meanings of the commands of the timebase (R320 to R327).
-/
namespace Sys2Proof.Machine

/-- SET (R326): a write of TIME.SET_HI. -/
def execSetTime (w : RegWrite) (s : State) : Answer := s.writes w pgTime Reg.time.SET_HI

/-- PPS_EDGE (R320). -/
def execPpsEdge (dt : Nat) (refEdges : Nat) (s : State) : Answer := s.does (inIslands dt (fun d => ppsEdge d refEdges))

/-- A reference source as the timebase names it. -/
def sourceOf : RefSource → TimeSource
  | .sernyx => .sernyx
  | .pps => .pps

/-- A valid source has been valid for QTIME (R321). -/
def sourceQualifies (d : Dev) (k : TimeSource) : Dev :=
  let x := d.tb.source k
  if x.valid ∧ !x.qualified then atInstant (x.since + d.qtime) (fun d => qualify d k) d else d

/-- SOURCE_QUALIFIED (R321). -/
def execSourceQualified (src : RefSource) (s : State) : Answer := s.does (inIslands 0 (fun d => sourceQualifies d (sourceOf src)))

/-- 1.5 s in canopy-time units (R320). -/
def ppsLimit : Int := 103079215104

/-- A source is lost (R320): PPS 1.5 s after its last edge (cause 2), either source by its rate (cause 5); SERNYX with
the link's master time (cause 1), which follows from the link's state. The other causes come with the edge or the
write that brings them about. -/
def sourceLost (d : Dev) (src : RefSource) (cause : Nat) : Dev :=
  match src, cause with
  | .pps, 2 =>
    match d.tb.pps.lastEdge with
    | some t => if ppsLimit ≤ diff72 d.tb.now t then loseSource d .pps 2 else d
    | none => d
  | .pps, 5 => loseSource d .pps 5
  | .sernyx, 5 => loseSource d .sernyx 5
  | .sernyx, 1 => linkMute (linkCatch d)
  | _, _ => d

/-- SOURCE_LOST (R322). -/
def execSourceLost (dt : Nat) (src : RefSource) (cause : Fin 16) (s : State) : Answer :=
  s.does (inIslands dt (fun d => sourceLost d src cause))

/-- A slew has removed its offset (R324). -/
def slewReached (d : Dev) : Dev := if d.tb.slewing then slewEnd (d.advance d.slewTime) else d

/-- SLEW_END (R324). -/
def execSlewEnd (s : State) : Answer := s.does (inIslands 0 slewReached)

/-- ARM (R327): a write of TSi_CTL. -/
def execArm (i : Fin 8) (w : RegWrite) (s : State) : Answer := s.writes w pgTime (tsOff i + 2)

/-- DISARM (R327): a write of TSi_CTL. -/
def execDisarm (i : Fin 8) (w : RegWrite) (s : State) : Answer := s.writes w pgTime (tsOff i + 2)

/-- An armed slot fires when NOW reaches its time (R327). -/
def slotFires (d : Dev) (i : Nat) : Dev := if d.tsState i = 1 then tsFire (d.advance (d.gckUntil (d.tsTime i))) i 2 else d

/-- TIMED_STROBE_FIRE (R327). -/
def execTimedStrobeFire (i : Fin 8) (s : State) : Answer := s.does (inIslands 0 (fun d => slotFires d i))

end Sys2Proof.Machine
end

