-- ==== Sys2Proof/Machine/Dispatch.lean ====
section
/-!
DEFINITION. What each command does: one arm per row of the table, each one call of that command's meaning.
-/
namespace Sys2Proof.Machine

open Sys2Proof

/-- The effect of a command on everything but the queue. -/
def exec (i : Instr) (s : State) : Host.Outcome State Fault Refusal :=
  match i with
  | .deviceReset dt cause => Sys2Proof.Machine.execDeviceReset dt cause s
  | .resetRelease dt lv => Sys2Proof.Machine.execResetRelease dt lv s
  | .resetNLow dt ns => Sys2Proof.Machine.execResetNLow dt ns s
  | .softReset w => Sys2Proof.Machine.execSoftReset w s
  | .tickToken lost => Sys2Proof.Machine.execTickToken lost s
  | .tickBoundary ue => Sys2Proof.Machine.execTickBoundary ue s
  | .queueDwellEnd n => Sys2Proof.Machine.execQueueDwellEnd n s
  | .revdwellEnd n => Sys2Proof.Machine.execRevdwellEnd n s
  | .mlost => Sys2Proof.Machine.execMlost s
  | .scribeFetch dt => Sys2Proof.Machine.execScribeFetch dt s
  | .strokeDwellEnd n => Sys2Proof.Machine.execStrokeDwellEnd n s
  | .retryDwellEnd n => Sys2Proof.Machine.execRetryDwellEnd n s
  | .stillDelayExpiry n => Sys2Proof.Machine.execStillDelayExpiry n s
  | .checkpoint => Sys2Proof.Machine.execCheckpoint s
  | .checkpointCommit dt => Sys2Proof.Machine.execCheckpointCommit dt s
  | .outputWord dt q n diff => Sys2Proof.Machine.execOutputWord dt q n diff s
  | .twinVerdict => Sys2Proof.Machine.execTwinVerdict s
  | .missingWord => Sys2Proof.Machine.execMissingWord s
  | .extrapolationOverrun g => Sys2Proof.Machine.execExtrapolationOverrun g s
  | .tokenLate g => Sys2Proof.Machine.execTokenLate g s
  | .tokenLoss g => Sys2Proof.Machine.execTokenLoss g s
  | .rampComplete g => Sys2Proof.Machine.execRampComplete g s
  | .rampmaxExpiry g => Sys2Proof.Machine.execRampmaxExpiry g s
  | .coilPeriodStart g j => Sys2Proof.Machine.execCoilPeriodStart g j s
  | .carrierEvent g e => Sys2Proof.Machine.execCarrierEvent g e s
  | .tripRecognised dt g j => Sys2Proof.Machine.execTripRecognised dt g j s
  | .tonmax g j => Sys2Proof.Machine.execTonmax g j s
  | .fastPhaseEnd g j => Sys2Proof.Machine.execFastPhaseEnd g j s
  | .zeroCurrentRecognised dt g j => Sys2Proof.Machine.execZeroCurrentRecognised dt g j s
  | .urgentRequest g j => Sys2Proof.Machine.execUrgentRequest g j s
  | .zmaxExpiry g j => Sys2Proof.Machine.execZmaxExpiry g j s
  | .driveResume g j => Sys2Proof.Machine.execDriveResume g j s
  | .nodeRecognised dt g k high => Sys2Proof.Machine.execNodeRecognised dt g k high s
  | .incomingTurnOn g k => Sys2Proof.Machine.execIncomingTurnOn g k s
  | .edgeMiss g k => Sys2Proof.Machine.execEdgeMiss g k s
  | .overlapEvent dt g k => Sys2Proof.Machine.execOverlapEvent dt g k s
  | .faultNLow dt g ns => Sys2Proof.Machine.execFaultNLow dt g ns s
  | .estopNLow dt ns => Sys2Proof.Machine.execEstopNLow dt ns s
  | .safeLevels g => Sys2Proof.Machine.execSafeLevels g s
  | .trip g w => Sys2Proof.Machine.execTrip g w s
  | .outen g w => Sys2Proof.Machine.execOuten g w s
  | .rstop g w => Sys2Proof.Machine.execRstop g w s
  | .clear g w => Sys2Proof.Machine.execClear g w s
  | .holdmaxExpiry g => Sys2Proof.Machine.execHoldmaxExpiry g s
  | .sequenceTrigger dt c => Sys2Proof.Machine.execSequenceTrigger dt c s
  | .convStart c w => Sys2Proof.Machine.execConvStart c w s
  | .convEn c w => Sys2Proof.Machine.execConvEn c w s
  | .conversionEnd c => Sys2Proof.Machine.execConversionEnd c s
  | .resultReady dt c raw overload => Sys2Proof.Machine.execResultReady dt c raw overload s
  | .calGo g w => Sys2Proof.Machine.execCalGo g w s
  | .caldone dt g fcause fitem die => Sys2Proof.Machine.execCaldone dt g fcause fitem die s
  | .calApply g w => Sys2Proof.Machine.execCalApply g w s
  | .calApplied dt g die => Sys2Proof.Machine.execCalApplied dt g die s
  | .obscalGo n w => Sys2Proof.Machine.execObscalGo n w s
  | .obscalAbort n w => Sys2Proof.Machine.execObscalAbort n w s
  | .trustset n w => Sys2Proof.Machine.execTrustset n w s
  | .flush n w => Sys2Proof.Machine.execFlush n w s
  | .resume n w => Sys2Proof.Machine.execResume n w s
  | .qptrTailWrite n w => Sys2Proof.Machine.execQptrTailWrite n w s
  | .scribeRun w => Sys2Proof.Machine.execScribeRun w s
  | .inkwellWrWrite w => Sys2Proof.Machine.execInkwellWrWrite w s
  | .inkwellRdWrite w => Sys2Proof.Machine.execInkwellRdWrite w s
  | .msrcWrite w => Sys2Proof.Machine.execMsrcWrite w s
  | .strokeCheck w => Sys2Proof.Machine.execStrokeCheck w s
  | .chkdone dt => Sys2Proof.Machine.execChkdone dt s
  | .nop f => Sys2Proof.Machine.execNop f s
  | .write f => Sys2Proof.Machine.execWrite f s
  | .scatter f => Sys2Proof.Machine.execScatter f s
  | .read f => Sys2Proof.Machine.execRead f s
  | .gather f => Sys2Proof.Machine.execGather f s
  | .gatherT f => Sys2Proof.Machine.execGatherT f s
  | .gatherTCapture dt => Sys2Proof.Machine.execGatherTCapture dt s
  | .queue f => Sys2Proof.Machine.execQueue f s
  | .fence f => Sys2Proof.Machine.execFence f s
  | .fenceComplete dt req => Sys2Proof.Machine.execFenceComplete dt req s
  | .discard f => Sys2Proof.Machine.execDiscard f s
  | .frameAborted dt bits => Sys2Proof.Machine.execFrameAborted dt bits s
  | .resetPattern dt => Sys2Proof.Machine.execResetPattern dt s
  | .prst w => Sys2Proof.Machine.execPrst w s
  | .replyCut dt => Sys2Proof.Machine.execReplyCut dt s
  | .watchdogExpiry => Sys2Proof.Machine.execWatchdogExpiry s
  | .kick w => Sys2Proof.Machine.execKick w s
  | .update w => Sys2Proof.Machine.execUpdate w s
  | .updInEdge dt rising => Sys2Proof.Machine.execUpdInEdge dt rising s
  | .fenceReq w => Sys2Proof.Machine.execFenceReq w s
  | .partWrite ix w => Sys2Proof.Machine.execPartWrite ix w s
  | .pageLock p w => Sys2Proof.Machine.execPageLock p w s
  | .registerWrite p off w => Sys2Proof.Machine.execRegisterWrite p off w s
  | .setTime w => Sys2Proof.Machine.execSetTime w s
  | .ppsEdge dt refEdges => Sys2Proof.Machine.execPpsEdge dt refEdges s
  | .sourceQualified src => Sys2Proof.Machine.execSourceQualified src s
  | .sourceLost dt src cause => Sys2Proof.Machine.execSourceLost dt src cause s
  | .slewEnd => Sys2Proof.Machine.execSlewEnd s
  | .arm ix w => Sys2Proof.Machine.execArm ix w s
  | .disarm ix w => Sys2Proof.Machine.execDisarm ix w s
  | .timedStrobeFire ix => Sys2Proof.Machine.execTimedStrobeFire ix s
  | .beaconSend dt readBad => Sys2Proof.Machine.execBeaconSend dt readBad s
  | .beaconReceived rx => Sys2Proof.Machine.execBeaconReceived rx s
  | .nodeFrameSend slot => Sys2Proof.Machine.execNodeFrameSend slot s
  | .nodeFrameReceived slot rx => Sys2Proof.Machine.execNodeFrameReceived slot rx s
  | .rqGo w => Sys2Proof.Machine.execRqGo w s
  | .rqto dt => Sys2Proof.Machine.execRqto dt s
  | .masterTakeover dt => Sys2Proof.Machine.execMasterTakeover dt s
  | .mute dt => Sys2Proof.Machine.execMute dt s
  | .nodeLost dt => Sys2Proof.Machine.execNodeLost dt s
  | .digestReady dt => Sys2Proof.Machine.execDigestReady dt s
  | .tstrGo w => Sys2Proof.Machine.execTstrGo w s
  | .propose w => Sys2Proof.Machine.execPropose w s
  | .wakereq w => Sys2Proof.Machine.execWakereq w s
  | .linkSleep => Sys2Proof.Machine.execLinkSleep s
  | .wakePatternSend dt => Sys2Proof.Machine.execWakePatternSend dt s
  | .wakePatternDetect dt => Sys2Proof.Machine.execWakePatternDetect dt s
  | .quadStep dt ix a b => Sys2Proof.Machine.execQuadStep dt ix a b s
  | .indexEvent dt ix age => Sys2Proof.Machine.execIndexEvent dt ix age s
  | .stepEdge dt ix rising dir age => Sys2Proof.Machine.execStepEdge dt ix rising dir age s
  | .capEdge dt edges => Sys2Proof.Machine.execCapEdge dt edges s
  | .startTimeout u => Sys2Proof.Machine.execStartTimeout u s
  | .fifo0Read dt req => Sys2Proof.Machine.execFifo0Read dt req s
  | .captFlush w => Sys2Proof.Machine.execCaptFlush w s
  | .supplyLevelEnter dt level => Sys2Proof.Machine.execSupplyLevelEnter dt level s
  | .supplyLevelLeave dt => Sys2Proof.Machine.execSupplyLevelLeave dt s
  | .pfail dt ns => Sys2Proof.Machine.execPfail dt ns s
  | .motorBusLevelEnter dt g level => Sys2Proof.Machine.execMotorBusLevelEnter dt g level s
  | .motorBusLevelLeave dt g ov => Sys2Proof.Machine.execMotorBusLevelLeave dt g ov s
  | .tempLevelEnter dt level => Sys2Proof.Machine.execTempLevelEnter dt level s
  | .tempLevelLeave dt => Sys2Proof.Machine.execTempLevelLeave dt s
  | .t4Reset dt => Sys2Proof.Machine.execT4Reset dt s
  | .runRequest w => Sys2Proof.Machine.execRunRequest w s
  | .idleRequest w => Sys2Proof.Machine.execIdleRequest w s
  | .standbyRequest w => Sys2Proof.Machine.execStandbyRequest w s
  | .retainRequest w => Sys2Proof.Machine.execRetainRequest w s
  | .stateEntered dt => Sys2Proof.Machine.execStateEntered dt s
  | .wake dt sources lv => Sys2Proof.Machine.execWake dt sources lv s
  | .scrubPass dt => Sys2Proof.Machine.execScrubPass dt s
  | .imageLoad dt board => Sys2Proof.Machine.execImageLoad dt board s
  | .bootdone dt => Sys2Proof.Machine.execBootdone dt s
  | .xcmdRead w => Sys2Proof.Machine.execXcmdRead w s
  | .xcmdProgram w => Sys2Proof.Machine.execXcmdProgram w s
  | .xcmdErase w => Sys2Proof.Machine.execXcmdErase w s
  | .xdone dt outcome => Sys2Proof.Machine.execXdone dt outcome s
  | .journalRecordWritten dt ok => Sys2Proof.Machine.execJournalRecordWritten dt ok s
  | .peripTailWrite w => Sys2Proof.Machine.execPeripTailWrite w s
  | .peripEntryStart dt => Sys2Proof.Machine.execPeripEntryStart dt s
  | .peripEntryEnd dt rx => Sys2Proof.Machine.execPeripEntryEnd dt rx s
  | .readyTimeout => Sys2Proof.Machine.execReadyTimeout s
  | .contto => Sys2Proof.Machine.execContto s
  | .modeReq w => Sys2Proof.Machine.execModeReq w s
  | .cknow page w => Sys2Proof.Machine.execCknow page w s
  | .stestGo w => Sys2Proof.Machine.execStestGo w s
  | .stestDone dt laneFail sigFail => Sys2Proof.Machine.execStestDone dt laneFail sigFail s
  | .memacc dt op addr data => Sys2Proof.Machine.execMemacc dt op addr data s
  | .groveHalt dt g => Sys2Proof.Machine.execGroveHalt dt g s
  | .groveResume dt g => Sys2Proof.Machine.execGroveResume dt g s
  | .quillHalt dt q withResume => Sys2Proof.Machine.execQuillHalt dt q withResume s
  | .quillResume dt q => Sys2Proof.Machine.execQuillResume dt q s
  | .idcode dt => Sys2Proof.Machine.execIdcode dt s
  | .bypass dt => Sys2Proof.Machine.execBypass dt s
  | .extest dt pattern => Sys2Proof.Machine.execExtest dt pattern s
  | .samplePreload dt pattern => Sys2Proof.Machine.execSamplePreload dt pattern s
  | .tapReset dt => Sys2Proof.Machine.execTapReset dt s
  | .blotCtrl w => Sys2Proof.Machine.execBlotCtrl w s
  | .blotRdWrite w => Sys2Proof.Machine.execBlotRdWrite w s
  | .faultNHigh dt g => Sys2Proof.Machine.execFaultNHigh dt g s
  | .estopNHigh dt => Sys2Proof.Machine.execEstopNHigh dt s
  | .pfailNHigh dt => Sys2Proof.Machine.execPfailNHigh dt s
  | .linkupLost dt => Sys2Proof.Machine.execLinkupLost dt s
  | .undefinedOpcodeFrame op f => Sys2Proof.Machine.execUndefinedOpcodeFrame op f s
  | .journalEraseEnd dt ok => Sys2Proof.Machine.execJournalEraseEnd dt ok s
  | .hostPortReady dt => Sys2Proof.Machine.execHostPortReady dt s

end Sys2Proof.Machine
end

