-- ==== Sys2Proof/Safety.lean ====
section
/-!
DEFINITION. What a safe state of the block is, in the words of the spec: the balls of a tripped grove are harmless until
its safe levels are reached (R202), while reset lasts every ball is (R388), and no leg ever drives both its balls (R183,
R184). The balls of the state are those that the device's own state gives.
-/
namespace Sys2Proof.Machine

/-- The balls follow the device (R182). -/
def State.ballsFollow (s : State) : Prop := s.balls = ballsOf s.dev

/-- The level of the two balls of leg `k` of grove `g`: 0 both low or released, 1 GL high, 2 GH high. -/
def State.ball (s : State) (g k : Nat) : Nat := s.balls.get (64 * g + k) 0

/-- Every ball of grove `g` is low or released. -/
def State.quiet (s : State) (g : Nat) : Prop := ∀ k, k < 64 → s.ball g k = 0

/-- A grove that has tripped and has not reached its safe levels, with no boundary scan in force, drives no ball
(R202). -/
def State.tripSafe (s : State) : Prop :=
  ∀ g, g < 8 → (s.dev.grove g).tripped = true → (s.dev.grove g).safe = false → s.dev.tap.extest = false → s.quiet g

/-- While reset lasts no ball is driven (R388). -/
def State.resetSafe (s : State) : Prop := s.dev.sup.inReset = true → ∀ g, g < 8 → s.quiet g

/-- A grove whose OUTEN is 0 drives no ball, with no boundary scan in force (R182). -/
def State.outenSafe (s : State) : Prop :=
  ∀ g, g < 8 → s.dev.rb (pgFire g) Reg.PAGE_CTRL 0 = false → s.dev.tap.extest = false → s.quiet g

/-! ### In which states a command acts (R389, R399) -/

/-- The islands of the Quills and the groves run: no reset, and RUN or IDLE (R399). -/
def State.runs (s : State) : Prop := s.dev.grovesRun = true

/-- Registers can be reached: no reset, and not RETAIN (R389, R399). -/
def State.pages (s : State) : Prop := s.dev.sup.inReset = false ∧ s.dev.sup.ps ≠ .retain

/-- Grove `g` runs: its islands do, it is present and no debug HOLD stops it (R209). -/
def State.live (s : State) (g : Nat) : Prop := s.dev.groveLive g = true

/-- No trip that the device itself has found waits; every step leaves it so. -/
def Dev.settled (d : Dev) : Prop := ∀ g, g < d.variant.groves → (d.grove g).due = 0
def State.settled (s : State) : Prop := s.dev.settled

/-- A write at offset `off` of page `p` that nothing refuses (R52, R62): it leaves no PAGE_ERR. -/
def State.takes (s : State) (w : RegWrite) (p off : Nat) : Prop :=
  s.pages ∧ (writePage (s.dev.advance w.dt) p off w.req.id w.win w.data).st = stOk

/-- A keyed write has the unlock that it needs (R63). -/
def State.hasKey (s : State) (w : RegWrite) (p : Nat) : Prop := w.req = .loader ∨ s.dev.unlocked w.req.id p = true

/-- Grove `g` has tripped: it has latched at this instant, its safe levels lie ahead, and every coil is OFF (R202). -/
structure Dev.Latched (d : Dev) (g : Nat) : Prop where
  tripped : (d.grove g).tripped = true
  safe : (d.grove g).safe = false
  at_ : (d.grove g).tripAt = d.clk
  off : ∀ j, j < 32 → (d.coil (32 * g + j)).st = .off

/-! ### What a command leaves alone -/

/-- The device without what lies within the groves (their tables), without its registers and without the model's count of
free values. -/
def Dev.apart (d : Dev) : Dev :=
  { d with regs := [], rose := [], hist := [], obs := [], gax := [], groves := [], coils := [], legs := [], convs := [],
           cals := [], draws := 0 }

/-- `d'` differs from `d` within grove `g` only: its carrier, Firebreak, coils, legs, converters, calibration, the groves'
side and the observers of its axes, and its pages. -/
structure Dev.Within (g : Nat) (d d' : Dev) : Prop where
  apart : d'.apart = d.apart
  rd : ∀ p off, off < 1024 → (p < 0x100 ∨ groveOf p ≠ g) → d'.rd p off = d.rd p off
  grove : ∀ x, x ≠ g → d'.grove x = d.grove x
  coil : ∀ x, x / 32 ≠ g → d'.coil x = d.coil x
  leg : ∀ x, x / 64 ≠ g → d'.leg x = d.leg x
  conv : ∀ x, x / 4 ≠ g → d'.conv x = d.conv x
  cal : ∀ x, x ≠ g → d'.calSt x = d.calSt x
  ob : ∀ x, x / 16 ≠ g → d'.ob x = d.ob x
  ga : ∀ x, x / 16 ≠ g → d'.ga x = d.ga x

/-- `S` is `d` after the register at `off` of page `p` has taken a written word: no other register differs, nor anything
else but the locks of the pages, and in a grove where its carrier counter stands. -/
structure Dev.Stores (p off : Nat) (d S : Dev) : Prop where
  same : { S with acc := d.acc, groves := d.groves, regs := d.regs, hist := d.hist } = d
  locks : ∃ ks, S.acc = { d.acc with unlocked := ks }
  rd : ∀ q o, o < 1024 → ¬ (q = p ∧ o = off) → S.rd q o = d.rd q o
  grove : ∀ g, { S.grove g with carStart := (d.grove g).carStart, carPeriod := (d.grove g).carPeriod,
                                carIlv := (d.grove g).carIlv, carOff := (d.grove g).carOff,
                                carNo := (d.grove g).carNo } = d.grove g
  low : p < 0x100 → S.groves = d.groves

/-! ### The host port -/

/-- A frame with opcode `op` that the port accepts (R291 to R295) while no earlier reply waits (R301) and before a countdown
of the watchdog runs out (R310). -/
structure State.accepts (s : State) (op : Nat) (f : Frame) : Prop where
  up : s.dev.hostUp = true
  data : f.data.length = reqWords op (frameN f)
  crc : crcOk op f = true
  opcode : op < 9
  form : formatOk op f = true
  alive : aliveStep s.dev.hp f.alive.val ≠ 0
  free : ∀ r, s.dev.hp.reply = some r → r.wait = none
  kicked : s.dev.hp.wdRun = true → s.dev.clk + f.dt < s.dev.wdDue

/-- `d'` differs from `d` in the host port and its page only. -/
structure Dev.HostOnly (d d' : Dev) : Prop where
  same : { d' with hp := d.hp, regs := d.regs, rose := d.rose, pins := d.pins, draws := d.draws } = d
  pins : { d'.pins with sel := d.pins.sel } = d.pins
  rd : ∀ p off, off < 1024 → p ≠ pgHostp → d'.rd p off = d.rd p off

/-- An accepted frame has counted (R295, R313): FRAMES, LASTHDR, LAST, and GAP where frames are missing. -/
structure Dev.Counted (d : Dev) (op : Nat) (f : Frame) (d' : Dev) : Prop where
  frames : d'.rf pgHostp Reg.hostp.FRAMES 35 0 = (d.rf pgHostp Reg.hostp.FRAMES 35 0 + 1) % 2 ^ 36
  header : d'.rd pgHostp Reg.hostp.LASTHDR = frameHeader op f
  last : d'.hp.last = f.alive.val
  sync : d'.hp.sync = false
  good : d'.hp.prevBad = 0
  gap : d'.hp.gap = decide (2 ≤ aliveStep d.hp f.alive.val)

/-- The words that the port drives in reply (R297 to R299): STATUS, ESTAT, the data, and a trailer with the frame's flags and
the CRC over all of them. -/
def Dev.Replies (d : Dev) (flags estat : Nat) (data : List Word) : Prop :=
  ∃ r, d.hp.reply = some r ∧ r.wait = none ∧
    r.driven = (r.status :: BitVec.ofNat 36 estat :: data) ++ [trailerOf flags (r.status :: BitVec.ofNat 36 estat :: data)]

end Sys2Proof.Machine
end

