-- ==== Sys2Proof/WellFormed.lean ====
section
/-!
DEFINITION. Which commands can occur on a part: units that the variant has, frames of the length that their opcode
gives, register actions whose data ask for that action, and board and link inputs that agree with themselves. A
meaning does not need these conditions: it is total. They say which commands a sender can form.
-/
namespace Sys2Proof

/-- Requester 3 writes only within IMAGE_LOAD (R36, R418). -/
def RegWrite.sent (w : RegWrite) : Bool := w.req != .loader

/-- A WO bit written as 1: it acts through the direct window only (R53). -/
def RegWrite.acts (w : RegWrite) (i : Nat) : Bool := w.sent && w.win == .direct && w.data.getLsbD i

/-- A stored or keyed bit that a write can set. -/
def RegWrite.raises (w : RegWrite) (i : Nat) : Bool := w.sent && w.win != .clearBits && w.data.getLsbD i

/-- A bit that the write reaches. -/
def RegWrite.reaches (w : RegWrite) (i : Nat) : Bool := w.sent && (w.win == .direct || w.data.getLsbD i)

/-- An action bit together with the code of its request in bits `lo` up, of two bits. -/
def RegWrite.asks (w : RegWrite) (i lo code : Nat) : Bool := w.acts i && (w.data.toNat / 2 ^ lo) % 4 == code

/-- Request data words of an opcode (R291) for COUNT `c`. -/
def frameWords (op c : Nat) : Nat :=
  if op = 1 ∨ op = 2 ∨ op = 4 ∨ op = 5 ∨ op = 6 then c + 1 else if op = 8 then 1 else 0

/-- A complete frame has its opcode's data words. -/
def Frame.sized (f : Frame) (op : Nat) : Bool := decide (f.data.length = frameWords op f.count.val)

/-- A frame whose reply does not wait has no words clocked while READY is low. -/
def Frame.prompt (f : Frame) (op : Nat) : Bool := f.sized op && f.early == 0

/-- The reset pattern: every bit of the frame is 1 (R307). -/
def Frame.allOnes (f : Frame) (op : Nat) : Bool :=
  op == 15 && f.alive.val == 15 && f.count.val == 15 && f.addr == BitVec.allOnes 24 && f.trailer == BitVec.allOnes 36

/-- What a port receives: at least the header and the trailer. -/
def PortRx.framed (p : PortRx) : Bool := decide (2 ≤ p.words.length)

/-- At least one port receives, and the earlier of the two starts the frame. -/
def LinkRx.framed (r : LinkRx) : Bool :=
  match r.a, r.b with
  | none, none => false
  | some a, none => a.framed && a.delay == 0
  | none, some b => b.framed && b.delay == 0
  | some a, some b => a.framed && b.framed && (a.delay == 0 || b.delay == 0)

/-- CAP transitions of one instant, in ascending order of their inputs. -/
def capsAscend : List CapEdge → Bool
  | [] => true
  | [_] => true
  | a :: b :: t => decide (a.input.val < b.input.val) && capsAscend (b :: t)

/-- The bytes lie within the density (R410). -/
def FlashBoard.sized (b : FlashBoard) : Bool := b.bytes.all (fun e => decide (e.1 < 2 ^ b.dens.val))

/-- LCAUSE values that are events of their own (R320): PPS gone or out of rate, SERNYX gone or out of rate. -/
def lostAlone (src : RefSource) (cause : Nat) : Bool :=
  match src with
  | .pps => cause == 2 || cause == 5
  | .sernyx => cause == 1 || cause == 5

def Variant.hasGrove (v : Variant) (g : Nat) : Bool := decide (g < v.groves)
def Variant.hasAxis (v : Variant) (n : Nat) : Bool := decide (n < v.axes)
def Variant.hasQuill (v : Variant) (q : Nat) : Bool := q == 0 || v.full

/-- The commands that can occur on a part. -/
def Instr.wellFormed (v : Variant) : Instr → Bool
  | .deviceReset _ _ => true
  | .resetRelease _ _ => true
  | .resetNLow _ ns => decide (0 < ns)
  | .softReset w => w.raises 0
  | .tickToken _ => true
  | .tickBoundary ue => ue.all (fun e => v.hasQuill e.1.val && v.hasAxis e.2.val)
  | .queueDwellEnd n => v.hasAxis n.val
  | .revdwellEnd n => v.hasAxis n.val
  | .mlost => v.full
  | .scribeFetch _ => v.full
  | .strokeDwellEnd n => v.full && v.hasAxis n.val
  | .retryDwellEnd n => v.hasAxis n.val
  | .stillDelayExpiry n => v.hasAxis n.val
  | .checkpoint => true
  | .checkpointCommit _ => true
  | .outputWord _ q n _ => v.hasQuill q.val && v.hasAxis n.val
  | .twinVerdict => v.full
  | .missingWord => v.full
  | .extrapolationOverrun g => v.hasGrove g.val
  | .tokenLate g => v.hasGrove g.val
  | .tokenLoss g => v.hasGrove g.val
  | .rampComplete g => v.hasGrove g.val
  | .rampmaxExpiry g => v.hasGrove g.val
  | .coilPeriodStart g _ => v.hasGrove g.val
  | .carrierEvent g _ => v.hasGrove g.val
  | .tripRecognised _ g _ => v.hasGrove g.val
  | .tonmax g _ => v.hasGrove g.val
  | .fastPhaseEnd g _ => v.hasGrove g.val
  | .zeroCurrentRecognised _ g _ => v.hasGrove g.val
  | .urgentRequest g _ => v.hasGrove g.val
  | .zmaxExpiry g _ => v.hasGrove g.val
  | .driveResume g _ => v.hasGrove g.val
  | .nodeRecognised _ g _ _ => v.hasGrove g.val
  | .incomingTurnOn g _ => v.hasGrove g.val
  | .edgeMiss g _ => v.hasGrove g.val
  | .overlapEvent _ g _ => v.hasGrove g.val
  | .faultNLow _ g ns => v.hasGrove g.val && decide (0 < ns)
  | .estopNLow _ ns => decide (0 < ns)
  | .safeLevels g => v.hasGrove g.val
  | .trip g w => v.hasGrove g.val && w.acts 1
  | .outen g w => v.hasGrove g.val && w.reaches 0
  | .rstop g w => v.hasGrove g.val && w.acts 2
  | .clear g w => v.hasGrove g.val && w.raises 0
  | .holdmaxExpiry g => v.hasGrove g.val
  | .sequenceTrigger _ c => v.hasGrove (c.val / 4)
  | .convStart c w => v.hasGrove (c.val / 4) && w.acts 35
  | .convEn c w => v.hasGrove (c.val / 4) && w.reaches 16
  | .conversionEnd c => v.hasGrove (c.val / 4)
  | .resultReady _ c _ _ => v.hasGrove (c.val / 4)
  | .calGo g w => v.hasGrove g.val && w.raises 0
  | .caldone _ g _ _ _ => v.hasGrove g.val
  | .calApply g w => v.hasGrove g.val && w.raises 1
  | .calApplied _ g _ => v.hasGrove g.val
  | .obscalGo n w => v.hasAxis n.val && w.acts 35
  | .obscalAbort n w => v.hasAxis n.val && w.acts 34
  | .trustset n w => v.hasAxis n.val && w.raises 0
  | .flush n w => v.hasAxis n.val && w.acts 0
  | .resume n w => v.hasAxis n.val && w.acts 1
  | .qptrTailWrite n w => v.hasAxis n.val && w.sent
  | .scribeRun w => v.full && w.reaches 0
  | .inkwellWrWrite w => v.full && w.sent
  | .inkwellRdWrite w => v.full && w.sent
  | .msrcWrite w => v.full && w.sent
  | .strokeCheck w => v.full && w.acts 35
  | .chkdone _ => v.full
  | .nop f => f.prompt 0
  | .write f => f.prompt 1
  | .scatter f => f.prompt 2
  | .read f => f.prompt 3
  | .gather f => f.prompt 4
  | .gatherT f => f.sized 5
  | .gatherTCapture _ => true
  | .queue f => f.prompt 6
  | .fence f => f.sized 7
  | .fenceComplete _ _ => true
  | .discard f => f.prompt 8
  | .frameAborted _ bits => decide (0 < bits)
  | .resetPattern _ => true
  | .prst w => w.acts 0
  | .replyCut _ => true
  | .watchdogExpiry => true
  | .kick w => w.acts 0
  | .update w => w.sent && w.win == .direct
  | .updInEdge _ _ => true
  | .fenceReq w => w.acts 35
  | .partWrite _ w => w.sent
  | .pageLock _ w => w.sent
  | .registerWrite _ _ w => w.sent
  | .setTime w => w.sent
  | .ppsEdge _ _ => true
  | .sourceQualified _ => true
  | .sourceLost _ src cause => lostAlone src cause.val
  | .slewEnd => true
  | .arm _ w => w.acts 35
  | .disarm _ w => w.acts 34
  | .timedStrobeFire _ => true
  | .beaconSend _ _ => true
  | .beaconReceived rx => rx.framed
  | .nodeFrameSend _ => true
  | .nodeFrameReceived _ rx => rx.framed
  | .rqGo w => w.acts 35
  | .rqto _ => true
  | .masterTakeover _ => true
  | .mute _ => true
  | .nodeLost _ => true
  | .digestReady _ => true
  | .tstrGo w => w.acts 35
  | .propose w => w.acts 35
  | .wakereq w => w.acts 34
  | .linkSleep => true
  | .wakePatternSend _ => true
  | .wakePatternDetect _ => true
  | .quadStep _ _ _ _ => true
  | .indexEvent _ _ _ => true
  | .stepEdge _ _ _ _ _ => true
  | .capEdge _ edges => !edges.isEmpty && capsAscend edges
  | .startTimeout _ => true
  | .fifo0Read _ req => req != .loader
  | .captFlush w => w.acts 1
  | .supplyLevelEnter _ level => decide (0 < level.val)
  | .supplyLevelLeave _ => true
  | .pfail _ ns => decide (0 < ns)
  | .motorBusLevelEnter _ g level => v.hasGrove g.val && decide (0 < level.val)
  | .motorBusLevelLeave _ g _ => v.hasGrove g.val
  | .tempLevelEnter _ level => decide (0 < level.val)
  | .tempLevelLeave _ => true
  | .t4Reset _ => true
  | .runRequest w => w.asks 35 0 0
  | .idleRequest w => w.asks 35 0 1
  | .standbyRequest w => w.asks 35 0 2
  | .retainRequest w => w.asks 35 0 3
  | .stateEntered _ => true
  | .wake _ sources _ => sources != 0
  | .scrubPass _ => true
  | .imageLoad _ board => board.sized
  | .bootdone _ => true
  | .xcmdRead w => w.asks 35 32 1
  | .xcmdProgram w => w.asks 35 32 2
  | .xcmdErase w => w.asks 35 32 3
  | .xdone _ _ => true
  | .journalRecordWritten _ _ => true
  | .peripTailWrite w => w.sent
  | .peripEntryStart _ => true
  | .peripEntryEnd _ _ => true
  | .readyTimeout => true
  | .contto => true
  | .modeReq w => v.full && (w.reaches 0 || w.reaches 1)
  | .cknow page w => (v.full || page == .plana) && w.acts 35
  | .stestGo w => v.full && w.raises 0
  | .stestDone _ _ _ => v.full
  | .memacc _ _ _ _ => true
  | .groveHalt _ g => v.hasGrove g.val
  | .groveResume _ g => v.hasGrove g.val
  | .quillHalt _ q _ => v.hasQuill q.val
  | .quillResume _ q => v.hasQuill q.val
  | .idcode _ => true
  | .bypass _ => true
  | .extest _ pattern => pattern.all (fun a => v.hasGrove (a.leg.val / 64))
  | .samplePreload _ pattern => pattern.all (fun a => v.hasGrove (a.leg.val / 64))
  | .tapReset _ => true
  | .blotCtrl w => w.sent
  | .blotRdWrite w => w.sent
  | .faultNHigh _ g => v.hasGrove g.val
  | .estopNHigh _ => true
  | .pfailNHigh _ => true
  | .linkupLost _ => true
  | .undefinedOpcodeFrame op f => decide (9 ≤ op.val) && f.prompt op.val && !f.allOnes op.val
  | .journalEraseEnd _ _ => true
  | .hostPortReady _ => true

end Sys2Proof
end

