-- ==== Sys2Proof/Certificates/Slice0/Obligations.lean ====
section
/-!
DEFINITION. What is claimed of the model. Each statement's docstring names the rule it formalises; where it rests on a
choice of the model, it names the log entry. `t` is the state that a command answers; a statement that gives
`{ t.dev with … } = …` says that every other part of the device stays as it was.
-/
open Sys2Proof Sys2Proof.Machine

/-! ### The machine as a whole -/

/-- A step runs the command at the front of the queue, on the state with the queue's rest.
The model's reading: log 1. -/
def Obligations.StepRunsFront : Prop :=
  ∀ (c : Instr) (s : State) (rest : List Instr), s.pending = c :: rest → step s = exec c { s with pending := rest }

/-- With nothing in the queue a step lets one gck pass, and nothing while reset lasts (log 3). -/
def Obligations.EmptyQueueIdles : Prop :=
  ∀ s : State, s.pending = [] →
    ∃ t, step s = .next t ∧ t.pending = [] ∧
      (s.dev.sup.inReset = true → t = s) ∧
      (s.dev.sup.inReset = false → s.settled → t.dev = s.dev.advance 1)

/-- What is true between steps: no trip that the device found by itself is left waiting (R185, R194: such a cause trips at
once). -/
def Obligations.StepSettles : Prop :=
  State.reset.settled ∧ ∀ s t : State, s.settled → step s = .next t → t.settled

/-- Every command answers a next state in every state, and no command changes the queue. -/
def Obligations.EveryCommandAnswers : Prop :=
  ∀ (c : Instr) (s : State), ∃ t, exec c s = .next t ∧ t.pending = s.pending

/-- The gate balls are safe after every step (R182, R183, R202, R388): they follow the device; a tripped grove drives
none until its safe levels are reached; reset drives none; a grove with OUTEN at 0 drives none; a leg whose two gate
requests are both active drives neither. -/
def Obligations.GateBallsSafe : Prop :=
  ∀ s t : State, s.ballsFollow → step s = .next t →
    t.ballsFollow ∧ t.tripSafe ∧ t.resetSafe ∧ t.outenSafe ∧
    (∀ g k, g < 8 → k < 64 → t.dev.tap.extest = false → (t.dev.grove g).tripped = false →
      (t.dev.leg (64 * g + k)).gh = true → (t.dev.leg (64 * g + k)).gl = true → t.ball g k = 0)

/-- What reset leaves (R182, R201, R261, R281, R295, R315, R399): no ball driven, every grove tripped with cause RESET, the planners
in SPLIT with the self-test running, the host port in sync state, time 0 with the first boundary at G_1, RUN, and an empty
queue. -/
def Obligations.ResetState : Prop :=
  (State.reset.ballsFollow ∧ ∀ g, g < 8 → State.reset.quiet g) ∧
  (∀ g, g < 8 → (State.reset.dev.grove g).tripped = true ∧ (State.reset.dev.grove g).causes = 1) ∧
  State.reset.dev.tw.mode = .split ∧ State.reset.dev.tw.stest = true ∧ State.reset.dev.hp.sync = true ∧
  State.reset.dev.tb.now = 0 ∧ State.reset.dev.tb.bnext = 3435973 ∧ State.reset.dev.sup.ps = .run ∧
  State.reset.pending = []
/-- floor is the greatest integer not greater than its argument; round_half_even is the nearest integer, and exactly halfway
between two integers the even one (R11). The model's quotients are `Int.fdiv` and `rhe`. -/
def Obligations.Rounding : Prop :=
  ∀ a b : Int, 0 < b →
    (a.fdiv b * b ≤ a ∧ ∀ k : Int, k * b ≤ a → k ≤ a.fdiv b) ∧
    (∀ k : Int, absI (rhe a b * b - a) ≤ absI (k * b - a)) ∧
    (2 * absI (rhe a b * b - a) = b → rhe a b % 2 = 0)

/-! ### Reset (R388 to R390) -/

/-- A cause that becomes active holds the die in reset, also where another cause holds it already: every ball is
harmless, RCAUSE keeps its bits and takes the cause's own, which POR sets to 1 alone, and a reset of cause PIN, SOFT or
OVERTEMP keeps every memory word. The pins, the memory on the board and, but for POR, the TAP keep their state.
The model's reading: log 70. -/
def Obligations.DeviceResetHolds : Prop :=
  ∀ (s : State) (dt : Nat) (cause : ResetCause),
    ∃ t, exec (.deviceReset dt cause) s = .next t ∧ t.pending = s.pending ∧ t.dev.sup.inReset = true ∧
      (∀ g, g < 8 → t.quiet g) ∧
      t.dev.rf pgSupv Reg.supv.RCAUSE 4 0 =
        (if cause = .por then 1 else s.dev.rf pgSupv Reg.supv.RCAUSE 4 0 ||| 2 ^ causeBit cause) ∧
      (cause = .pin ∨ cause = .soft ∨ cause = .overtemp → t.dev.mem = s.dev.mem) ∧
      t.dev.pins = s.dev.pins ∧ t.dev.fl = s.dev.fl ∧ (cause ≠ .por → t.dev.tap = s.dev.tap)

/-- The release after a reset is a device reset of every unit (R7, R201, R389, R399): RUN, every grove tripped with
cause RESET, and every register but RCAUSE and PLL at its reset value.
The model's readings: logs 49 and 70. -/
def Obligations.ReleaseIsDeviceReset : Prop :=
  ∀ (s : State) (dt dt' : Nat) (cause : ResetCause) (lv : InLevels),
    ∃ t u, exec (.deviceReset dt cause) s = .next t ∧ exec (.resetRelease dt' lv) t = .next u ∧
      u.pending = s.pending ∧ u.dev.sup.inReset = false ∧ u.dev.sup.ps = .run ∧ u.dev.variant = s.dev.variant ∧
      (∀ g, u.dev.grove g = Grove.init) ∧
      (∀ p off, off < 1024 → ¬ (p = pgSupv ∧ off = Reg.supv.RCAUSE) → ¬ (p = pgTime ∧ off = Reg.time.PLL) →
        u.dev.rd p off = resetWord s.dev.variant (key p off)) ∧
      u.dev.mem = t.dev.mem ∧ u.dev.regs = t.dev.regs

/-- RESET_N acts where it is low for t_RSTPW, 1,000 ns, or longer, and then as cause PIN; a write of 1 to SUPV.RESET.GO that is not
refused resets the device with cause SOFT (R389). -/
def Obligations.ResetRequests : Prop :=
  (∀ (s : State) (dt ns : Nat),
    (1000 ≤ ns → exec (.resetNLow dt ns) s = exec (.deviceReset dt .pin) s) ∧
    (ns < 1000 → ∃ t, exec (.resetNLow dt ns) s = .next t ∧ t.pending = s.pending ∧
      t.dev.sup.inReset = s.dev.sup.inReset ∧ t.dev.mem = s.dev.mem)) ∧
  (∀ (s : State) (w : RegWrite), s.takes w pgSupv Reg.supv.RESET → w.win = .direct → w.data.getLsbD 0 = true →
    ∃ t, exec (.softReset w) s = .next t ∧ t.pending = s.pending ∧ t.dev.sup.inReset = true ∧
      (t.dev.rd pgSupv Reg.supv.RCAUSE).getLsbD 2 = true ∧ t.dev.mem = s.dev.mem ∧ (∀ g, g < 8 → t.quiet g))
/-! ### The tick (R24 to R30) and the motion of a tick (R73 to R80) -/

/-- One tick of a POSITION move (R74 to R77, R80), for every state, limit set and target. The axis never exceeds the larger of VMAX
and its speed before; it speeds up by AMAX at most, or from rest to VSTART at most; its position moves on by exactly its new
velocity, or by its distance where it lands: then it stands on the target with velocity 0. With VMAX 0 it only brakes, by DMAX.
The model's reading: log 12. -/
def Obligations.PositionMotion : Prop :=
  ∀ (m : Mot) (l : Lim) (tgt revdwell : Nat) (fresh : Bool), m.p < 2 ^ 68 →
    (let o := positionTick m l tgt revdwell fresh
     let s := absI m.v
     o.m.p < 2 ^ 68 ∧ absI o.m.v ≤ max s l.v ∧ (m.v ≠ 0 → absI o.m.v ≤ s + l.a) ∧ (m.v = 0 → absI o.m.v ≤ max l.vst l.vsp) ∧
     (o.landed = true → o.m.v = 0 ∧ o.m.p = tgt * 2 ^ 32 % 2 ^ 68) ∧
     (o.landed = false → o.m.p = unsgn 68 ((m.p : Int) + o.m.v)) ∧
     (l.vmax = 0 → o.landed = false → absI o.m.v ≤ s ∧ (absI o.m.v = 0 ∨ absI o.m.v = max (s - l.d) l.d)))

/-- The token of the next boundary leaves t_TOKLEAD, 160 gck, before it and reaches every present grove that loses none,
is not in HOLD and counts the same boundary next (R24, R25, R210). Nothing but the time and the groves' token marks
changes. A boundary is placed, and counts: boundary 0 is the first, later numbers rise by 1 modulo 2^36 (R315). What telemetry
reads of the two boundaries before moves on by one (R66). Where the islands of the Quills and the groves stand, none is placed
(R399, R401).
The model's readings: logs 10 and 17. -/
def Obligations.TickEvents : Prop :=
  (∀ (s : State) (lost : BitVec 8), s.runs → s.settled → s.dev.tw.ckFlag = false →
     ∃ t, exec (.tickToken lost) s = .next t ∧ t.pending = s.pending ∧
       t.dev.clk = max s.dev.clk (s.dev.boundaryClk - 160) ∧
       (∀ g, g < s.dev.variant.groves → t.dev.grove g = { s.dev.grove g with
         token := (s.dev.grove g).token || (!lost.toNat.testBit g && (s.dev.grove g).held.isNone &&
           decide (s.dev.nextTick % 256 = s.dev.groveTag g)) }) ∧
       { t.dev with groves := s.dev.groves } = s.dev.advanceTo (s.dev.boundaryClk - 160)) ∧
  (∀ (s : State) (ue : List (Fin 2 × Fin 128)),
     (s.runs →
       ∃ t, exec (.tickBoundary ue) s = .next t ∧ t.pending = s.pending ∧
         t.dev.tk = (if s.dev.tb.started then (s.dev.tk + 1) % 2 ^ 36 else 0) ∧ t.tele1.tk = t.dev.tk ∧
         t.tele2 = s.tele1) ∧
     (¬ s.runs → exec (.tickBoundary ue) s = .next s))

/-- The rests that run out in a tick: the DWELL of a queue entry (R90), the count after a braking stop (R78), the dwell
of a stroke move (R131) and the RDWELL of a retry, whose slow limit begins (R250). Nothing else changes. When an axis has stood
still for more than DELAY boundaries its base amplitude goes to IHOLD, at once with RAMP 0, else by RAMP at most and never past
IHOLD (R151); nothing but the amplitude of that axis changes.
The model's reading: log 55. -/
def Obligations.RestsEnd : Prop :=
  (∀ (s : State) (n : Fin 128), s.runs → s.settled →
    (s.dev.restDue n restQueue = true →
      ∃ t, exec (.queueDwellEnd n) s = .next t ∧ t.pending = s.pending ∧
        t.dev = (s.dev.setQueue n { s.dev.queue n with dwell := some 0 }).setRest n restQueue false) ∧
    (s.dev.restDue n restTurn = true →
      ∃ t, exec (.revdwellEnd n) s = .next t ∧ t.pending = s.pending ∧
        t.dev = (s.dev.setPlan n { s.dev.plan n with mot := { (s.dev.plan n).mot with rwait := 0 } }).setRest n restTurn false) ∧
    (s.dev.restDue n restStroke = true →
      ∃ t, exec (.strokeDwellEnd n) s = .next t ∧ t.pending = s.pending ∧
        t.dev = (s.dev.setQueue n { s.dev.queue n with
          stroke := (s.dev.queue n).stroke.map (fun x => { x with dwell := some 0 }) }).setRest n restStroke false) ∧
    (s.dev.restDue n restRetry = true →
      ∃ t, exec (.retryDwellEnd n) s = .next t ∧ t.pending = s.pending ∧
        t.dev = (s.dev.setOb n { s.dev.ob n with rdwell := none, slow := true }).setRest n restRetry false)) ∧
  (∀ (s : State) (n : Fin 128), s.runs → s.settled → s.dev.restDue n restStill = true →
    s.dev.rf (pgAxis n) Reg.axis.STILL 31 16 < (s.dev.ga n).still →
    ∃ t b, exec (.stillDelayExpiry n) s = .next t ∧ t.pending = s.pending ∧ (t.dev.ga n).base = b ∧
      (let ihold := s.dev.rf (pgAxis n) Reg.axis.IHOLD 11 0
       let ramp := s.dev.rf (pgAxis n) Reg.axis.STILL 11 0
       let was := (s.dev.ga n).base
       (ramp = 0 → b = ihold) ∧ (0 < ramp → ihold < was → b = max (was - ramp) ihold) ∧
       (0 < ramp → was ≤ ihold → b = min (was + ramp) ihold)) ∧
      { t.dev with gax := s.dev.gax, due := s.dev.due } = s.dev ∧ (∀ m, m ≠ n.val → t.dev.ga m = s.dev.ga m))
/-- With SRC NODE and no broadcast for more than HOLD cycles, mvel is 0 and C holds; SCRIBE.PAGE_EVT.MLOST sets (R110).
Nothing else changes. -/
def Obligations.MasterLost : Prop :=
  ∀ (s : State) (b : Broadcast), s.runs → s.settled → s.dev.variant.full = true →
    s.dev.rf pgScribe Reg.scribe.MSRC 2 0 = 3 → s.dev.scr.mlost = false → s.dev.scr.broadcast = some b →
    s.dev.rf pgScribe Reg.scribe.MSRC 27 24 < (s.dev.cycleNow + 2 ^ 36 - b.cycle) % 2 ^ 36 →
    ∃ t, exec .mlost s = .next t ∧ t.pending = s.pending ∧
      t.dev = (s.dev.setScr { s.dev.scr with mlost := true, mvel := 0 }).ev pgScribe 9

/-- The Scribe takes the point at its fetch pointer into the pending table where the budget of the tick, the table and the
lookahead allow (R118), the point is neither done (R120), nor of an old generation, nor out of order (R119); its state is
then pending (R123).
The model's reading: log 10. -/
def Obligations.ScribeFetches : Prop :=
  ∀ (s : State) (dt : Nat), s.runs → s.settled → s.dev.variant.full = true → s.dev.scr.running = true →
    s.dev.scr.fetched < s.dev.tb.tper / 200 → s.dev.scr.table.length < 512 → s.dev.fetchPtr ≠ s.dev.scrWR → s.dev.ringN ≠ 0 →
    (let a := s.dev.pointAddr s.dev.fetchPtr
     let w0 := (s.dev.mem.at a).data
     let w1 := (s.dev.mem.at (a + 1)).data
     (s.dev.mem.at a).ecc = .clean → (s.dev.mem.at (a + 1)).ecc = .clean →
     serial ((w0.toNat : Int) - (s.dev.scr.hwm : Int)) ≤ s.dev.scr.ldmax + (s.dev.rf pgScribe Reg.scribe.LOOKPAD 23 0 : Nat) →
     bit w1 8 = false → (fld w1 14 11 + 16 - s.dev.rf pgScribe Reg.scribe.GEN 3 0) % 16 < 8 →
     (∀ x, s.dev.scr.xprev = some x → 0 ≤ serial ((w0.toNat : Int) - (x : Int))) →
     ∃ t p, exec (.scribeFetch dt) s = .next t ∧ t.pending = s.pending ∧
       t.dev.scr = { s.dev.scr with table := s.dev.scr.table ++ [p], fetched := s.dev.scr.fetched + 1, xprev := some p.x } ∧
       p.ptr = s.dev.fetchPtr ∧ p.x = w0.toNat ∧ p.axis = fld w1 35 29 ∧ p.stroke = fld w1 28 15 ∧ p.st = .pending ∧
       { t.dev with scr := s.dev.scr } = s.dev.advance dt)

/-- A checkpoint that is being written and whose signatures agree commits: CKTICK and CKSLOT take its tick and its slot,
and the input-log records before it are freed (R268). A checkpoint whose signatures differ does not commit and is gone. At a checkpoint boundary the records are frozen into the slot that holds no committed checkpoint, both copies (R267,
R268): words 0 and 1 of each copy hold the tick's number and the mode; the checkpoint then waits to commit.
The model's readings: logs 56 and 63. -/
def Obligations.Checkpoints : Prop :=
  (∀ (s : State) (dt : Nat) (w : Checkpoint), s.runs → s.settled → s.dev.tw.ckFlag = false → s.dev.tw.writing = some w →
     ∃ t, exec (.checkpointCommit dt) s = .next t ∧ t.pending = s.pending ∧
       t.dev = (s.dev.advance dt).setTw (if w.agree then
         { s.dev.tw with writing := none, committed := some (w.tick, w.slot),
                         logRecs := s.dev.tw.logRecs.filter (fun r => decide (w.tick ≤ r.1)) }
         else { s.dev.tw with writing := none })) ∧
  (∀ s : State, s.runs → s.settled → s.dev.tw.ckFlag = true → s.dev.tw.mode ≠ .paired → s.dev.tw.pending = none →
     ∃ t, exec .checkpoint s = .next t ∧ t.pending = s.pending ∧ t.dev.tw.ckFlag = false ∧
       t.dev.tw.committed = s.dev.tw.committed ∧ t.dev.tw.mode = s.dev.tw.mode ∧
       t.dev.tw.writing = some ⟨s.dev.tk, (match s.dev.tw.committed with
         | some (_, x) => 1 - x
         | none => 0), s.dev.tw.mode, true⟩)

/-- A word of the Quill that computes an axis, in time for the next interval, is accepted by its grove if its tag is that
of the interval and else refused, and it has no effect while the ramp engine holds the grove (R30, R207). In PAIRED mode a
copy is kept until the other Quill's has come; two copies that agree are accepted likewise, and two that differ are
disagreement cause WORD, and nothing is accepted (R262, R264). -/
def Obligations.OutputWordHandled : Prop :=
  ∀ (s : State) (dt : Nat) (q : Fin 2) (n : Fin 128) (diff : BitVec 108), s.runs → s.settled → s.dev.tw.ckFlag = false →
    s.dev.gives q n = true → s.dev.hands = true → (s.dev.advance dt).clk + 64 ≤ (s.dev.advance dt).boundaryClk →
    (let d := s.dev.advance dt
     let w := d.word108 n ^^^ diff.toNat
     let other := if q = 0 then (d.ga n).copyB else (d.ga n).copyA
     let ramped := match (d.grove (n / 16)).ramp with
       | some r => r.took && !r.yields
       | none => false
     let kept (d : Dev) : GAxis := if q = 0 then { d.ga n with copyA := some w } else { d.ga n with copyB := some w }
     let judged (ga : GAxis) : GAxis :=
       if ramped then ga else if wordTag w = (d.tk + 1) % 256 then { ga with accepted := some (gwordOf w) } else { ga with refused := true }
     ∃ t, exec (.outputWord dt q n diff) s = .next t ∧ t.pending = s.pending ∧
       (d.tw.mode ≠ .paired → t.dev.ga n = judged (d.ga n) ∧ { t.dev with gax := d.gax } = d) ∧
       (d.tw.mode = .paired → other = none → t.dev.ga n = kept d ∧ { t.dev with gax := d.gax } = d) ∧
       (d.tw.mode = .paired → other = some w → t.dev.ga n = judged (kept d) ∧ { t.dev with gax := d.gax } = d) ∧
       (∀ v, d.tw.mode = .paired → other = some v → v ≠ w → d.tw.dead = false → d.tw.lastDis ≠ some d.tk →
         t.dev.ga n = kept d ∧ t.dev.rf pgTwin Reg.twin.DISAG 35 32 = 1 ∧ t.dev.rf pgTwin Reg.twin.DISAG 30 24 = n ∧
           t.dev.tw.verdict = some false))

/-- TWIN's verdict t_HAND, 64 gck, before the boundary: AGREE in every mode but PAIRED, and in PAIRED mode where every word
came from both Quills and agreed and nothing is withheld (R263). In PAIRED mode, a copy that has not come t_HAND before the boundary is disagreement cause MISSING, with the lowest axis
concerned in DISAG (R264, R282), and the verdict REVOKE.
The model's reading: log 10. -/
def Obligations.TwinVerdicts : Prop :=
  (∀ s : State, s.runs → s.settled → s.dev.tw.ckFlag = false → s.dev.tb.started = true →
     (s.dev.tw.mode = .paired → s.dev.allAgreed = true ∧ s.dev.tw.recov = none ∧ s.dev.tw.lastDis ≠ some s.dev.tk) →
     ∃ t, exec .twinVerdict s = .next t ∧ t.pending = s.pending ∧
       t.dev = (s.dev.advanceTo (s.dev.boundaryClk - 64)).setTw { s.dev.tw with verdict := some true }) ∧
  (∀ (s : State) (n : Nat), s.runs → s.settled → s.dev.tw.ckFlag = false → s.dev.tb.started = true → s.dev.tw.mode = .paired →
     s.dev.hands = true → s.dev.tw.recov = none → s.dev.tw.dead = false → s.dev.tw.lastDis ≠ some s.dev.tk →
     n < s.dev.variant.axes → s.dev.copyMissing n = true → (∀ m, m < n → s.dev.copyMissing m = false) →
     ∃ t, exec .missingWord s = .next t ∧ t.pending = s.pending ∧ t.dev.rf pgTwin Reg.twin.DISAG 35 32 = 2 ∧
       t.dev.rf pgTwin Reg.twin.DISAG 30 24 = n ∧ t.dev.tw.verdict = some false ∧ t.dev.tw.lastDis = some s.dev.tk)

/-- In SPLIT mode Quill A computes the lower half of the present groves and Quill B the upper half: groves 0 to 3 and 4 to 7 on
the FD9128, 0 to 1 and 2 to 3 on the FD9064 (R32). A word for an axis that the Quill does not compute has no effect. -/
def Obligations.SplitMode : Prop :=
  ∀ (s : State) (dt : Nat) (q : Fin 2) (n : Fin 128) (diff : BitVec 108), s.dev.tw.mode = .split →
    (let half (v : Variant) : Nat := match v with
       | .fd9128 => 4
       | .fd9064 => 2
       | .fd9032 => 1
     let own : Prop := if q = 0 then n.val / 16 < half s.dev.variant
       else half s.dev.variant ≤ n.val / 16 ∧ n.val / 16 < 2 * half s.dev.variant
     (s.dev.variant.full = true → (computes s.dev.variant .split q (n / 16) = true ↔ own)) ∧
     (s.runs → s.settled → s.dev.variant.full = true → s.dev.tw.ckFlag = false → ¬ own →
       ∃ t, exec (.outputWord dt q n diff) s = .next t ∧ t.pending = s.pending ∧ t.dev = s.dev.advance dt))

/-! ### The groves: tokens, ramps and extrapolation (R25, R201, R273)

A command of a grove answers `s.after d`: the device `d`, in which causes that the command itself has found trip at once
(StepSettles), with the balls as they follow from it (GateBallsSafe). -/

/-- A grove that stepped on its own count raises TOKEN_LATE at its locally counted boundary; after 8 boundaries without a
token it asks for the ramp engine with cause TOKEN (R25, R201). -/
def Obligations.TokenEvents : Prop :=
  ∀ (s : State) (g : Fin 8), s.live g →
    ((s.dev.grove g).ownStep = true →
      ∃ d, exec (.tokenLate g) s = .next (s.after d) ∧ d.grove g = { s.dev.grove g with ownStep := false } ∧
        (d.rd (pgFire g) Reg.PAGE_EVT).getLsbD 3 = true ∧ (s.dev.advanceTo (s.dev.grove g).lastB).Within g d) ∧
    (8 ≤ (s.dev.grove g).missing → (s.dev.grove g).causes.testBit 7 = false →
      ∃ d, exec (.tokenLoss g) s = .next (s.after d) ∧ (d.grove g).causes = (s.dev.grove g).causes ||| 2 ^ 7 ∧
        (d.grove g).tripped = (s.dev.grove g).tripped ∧
        ((s.dev.grove g).tripped = false → ∃ r, (d.grove g).ramp = some r ∧ r.trips = true) ∧
        { d with groves := s.dev.groves } = s.dev ∧ s.dev.Within g d)

/-- A ramp-first trip latches when the ramp engine has brought every axis to rest, or, with RAMPTO, when RAMPMAX ticks have
passed (R201, R202): every coil is OFF. -/
def Obligations.RampEnds : Prop :=
  ∀ (s : State) (g : Fin 8) (r : Ramp), s.live g → (s.dev.grove g).tripped = false → (s.dev.grove g).ramp = some r →
    r.took = true → r.trips = true →
    (r.done = true →
      ∃ d, exec (.rampComplete g) s = .next (s.after d) ∧ d.Latched g ∧ (d.rd (pgFire g) Reg.PAGE_EVT).getLsbD 0 = true ∧
        (d.grove g).causes = (s.dev.grove g).causes ∧ s.dev.Within g d) ∧
    (r.done = false → s.dev.rf (pgFire g) Reg.firebrk.RAMPMAX 15 0 ≤ r.ticks →
      ∃ d, exec (.rampmaxExpiry g) s = .next (s.after d) ∧ d.Latched g ∧ (d.rd (pgFire g) Reg.PAGE_EVT).getLsbD 2 = true ∧
        (d.grove g).causes = (s.dev.grove g).causes ∧ s.dev.Within g d)

/-- An axis that has extrapolated 8 intervals without an accepted word t_HAND, 64 gck, before the boundary asks for the ramp
engine of its grove with cause TWIN (R273); on a device with TWIN the reason is recorded as an escalation with reason 6, and
in PAIRED mode every present grove is asked (R276). -/
def Obligations.ExtrapolationOverrun : Prop :=
  ∀ (s : State) (g : Fin 8), s.live g → s.settled → s.dev.groveOverrun g = true →
    ∃ t, exec (.extrapolationOverrun g) s = .next t ∧ t.pending = s.pending ∧
      t.dev.clk = max s.dev.clk (s.dev.boundaryClk - 64) ∧
      (t.dev.grove g).causes = (s.dev.grove g).causes ||| 2 ^ 8 ∧ (t.dev.grove g).tripped = (s.dev.grove g).tripped ∧
      (∀ x, x < s.dev.variant.groves → s.dev.tw.mode = .paired →
        (t.dev.grove x).causes = (s.dev.grove x).causes ||| 2 ^ 8) ∧
      (s.dev.variant.full = true ∨ s.dev.tw.mode = .paired → t.dev.rf pgTwin Reg.twin.RLAST 35 32 = 6) ∧
      (s.dev.tw.mode ≠ .paired → t.dev.tw = s.dev.tw ∧ ∀ x, x ≠ g.val → t.dev.grove x = s.dev.grove x)

/-! ### Chopper, windows and Nibs (R143 to R194) -/

/-- A period of coil `j` starts at its place in the carrier's count (R156), with the setpoint of that instant (R144 to R152);
the coil goes OFF where an enable is 0 or the grove has tripped (R172 to R174), opens a zero-current window where R165 says
so, drives where the setpoint is above 0 (R159), and else decays or, with no drive since CUREN rose, stays OFF. -/
def Obligations.CoilPeriodStarts : Prop :=
  ∀ (s : State) (g : Fin 8) (j : Fin 32), s.live g → (s.dev.coil (32 * g + j)).win = none →
    (let at_ := s.dev.advanceTo (s.dev.coilNext g j)
     let d0 := carTo at_ g at_.clk
     let sp := setpoint d0 g j d0.clk
     let on := d0.coilEnabled g j d0.clk
     ∃ d, exec (.coilPeriodStart g j) s = .next (s.after d) ∧ at_.Within g d ∧
       (let c := d.coil (32 * g + j)
        c.s = at_.clk ∧ c.ran = true ∧ c.th = sp.th ∧ c.half = sp.half ∧ c.amp = sp.amp ∧ c.mag = sp.mag ∧ c.neg = sp.neg ∧
        (on = false → c.st = .off) ∧
        (on = true → d0.opensWindow g j d0.clk sp.half = true →
          c.st = .zwin ∧ c.win = some ⟨at_.clk, none, 0, false, sp.mag, sp.neg, sp.half⟩) ∧
        (on = true → d0.opensWindow g j d0.clk sp.half = false →
          (0 < sp.mag → c.st = .drive ∧ c.srcNeg = sp.neg ∧ c.win = none) ∧
          (sp.mag = 0 → c.st = (if (s.dev.coil (32 * g + j)).hadDrive then .decay else .off) ∧ c.win = none))))

/-- A carrier event occurs when the counter reaches its value (R157): its occurrences count up to EVPRE + 1, and each time
they do PAGE_EVT sets and the count starts again. -/
def Obligations.CarrierEventOccurs : Prop :=
  ∀ (s : State) (g : Fin 8) (e : Fin 6) (t : Nat), s.live g → (s.dev.grove g).evOcc.length = 6 →
    eventDue s.dev g e (max s.dev.clk ((s.dev.grove g).evNext.getD e 0)) = some t →
    (let occ := (s.dev.grove g).evOcc.getD e 0 + 1
     let pre := s.dev.rf (pgCarrier g) (Reg.carrier.EVPRE + e) 7 0
     ∃ d, exec (.carrierEvent g e) s = .next (s.after d) ∧ d.clk = max s.dev.clk t ∧ (s.dev.advanceTo t).Within g d ∧
       (d.grove g).evOcc.getD e 0 = (if pre < occ then 0 else occ) ∧
       (pre < occ → (d.rd (pgCarrier g) Reg.PAGE_EVT).getLsbD e = true))

/-- DRIVE ends by a recognised trip once blanking has ended and the filter's run can be complete (R160, R161), or at TONMAX
with its event (R160), where that comes before the next period start; DECAY begins, in its fast phase in modes 2 and 3
(R163), and the fast phase ends into the slow one after its time. -/
def Obligations.DriveEnds : Prop :=
  ∀ (s : State) (g : Fin 8) (j : Fin 32) (dt : Nat), s.live g →
    (let c := s.dev.coil (32 * g + j)
     let fast := decide ((c.dmode = 2 ∨ c.dmode = 3) ∧ 0 < c.fastUsed)
     (∀ b, c.st = .drive → c.blankEnd = some b → b + s.dev.tripRun g ≤ s.dev.clk + dt + 1 → s.dev.clk + dt ≤ s.dev.tonmaxAt g j →
       ∃ d, exec (.tripRecognised dt g j) s = .next (s.after d) ∧ (s.dev.advance dt).Within g d ∧
         d.coil (32 * g + j) = { c with st := .decay, tripped := true, ton := s.dev.clk + dt - b, decayAt := s.dev.clk + dt + 1,
                                        blankEnd := none, fast := fast }) ∧
     (c.st = .drive → s.dev.beforeNext g j (s.dev.tonmaxAt g j) = true →
       ∃ d, exec (.tonmax g j) s = .next (s.after d) ∧ (s.dev.advanceTo (s.dev.tonmaxAt g j)).Within g d ∧
         d.coil (32 * g + j) = { c with st := .decay, decayAt := max s.dev.clk (s.dev.tonmaxAt g j), blankEnd := none, fast := fast } ∧
         (d.rd (pgAxis (16 * g + j / 2)) Reg.PAGE_EVT).getLsbD 12 = true) ∧
     (c.st = .decay → c.fast = true → s.dev.beforeNext g j (c.decayAt + c.fastUsed) = true →
       ∃ d, exec (.fastPhaseEnd g j) s = .next (s.after d) ∧ (s.dev.advanceTo (c.decayAt + c.fastUsed)).Within g d ∧
         d.coil (32 * g + j) = { c with fast := false }))

/-- A zero-current window (R166 to R168): zero current is kept with its instant and tick; the urgent request follows it by
ZDLY and 2 to 4 gck, and runs at once on the named converter where that is free (R228); at ZMAX the window closes with an
empty sample and its event, 8 where no zero current was recognised, else 9. After a window DRIVE resumes with the setpoint
kept for it, as at a period start. -/
def Obligations.ZeroCurrentWindow : Prop :=
  (∀ (s : State) (g : Fin 8) (j : Fin 32) (dt : Nat) (w : Sys2Proof.Machine.Window), s.live g →
    (s.dev.coil (32 * g + j)).win = some w →
    (let n := 16 * g.val + j.val / 2
     (w.z = none → s.dev.zblankEnd g j w + s.dev.tripRun g ≤ s.dev.clk + dt + 1 → s.dev.clk + dt < s.dev.zmaxAt g j w →
       ∃ d, exec (.zeroCurrentRecognised dt g j) s = .next (s.after d) ∧ (s.dev.advance dt).Within g d ∧
         (d.coil (32 * g + j)).win = some { w with z := some (s.dev.clk + dt), zTick := (s.dev.grove g).tick } ∧
         (d.coil (32 * g + j)).zeroSeen = true) ∧
     (∀ z, w.z = some z → w.requested = false → z + s.dev.zdly g j + 4 < s.dev.zmaxAt g j w →
       (let c := 4 * g.val + s.dev.rf (pgAxis n) Reg.axis.ZCW2 21 20
        ∃ d t, exec (.urgentRequest g j) s = .next (s.after d) ∧
          z + s.dev.zdly g j + 2 ≤ t ∧ t ≤ z + s.dev.zdly g j + 4 ∧ d.clk = max s.dev.clk t ∧
          ((s.dev.conv c).free = true →
            (d.coil (32 * g + j)).win = some { w with requested := true } ∧
            ∃ r u, (d.conv c).run = some r ∧ r.urgent = some u ∧ u.coil = j) ∧
          ((d.coil (32 * g + j)).win = some { w with requested := true } ∨
            (d.coil (32 * g + j)).win = none ∧ (d.rd (pgAxis n) Reg.PAGE_EVT).getLsbD 10 = true))) ∧
     (∃ d, exec (.zmaxExpiry g j) s = .next (s.after d) ∧ (s.dev.advanceTo (s.dev.zmaxAt g j w)).Within g d ∧
         (d.coil (32 * g + j)).win = none ∧
         (∃ x, (d.ob n).samples = (s.dev.ob n).samples ++ [x] ∧ x.empty = true ∧ x.coil = j.val % 2 ∧ x.half = w.half) ∧
         (d.rd (pgAxis n) Reg.PAGE_EVT).getLsbD (if w.z = none then 8 else 9) = true))) ∧
  (∀ (s : State) (g : Fin 8) (j : Fin 32) (t : Nat), s.live g → (s.dev.coil (32 * g + j)).resumeAt = some t →
    (let c := s.dev.coil (32 * g + j)
     ∃ d, exec (.driveResume g j) s = .next (s.after d) ∧ (s.dev.advanceTo t).Within g d ∧ d.clk = max s.dev.clk t ∧
       (d.coil (32 * g + j)).resumeAt = none ∧
       (0 < c.mag → (d.coil (32 * g + j)).st = .drive ∧ (d.coil (32 * g + j)).srcNeg = c.neg) ∧
       (c.mag = 0 → (d.coil (32 * g + j)).st = (if c.hadDrive then .decay else .off))))
/-- What a Nib does (R183 to R194): it keeps the node's side and its instant; the incoming switch turns on when it is due;
a recognition that fails to come within DT_MAX is a miss, and the third in a row of its type declares the stage failed, sets
STUCK and trips the grove where source 4 is enabled; an overlap that its stage finds sets SHOOT and counts.
The model's reading: log 57. -/
def Obligations.NibEvents : Prop :=
  ∀ (s : State) (g : Fin 8) (k : Fin 64) (dt : Nat), s.live g →
    (let l := s.dev.leg (64 * g + k)
     (∀ high : Bool, l.node ≠ (if high then 2 else 1) →
       ∃ d, exec (.nodeRecognised dt g k high) s = .next (s.after d) ∧ (s.dev.advance dt).Within g d ∧
         (d.leg (64 * g + k)).node = (if high then 2 else 1) ∧ (d.leg (64 * g + k)).nodeAt = s.dev.clk + dt ∧
         (d.leg (64 * g + k)).gh = l.gh ∧ (d.leg (64 * g + k)).gl = l.gl) ∧
     (∀ t, l.turnOn = some t →
       ∃ d, exec (.incomingTurnOn g k) s = .next (s.after d) ∧ d.clk = max s.dev.clk (turnOnDue s.dev g l t) ∧
         (s.dev.advanceTo (turnOnDue s.dev g l t)).Within g d ∧ (d.leg (64 * g + k)).turnOn = none ∧
         (d.leg (64 * g + k)).gh = (l.gh || t.hi) ∧ (d.leg (64 * g + k)).gl = (l.gl || !t.hi)) ∧
     (∀ m, l.meas = some m → m.ty < 4 → l.dly.length = 4 →
       ∃ d, exec (.edgeMiss g k) s = .next (s.after d) ∧ (s.dev.advanceTo (m.start + s.dev.dtMax g)).Within g d ∧
         (d.leg (64 * g + k)).meas = none ∧ ((d.leg (64 * g + k)).rec_ m.ty).miss = min 3 ((l.rec_ m.ty).miss + 1) ∧
         (2 ≤ (l.rec_ m.ty).miss →
           ((d.leg (64 * g + k)).rec_ m.ty).stuck = true ∧
           (d.rd (pgNib g) (Reg.nib.STUCK + k / 32)).getLsbD (k % 32) = true ∧ (d.rd (pgNib g) Reg.PAGE_EVT).getLsbD 2 = true ∧
           (s.dev.rb (pgFire g) Reg.firebrk.SRCEN 4 = true →
             ((s.after d).dev.grove g).tripped = true ∧ ((s.after d).dev.grove g).causes.testBit 4 = true))) ∧
     (l.overlap = false →
       ∃ d, exec (.overlapEvent dt g k) s = .next (s.after d) ∧ (s.dev.advance dt).Within g d ∧
         (d.rd (pgNib g) (Reg.nib.SHOOT + k / 32)).getLsbD (k % 32) = true ∧ (d.rd (pgNib g) Reg.PAGE_EVT).getLsbD 0 = true ∧
         d.rf (pgNib g) Reg.nib.SHOOTCNT 23 0 = min (2 ^ 24 - 1) (s.dev.rf (pgNib g) Reg.nib.SHOOTCNT 23 0 + 1) ∧
         (d.leg (64 * g + k)).events.head? = some (s.dev.grove g).carNo))

/-! ### The Firebreak (R201 to R210) -/

/-- FAULT_N of a grove, low for 40 ns or longer, trips it with cause FAULT where that source is enabled, in every power
state, and ESTOP_N every present grove with cause ESTOP (R201, R203); a pulse below 10 ns is none. The rise clears the level
(R204).
The model's readings: logs 45 and 58. -/
def Obligations.TripInputs : Prop :=
  (∀ (s : State) (g : Fin 8) (dt ns : Nat), s.dev.hasGrove g = true → s.dev.sup.inReset = false →
    (s.dev.pins.fault.testBit g = false →
      (40 ≤ ns → s.dev.rb (pgFire g) Reg.firebrk.SRCEN 1 = true →
        ∃ d, exec (.faultNLow dt g ns) s = .next (s.after d) ∧ (d.grove g).tripped = true ∧
          (d.grove g).causes.testBit 1 = true ∧ d.pins.faultSeen.testBit g = true ∧ d.clk = s.dev.clk + dt ∧
          ((s.dev.grove g).tripped = false → d.Latched g) ∧ ∀ x, x ≠ g.val → d.grove x = s.dev.grove x) ∧
      (ns < 10 →
        ∃ d, exec (.faultNLow dt g ns) s = .next (s.after d) ∧ d.pins.fault.testBit g = true ∧
          { d with pins := s.dev.pins } = s.dev.advance dt)) ∧
    ∃ d, exec (.faultNHigh dt g) s = .next (s.after d) ∧ d.pins.fault.testBit g = false ∧
      d.pins.faultSeen.testBit g = false ∧ { d with pins := s.dev.pins } = s.dev.advance dt) ∧
  (∀ (s : State) (dt ns : Nat), s.dev.sup.inReset = false →
    (s.dev.pins.estop = false →
      (40 ≤ ns →
        ∃ d, exec (.estopNLow dt ns) s = .next (s.after d) ∧ d.pins.estopSeen = true ∧ d.clk = s.dev.clk + dt ∧
          ∀ g, g < s.dev.variant.groves → (d.grove g).tripped = true ∧ (d.grove g).causes.testBit 2 = true) ∧
      (ns < 10 →
        ∃ d, exec (.estopNLow dt ns) s = .next (s.after d) ∧ d.pins.estop = true ∧
          { d with pins := s.dev.pins } = s.dev.advance dt)) ∧
    ∃ d, exec (.estopNHigh dt) s = .next (s.after d) ∧ d.pins.estop = false ∧ d.pins.estopSeen = false ∧
      { d with pins := s.dev.pins } = s.dev.advance dt)
/-- A tripped grove reaches its safe levels 2^c to 2^(c+1) us after the trip, c being SAFEDT (R202, R212): from then on each
leg with OUTEN at 1 drives what its SAFE code says, GL on code 1, GH on code 2, else neither.
The model's reading: log 59. -/
def Obligations.SafeLevelsReached : Prop :=
  ∀ (s : State) (g : Fin 8), s.settled → s.dev.hasGrove g = true → s.dev.sup.inReset = false →
    (s.dev.grove g).tripped = true → (s.dev.grove g).safe = false →
    (let us := 400 * 2 ^ s.dev.rf (pgFire g) Reg.firebrk.SAFEDT 1 0
     ∃ t, exec (.safeLevels g) s = .next t ∧ t.pending = s.pending ∧
       t.dev.grove g = { s.dev.grove g with safe := true } ∧ (s.dev.grove g).tripAt + us ≤ t.dev.clk ∧
       t.dev.clk ≤ max s.dev.clk ((s.dev.grove g).tripAt + 2 * us) ∧
       (∀ k, k < 64 → s.dev.tap.extest = false → s.dev.rb (pgFire g) Reg.PAGE_CTRL 0 = true →
         t.ball g k = (if s.dev.safeCode g k = 1 then 1 else if s.dev.safeCode g k = 2 then 2 else 0)) ∧
       { t.dev with groves := s.dev.groves, draws := s.dev.draws } = s.dev.advance (t.dev.clk - s.dev.clk))

/-- Writes of FIREBRK that are not refused (R182, R201, R204, R205): TRIP latches an immediate trip with cause HOST, as does
OUTEN falling; RSTOP asks for the ramp engine with cause RSTOP; OUTEN rising lets the balls be driven; CLEAR ends the trip
and its causes.
The model's reading: log 41. -/
def Obligations.FirebreakWrites : Prop :=
  ∀ (s : State) (g : Fin 8) (w : RegWrite), s.dev.hasGrove g = true → w.win = .direct →
    (s.takes w (pgFire g) Reg.PAGE_CTRL →
      (w.data.getLsbD 1 = true →
        ∃ d, exec (.trip g w) s = .next (s.after d) ∧ (d.grove g).tripped = true ∧ (d.grove g).causes.testBit 5 = true ∧
          (s.dev.advance w.dt).Within g { d with acc := s.dev.acc }) ∧
      (w.data.getLsbD 2 = true →
        ∃ d, exec (.rstop g w) s = .next (s.after d) ∧ (d.grove g).causes.testBit 11 = true ∧
          ((d.grove g).tripped = false → ∃ r, (d.grove g).ramp = some r ∧ r.trips = true)) ∧
      (∃ d, exec (.outen g w) s = .next (s.after d) ∧ d.rb (pgFire g) Reg.PAGE_CTRL 0 = w.data.getLsbD 0 ∧
        (w.data.getLsbD 0 = false → s.dev.rb (pgFire g) Reg.PAGE_CTRL 0 = true → (d.grove g).tripped = true) ∧
        (w.data.getLsbD 0 = true → w.data.getLsbD 1 = false → (d.grove g).tripped = (s.dev.grove g).tripped))) ∧
    (s.takes w (pgFire g) Reg.firebrk.CLEAR → w.data.getLsbD 0 = true →
      ∃ d, exec (.clear g w) s = .next (s.after d) ∧ (d.grove g).tripped = false ∧ (d.grove g).causes = 0 ∧
        (d.grove g).due = 0 ∧ (d.rd (pgFire g) Reg.PAGE_EVT).getLsbD 1 = true)

/-- A debug halt of a grove (R209, R210): with DBG's HOLD enabled the grove holds where it stands, else its ramp engine is
asked for with cause DEBUG; a HOLD that a resume or HOLDMAX ends trips the grove with cause DEBUG, without a ramp.
The model's reading: log 46. -/
def Obligations.DebugHold : Prop :=
  ∀ (s : State) (g : Fin 8) (dt : Nat), s.runs → s.dev.hasGrove g = true →
    (let dbg := s.dev.rd (pgFire g) Reg.firebrk.DBG
     ((s.dev.grove g).tripped = false → (s.dev.grove g).held = none → dbg.getLsbD 0 = true → dbg.getLsbD 4 = true →
       ∃ d, exec (.groveHalt dt g) s = .next (s.after d) ∧ (d.grove g).held = some ⟨s.dev.clk + dt, fld dbg 27 16⟩ ∧
         (d.grove g).tripped = false) ∧
     ((s.dev.grove g).tripped = false → ¬ (dbg.getLsbD 0 = true ∧ dbg.getLsbD 4 = true) →
       ∃ d, exec (.groveHalt dt g) s = .next (s.after d) ∧ (d.grove g).causes.testBit 9 = true ∧
         ∃ r, (d.grove g).ramp = some r ∧ r.trips = true) ∧
     (∀ h, (s.dev.grove g).held = some h →
       (∃ d, exec (.groveResume dt g) s = .next (s.after d) ∧ (d.grove g).held = none ∧ (d.grove g).tripped = true ∧
         (d.grove g).causes.testBit 9 = true) ∧
       (h.holdmax ≠ 0 →
         ∃ d, exec (.holdmaxExpiry g) s = .next (s.after d) ∧ d.clk = max s.dev.clk (h.since + 400 * h.holdmax) ∧
           (d.grove g).held = none ∧ (d.grove g).tripped = true ∧ (d.grove g).causes.testBit 9 = true ∧
           (d.rd (pgFire g) Reg.PAGE_EVT).getLsbD 4 = true)))

/-! ### Converters, calibration and observers (R216 to R256) -/

/-- A trigger of the source that TRIG selects (R222, R223): without CTRL.EN it does nothing; while the grove calibrates, the
sequence runs or a start is held it is ignored, and counted; while urgent work is on the converter the start is held; else
entry 0 starts at the next modulator edge.
The model's reading: log 65. -/
def Obligations.SequenceTriggers : Prop :=
  ∀ (s : State) (c : Fin 32) (dt : Nat), s.runs → s.dev.hasGrove (c / 4) = true → s.dev.rf (pgCv c) Reg.conv.TRIG 2 0 ≠ 0 →
    (let v := s.dev.conv c
     let at_ := s.dev.advance dt
     let en := s.dev.rb (pgCv c) Reg.conv.CTRL 16
     let applies := s.dev.calSt (c / 4) = .applying ∧ c.val % 4 = 0
     ∃ d, exec (.sequenceTrigger dt c) s = .next (s.after d) ∧ at_.Within (c / 4) d ∧
       (en = false → d = at_) ∧
       (en = true → s.dev.calSt (c / 4) = .running ∨ v.seqOn = true ∨ v.held = true →
         d.rf (pgCv c) Reg.conv.TOVRCNT 23 0 = min (2 ^ 24 - 1) (s.dev.rf (pgCv c) Reg.conv.TOVRCNT 23 0 + 1) ∧
         (d.rd (pgCv c) Reg.PAGE_EVT).getLsbD 2 = true ∧ d.conv c = v) ∧
       (en = true → s.dev.calSt (c / 4) ≠ .running → v.seqOn = false → v.held = false →
         (v.urgentRuns = true ∨ v.queue ≠ [] ∨ applies → d.conv c = { v with held := true }) ∧
         (v.urgentRuns = false → v.queue = [] → ¬ applies →
           ∃ r, (d.conv c).run = some r ∧ (d.conv c).seqOn = true ∧ r.entry = 0 ∧ r.word = s.dev.rd (pgCv c) Reg.conv.ENT ∧
             r.startAt = modEdge (c / 4) (s.dev.clk + dt + 1) ∧ r.endAt = r.startAt + sampleTime r.word)))

/-- The end of a conversion's sampling (R221, R229): its result goes to the filter. After an entry of a sequence the next one
starts at that instant; after the last, which counts, entry 0 starts again in mode CONT, and else the sequence is at its
end. After an urgent conversion the next queued one starts, else the entry that it interrupted starts again.
The model's reading: log 21. -/
def Obligations.ConversionEnds : Prop :=
  ∀ (s : State) (c : Fin 32) (r : Conversion), s.runs → s.dev.hasGrove (c / 4) = true → (s.dev.conv c).run = some r →
    (let v := s.dev.conv c
     let last := s.dev.rf (pgCv c) Reg.conv.CTRL 3 0
     ∃ d, exec (.conversionEnd c) s = .next (s.after d) ∧ d.clk = max s.dev.clk r.endAt ∧
       (∃ x, (d.conv c).filter = v.filter ++ [x] ∧ x.word = r.word ∧ x.entry = r.entry ∧ x.rerun = r.rerun ∧ x.urgent = r.urgent) ∧
       (r.urgent = none → (s.dev.advanceTo r.endAt).Within (c / 4) d ∧
         (r.entry < last →
           ∃ x, (d.conv c).run = some x ∧ x.entry = r.entry + 1 ∧ x.word = s.dev.rd (pgCv c) (Reg.conv.ENT + (r.entry + 1)) ∧
             x.startAt = r.endAt ∧ x.endAt = r.endAt + sampleTime x.word) ∧
         (last ≤ r.entry →
           d.rf (pgCv c) Reg.conv.SEQCNT 35 0 = (s.dev.rf (pgCv c) Reg.conv.SEQCNT 35 0 + 1) % 2 ^ 36 ∧
           (d.rd (pgCv c) Reg.PAGE_EVT).getLsbD 0 = true ∧
           (s.dev.rb (pgCv c) Reg.conv.CTRL 4 = true → ∃ x, (d.conv c).run = some x ∧ x.entry = 0 ∧ x.startAt = r.endAt) ∧
           (s.dev.rb (pgCv c) Reg.conv.CTRL 4 = false → (d.conv c).run = none ∧ (d.conv c).seqOn = false))) ∧
       (∀ u, r.urgent = some u →
         (∀ u2 q, v.queue = u2 :: q → (d.conv c).queue = q ∧ ∃ x, (d.conv c).run = some x ∧ x.urgent = some u2) ∧
         (∀ e, v.queue = [] → v.again = some e → ¬ (s.dev.calSt (c / 4) = .applying ∧ c.val % 4 = 0) →
           ∃ x, (d.conv c).run = some x ∧ x.entry = e ∧ x.rerun = true ∧ x.urgent = none)))

/-- A result that leaves the filter (R225, R226): corrected with the factors of its converter and gain, reversed before that
where LSWAP reverses its pair. A sequence result goes to RESe; an urgent one to URES, with UINFO and UCNT, and as a sample
to the axis of its coil; overrange raises its event.
The model's reading: log 57. -/
def Obligations.ResultDelivered : Prop :=
  ∀ (s : State) (c : Fin 32) (dt : Nat) (raw : Int) (overload : Bool) (r : Conversion) (rest : List Conversion), s.runs →
    s.dev.hasGrove (c / 4) = true → (s.dev.conv c).filter = r :: rest → r.entry < 16 → (∀ u, r.urgent = some u → u.coil < 32) →
    (let x := if s.dev.pairReversed c r.word then -raw else raw
     let y := (s.dev.corrected c (fld r.word 30 28) x overload).1
     let ovr := (s.dev.corrected c (fld r.word 30 28) x overload).2
     ∃ d, exec (.resultReady dt c raw overload) s = .next (s.after d) ∧ (s.dev.advance dt).Within (c / 4) d ∧
       (d.conv c).filter = rest ∧ (ovr = true → (d.rd (pgCv c) Reg.PAGE_EVT).getLsbD 5 = true) ∧
       (r.urgent = none → ∃ fires : Bool, d.rd (pgCv c) (Reg.conv.RES + r.entry) = resultWord r.entry ovr r.rerun false fires y ∧
         (fires = true → (d.rd (pgCv c) Reg.PAGE_EVT).getLsbD 1 = true)) ∧
       (∀ u, r.urgent = some u →
         d.rd (pgCv c) Reg.conv.URES = resultWord 0 ovr false true false y ∧
         d.rd (pgCv c) Reg.conv.UINFO = BitVec.ofNat 36 (u.named * 256 + u.coil) ∧
         d.rf (pgCv c) Reg.conv.UCNT 35 0 = (s.dev.rf (pgCv c) Reg.conv.UCNT 35 0 + 1) % 2 ^ 36 ∧
         (let n := 16 * (c.val / 4) + u.coil / 2
          (d.ob n).samples = (s.dev.ob n).samples ++ [⟨u.coil % 2, r.half, r.tick, false, y, ovr, u.gain⟩])))

/-- Writes of a converter's CTRL that are not refused (R222, R224). START with EN 1 starts entry 0 at the next modulator edge
where nothing runs or waits. EN 0 ends the sequence and drops a held start and an interrupted entry; urgent work goes on, and
where nothing samples the next queued request starts.
The model's readings: logs 21 and 65. -/
def Obligations.ConverterWrites : Prop :=
  ∀ (s : State) (c : Fin 32) (w : RegWrite), s.dev.hasGrove (c / 4) = true → s.takes w (pgCv c) Reg.conv.CTRL → w.win = .direct →
    (let v := s.dev.conv c
     let edge := modEdge (c / 4) (s.dev.clk + w.dt + 1)
     ∃ S, (s.dev.advance w.dt).Stores (pgCv c) Reg.conv.CTRL S ∧ S.rb (pgCv c) Reg.conv.CTRL 16 = w.data.getLsbD 16 ∧
       S.rb (pgCv c) Reg.conv.CTRL 8 = w.data.getLsbD 8 ∧ S.rb (pgCv c) Reg.conv.CTRL 4 = w.data.getLsbD 4 ∧
       S.rf (pgCv c) Reg.conv.CTRL 3 0 = fld w.data 3 0 ∧
       (w.data.getLsbD 16 = true → w.data.getLsbD 35 = false → exec (.convStart c w) s = .next (s.after S)) ∧
       (w.data.getLsbD 16 = true → w.data.getLsbD 35 = true → v.seqOn = false → v.held = false → v.urgentRuns = false → v.queue = [] →
         s.dev.calSt (c / 4) ≠ .running → s.dev.calSt (c / 4) ≠ .applying →
         let e := s.dev.rd (pgCv c) Reg.conv.ENT
         exec (.convStart c w) s = .next (s.after (S.setConv c { v with
           run := some ⟨0, e, false, none, 0, 0, 0, edge, edge + sampleTime e⟩, seqOn := true, again := none, entry := 0 }))) ∧
       (w.data.getLsbD 16 = false →
         (v.urgentRuns = true → exec (.convEn c w) s = .next (s.after (S.setConv c { v with seqOn := false, again := none, held := false }))) ∧
         (v.urgentRuns = false → v.queue = [] →
           exec (.convEn c w) s = .next (s.after (S.setConv c { v with run := none, seqOn := false, again := none, held := false }))) ∧
         (∀ u q, v.urgentRuns = false → v.queue = u :: q →
           ∃ d, exec (.convEn c w) s = .next (s.after d) ∧ { d with convs := S.convs } = S ∧ (∀ x, x ≠ c.val → d.conv x = S.conv x) ∧
             d.conv c = { v with run := some ⟨0, urgentWord u, false, some u, 0, 0, 0, edge, edge + sampleTime (urgentWord u)⟩,
                                 queue := q, seqOn := false, again := none, held := false })))

/-- Self-calibration of a grove (R232 to R234) and the test of restored factors (R235). GO ends every sequence and runs; its end
leaves new factors under CALSUM with the temperature of that moment, or the state FAILED with its cause. APPLY ends as BADSUM,
RESTORED or OUTWIN. -/
def Obligations.Calibration : Prop :=
  ∀ (s : State) (g : Fin 8), s.dev.hasGrove g = true →
    (∀ w, s.takes w (pgCal g) Reg.convcal.CMD → w.win = .direct → s.dev.calBusy g = false →
      (w.data.getLsbD 0 = true → ∃ d, exec (.calGo g w) s = .next (s.after d) ∧ d.calSt g = .running ∧
        (∀ i, i < 4 → (d.conv (4 * g + i)).seqOn = false ∧ (d.conv (4 * g + i)).again = none ∧ (d.conv (4 * g + i)).held = false) ∧
        ∀ p off, off < 1024 → d.rd p off = s.dev.rd p off) ∧
      (w.data.getLsbD 0 = false → w.data.getLsbD 1 = true →
        ∃ d, exec (.calApply g w) s = .next (s.after d) ∧ d.calSt g = .applying)) ∧
    (s.runs → s.dev.calSt g = .running → ∀ (dt : Nat) (item : Fin 64) (die : Int),
      (∃ d, exec (.caldone dt g 0 item die) s = .next (s.after d) ∧ (s.dev.advance dt).Within g d ∧ d.calSt g = .calibrated ∧
        d.rf (pgCal g) Reg.convcal.CALTEMP 15 0 = tnowOf die ∧ d.rf (pgCal g) Reg.convcal.TNOW 15 0 = tnowOf die ∧
        (d.rd (pgCal g) Reg.convcal.CALSUM).toNat = d.calSum g ∧ (d.rd (pgCal g) Reg.PAGE_EVT).getLsbD 0 = true) ∧
      (∀ f : Fin 8, f ≠ 0 → ∃ d, exec (.caldone dt g f item die) s = .next (s.after d) ∧ (s.dev.advance dt).Within g d ∧
        d.calSt g = .failed ∧ d.rf (pgCal g) Reg.convcal.STAT 11 8 = f ∧ d.rf (pgCal g) Reg.convcal.STAT 23 16 = item ∧
        (d.rd (pgCal g) Reg.PAGE_EVT).getLsbD 0 = true)) ∧
    (s.runs → s.dev.calSt g = .applying → ∀ (dt : Nat) (die : Int),
      ∃ d, exec (.calApplied dt g die) s = .next (s.after d) ∧ (s.dev.advance dt).Within g d ∧
        (d.rd (pgCal g) Reg.PAGE_EVT).getLsbD 1 = true ∧
        (s.dev.calSum g ≠ (s.dev.rd (pgCal g) Reg.convcal.CALSUM).toNat → d.calSt g = .badsum) ∧
        (s.dev.calSum g = (s.dev.rd (pgCal g) Reg.convcal.CALSUM).toNat →
          d.rf (pgCal g) Reg.convcal.TNOW 15 0 = tnowOf die ∧
          d.calSt g = (if absI (sgn 16 (tnowOf die) - sfld (s.dev.rd (pgCal g) Reg.convcal.CALTEMP) 15 0) ≤
            (16 * s.dev.rf (pgCal g) Reg.convcal.TWIN 5 0 : Nat) then .restored else .outwin)))

/-- Writes of an AXIS page that act (R89, R92, R93, R252, R255, R256), where not refused: TAIL appends entries; FLUSH empties the
queue and asks for a controlled stop with the limits of the entry in execution; RESUME clears the fault; OBSCAL starts a
calibration of 16·2^NCAL samples for the margin REFM, or ends one as ABORTED with its event; TRUSTSET sets TRUST.
The model's reading: log 43. -/
def Obligations.AxisWrites : Prop :=
  ∀ (s : State) (n : Fin 128) (w : RegWrite), s.dev.hasGrove (n / 16) = true → w.win = .direct →
    (let at_ := s.dev.advance w.dt
     let q := s.dev.queue n
     let o := s.dev.ob n
     let p := s.dev.plan n
     (s.takes w (pgAxis n) Reg.axis.QPTR →
       ∃ S, at_.Stores (pgAxis n) Reg.axis.QPTR S ∧
         exec (.qptrTailWrite n w) s = .next (s.after (S.setQueue n { q with tail := fld w.data 24 16 }))) ∧
     (s.takes w (pgAxis n) Reg.axis.QCTRL →
       ∃ S, at_.Stores (pgAxis n) Reg.axis.QCTRL S ∧
         (w.data.getLsbD 0 = true → w.data.getLsbD 1 = false → exec (.flush n w) s = .next (s.after
           ((S.setQueue n { q with head := q.tail, act := none, ready := none, dwell := none, relBase := none, fault := 0 }).setPlan n
             { p with stopReq := true, stopLim := (q.act.map QEntry.lim) <|> p.stopLim }))) ∧
         (w.data.getLsbD 0 = false → w.data.getLsbD 1 = true →
           exec (.resume n w) s = .next (s.after (S.setQueue n { q with fault := 0 })))) ∧
     (s.takes w (pgAxis n) Reg.axis.OBSCAL →
       ∃ S, at_.Stores (pgAxis n) Reg.axis.OBSCAL S ∧
         (w.data.getLsbD 34 = false → w.data.getLsbD 35 = true → exec (.obscalGo n w) s = .next (s.after (S.setOb n { o with
           cal := some (16 * 2 ^ fld w.data 3 0, fld w.data 25 16), calState := 1, calFail := 0, acc := 0, got := 0 }))) ∧
         (w.data.getLsbD 34 = true → w.data.getLsbD 35 = false →
           (o.cal.isSome = true → exec (.obscalAbort n w) s = .next (s.after
             ((S.setOb n { o with cal := none, calState := 4, calFail := 0 }).ev (pgAxis n) 18))) ∧
           (o.cal = none → exec (.obscalAbort n w) s = .next (s.after S)))) ∧
     (s.takes w (pgAxis n) Reg.axis.TRUSTSET → w.data.getLsbD 0 = true →
       ∃ S, at_.Stores (pgAxis n) Reg.axis.TRUSTSET S ∧ exec (.trustset n w) s = .next (s.after (S.setOb n { o with trust := true }))))

/-- Writes of the Scribe's registers and of the stroke library's that are not refused (R111, R115, R120, R142): RUN, the write
pointer and the read pointer are stored; a new read pointer empties the table, with the event where FILL falls to LOWMARK or
0; a new master source, of which SRC, QCHAN, AXIS or NODE changes, re-anchors; CHECK.GO takes START and COUNT, and the check
ends with its first failing stroke and cause in CHKSTAT and with CHKDONE. -/
def Obligations.ScribeWrites : Prop :=
  ∀ (s : State) (w : RegWrite), s.dev.variant.full = true →
    (w.win = .direct →
      (let at_ := s.dev.advance w.dt
       (s.takes w pgScribe Reg.PAGE_CTRL → w.data.getLsbD 1 = false →
         ∃ S, at_.Stores pgScribe Reg.PAGE_CTRL S ∧ S.rb pgScribe Reg.PAGE_CTRL 0 = w.data.getLsbD 0 ∧
           exec (.scribeRun w) s = .next (s.after S)) ∧
       (s.takes w pgScribe Reg.scribe.WR →
         ∃ S, at_.Stores pgScribe Reg.scribe.WR S ∧ S.scrWR = fld w.data 21 0 ∧ exec (.inkwellWrWrite w) s = .next (s.after S)) ∧
       (s.takes w pgScribe Reg.scribe.RD →
         ∃ S, at_.Stores pgScribe Reg.scribe.RD S ∧ S.scrRD = fld w.data 21 0 ∧
           (let mark := S.rf pgScribe Reg.scribe.LOWMARK 21 0
            ∃ d, exec (.inkwellRdWrite w) s = .next (s.after d) ∧ d.scr = { s.dev.scr with table := [], xprev := none } ∧
              (∀ q o, o < 1024 → o ≠ Reg.PAGE_EVT → d.rd q o = S.rd q o) ∧
              (mark < s.dev.scrFill → S.scrFill ≤ mark → (d.rd pgScribe Reg.PAGE_EVT).getLsbD 0 = true) ∧
              (0 < s.dev.scrFill → S.scrFill = 0 → (d.rd pgScribe Reg.PAGE_EVT).getLsbD 1 = true))) ∧
       (s.takes w pgScribe Reg.scribe.MSRC →
         ∃ S, at_.Stores pgScribe Reg.scribe.MSRC S ∧ S.rf pgScribe Reg.scribe.MSRC 2 0 = fld w.data 2 0 ∧
           (let same (hi lo : Nat) : Prop := s.dev.rf pgScribe Reg.scribe.MSRC hi lo = fld w.data hi lo
            ((same 2 0 ∧ same 11 8 ∧ same 18 12 ∧ same 34 30) → exec (.msrcWrite w) s = .next (s.after S)) ∧
            (¬ (same 2 0 ∧ same 11 8 ∧ same 18 12 ∧ same 34 30) →
              exec (.msrcWrite w) s = .next (s.after (S.setScr { s.dev.scr with reanchor := true }))))) ∧
       (s.takes w pgStroke Reg.stroke.CHECK → w.data.getLsbD 35 = true →
         ∃ S, at_.Stores pgStroke Reg.stroke.CHECK S ∧ exec (.strokeCheck w) s = .next (s.after
           (S.setScr { s.dev.scr with chkBusy := some (fld w.data 13 0, fld w.data 30 16) }))))) ∧
    (∀ dt start count, s.runs → s.dev.scr.chkBusy = some (start, count) →
      ∃ d, exec (.chkdone dt) s = .next (s.after d) ∧ d.scr = { s.dev.scr with chkBusy := none } ∧
        (d.rd pgStroke Reg.PAGE_EVT).getLsbD 0 = true ∧
        d.rd pgStroke Reg.stroke.CHKSTAT = (match checkStrokes (s.dev.advance dt) start count with
          | some (stroke, cause) => mkw [(33, 1), (16, stroke), (0, cause)]
          | none => 0))

/-- Update strobes (R59 to R61): a write of UPDATE, and a selected edge of UPD_IN 5 to 8 gck after it, which counts, include the
shadows then present of the pages whose group, 1 to 30, is in the mask. FENCE.REQ waits for the requester's earlier writes
(R65). A PART value of a page in group 0 that passes its check takes effect at once and sets the rings' pointers to 0 (R470,
R115, R458); in another group it waits in the shadow (R58).
The model's readings: logs 44, 48 and 59. -/
def Obligations.UpdateGroups : Prop :=
  ∀ s : State,
    (let strobes (d S : Dev) (mask t : Nat) : Prop :=
       ∃ x, d.strobes = S.strobes ++ [x] ∧ x.mask = mask ∧ x.at_ = t ∧ ∀ c, c ∈ x.captured ↔
         ∃ sh, (c.key, sh) ∈ S.shadow ∧ c.seq = sh.seq ∧ c.val = sh.val ∧
           0 < S.group (c.key / 1024) ∧ S.group (c.key / 1024) < 31 ∧ mask.testBit (S.group (c.key / 1024)) = true
     (∀ w : RegWrite, w.win = .direct →
       (let at_ := s.dev.advance w.dt
        (s.takes w pgCanopy Reg.canopy.UPDATE →
          ∃ S, at_.Stores pgCanopy Reg.canopy.UPDATE S ∧ ∃ d, exec (.update w) s = .next (s.after d) ∧
            { d with strobes := S.strobes } = S ∧ strobes d S (fld w.data 31 0) (s.dev.clk + w.dt)) ∧
        (s.takes w pgCanopy Reg.canopy.FENCE → w.data.getLsbD 35 = true →
          ∃ S, at_.Stores pgCanopy Reg.canopy.FENCE S ∧ exec (.fenceReq w) s = .next (s.after
            { S with acc := { S.acc with fencing := nins S.acc.fencing w.req.id } })) ∧
        (∀ i : Fin 6, s.takes w pgCanopy (Reg.canopy.PART + i) →
          (let part := key pgCanopy (Reg.canopy.PART + i)
           (s.dev.group pgCanopy = 0 → ∃ d, exec (.partWrite i w) s = .next (s.after d) ∧
             d.rf pgCanopy (Reg.canopy.PART + i) 24 16 = fld w.data 24 16 ∧ d.rf pgCanopy (Reg.canopy.PART + i) 7 0 = fld w.data 7 0 ∧
             d.rd pgCanopy Reg.canopy.PART_STAT = 0 ∧ (d.rd pgCanopy Reg.PAGE_EVT).getLsbD 1 = true ∧
             d.rd pgBlot Reg.blot.RD = 0 ∧ d.rd pgBlot Reg.blot.WR = 0 ∧
             (s.dev.variant.full = true → d.rd pgScribe Reg.scribe.RD = 0 ∧ d.rd pgScribe Reg.scribe.WR = 0 ∧ d.scr.table = [])) ∧
           (s.dev.group pgCanopy ≠ 0 → ∃ d x, exec (.partWrite i w) s = .next (s.after d) ∧ d.shadow = s.dev.shadow.put part x ∧
             fld x.val 24 16 = fld w.data 24 16 ∧ fld x.val 7 0 = fld w.data 7 0 ∧
             ∀ p o, o < 1024 → d.rd p o = s.dev.rd p o))))) ∧
     (∀ (dt : Nat) (rising : Bool), s.runs → s.dev.pins.upd ≠ rising → s.dev.pins.updAt + 4 ≤ s.dev.clk + dt →
       edgeSel (s.dev.rf pgCanopy Reg.canopy.UPDIN_CFG 33 32) rising = true →
       ∃ d S, exec (.updInEdge dt rising) s = .next (s.after d) ∧ { d with strobes := S.strobes } = S ∧ S.pins.upd = rising ∧
         s.dev.clk + dt + 5 ≤ S.clk ∧ S.clk ≤ s.dev.clk + dt + 8 ∧ S.shadow = s.dev.shadow ∧
         S.rf pgCanopy Reg.canopy.UPDIN_CNT 35 0 = (s.dev.rf pgCanopy Reg.canopy.UPDIN_CNT 35 0 + 1) % 2 ^ 36 ∧
         (S.rd pgCanopy Reg.PAGE_EVT).getLsbD 5 = true ∧ strobes d S (s.dev.rf pgCanopy Reg.canopy.UPDIN_CFG 31 0) S.clk))

/-- Register writes (R51 to R56, R62, R63). The RW fields of a register that only stores take the word as its window forms it,
and nothing else changes. A keyed write by a requester other than the loader that has not unlocked the page is refused with
code 1; a write at an offset that the map leaves empty is ignored with code 5, one of a read-only register with code 6: then
only PAGE_ERR changes. The page's key unlocks the page for the requester; another word locks it and leaves code 2. -/
def Obligations.RegisterWrites : Prop :=
  ∀ (s : State) (p off : BitVec 10) (w : RegWrite) (k : PageKind), s.pages → pageKind p.toNat = some k →
    pagePresent s.dev.variant p.toNat = true →
    (let at_ := s.dev.advance w.dt
     let page := p.toNat
     let err (d : Dev) (o code : Nat) : Prop :=
       d.rd page Reg.PAGE_ERR = mkw [(33, w.req.id), (29, code), (19, o), (8, min 2047 (s.dev.rf page Reg.PAGE_ERR 18 8 + 1)), (0, s.dev.tk % 256)] ∧
       (∀ q x, x < 1024 → ¬ (q = page ∧ x = Reg.PAGE_ERR) → d.rd q x = s.dev.rd q x) ∧ { d with regs := at_.regs, acc := at_.acc } = at_
     (∀ fs, fieldsAt k off.toNat = some fs →
       (s.takes w page off.toNat → pairPart k off.toNat = .single → k = .wave ∨ k = .stepin ∨ off = 5 → fs ≠ [] → (∀ f ∈ fs, f.ty = .rw) →
         ∃ S, at_.Stores page off.toNat S ∧ exec (.registerWrite p off w) s = .next (s.after S) ∧
           ∀ f ∈ fs, ∀ i, i < 36 → f.lo ≤ i → i ≤ f.hi →
             (let old := s.dev.rb page off.toNat i
              let new := w.data.getLsbD i
              S.rb page off.toNat i = (match w.win with
                | .direct => new
                | .setBits => old || new
                | .clearBits => old && !new
                | .toggleBits => old ^^ new))) ∧
       (k ≠ .supv → pairPart k off.toNat = .single → fs ≠ [] → (∀ f ∈ fs, f.ty = .rwk ∨ f.ty = .rwbk) → w.req ≠ .loader →
         s.dev.unlocked w.req.id page = false →
         ∃ d, exec (.registerWrite p off w) s = .next (s.after d) ∧ err d off.toNat 1 ∧ d.acc = s.dev.acc) ∧
       (fs ≠ [] → (∀ f ∈ fs, f.ty = .ro) → ∃ d, exec (.registerWrite p off w) s = .next (s.after d) ∧ err d off.toNat 6 ∧ d.acc = s.dev.acc)) ∧
     (fieldsAt k off.toNat = none → ∃ d, exec (.registerWrite p off w) s = .next (s.after d) ∧ err d off.toNat 5 ∧ d.acc = s.dev.acc) ∧
     (w.win = .direct →
       (w.data.toNat = 0x6C5A93000 + page → ∃ d, exec (.pageLock p w) s = .next (s.after d) ∧ d.unlocked w.req.id page = true ∧
         { d with acc := at_.acc } = at_) ∧
       (w.data.toNat ≠ 0x6C5A93000 + page → ∃ d, exec (.pageLock p w) s = .next (s.after d) ∧ d.unlocked w.req.id page = false ∧
         err d Reg.PAGE_LOCK 2)))

/-- A source is pending while a present page of it has an event and its enable at 1; with IRQ_TEST at 0, IRQ_N[m] is low exactly
while a source that is enabled and mapped to line m is pending (R68, R50). -/
def Obligations.InterruptLines : Prop :=
  ∀ (d : Dev) (m : Nat), d.rb pgCanopy Reg.PAGE_CTRL 0 = false →
    (let pending (src : Nat) : Prop := ∃ p ∈ sourcePages src, pagePresent d.variant p = true ∧
       ∃ i, i < 36 ∧ (d.rd p Reg.PAGE_EVT).getLsbD i = true ∧ (d.rd p Reg.PAGE_EVTEN).getLsbD i = true
     let map (src : Nat) : Word := d.rd pgCanopy (Reg.canopy.IRQMAP + src / 8)
     (d.irqLow m = true ↔ ∃ src, src < 32 ∧ pending src ∧ (map src).getLsbD (4 * (src % 8) + 3) = true ∧
       fld (map src) (4 * (src % 8) + 1) (4 * (src % 8)) = m) ∧
     (∀ src, d.sourceIrq src = true ↔ pending src))

/-! ### The host port (R285 to R313) -/

/-- NOP, WRITE and SCATTER frames (R291, R296, R297 to R299). A NOP changes nothing but the port. A WRITE or SCATTER to memory
stores every word, of two to one address the later; no other byte of memory and nothing else changes. Writes are all or
none: where the second of two is refused, for want of a key, neither applies, and the refusal is on record.
The model's reading: log 48. -/
def Obligations.HostWrites : Prop :=
  ∀ (s : State) (f : Frame),
    (let at_ := s.dev.advance f.dt
     (s.accepts 0 f → ∃ d, exec (.nop f) s = .next (s.after d) ∧ at_.Counted 0 f d ∧ d.Replies 0 0 [] ∧ at_.HostOnly d) ∧
     (s.accepts 1 f → f.addr.toNat + frameN f ≤ s.dev.variant.memWords →
       ∃ d, exec (.write f) s = .next (s.after d) ∧ at_.Counted 1 f d ∧ d.Replies 0 0 [] ∧ at_.HostOnly { d with mem := s.dev.mem } ∧
         ∀ a, d.mem.at a = if f.addr.toNat ≤ a ∧ a < f.addr.toNat + frameN f then ⟨f.data.getD (a - f.addr.toNat) 0, .clean⟩
           else s.dev.mem.at a) ∧
     (s.accepts 2 f → (∀ e ∈ scatterList f.data, e.1 < s.dev.variant.memWords) →
       ∃ d, exec (.scatter f) s = .next (s.after d) ∧ at_.Counted 2 f d ∧ d.Replies 0 0 [] ∧ at_.HostOnly { d with mem := s.dev.mem } ∧
         ∀ a, d.mem.at a = match (scatterList f.data).reverse.lookup a with
           | some w => ⟨w, .clean⟩
           | none => s.dev.mem.at a) ∧
     (∀ (a b : Nat) (v w : Word) (p off : BitVec 10) (k : PageKind) (fs : List RegField), s.accepts 2 f →
       scatterList f.data = [(a, v), (b, w)] → a < s.dev.variant.memWords → b = 0x800000 + p.toNat * 1024 + off.toNat →
       pageKind p.toNat = some k → pagePresent s.dev.variant p.toNat = true → fieldsAt k off.toNat = some fs → k ≠ .supv →
       pairPart k off.toNat = .single → fs ≠ [] → (∀ x ∈ fs, x.ty = .rwk ∨ x.ty = .rwbk) → s.dev.unlocked 0 p.toNat = false →
       ∃ d, exec (.scatter f) s = .next (s.after d) ∧ at_.Counted 2 f d ∧ d.Replies 6 8 [] ∧ d.mem = s.dev.mem ∧
         d.rd p.toNat Reg.PAGE_ERR = mkw [(33, 0), (29, 1), (19, off.toNat),
           (8, min 2047 (s.dev.rf p.toNat Reg.PAGE_ERR 18 8 + 1)), (0, s.dev.tk % 256)] ∧
         d.rf pgHostp Reg.hostp.ERRC 23 12 = min (2 ^ 12 - 1) (s.dev.rf pgHostp Reg.hostp.ERRC 23 12 + 1) ∧
         { d with hp := at_.hp, regs := at_.regs, rose := at_.rose, pins := at_.pins, draws := at_.draws } = at_ ∧
         (∀ q x, x < 1024 → q ≠ pgHostp → ¬ (q = p.toNat ∧ x = Reg.PAGE_ERR) → d.rd q x = s.dev.rd q x)))

/-- READ, GATHER and GATHER_T frames (R40, R298, R302, R303). A word of memory with good check bits, and a wave register, read
as they are, and reading changes nothing but the port; an uncorrectable word reads 0 with status 3, counts, and leaves its
address. A GATHER_T waits for its boundary; with what that boundary gave its reply is ready.
The model's readings: logs 4 and 19. -/
def Obligations.HostReads : Prop :=
  ∀ (s : State) (f : Frame) (dt : Nat),
    (let at_ := s.dev.advance f.dt
     let clean (a : Nat) : Prop := a < s.dev.variant.memWords ∧ (s.dev.mem.at a).ecc = .clean
     (s.accepts 3 f → (∀ i, i < frameN f → clean (f.addr.toNat + i)) →
       ∃ d, exec (.read f) s = .next (s.after d) ∧ at_.Counted 3 f d ∧ at_.HostOnly d ∧
         d.Replies 0 0 ((List.range (frameN f)).map (fun i => (s.dev.mem.at (f.addr.toNat + i)).data))) ∧
     (s.accepts 3 f → frameN f = 1 → f.addr.toNat < s.dev.variant.memWords → (s.dev.mem.at f.addr.toNat).ecc = .double →
       ∃ d, exec (.read f) s = .next (s.after d) ∧ at_.Counted 3 f d ∧ d.Replies 2 3 [0] ∧ d.mem = s.dev.mem ∧
         d.rf pgCanopy Reg.canopy.ECC 11 0 = min (2 ^ 12 - 1) (s.dev.rf pgCanopy Reg.canopy.ECC 11 0 + 1) ∧
         d.rf pgCanopy Reg.canopy.ECC_ADDR 21 0 = f.addr.toNat ∧ (d.rd pgCanopy Reg.PAGE_EVT).getLsbD 4 = true) ∧
     (∀ (g : Fin 8) (off : BitVec 10), s.accepts 3 f → frameN f = 1 → s.dev.hasGrove g = true → (findReg .wave off.toNat).isSome = true → 16 ≤ off.toNat →
       f.addr.toNat = 0x800000 + pgWave g * 1024 + off.toNat →
       ∃ d, exec (.read f) s = .next (s.after d) ∧ at_.Counted 3 f d ∧ at_.HostOnly d ∧ d.Replies 0 0 [s.dev.rd (pgWave g) off.toNat]) ∧
     (s.accepts 4 f → (∀ w ∈ f.data, clean (fld w 23 0)) →
       ∃ d, exec (.gather f) s = .next (s.after d) ∧ at_.Counted 4 f d ∧ at_.HostOnly d ∧
         d.Replies 0 0 (f.data.map (fun w => (s.dev.mem.at (fld w 23 0)).data))) ∧
     (s.accepts 5 f →
       ∃ d r, exec (.gatherT f) s = .next (s.after d) ∧ at_.Counted 5 f d ∧ at_.HostOnly d ∧
         d.hp.capture = some ⟨f.data.map (fun w => fld w 23 0), at_.clk, none⟩ ∧ d.hp.reply = some r ∧
         r.wait = some (.gatherT (f.data.map (fun w => fld w 23 0)))) ∧
     (∀ (c : Capture) (rs : List (Nat × Word)) (r : Reply), s.pages → s.dev.hp.capture = some c → c.taken = some rs →
       s.dev.hp.reply = some r → r.wait.isSome = true → r.early = 0 →
       ∃ d, exec (.gatherTCapture dt) s = .next (s.after d) ∧ d.hp.capture = none ∧ (s.dev.advance dt).HostOnly d ∧
         d.Replies (replyFlags false false (estatOf (rs.map Prod.fst))) (estatOf (rs.map Prod.fst)) (rs.map Prod.snd)))

/-- QUEUE, FENCE and DISCARD frames (R60, R65, R304 to R306). Entries go to the segment ring of the axis at its tail, which moves
on; no other byte of memory changes; where the ring has no room they are refused and nothing is stored. A FENCE's reply
waits until the requester's writes have taken effect. DISCARD drops every pending shadow of its groups, 1 to 30, and no
other.
The model's readings: logs 23 and 48. -/
def Obligations.HostQueue : Prop :=
  ∀ (s : State) (f : Frame) (dt : Nat),
    (let at_ := s.dev.advance f.dt
     (∀ n : Fin 128, s.accepts 6 f → s.dev.sup.ps ≠ .standby → s.dev.hasAxis n = true →
       f.addr.toNat = 0x800000 + pgAxis n * 1024 + Reg.axis.QPTR →
       (let q := s.dev.queue n
        let fill := (q.tail + 512 - q.head) % 512
        (fill + frameN f / 8 ≤ 256 → (∀ i, s.dev.segAddr n i + 8 ≤ s.dev.variant.memWords) →
          ∃ d, exec (.queue f) s = .next (s.after d) ∧ at_.Counted 6 f d ∧ d.Replies 0 0 [] ∧
            (d.queue n).tail = (q.tail + frameN f / 8) % 512 ∧ { d.queue n with tail := q.tail } = q ∧
            (∀ x, x ≠ n.val → d.queue x = s.dev.queue x) ∧
            (∀ i, i < frameN f → d.mem.at (s.dev.segAddr n (q.tail + i / 8) + i % 8) = ⟨f.data.getD i 0, .clean⟩) ∧
            (∀ a, (∀ i, i < frameN f → a ≠ s.dev.segAddr n (q.tail + i / 8) + i % 8) → d.mem.at a = s.dev.mem.at a) ∧
            at_.HostOnly { d with mem := s.dev.mem, queues := s.dev.queues }) ∧
        (256 < fill + frameN f / 8 →
          ∃ d, exec (.queue f) s = .next (s.after d) ∧ at_.Counted 6 f d ∧ d.mem = s.dev.mem ∧ d.queues = s.dev.queues ∧
            d.Replies 6 (estatOf (List.replicate (frameN f) 2)) [] ∧
            d.rd (pgAxis n) Reg.PAGE_ERR = mkw [(33, 0), (29, codeRange), (19, Reg.axis.QPTR),
              (8, min 2047 (s.dev.rf (pgAxis n) Reg.PAGE_ERR 18 8 + 1)), (0, s.dev.tk % 256)]))) ∧
     (s.accepts 7 f →
       ∃ d r, exec (.fence f) s = .next (s.after d) ∧ at_.Counted 7 f d ∧ at_.HostOnly { d with acc := s.dev.acc } ∧
         d.acc = { s.dev.acc with fencing := d.acc.fencing } ∧ d.acc.fencing.contains 0 = true ∧ d.hp.reply = some r ∧
         r.wait = some .fence) ∧
     (∀ r : Reply, s.pages → s.dev.acc.fencing.contains 0 = true → s.dev.hp.reply = some r → r.wait = some .fence → r.early = 0 →
       r.data = [] → r.estat = 0 → r.flags = 0 →
       ∃ d, exec (.fenceComplete dt .host) s = .next (s.after d) ∧ d.acc.fencing.contains 0 = false ∧ d.Replies 0 0 [] ∧
         (s.dev.advance dt).HostOnly { d with acc := s.dev.acc }) ∧
     (∀ q : Requester, s.pages → s.dev.acc.fencing.contains q.id = true → (∀ r, s.dev.hp.reply = some r → r.wait = none) →
       ∃ d, exec (.fenceComplete dt q) s = .next (s.after d) ∧ { d with acc := s.dev.acc } = s.dev.advance dt ∧
         ∀ x, x ∈ d.acc.fencing ↔ x ∈ s.dev.acc.fencing ∧ x ≠ q.id) ∧
     (s.accepts 8 f →
       (let hit (key : Nat) : Prop := 0 < s.dev.group (key / 1024) ∧ s.dev.group (key / 1024) < 31 ∧
          (f.data.headD 0).getLsbD (s.dev.group (key / 1024)) = true
        ∃ d, exec (.discard f) s = .next (s.after d) ∧ at_.Counted 8 f d ∧ d.Replies 0 0 [] ∧
          (∀ e, e ∈ d.shadow ↔ e ∈ s.dev.shadow ∧ ¬ hit e.1) ∧ d.strobes.length = s.dev.strobes.length ∧
          (∀ x ∈ d.strobes, ∀ c ∈ x.captured, ¬ hit c.key) ∧ at_.HostOnly { d with shadow := s.dev.shadow, strobes := s.dev.strobes })))

/-- What the port ignores, and its other events (R294, R301, R307 to R309, R312, R452). A frame with an undefined opcode counts in
ERRB.FORMAT and has a reply with IGN; one whose CRC is wrong counts in ERRA.CRC and has none; neither does anything else nor
moves LAST, and so with a frame that ends early. A reply cut short is counted and undoes nothing. A host port reset, by the
pattern or by PRST, clears requester 0's access state and puts the port into sync state. A countdown that runs out sets FIRED
and, with STOP, asks the ramp engines of the named groves; a kick starts it anew.
The model's reading: log 22. -/
def Obligations.PortEvents : Prop :=
  ∀ (s : State) (dt : Nat),
    (let at_ := s.dev.advance dt
     let evt (d : Dev) (i : Nat) : Prop := (d.rd pgHostp Reg.PAGE_EVT).getLsbD i = true
     let counts (d : Dev) (r hi lo : Nat) : Prop :=
       d.rf pgHostp r hi lo = min (2 ^ (hi - lo + 1) - 1) (s.dev.rf pgHostp r hi lo + 1)
     let idle : Prop := ∀ r, s.dev.hp.reply = some r → r.wait = none
     let fresh (d : Dev) : Prop := d.hp.sync = true ∧ d.hp.prst = true ∧ d.hp.reply = none ∧ d.hp.capture = none ∧ evt d 5 ∧
       (∀ k, d.acc.unlocked.contains k = (s.dev.acc.unlocked.contains k && k / 1024 != 0)) ∧ d.acc.fencing.contains 0 = false
     let taken (f : Frame) : Prop := s.dev.hostUp = true ∧ idle ∧ (s.dev.hp.wdRun = true → s.dev.clk + f.dt < s.dev.wdDue)
     (∀ (op : Fin 16) (f : Frame), 9 ≤ op.val → taken f → f.data = [] → crcOk op f = true →
       ∃ d, exec (.undefinedOpcodeFrame op f) s = .next (s.after d) ∧ (s.dev.advance f.dt).HostOnly d ∧ counts d Reg.hostp.ERRB 35 24 ∧
         evt d 0 ∧ d.hp.prevBad = 4 ∧ d.hp.last = s.dev.hp.last ∧ d.hp.sync = s.dev.hp.sync ∧ d.Replies 8 0 [] ∧
         d.rd pgHostp Reg.hostp.FRAMES = s.dev.rd pgHostp Reg.hostp.FRAMES) ∧
     (∀ f : Frame, taken f → f.data.length = frameN f → crcOk 1 f = false →
       ∃ d, exec (.write f) s = .next (s.after d) ∧ (s.dev.advance f.dt).HostOnly d ∧ counts d Reg.hostp.ERRA 35 24 ∧
         evt d 0 ∧ d.hp.prevBad = 3 ∧ d.hp.last = s.dev.hp.last ∧ d.hp.reply = none ∧
         d.rd pgHostp Reg.hostp.FRAMES = s.dev.rd pgHostp Reg.hostp.FRAMES) ∧
     (∀ bits : Nat, s.dev.hostUp = true → idle →
       (bits ≠ 0 → ∃ d, exec (.frameAborted dt bits) s = .next (s.after d) ∧ at_.HostOnly d ∧ counts d Reg.hostp.ERRA 11 0 ∧ evt d 0 ∧
         d.hp.prevBad = (if bits % 36 = 0 then 2 else 1) ∧ d.hp.last = s.dev.hp.last ∧ d.hp.reply = none) ∧
       (bits = 0 → exec (.frameAborted dt bits) s = .next (s.after at_))) ∧
     (∀ r, s.pages → s.dev.hp.reply = some r → r.cut = false → r.wait = none →
       ∃ d, exec (.replyCut dt) s = .next (s.after d) ∧ at_.HostOnly d ∧ counts d Reg.hostp.ERRB 11 0 ∧ evt d 1 ∧ d.hp.cut = true ∧
         d.hp.underrun = s.dev.hp.underrun) ∧
     (s.dev.hostUp = true → idle →
       ∃ d, exec (.resetPattern dt) s = .next (s.after d) ∧ fresh d ∧ d.hp.up = false ∧ counts d Reg.hostp.RSTCNT 23 12 ∧
         at_.HostOnly { d with acc := s.dev.acc, inp := s.dev.inp }) ∧
     (∀ w : RegWrite, s.takes w pgHostp Reg.PAGE_CTRL → w.win = .direct → w.data.getLsbD 0 = true → w.data.getLsbD 1 = false →
       ∃ d, exec (.prst w) s = .next (s.after d) ∧ fresh d ∧ d.hp.up = s.dev.hp.up ∧ counts d Reg.hostp.RSTCNT 23 12 ∧
         (s.dev.advance w.dt).HostOnly { d with acc := s.dev.acc, inp := s.dev.inp }) ∧
     (s.pages → s.dev.hp.up = false → exec (.hostPortReady dt) s = .next (s.after { at_ with hp := { s.dev.hp with up := true } })) ∧
     (s.pages → s.dev.hp.wdRun = true →
       (let w := s.dev.rd pgHostp Reg.hostp.WDOG
        ∃ d, exec .watchdogExpiry s = .next (s.after d) ∧ d.clk = max s.dev.clk s.dev.wdDue ∧ d.hp = { s.dev.hp with wdRun := false } ∧
          d.rd pgHostp Reg.hostp.WDSTAT = BitVec.ofNat 36 (2 ^ 35) ∧ counts d Reg.hostp.RSTCNT 11 0 ∧ evt d 4 ∧
          (∀ g, g < s.dev.variant.groves →
            (w.getLsbD 33 = false ∨ w.getLsbD (16 + g) = false → d.grove g = s.dev.grove g) ∧
            (w.getLsbD 33 = true → w.getLsbD (16 + g) = true → (d.grove g).causes = (s.dev.grove g).causes ||| 2 ^ 10 ∧
              ((s.dev.grove g).tripped = false → ∃ r, (d.grove g).ramp = some r ∧ r.trips = true))) ∧
          (s.dev.advanceTo s.dev.wdDue).HostOnly { d with groves := s.dev.groves })) ∧
     (∀ w : RegWrite, s.takes w pgHostp Reg.hostp.WDKICK → w.win = .direct → w.data.getLsbD 0 = true →
       s.dev.rb pgHostp Reg.hostp.WDOG 34 = true → s.dev.rb pgHostp Reg.hostp.WDOG 35 = true →
       ∃ d, exec (.kick w) s = .next (s.after d) ∧ d.hp = { s.dev.hp with wdRun := true, wdAt := s.dev.clk + w.dt } ∧
         d.rb pgHostp Reg.hostp.WDSTAT 35 = false ∧ (s.dev.advance w.dt).HostOnly d))

/-! ### Canopy time (R314 to R327) -/

/-- Sources, slews and SET (R320 to R326). NOW never steps at any of them. An offset within STEPLIM is slewed, at no more than
SLEWMAX (at which rate is free); a larger one waits as an epoch start. A lost source leaves its cause; where it was selected
the best that is left is. A source qualifies after QTIME. A slew ends with no offset left and LOCKED set.
The model's readings: logs 13 and 61. -/
def Obligations.TimeSources : Prop :=
  ∀ s : State, s.runs →
    (let evt (d : Dev) (i : Nat) : Prop := (d.rd pgTime Reg.PAGE_EVT).getLsbD i = true
     let offset (A d : Dev) (delta : Int) : Prop := d.tb.now = A.tb.now ∧
       (A.stepLim < absI delta → d.tb.epochPending = some delta ∧ d.tb.slewing = false) ∧
       (absI delta ≤ A.stepLim → d.tb.epochPending = none ∧ d.tb.src = unsgn 72 ((A.tb.now : Int) + delta) ∧
         d.tb.slewing = decide (delta ≠ 0) ∧ d.tb.locked = decide (absI d.tb.offset ≤ oneMicro) ∧
         ∃ r : Int, d.tb.slew = sgnI delta * r ∧ 0 < r ∧ r ≤ ppmRate (max 1 (A.rf pgTime Reg.time.SLEW 31 24)))
     let loses (A d : Dev) (k : TimeSource) (cause : Nat) : Prop := d.tb.now = A.tb.now ∧
       (d.tb.source k).valid = false ∧ (d.tb.source k).qualified = false ∧ d.rf pgTime Reg.time.SRCSTAT 19 16 = cause ∧
       (A.tb.sel = k → d.tb.sel = d.bestSource ∧ evt d 1 ∧ (d.tb.sel = .xtal → d.tb.holdover = true)) ∧
       (A.tb.sel ≠ k → d.tb.sel = A.tb.sel)
     (∀ w : RegWrite, s.takes w pgTime Reg.time.SET_HI → w.win = .direct →
       (let at_ := s.dev.advance w.dt
        let v := (s.dev.acc.writeShadow.get (accKey w.req.id pgTime) 0).toNat + w.data.toNat * 2 ^ 36
        let k := (diff72 (v / 2 ^ 36 * 2 ^ 36) (at_.tb.now / 2 ^ 36 * 2 ^ 36)).fdiv (2 ^ 36)
        (s.dev.tb.sel ≠ .pps → ∃ d, exec (.setTime w) s = .next (s.after d) ∧ offset at_ d (diff72 v at_.tb.now)) ∧
        (s.dev.tb.sel = .pps → k = 0 → exec (.setTime w) s = .next (s.after at_)) ∧
        (s.dev.tb.sel = .pps → k ≠ 0 → ∃ d, exec (.setTime w) s = .next (s.after d) ∧ d.tb.now = at_.tb.now ∧
          d.tb.epochPending = some (k * 2 ^ 36) ∧ d.tb.slewing = false))) ∧
     (∀ dt refs : Nat,
       (let at_ := s.dev.advance dt
        let c := s.dev.rd pgTime Reg.time.SRCCFG
        let away (t : Nat) : Int := absI (diff72 at_.tb.now t - 2 ^ 36)
        (c.getLsbD 1 = false → exec (.ppsEdge dt refs) s = .next (s.after at_)) ∧
        (c.getLsbD 1 = true → s.dev.tb.pps.lastEdge = none → exec (.ppsEdge dt refs) s = .next (s.after
          { at_ with tb := { at_.tb with pps := { s.dev.tb.pps with lastEdge := some at_.tb.now } } })) ∧
        (∀ t, c.getLsbD 1 = true → s.dev.tb.pps.lastEdge = some t → s.dev.tb.pps.valid = true →
          400 * 2 ^ 36 / 1000000 < away t → ∃ d, exec (.ppsEdge dt refs) s = .next (s.after d) ∧ loses at_ d .pps 3) ∧
        (∀ t, c.getLsbD 1 = true → s.dev.tb.pps.lastEdge = some t → away t ≤ 200 * 2 ^ 36 / 1000000 →
          (s.dev.rb pgTime Reg.time.PPSCFG 1 = true → 9998000 ≤ refs ∧ refs ≤ 10002000) →
          (let f : Nat := at_.tb.now % 2 ^ 36
           ∃ d, exec (.ppsEdge dt refs) s = .next (s.after d) ∧ d.tb.pps.valid = true ∧ d.tb.pps.lastEdge = some at_.tb.now ∧
             d.tb.now = at_.tb.now ∧ (s.dev.tb.pps.valid = false → d.tb.pps.since = at_.clk) ∧
             (s.dev.tb.pps.valid = true → s.dev.tb.sel = .pps →
               offset at_ d (if f < 2 ^ 36 / 2 then -(f : Int) else ((2 ^ 36 - f : Nat) : Int))))))) ∧
     (∀ src : RefSource,
       (let k := sourceOf src
        (s.dev.tb.source k).valid = true → (s.dev.tb.source k).qualified = false →
        ∃ d, exec (.sourceQualified src) s = .next (s.after d) ∧ d.clk = max s.dev.clk ((s.dev.tb.source k).since + s.dev.qtime) ∧
          (d.tb.source k).qualified = true ∧ (d.tb.source k).valid = true ∧ d.tb.sel = d.bestSource ∧ evt d 2)) ∧
     (∀ (dt : Nat) (src : RefSource) (cause : Fin 16), (s.dev.tb.source (sourceOf src)).valid = true →
       (cause.val = 5 ∨ (src = .pps ∧ cause.val = 2 ∧ ∃ t, s.dev.tb.pps.lastEdge = some t ∧ ppsLimit ≤ diff72 (s.dev.advance dt).tb.now t)) →
       ∃ d, exec (.sourceLost dt src cause) s = .next (s.after d) ∧ loses (s.dev.advance dt) d (sourceOf src) cause) ∧
     (s.dev.tb.slewing = true → ∃ d, exec .slewEnd s = .next (s.after d) ∧ d.clk = s.dev.clk + s.dev.slewTime ∧
       d.tb.slewing = false ∧ d.tb.slew = 0 ∧ d.tb.src = d.tb.now ∧ d.tb.locked = true))

/-- Timed strobes (R327): ARM keeps the epoch and waits where the slot's time lies ahead; else the slot fires late, at once, with
both events. A slot that NOW reaches fires: its strobe includes the pages of its mask. DISARM takes it back. -/
def Obligations.TimedStrobes : Prop :=
  ∀ (s : State) (i : Fin 8),
    (let ctl := tsOff i + 2
     let mask := s.dev.rf pgTime (tsOff i + 3) 31 0
     let evt (d : Dev) (j : Nat) : Prop := (d.rd pgTime Reg.PAGE_EVT).getLsbD j = true
     (∀ w : RegWrite, s.takes w pgTime ctl → w.win = .direct → w.data.getLsbD 35 = true →
       (let at_ := s.dev.advance w.dt
        ∃ d, exec (.arm i w) s = .next (s.after d) ∧ d.rf pgTime ctl 11 0 = s.dev.rf pgTime Reg.time.EPOCH 11 0 ∧
          (0 < diff72 (s.dev.tsTime i) at_.tb.now → d.tsState i = 1 ∧ d.strobes = s.dev.strobes) ∧
          (diff72 (s.dev.tsTime i) at_.tb.now ≤ 0 → d.tsState i = 3 ∧ evt d 4 ∧ evt d 6 ∧
            ∃ x, d.strobes = s.dev.strobes ++ [x] ∧ x.mask = mask ∧ x.at_ = at_.clk))) ∧
     (∀ w : RegWrite, s.takes w pgTime ctl → w.win = .direct → w.data.getLsbD 35 = false → w.data.getLsbD 34 = true →
       ∃ d, exec (.disarm i w) s = .next (s.after d) ∧ d.tsState i = 0 ∧ d.strobes = s.dev.strobes) ∧
     (s.runs → s.dev.tsState i = 1 →
       ∃ d x, exec (.timedStrobeFire i) s = .next (s.after d) ∧ d.clk = s.dev.clk + s.dev.gckUntil (s.dev.tsTime i) ∧ d.tsState i = 2 ∧
         evt d 4 ∧ d.strobes = s.dev.strobes ++ [x] ∧ x.mask = mask ∧ x.at_ = d.clk))

/-! ### The Sernyx link (R331 to R361) -/

/-- Frames of the link (R332 to R341, R344 to R349). A master's beacon leaves at its cycle's start and says the cycle's number and
NOW; a node frame leaves at its slot's start and fills its slot. A beacon that passes the checks is the origin of the
receiver's schedule; a node frame that does is recorded, and its sender is present. One whose CRC is wrong is discarded and
counted.
The model's readings: logs 9 and 69. -/
def Obligations.LinkFrames : Prop :=
  ∀ s : State, s.dev.sup.inReset = false →
    (let sent (d : Dev) (ws : List Word) : Prop := d.lk.txFrame = ws ++ [plainTrailer 0 ws]
     let good (x : PortRx) (len : Nat) : Prop := x.bad = false ∧ x.words.length = len ∧
       fld (x.words.getD (len - 1) 0) 31 0 = crc32c (x.words.take (len - 1)) 0 0
     (∀ dt : Nat, s.runs → s.dev.linkOn = true → s.dev.lk.master = true → s.dev.lk.dupid = false → s.dev.lk.sphase = .awake →
       s.dev.lk.vote = none → s.dev.lk.propose = false → s.dev.lk.late = none →
       (let n := s.dev.lk.nextN
        let now := (s.dev.advanceTo (s.dev.beaconAt dt)).tb.now
        ∃ d ws, exec (.beaconSend dt false) s = .next (s.after d) ∧ d.clk = max s.dev.clk (s.dev.beaconAt dt) ∧
          d.lk.sentAt = some d.clk ∧ d.lk.cycle = n ∧ d.lk.nextN = (n + 1) % 2 ^ 36 ∧ sent d ws ∧ ws.length = 11 ∧
          hdrKind (ws.getD 0 0) = 0 ∧ hdrNode (ws.getD 0 0) = s.dev.linkNode ∧ hdrMaj (ws.getD 0 0) = 1 ∧ fld (ws.getD 0 0) 2 0 = 0 ∧
          ws.getD 1 0 = BitVec.ofNat 36 n ∧ ws.getD 2 0 = BitVec.ofNat 36 now ∧ ws.getD 3 0 = BitVec.ofNat 36 (now / 2 ^ 36))) ∧
     (∀ (rx : LinkRx) (x : PortRx),
       (let at_ := linkAfter s.dev rx.dt
        let w (i : Nat) : Word := x.words.getD i 0
        let m := hdrNode (w 0)
        at_.linkHears = true → at_.lk.master = false → rx.a = some x → rx.b = none → at_.portOn 0 = true → good x 12 →
        hdrKind (w 0) = 0 → hdrMaj (w 0) = 1 → m ≠ at_.linkNode →
        (at_.linkCounts = true → absI (((at_.clk + x.delay : Nat) : Int) - (at_.linkAt 0 + sfdGck + at_.rxcompGck)) ≤ winGck) →
        ∃ d, exec (.beaconReceived rx) s = .next (s.after d) ∧ d.lk.heard = some (at_.clk + x.delay) ∧ d.lk.heardN = (w 1).toNat ∧
          d.lk.cycle = (w 1).toNat ∧ d.lk.masterNode = some m ∧ d.lk.schgen = some (fld (w 0) 14 3) ∧ d.lk.majMis = false ∧
          d.present.testBit m = true ∧ d.rd pgNode (Reg.sxnode.NSTAT + 4 * m) = w 0)) ∧
     (∀ slot : Fin 32,
       (let dc := linkCatch s.dev
        let t := dc.slotStart slot
        let at_ := linkSettle (muteCheck (linkCatch (dc.advanceTo t.toNat)))
        dc.linkHears = true → dc.linkCounts = true → slot.val < dc.nslot → dc.slotOwner slot = dc.linkNode → (dc.clk : Int) ≤ t →
        at_.mayTalk = true →
        ∃ d ws, exec (.nodeFrameSend slot) s = .next (s.after d) ∧ sent d ws ∧ ws.length = 1 + at_.slotP slot ∧
          hdrKind (ws.getD 0 0) = 1 ∧ hdrNode (ws.getD 0 0) = at_.linkNode ∧ hdrMaj (ws.getD 0 0) = 1 ∧
          fld (ws.getD 0 0) 18 11 = at_.schema ∧ fld (ws.getD 0 0) 8 8 = bnat at_.degraded)) ∧
     (∀ (slot : Fin 32) (rx : LinkRx) (x : PortRx),
       (let at_ := linkSettle (muteCheck (linkAfter s.dev rx.dt))
        let w (i : Nat) : Word := x.words.getD i 0
        let m := at_.slotOwner slot
        let len := at_.slotP slot + 2
        at_.linkHears = true → at_.linkCounts = true → slot.val < at_.nslot → rx.a = some x → rx.b = none → at_.portOn 0 = true →
        absI (((at_.clk + x.delay : Nat) : Int) - (at_.linkAt (at_.slotOff slot) + sfdGck + at_.rxcompGck)) ≤ winGck →
        (good x len → hdrKind (w 0) = 1 → hdrMaj (w 0) = 1 → hdrNode (w 0) = m → m ≠ at_.linkNode →
          at_.slotP slot = 0 ∨ fld (w 1) 35 32 = 0 →
          ∃ d, exec (.nodeFrameReceived slot rx) s = .next (s.after d) ∧ d.present.testBit m = true ∧
            d.lk.lastFrame.get m 0 = (at_.lk.cycle + 1) % 2 ^ 36 ∧ d.rd pgNode (Reg.sxnode.NSTAT + 4 * m) = w 0) ∧
        (x.bad = true →
          ∃ d, exec (.nodeFrameReceived slot rx) s = .next (s.after d) ∧ d.present = at_.present ∧ d.lk.lastFrame = at_.lk.lastFrame ∧
            d.rf pgLink Reg.sxlink.PORT 35 24 = min (2 ^ 12 - 1) (at_.rf pgLink Reg.sxlink.PORT 35 24 + 1) ∧
            d.rf pgNode (Reg.sxnode.ERR + m) 23 12 = min (2 ^ 12 - 1) (at_.rf pgNode (Reg.sxnode.ERR + m) 23 12 + 1)))))

/-- What is asked of the link (R351 to R357): a remote request and its timeout, the digest of a snapshot, a timed strobe for the
next three beacons, a proposed sleep and a request to wake.
The model's reading: log 37. -/
def Obligations.LinkRequests : Prop :=
  ∀ s : State,
    (let evt (d : Dev) (p i : Nat) : Prop := (d.rd p Reg.PAGE_EVT).getLsbD i = true
     (∀ w : RegWrite, w.win = .direct →
       (let at_ := s.dev.advance w.dt
        (s.takes w pgLink Reg.sxlink.RQ_CTL → w.data.getLsbD 35 = true →
          (let n := fld w.data 13 12 + 1
           let data : List Word := if w.data.getLsbD 16 then (List.range n).map (fun i => s.dev.rd pgLink (Reg.sxlink.RQ_DATA + i)) else []
           ∃ d r, exec (.rqGo w) s = .next (s.after d) ∧ d.lk.rq = some r ∧ r.target = fld w.data 29 24 ∧ r.seq = s.dev.lk.seq ∧
             r.sent = false ∧ d.lk.seq = (s.dev.lk.seq + 1) % 16 ∧ d.rd pgLink Reg.sxlink.RQ_STAT = BitVec.ofNat 36 s.dev.lk.seq ∧
             r.words = mkw [(32, 3), (26, 1 + data.length), (20, fld w.data 29 24), (19, bnat (w.data.getLsbD 16)), (17, n - 1),
               (13, s.dev.lk.seq)] :: BitVec.ofNat 36 (s.dev.rf pgLink Reg.sxlink.RQ_ADDR 23 0) :: data)) ∧
        (s.takes w pgSched Reg.sxsched.TSTR_CTL → w.data.getLsbD 35 = true →
          ∃ S, at_.Stores pgSched Reg.sxsched.TSTR_CTL S ∧ exec (.tstrGo w) s = .next (s.after
            ((S.wf pgSched Reg.sxsched.TSTR_CTL 1 0 1).setLk { s.dev.lk with tsLeft := 3 }))) ∧
        (s.takes w pgLink Reg.sxlink.SLEEP →
          ∃ S, at_.Stores pgLink Reg.sxlink.SLEEP S ∧
            (w.data.getLsbD 35 = true → w.data.getLsbD 34 = false →
              exec (.propose w) s = .next (s.after { S with lk := { s.dev.lk with propose := true } })) ∧
            (w.data.getLsbD 34 = true → w.data.getLsbD 35 = false →
              exec (.wakereq w) s = .next (s.after { S with lk := { s.dev.lk with wpend := true } }))))) ∧
     (∀ dt r, s.dev.sup.inReset = false →
       (let at_ := linkAfter s.dev dt
        at_.lk.rq = some r → 8 ≤ (at_.cycleNow + 2 ^ 36 - r.cycle) % 2 ^ 36 →
        ∃ d, exec (.rqto dt) s = .next (s.after d) ∧ d.lk = { at_.lk with rq := none } ∧
          (d.rd pgLink Reg.sxlink.RQ_STAT).getLsbD 33 = true ∧ evt d pgLink 10)) ∧
     (∀ dt tag bytes, s.pages →
       (let at_ := linkAfter s.dev dt
        at_.lk.snap = some (tag, bytes) → tag < 256 →
        ∃ d, exec (.digestReady dt) s = .next (s.after d) ∧ d.lk.snap = none ∧ d.rd72 pgNode Reg.sxnode.DLOC_LO = digest72 bytes % 2 ^ 72 ∧
          d.rf pgNode Reg.sxnode.DTAG 35 35 = 1 ∧ d.rf pgNode Reg.sxnode.DTAG 7 0 = tag ∧ evt d pgNode 3)))

/-- What time and the other nodes bring (R345 to R348, R356 to R360): mastership after the wait, muting, nodes and LINKUP lost, sleep
at the end of a carried vote, and the wake pattern.
The model's readings: logs 33 and 69. -/
def Obligations.LinkStates : Prop :=
  ∀ (s : State) (dt : Nat), s.dev.sup.inReset = false →
    (let at_ := linkAfter s.dev dt
     let evt (d : Dev) (i : Nat) : Prop := (d.rd pgLink Reg.PAGE_EVT).getLsbD i = true
     (at_.linkOn = true → at_.lk.master = false → at_.lk.dupid = false → at_.rf pgLink Reg.sxlink.CFG 27 24 ≠ 0 →
       at_.lk.sphase = .awake → at_.sup.ps = .run ∨ at_.sup.ps = .idle → at_.lk.waitFrom + at_.masterWait ≤ at_.clk →
       ∃ d, exec (.masterTakeover dt) s = .next (s.after d) ∧ d.lk.master = true ∧ d.lk.masterNode = some at_.linkNode ∧
         d.lk.muted = false ∧ d.lk.sentAt = none ∧ evt d 2 ∧
         d.lk.nextN = (if at_.lk.heard.isSome then (at_.lk.heardN + 1) % 2 ^ 36 else 0)) ∧
     (at_.lk.master = false → 500 < at_.terr →
       ∃ d, exec (.mute dt) s = .next (s.after d) ∧ d.lk.muted = true ∧ d.lk.linkup = false ∧
         (at_.lk.muted = false → evt d 1) ∧ (at_.lk.linkup = true → evt d 0)) ∧
     (∀ m : Fin 32, at_.linkCounts = true → at_.present.testBit m = true → m.val ≠ at_.linkNode →
       16 < (at_.lk.cycle + 1 + 2 ^ 36 - at_.lk.lastFrame.get m 0) % 2 ^ 36 →
       ∃ d, exec (.nodeLost dt) s = .next (s.after d) ∧ d.present.testBit m = false ∧ evt d 5) ∧
     (at_.linkupNow = false →
       ∃ d, exec (.linkupLost dt) s = .next (s.after d) ∧ d.lk.linkup = false ∧ (at_.lk.linkup = true → evt d 0) ∧
         d.tb.now = at_.tb.now) ∧
     (∀ (v v1 : Vote) (t : Int),
       (let dc := linkCatch s.dev
        let d0 := linkCatch (dc.advanceTo t.toNat)
        dc.linkHears = true → dc.linkCounts = true → dc.lk.vote = some v → dc.sleepAt v = some t → d0.lk.vote = some v1 →
        d0.votesSleep v1 = true → d0.rf pgLink Reg.sxlink.SLEEP 9 8 = 0 →
        ∃ d, exec .linkSleep s = .next (s.after d) ∧ d.lk.sphase = .asleep ∧ d.lk.sleptAt = d0.clk ∧ d.lk.vote = none ∧
          d.lk.heard = none ∧ d.lk.linkup = false)) ∧
     (s.pages → s.dev.linkOn = true → s.dev.lk.wpend = true → s.dev.lk.sphase = .asleep → s.dev.lk.patternAt = none →
       s.dev.lk.sleptAt + 400000 ≤ s.dev.clk + dt →
       exec (.wakePatternSend dt) s = .next (s.after { s.dev.advance dt with lk := { s.dev.lk with
         patternAt := some (s.dev.clk + dt + 20000), txPattern := s.dev.lk.txPattern + 1 } })) ∧
     (s.dev.linkOn = true → s.dev.lk.sphase = .asleep →
       ∃ d, exec (.wakePatternDetect dt) s = .next (s.after d) ∧ d.lk = { s.dev.lk with
           sphase := .waking, heard := none, waitFrom := s.dev.clk + dt } ∧ evt d 8 ∧
         d.sup = { s.dev.sup with wakes := d.sup.wakes } ∧
         (s.dev.rb pgSupv Reg.supv.WAKECFG 1 = true → s.dev.sup.ps = .standby ∨ s.dev.sup.ps = .retain →
           d.sup.wakes = s.dev.sup.wakes ||| 2)))

/-! ### Inputs (R366 to R381) -/

/-- Quadrature, index and step inputs. A step of the filtered pair adds 1 or -1 to CNT and RAW, turned by INV; a transition of
both adds 2 in the last direction, with MODE 0 and a direction known, and counts an error (R369, R370). An index event latches
CNT and its time, and clears CNT as CLR says (R373, R374). An edge of STP that POL selects counts by DIR (R375).
The model's readings: logs 26 and 71. -/
def Obligations.CountingInputs : Prop :=
  ∀ (s : State) (dt : Nat) (i : Fin 16), s.runs →
    (let at_ := s.dev.advance dt
     let x := s.dev.inp
     let add (v : Nat) (k : Int) : Nat := unsgn 36 ((v : Int) + k)
     let rest (d : Dev) : Prop := { d with inp := x, regs := s.dev.regs, rose := s.dev.rose } = at_ ∧
       ∀ j, j ≠ i.val → d.inp.cnt.get j 0 = x.cnt.get j 0 ∧ d.inp.raw.get j 0 = x.raw.get j 0 ∧ d.inp.stp.get j 0 = x.stp.get j 0
     (∀ a b : Bool,
       (let cfg := s.dev.rd pgQdec (Reg.qdec.CFG + i)
        let inv : Int := if cfg.getLsbD 1 then -1 else 1
        let turn := (quadPhase a b + 4 - quadPhase (x.qa.testBit i) (x.qb.testBit i)) % 4
        let moved (d : Dev) (k : Int) : Prop := d.inp.cnt.get i 0 = add (x.cnt.get i 0) k ∧ d.inp.raw.get i 0 = add (x.raw.get i 0) k
        let still (d : Dev) : Prop := d.inp.cnt = x.cnt ∧ d.inp.raw = x.raw
        ∃ d, exec (.quadStep dt i a b) s = .next (s.after d) ∧ rest d ∧ d.inp.qa.testBit i = a ∧ d.inp.qb.testBit i = b ∧
          d.inp.stp = x.stp ∧ (cfg.getLsbD 0 = false ∨ turn = 0 → still d) ∧
          (cfg.getLsbD 0 = true →
            (turn = 1 → moved d inv) ∧ (turn = 3 → moved d (-inv)) ∧
            (turn = 2 →
              d.rf pgQdec (Reg.qdec.ERR + i) 23 0 = min (2 ^ 24 - 1) (s.dev.rf pgQdec (Reg.qdec.ERR + i) 23 0 + 1) ∧
              (d.rd pgQdec Reg.PAGE_EVT).getLsbD i = true ∧ (cfg.getLsbD 2 = true ∨ x.dirDef.testBit i = false → still d) ∧
              (cfg.getLsbD 2 = false → x.dirDef.testBit i = true → moved d (if x.dirPos.testBit i then 2 else -2)))))) ∧
     (∀ age : Nat,
       (let ic := s.dev.rd pgQdec (Reg.qdec.ICFG + i)
        let c := x.cnt.get i 0
        ic.getLsbD 35 = true → ic.getLsbD 31 = false ∨ (x.qa.testBit i = ic.getLsbD 30 ∧ x.qb.testBit i = ic.getLsbD 29) →
        runAge (fld ic 28 26) 4 ≤ age →
        ∃ d, exec (.indexEvent dt i age) s = .next (s.after d) ∧ rest d ∧ d.rd pgQdec (Reg.qdec.IDXCNT + i) = BitVec.ofNat 36 c ∧
          d.rd72 pgQdec (Reg.qdec.IDXT_LO + 2 * i) = (at_.stampAgo age).1 ∧ (d.rd pgQdec Reg.PAGE_EVT).getLsbD (16 + i) = true ∧
          d.inp.raw = x.raw ∧ d.inp.cnt.get i 0 = (if fld ic 33 32 = 1 ∨ fld ic 33 32 = 2 then 0 else c) ∧
          (fld ic 33 32 = 2 → d.rf pgQdec (Reg.qdec.ICFG + i) 33 32 = 0))) ∧
     (∀ (rising dir : Bool) (age : Nat),
       (let cfg := s.dev.rd pgStepin (Reg.stepin.CFG + i)
        let occ := at_.clk - age
        cfg.getLsbD 0 = true → rising ≠ cfg.getLsbD 2 → runAge (fld cfg 10 8) 1 ≤ age →
        ∃ d, exec (.stepEdge dt i rising dir age) s = .next (s.after d) ∧ rest d ∧ d.inp.cnt = x.cnt ∧ d.inp.raw = x.raw ∧
          d.inp.stp.get i 0 = add (x.stp.get i 0) (if dir != cfg.getLsbD 1 then 1 else -1) ∧ d.inp.stpLast.get i 0 = occ + 1 ∧
          (∀ t, x.stpLast.get i 0 = t + 1 → occ < t + 80 → (d.rd pgStepin Reg.PAGE_EVT).getLsbD i = true))))

/-- Time capture (R376 to R381). A recognised transition that CFG selects leaves an edge record with its time; a START edge of a
unit waits for its STOP, which leaves an interval record; a start that waits 2^36 - 1 gck is discarded and counted. A read of
FIFO0 takes the oldest record; FLUSH empties the FIFO.
The model's reading: log 26. -/
def Obligations.TimeCapture : Prop :=
  ∀ (s : State) (dt : Nat),
    (let at_ := s.dev.advance dt
     let x := s.dev.inp
     (∀ e : CapEdge, s.runs → capValid s.dev e = true → x.fifo.length + 17 ≤ 256 →
       (let time := (at_.stampAgo e.age).1
        let occ := at_.clk - e.age
        ∃ d, exec (.capEdge dt [e]) s = .next (s.after d) ∧ d.inp.cap.testBit e.input = e.rising ∧
          (edgeSel (s.dev.rf pgCapt (Reg.capt.CFG + e.input) 5 4) e.rising = true →
            ∃ r rest, d.inp.fifo = x.fifo ++ r :: rest ∧ fld r.w0 35 34 = 2 ∧ fld r.w0 32 31 = bnat e.rising ∧
              fld r.w0 28 24 = e.input ∧ r.w1 = BitVec.ofNat 36 time ∧ r.w2 = BitVec.ofNat 36 (time / 2 ^ 36)) ∧
          (∀ u : Fin 16,
            (let c := s.dev.rd pgCapt (Reg.capt.UNIT + u)
             let stop : Prop := fld c 28 24 = e.input ∧ edgeSel (fld c 21 20) e.rising = true
             let start : Prop := fld c 12 8 = e.input ∧ edgeSel (fld c 5 4) e.rising = true
             c.getLsbD 35 = true →
             (start → d.inp.starts.look u = some occ) ∧ (stop → ¬ start → d.inp.starts.look u = none) ∧
             (∀ a, stop → x.starts.look u = some a → a ≤ occ →
               ∃ r ∈ d.inp.fifo, fld r.w0 35 34 = 3 ∧ fld r.w0 28 24 = u ∧ r.w3 = BitVec.ofNat 36 (occ - a)))))) ∧
     (∀ (u : Fin 16) (a : Nat), s.runs → x.starts.look u = some a →
       ∃ d, exec (.startTimeout u) s = .next (s.after d) ∧ d.clk = max s.dev.clk (a + (2 ^ 36 - 1)) ∧
         d.inp = { x with starts := x.starts.erase u } ∧ (d.rd pgCapt Reg.PAGE_EVT).getLsbD 3 = true ∧
         d.rf pgCapt Reg.capt.ORPHSCNT 23 0 = min (2 ^ 24 - 1) (s.dev.rf pgCapt Reg.capt.ORPHSCNT 23 0 + 1)) ∧
     (∀ q : Requester, s.pages →
       (∀ r rest, x.fifo = r :: rest → exec (.fifo0Read dt q) s =
         .next (s.after { at_ with inp := { x with fifo := rest, shadows := x.shadows.put q.id r } })) ∧
       (x.fifo = [] → exec (.fifo0Read dt q) s = .next (s.after { at_ with inp := { x with shadows := x.shadows.erase q.id } }))) ∧
     (∀ w : RegWrite, s.takes w pgCapt Reg.PAGE_CTRL → w.win = .direct → w.data.getLsbD 1 = true → w.data.getLsbD 0 = false →
       ∃ S, (s.dev.advance w.dt).Stores pgCapt Reg.PAGE_CTRL S ∧
         exec (.captFlush w) s = .next (s.after { S with inp := { x with fifo := [] } })))

/-! ### Shedding and power states (R391 to R407) -/

/-- The ladders (R391 to R398). A level in force brings every lower one, counts and sets its event. S1 and T2 stop the Blotter; S3
and PFAIL_N low for t_PFF trip every present grove with cause SHED and set SHEDLATCH; S4 resets. M4 and OV2 trip their grove. T4
trips every grove, and a reset follows the final record or t_T4R. PFAIL takes the final record first (R424).
The model's readings: logs 34 and 72. -/
def Obligations.SheddingLadders : Prop :=
  ∀ (s : State) (dt : Nat), s.dev.sup.inReset = false →
    (let at_ := s.dev.advance dt
     let l := s.dev.sup.lev
     let evt (d : Dev) (i : Nat) : Prop := (d.rd pgSupv Reg.PAGE_EVT).getLsbD i = true
     let counts (d : Dev) (hi lo n : Nat) : Prop :=
       d.rf pgSupv Reg.supv.SHEDCNT hi lo = min 4095 (s.dev.rf pgSupv Reg.supv.SHEDCNT hi lo + n)
     let tripsAll (d : Dev) : Prop := ∀ g, g < s.dev.variant.groves → (d.grove g).tripped = true ∧ (d.grove g).causes.testBit 6 = true
     let resets (d : Dev) (i : Nat) : Prop := d.sup.inReset = true ∧ (d.rd pgSupv Reg.supv.RCAUSE).getLsbD i = true
     let moves (d : Dev) (l' : Levels) : Prop := d.sup = { s.dev.sup with lev := l', changes := s.dev.sup.changes ++ [(at_.clk, l')] }
     let blotStops (d : Dev) : Prop := d.rf pgBlot Reg.blot.CTRL 1 0 = 0 ∧ d.bl.shed = true ∧ (d.rd pgBlot Reg.PAGE_EVT).getLsbD 2 = true
     (∀ n : Fin 5, l.s < n →
       ∃ d, exec (.supplyLevelEnter dt n) s = .next (s.after d) ∧
         (n.val = 4 → resets d 3) ∧
         (n.val < 4 → d.sup.lev = { l with s := n } ∧ counts d 35 24 (n - l.s) ∧ evt d 0 ∧ (l.s = 0 → blotStops d) ∧
           (n.val < 3 → moves d { l with s := n } ∧ d.groves = s.dev.groves) ∧
           (n.val = 3 → tripsAll d ∧ d.sup.latch = true))) ∧
     (0 < l.s → ∃ d, exec (.supplyLevelLeave dt) s = .next (s.after d) ∧ moves d { l with s := l.s - 1 } ∧ evt d 0 ∧
       d.groves = s.dev.groves) ∧
     (∀ (g : Fin 8) (n : Fin 7), s.runs → s.dev.hasGrove g = true → s.dev.busCode g n ≠ 0 →
       (let high := 5 ≤ n.val
        let was := if high then l.ov g + 4 else l.m g
        let l' := if high then l.setBus g (l.m g) (n - 4) else l.setBus g n (l.ov g)
        was < n → ∃ d, exec (.motorBusLevelEnter dt g n) s = .next (s.after d) ∧ moves d l' ∧ counts d 23 12 (n - was) ∧ evt d 1 ∧
          (n.val = 4 ∨ n.val = 6 → (d.grove g).tripped = true ∧ (d.grove g).causes.testBit 6 = true) ∧
          (n.val ≠ 4 → n.val ≠ 6 → d.groves = s.dev.groves))) ∧
     (∀ g : Fin 8, s.runs →
       (0 < l.m g → ∃ d, exec (.motorBusLevelLeave dt g false) s = .next (s.after d) ∧ moves d (l.setBus g (l.m g - 1) (l.ov g)) ∧ evt d 1) ∧
       (0 < l.ov g → ∃ d, exec (.motorBusLevelLeave dt g true) s = .next (s.after d) ∧ moves d (l.setBus g (l.m g) (l.ov g - 1)) ∧ evt d 1)) ∧
     (∀ n : Fin 5, l.t < n →
       ∃ d, exec (.tempLevelEnter dt n) s = .next (s.after d) ∧
         (n.val = 4 ∧ s.dev.sup.latch = true → resets d 4) ∧
         (¬ (n.val = 4 ∧ s.dev.sup.latch = true) → d.sup.lev = { l with t := n } ∧ counts d 11 0 (n - l.t) ∧ evt d 2 ∧
           (l.t < 2 → 2 ≤ n.val → blotStops d) ∧ (n.val < 4 → moves d { l with t := n } ∧ d.groves = s.dev.groves) ∧
           (n.val = 4 → tripsAll d ∧ d.sup.t4At = at_.clk))) ∧
     (0 < l.t → ∃ d, exec (.tempLevelLeave dt) s = .next (s.after d) ∧ moves d { l with t := l.t - 1 } ∧ evt d 2 ∧
       d.groves = s.dev.groves) ∧
     (l.t = 4 → s.dev.jr.finalEnd = true ∨ s.dev.jr.writing = none ∨ s.dev.sup.t4At + 4000000 ≤ at_.clk →
       ∃ d, exec (.t4Reset dt) s = .next (s.after d) ∧ resets d 4) ∧
     (∀ ns : Nat, s.dev.sup.pfail = false →
       (ns < 1000 → exec (.pfail dt ns) s = .next (s.after at_)) ∧
       (1000 ≤ ns → ∃ d, exec (.pfail dt ns) s = .next (s.after d) ∧ d.pins.pfail = true ∧ d.sup.pfail = true ∧ d.sup.target = none ∧
         d.sup.latch = true ∧ d.sup.ps = s.dev.sup.ps ∧ evt d 3 ∧ tripsAll d ∧
         (∀ sec k, s.dev.jr.finalDone = false → s.dev.jr.loading = false → s.dev.jen = true → s.dev.jmode = 1 →
           s.dev.jr.writing = none → s.dev.jr.op = none → s.dev.jr.pos = some (sec, k) →
           ∃ ws, d.jr.writing = some ⟨true, ws, s.dev.jbase + sec, k⟩ ∧ ws.length = s.dev.recordLen ∧ d.jr.finalDone = true))) ∧
     (∃ d, exec (.pfailNHigh dt) s = .next (s.after d) ∧ d.pins.pfail = false ∧ d.sup = { s.dev.sup with pfail := false } ∧
       { d with pins := s.dev.pins, sup := s.dev.sup } = at_))

/-- Power states (R399 to R406). A request that nothing refuses changes to RUN or IDLE at once, or begins an entry into STANDBY or
RETAIN; one with a cause against it leaves that in FCAUSE. An entry ends with the queues empty. A wake returns to the state
before, with time advanced by what the supervisor counted, within 500 ppm, and XTAL selected. In RETAIN the walker corrects
single-bit errors.
The model's readings: logs 35 and 47. -/
def Obligations.PowerStates : Prop :=
  ∀ (s : State) (dt : Nat),
    (let at_ := s.dev.advance dt
     let p := s.dev.sup
     let evt (d : Dev) (i : Nat) : Prop := (d.rd pgSupv Reg.PAGE_EVT).getLsbD i = true
     (∀ w : RegWrite, s.takes w pgSupv Reg.supv.PSCTL → w.win = .direct → w.data.getLsbD 35 = true → p.target = none →
       ∃ S, (s.dev.advance w.dt).Stores pgSupv Reg.supv.PSCTL S ∧
         (fld w.data 1 0 = 0 →
           (p.ps = .run → exec (.runRequest w) s = .next (s.after S)) ∧
           (p.ps = .idle → ∃ d, exec (.runRequest w) s = .next (s.after d) ∧ d.sup = { p with ps := .run } ∧ evt d 5 ∧
             ∀ g r, g < s.dev.variant.groves → (s.dev.grove g).ramp = some r → r.trips = false →
               (d.grove g).ramp = if r.took then some { r with yields := true } else none) ∧
           (p.ps = .standby → s.dev.rb pgSupv Reg.supv.WAKECFG 0 = true →
             exec (.runRequest w) s = .next (s.after { S with sup := { p with wakes := p.wakes ||| 1 } }))) ∧
         (fld w.data 1 0 = 1 → p.ps = .run →
           ∃ d, exec (.idleRequest w) s = .next (s.after d) ∧ d.sup = { p with ps := .idle } ∧ evt d 5 ∧
             ∀ g, g < s.dev.variant.groves → (d.grove g).ramp.isSome = true ∧ (d.grove g).tripped = (s.dev.grove g).tripped ∧
               ((s.dev.grove g).ramp.isSome = true → (d.grove g).ramp = (s.dev.grove g).ramp)) ∧
         (p.ps = .run ∨ p.ps = .idle →
           (fld w.data 1 0 = 2 →
             exec (.standbyRequest w) s = .next (s.after { S with sup := { p with target := some .standby, back := p.ps } })) ∧
           (fld w.data 1 0 = 3 →
             exec (.retainRequest w) s = .next (s.after { S with sup := { p with target := some .retain, back := p.ps } })))) ∧
     (∀ t, p.inReset = false → p.target = some t → t = .standby ∨ t = .retain → s.dev.jr.writing = none →
       ∃ d, exec (.stateEntered dt) s = .next (s.after d) ∧ d.sup.ps = t ∧ d.sup.target = none ∧ d.sup.enteredAt = at_.clk ∧
         evt d 5 ∧ d.inp.fifo = [] ∧ d.inp.starts = [] ∧ d.hp.reply = none ∧ d.hp.capture = none ∧ d.lk.rsp = [] ∧
         (∀ c, (d.conv c).queue = []) ∧ d.scr.running = false ∧ d.rb pgScribe Reg.PAGE_CTRL 0 = false ∧
         (t = .retain → d.hp.wdRun = false ∧ d.pp.run = none ∧ d.pp.selHeld = none)) ∧
     (∀ (src : BitVec 4) (lv : InLevels), p.inReset = false → p.target = none → p.ps = .standby ∨ p.ps = .retain →
       (let acts (i : Nat) : Bool := p.wakes.testBit i ||
          (src.getLsbD i && s.dev.rb pgSupv Reg.supv.WAKECFG i && (i == 2 || i == 3 || (i == 0 && p.ps == .retain)))
        let slept := (at_.clk - p.enteredAt) * 2 ^ 36 / 400000000
        (∃ i, i < 4 ∧ acts i = true) →
        ∃ (d : Dev) (k : Nat), exec (.wake dt src lv) s = .next (s.after d) ∧ d.sup.ps = p.back ∧ d.sup.target = none ∧ d.sup.wakes = 0 ∧
          (∀ i, i < 4 → (d.rd pgSupv Reg.supv.WAKESRC).getLsbD i = acts i) ∧ evt d 4 ∧ d.clk = at_.clk ∧ d.tb.sel = .xtal ∧
          d.tb.now = (at_.tb.now + k) % 2 ^ 72 ∧ slept - slept * 500 / 1000000 ≤ k ∧ k ≤ slept + slept * 500 / 1000000 ∧
          d.rf pgTime Reg.time.EPOCH 11 0 = (s.dev.rf pgTime Reg.time.EPOCH 11 0 + 1) % 4096 ∧
          (p.ps = .retain → d.hp.sync = true ∧ d.acc.fencing.contains 0 = false))) ∧
     (p.inReset = false → p.ps = .retain →
       ∃ d, exec (.scrubPass dt) s = .next (s.after d) ∧
         { d with mem := s.dev.mem, regs := s.dev.regs, sup := p } = at_ ∧
         ∀ a, a < s.dev.variant.memWords →
           d.mem.at a = if (s.dev.mem.at a).ecc = .single then ⟨(s.dev.mem.at a).data, .clean⟩ else s.dev.mem.at a))

/-! ### The external memory, the journal and the peripheral port (R410 to R433) -/

/-- The external memory (R411 to R420). The image is loaded once after a release; without a ready memory, a valid directory or a
valid slot BOOT.RESULT is 5, 4 or 3; then BOOTDONE. An accepted XCMD starts its operation and clears DIRWE. A READ ends with the
words in the buffer, a PROGRAM with the buffer's words in an erased place, an ERASE with its sector erased, each alone; XSTAT and
XDONE report the end.
The model's readings: logs 6 and 31. -/
def Obligations.ExternalMemory : Prop :=
  ∀ (s : State) (dt : Nat),
    (let at_ := s.dev.advance dt
     let j := s.dev.jr
     (∀ b : FlashBoard, s.pages → j.loading = true → j.loaded = false →
       (let found := discover at_ b
        ∃ d, exec (.imageLoad dt b) s = .next (s.after d) ∧ (d.sup.inReset = false → d.jr.loaded = true) ∧
          (b.state.val ≠ 1 → d.rf pgXmem Reg.xmem.BOOT 18 16 = 5 ∧ d.rf pgXmem Reg.xmem.FLASH 35 32 = b.state) ∧
          (b.state.val = 1 → found.directory = none → d.rf pgXmem Reg.xmem.BOOT 18 16 = 4) ∧
          (∀ x, b.state.val = 1 → found.directory = some x → slotCause (setLayout found x) x.slotA x.slotSect ≠ 0 →
            slotCause (setLayout found x) x.slotB x.slotSect ≠ 0 → d.rf pgXmem Reg.xmem.BOOT 18 16 = 3))) ∧
     (s.pages → j.loading = true → j.loaded = true →
       exec (.bootdone dt) s = .next (s.after (({ at_ with jr := { j with loading := false } } : Dev).ev pgXmem 0))) ∧
     (∀ w : RegWrite, s.takes w pgXmem Reg.xmem.XCMD → w.win = .direct → w.data.getLsbD 35 = true →
       (let op : FlashOp := ⟨fld w.data 33 32, s.dev.rf pgXmem Reg.xmem.XSECT 15 0, fld w.data 19 10, fld w.data 9 0,
          s.dev.rf pgXmem Reg.xmem.XBUF 12 0⟩
        ∃ S, (s.dev.advance w.dt).Stores pgXmem Reg.xmem.XCMD S ∧
          (let next := s.after { S.wf pgXmem Reg.xmem.CTL 0 0 0 with jr := { j with op := some op } }
           (fld w.data 33 32 = 1 → exec (.xcmdRead w) s = .next next) ∧ (fld w.data 33 32 = 2 → exec (.xcmdProgram w) s = .next next) ∧
           (fld w.data 33 32 = 3 → exec (.xcmdErase w) s = .next next)))) ∧
     (∀ o : FlashOp, s.pages → j.op = some o → j.writing = none →
       (let ends (d : Dev) (r : Nat) : Prop := d.jr.op = none ∧ d.rf pgXmem Reg.xmem.XSTAT 2 0 = r ∧ (d.rd pgXmem Reg.PAGE_EVT).getLsbD 4 = true
        let buf := s.dev.bufAddr o.buf
        let place (i : Nat) : Nat := flashAddr o.sect (o.word + i)
        (o.op = 1 → buf + o.count ≤ s.dev.variant.memWords →
          ∃ d, exec (.xdone dt .done) s = .next (s.after d) ∧ ends d 0 ∧ d.fl = s.dev.fl ∧
            (∀ i, i < o.count → d.mem.at (buf + i) = ⟨s.dev.fl.raw (place i), .clean⟩) ∧
            (∀ a, a < buf ∨ buf + o.count ≤ a → d.mem.at a = s.dev.mem.at a)) ∧
        (o.op = 2 → (∀ i, i < o.count → s.dev.fl.word (place i) = .erased ∧ (s.dev.mem.at (buf + i)).ecc = .clean) →
          (∃ d, exec (.xdone dt .done) s = .next (s.after d) ∧ ends d 0 ∧ d.mem = s.dev.mem ∧
            (∀ i, i < o.count → d.fl.word (place i) = .programmed (s.dev.mem.at (buf + i)).data) ∧
            (∀ a, a < place 0 ∨ place 0 + 5 * o.count ≤ a → d.fl.byte a = s.dev.fl.byte a)) ∧
          (∃ d, exec (.xdone dt .differs) s = .next (s.after d) ∧ ends d 2) ∧
          (∃ d, exec (.xdone dt .failed) s = .next (s.after d) ∧ ends d 4)) ∧
        (o.op = 2 → (∃ i, i < o.count ∧ s.dev.fl.word (place i) ≠ .erased) →
          ∀ res, ∃ d, exec (.xdone dt res) s = .next (s.after d) ∧ ends d 1 ∧ d.fl = s.dev.fl ∧ d.mem = s.dev.mem) ∧
        (o.op = 3 →
          ∃ d, exec (.xdone dt .done) s = .next (s.after d) ∧ ends d 0 ∧ d.mem = s.dev.mem ∧
            ∀ a, d.fl.byte a = if a / 4096 = o.sect then 0xFF else s.dev.fl.byte a))))

/-- The journal's programs and erases (R421, R422, R424, R427). A record that is programmed stands in its slot, whole, with JSEQ its
number; a final record ends as such. A failed ring sector is retired. A sector whose erase ends well reads erased, and no other
changes.
The model's readings: logs 29, 40 and 64. -/
def Obligations.PositionJournal : Prop :=
  ∀ (s : State) (dt : Nat), s.pages →
    (let j := s.dev.jr
     let inRing (a : Nat) : Prop := s.dev.jbase ≤ a ∧ a < s.dev.jbase + s.dev.jsect + s.dev.jspare ∧ a < s.dev.jbase + 64
     let retired (d : Dev) (a : Nat) : Prop :=
       (d.rd pgXmem (Reg.xmem.JBAD + (a - s.dev.jbase) / 32)).getLsbD ((a - s.dev.jbase) % 32) = true ∧
       (d.rd pgXmem Reg.PAGE_EVT).getLsbD 1 = true
     (∀ r : JRecord, j.writing = some r →
       (∃ d, exec (.journalRecordWritten dt true) s = .next (s.after d) ∧
         (∀ i, i < r.words.length → d.fl.word (slotByte r.sector r.slot + 5 * i) = .programmed (r.words.getD i 0)) ∧
         (∀ a, a < slotByte r.sector r.slot ∨ slotByte r.sector r.slot + 5 * r.words.length ≤ a → d.fl.byte a = s.dev.fl.byte a) ∧
         d.rd pgXmem Reg.xmem.JSEQ = BitVec.ofNat 36 j.nextSeq ∧ d.jr.nextSeq = (j.nextSeq + 1) % 2 ^ 36 ∧
         d.jr.finalEnd = (j.finalEnd || r.final) ∧ (j.waiting = none → d.jr.writing = none) ∧ d.mem = s.dev.mem) ∧
       (r.final = true → ∃ d, exec (.journalRecordWritten dt false) s = .next (s.after d) ∧ d.jr.writing = none ∧ d.jr.finalEnd = true) ∧
       (r.final = false → s.dev.jmode = 1 → inRing r.sector →
         ∃ d, exec (.journalRecordWritten dt false) s = .next (s.after d) ∧ retired d r.sector)) ∧
     (∀ (a : Nat) (rest : List Nat), j.erasing = a :: rest →
       (∃ d, exec (.journalEraseEnd dt true) s = .next (s.after d) ∧ (∃ more, d.jr.erasing = rest ++ more) ∧ d.mem = s.dev.mem ∧
         ∀ x, d.fl.byte x = if x / 4096 = a then 0xFF else s.dev.fl.byte x) ∧
       (inRing a → s.dev.jmode = 1 → ∃ d, exec (.journalEraseEnd dt false) s = .next (s.after d) ∧ retired d a)))

/-- The peripheral queue (R429 to R432). TAIL is stored; the head entry starts with its words as read, framed where SELCFG says so;
one that is no entry ends with RESULT 5. An end stores the RX words, the result with the tick, moves HEAD on and sets the events
asked for; PREADY low for longer than RDYTO ends it with RESULT 1. A select that no entry follows within CONTMAX rises.
The model's reading: log 36. -/
def Obligations.PeripheralPort : Prop :=
  ∀ (s : State) (dt : Nat),
    (let at_ := s.dev.advance dt
     let p := s.dev.pp
     let a := s.dev.pEntryAddr s.dev.pHead
     let w0 := (s.dev.mem.at a).data
     let evt (d : Dev) (i : Nat) : Prop := (d.rd pgPerip Reg.PAGE_EVT).getLsbD i = true
     let ends (d : Dev) (w : Word) (r : Nat) : Prop :=
       d.mem.at (a + 1) = ⟨BitVec.ofNat 36 (2 ^ 35 + r * 2 ^ 32 + s.dev.tk % 4096), .clean⟩ ∧ d.pHead = (s.dev.pHead + 1) % 64 ∧
       d.pp.run = none ∧ d.pp.endTick = some s.dev.tk ∧ (w.getLsbD 1 = true → evt d 0) ∧ (r ≠ 0 → evt d 1) ∧
       (d.pHead = s.dev.pTail → evt d 3) ∧ d.pp.halted = (decide (r ≠ 0) && s.dev.rb pgPerip Reg.perip.CFG 1)
     (∀ w : RegWrite, s.takes w pgPerip Reg.perip.QPTR → w.win = .direct →
       ∃ S, (s.dev.advance w.dt).Stores pgPerip Reg.perip.QPTR S ∧ S.pTail = fld w.data 21 16 ∧ S.pHead = s.dev.pHead ∧
         exec (.peripTailWrite w) s = .next (s.after S)) ∧
     (s.pages → a + 32 ≤ s.dev.variant.memWords → s.dev.rb pgPerip Reg.perip.CFG 0 = true → p.halted = false → p.run = none →
       s.dev.pHead ≠ s.dev.pTail → (∀ i, i < 32 → (s.dev.mem.at (a + i)).ecc = .clean) → (w0.getLsbD 3 = true → ∀ t, p.endTick = some t → t < s.dev.tk) →
       (let m := fld w0 34 32
        let framed := s.dev.rb pgPerip (Reg.perip.SELCFG + m) 0
        let tx := (List.range (fld w0 20 16)).map (fun i => lowBits (fld w0 29 24) (s.dev.mem.at (a + 2 + i)).data)
        (badEntry w0 framed = true → ∃ d, exec (.peripEntryStart dt) s = .next (s.after d) ∧ ends d w0 5) ∧
        (badEntry w0 framed = false →
          ∃ d, exec (.peripEntryStart dt) s = .next (s.after d) ∧ d.pp.run = some ⟨w0, tx, at_.clk⟩ ∧ d.pp.selHeld = none ∧ d.mem = s.dev.mem ∧
            d.pp.sent = (if framed then tx ++ [plainTrailer (s.dev.rf pgPerip (Reg.perip.ALIVE + m) 3 0) tx] else tx) ∧
            (framed = true → d.rf pgPerip (Reg.perip.ALIVE + m) 3 0 = (s.dev.rf pgPerip (Reg.perip.ALIVE + m) 3 0 + 1) % 16)))) ∧
     (∀ e : PEntry, s.pages → p.run = some e → a + 64 ≤ s.dev.variant.memWords →
       (let nrx := fld e.w0 12 8
        let got (rx : List Word) : List Word := (List.range nrx).map (fun i => lowBits (fld e.w0 29 24) (rx.getD i 0))
        (∀ rx : List Word, p.sent.length ≤ e.tx.length →
          ∃ d, exec (.peripEntryEnd dt rx) s = .next (s.after d) ∧ ends d e.w0 0 ∧
            (∀ i, i < nrx → d.mem.at (a + 2 + fld e.w0 20 16 + i) = ⟨(got rx).getD i 0, .clean⟩) ∧
            (e.w0.getLsbD 4 = true → d.pp.selHeld = some (fld e.w0 34 32, at_.clk))) ∧
        (∀ rx : List Word, e.tx.length < p.sent.length →
          (let tr := rx.getD nrx 0
           let crc := fld (plainTrailer (fld tr 35 32) (got rx)) 31 0
           let r := if fld tr 31 0 ≠ crc then 2 else if fld tr 35 32 ≠ fld (p.sent.getLastD 0) 35 32 then 3 else 0
           ∃ d, exec (.peripEntryEnd dt rx) s = .next (s.after d) ∧ ends d e.w0 r)) ∧
        (let cfg := s.dev.rd pgPerip (Reg.perip.SELCFG + fld e.w0 34 32)
         cfg.getLsbD 4 = true →
         ∃ d, exec .readyTimeout s = .next (s.after d) ∧ ends d e.w0 1 ∧ d.clk = max s.dev.clk (e.startAt + fld cfg 27 20 * 400)))) ∧
     (∀ m t, s.pages → p.selHeld = some (m, t) →
       ∃ d, exec .contto s = .next (s.after d) ∧ d.pp = { p with selHeld := none } ∧ evt d 2 ∧
         d.clk = max s.dev.clk (t + s.dev.rf pgPerip Reg.perip.CONTMAX 15 0 * 400)))

/-! ### Modes of the planners, debug and the Blotter (R266, R277 to R281, R454 to R464) -/

/-- What is asked of the planners (R266, R270, R277, R280, R281, R457): a mode request and a checkpoint request wait for the boundary that
takes them; the self-test of TWIN's comparators, and what its end records; a halt of a Quill and its resume, where a resume in the
same Update-DR discards the halt.
The model's reading: log 54. -/
def Obligations.PlannerModes : Prop :=
  ∀ (s : State) (dt : Nat),
    (let at_ := s.dev.advance dt
     let tw := s.dev.tw
     (∀ w : RegWrite, w.win = .direct →
       (s.dev.variant.full = true → s.takes w pgTwin Reg.twin.MODE → s.hasKey w pgTwin →
         ∃ S, (s.dev.advance w.dt).Stores pgTwin Reg.twin.MODE S ∧ exec (.modeReq w) s =
           .next (s.after { S with tw := { tw with pending := some (PMode.ofCode (fld w.data 1 0), s.dev.clk + w.dt) } })) ∧
       (∀ page : CkPage, page ≠ .plana → s.dev.variant.full = true →
         s.takes w (ckPlace page).1 (ckPlace page).2 → w.data.getLsbD 35 = true →
         ∃ d, exec (.cknow page w) s = .next (s.after d) ∧ d.tw = { tw with ckNow := some (s.dev.clk + w.dt) } ∧
           d.rf pgTwin Reg.twin.CKCFG 10 0 = fld w.data 10 0 ∧ d.rf pgPlanA Reg.plan.CKCFG 10 0 = fld w.data 10 0) ∧
       (s.takes w pgPlanA Reg.plan.CKCFG → w.data.getLsbD 35 = true →
         ∃ d, exec (.cknow .plana w) s = .next (s.after d) ∧ d.tw = { tw with ckNow := some (s.dev.clk + w.dt) } ∧
           d.rf pgPlanA Reg.plan.CKCFG 10 0 = fld w.data 10 0) ∧
       (s.dev.variant.full = true → s.takes w pgTwin Reg.twin.STEST → s.hasKey w pgTwin → w.data.getLsbD 0 = true →
         ∃ S, (s.dev.advance w.dt).Stores pgTwin Reg.twin.STEST S ∧
           exec (.stestGo w) s = .next (s.after { S with tw := { tw with stest := true, pairOk := false } }))) ∧
     (∀ (lane : BitVec 16) (sig : Bool), s.runs → s.dev.variant.full = true → tw.stest = true →
       ∃ d, exec (.stestDone dt lane sig) s = .next (s.after d) ∧
         d.tw = { tw with stest := false, pairOk := decide (lane = 0) && !sig } ∧
         d.rd pgTwin Reg.twin.STRES = BitVec.ofNat 36 (bnat sig * 65536 + lane.toNat) ∧ (d.rd pgTwin Reg.PAGE_EVT).getLsbD 5 = true ∧
         { d with tw := tw, regs := s.dev.regs, rose := s.dev.rose } = at_) ∧
     (∀ q : Fin 2, s.runs → q = 0 ∨ s.dev.variant.full = true →
       (∃ d, exec (.quillHalt dt q false) s = .next (s.after d) ∧ d.tw = { tw with haltReq := tw.haltReq ++ [(q.val, at_.clk)] } ∧
         { d with tw := tw, tap := s.dev.tap } = at_) ∧
       (∃ d, exec (.quillHalt dt q true) s = .next (s.after d) ∧ exec (.quillResume dt q) s = .next (s.after d) ∧
         d.tw = { tw with resumeReq := tw.resumeReq ++ [(q.val, at_.clk)] } ∧ { d with tw := tw, tap := s.dev.tap } = at_)))

/-- The TAP (R454, R455). Its instructions change nothing but the TAP; IDCODE gives the identity of the variant, EXTEST alone lets the
pattern drive the balls, with the interlock in force: both gates asked of one leg drive neither. MEMACC reads and writes memory as
requester 2, and answers with the word and its status.
The model's readings: logs 7 and 53. -/
def Obligations.TestAccessPort : Prop :=
  ∀ (s : State) (dt : Nat), s.dev.sup.inReset = false →
    (let at_ := s.dev.advance dt
     let code := match s.dev.variant with | .fd9128 => 0x9128 | .fd9064 => 0x9064 | .fd9032 => 0x9032
     let alone (d : Dev) : Prop := { d with tap := s.dev.tap } = at_
     let asks (ps : List BallAsk) (d : Dev) : Prop := ∀ x ∈ ps, (∀ y ∈ ps, y.leg = x.leg → y = x) →
       d.tap.scan.get x.leg 0 = (if x.gh = x.gl then 0 else if x.gh then 2 else 1)
     (∃ d, exec (.idcode dt) s = .next (s.after d) ∧ alone d ∧ d.tap.extest = false ∧ d.tap.out = 2 ^ 28 + code * 2 ^ 12 + 0x4D3 * 2 + 1) ∧
     (∃ d, exec (.bypass dt) s = .next (s.after d) ∧ alone d ∧ d.tap.extest = false ∧ d.tap.ir = 0x3F) ∧
     (∃ d, exec (.tapReset dt) s = .next (s.after d) ∧ alone d ∧ d.tap.extest = false) ∧
     (∀ ps, ∃ d, exec (.extest dt ps) s = .next (s.after d) ∧ alone d ∧ d.tap.extest = true ∧ asks ps d ∧
       ∀ x ∈ ps, s.dev.hasGrove (x.leg / 64) = true → (∀ y ∈ ps, y.leg = x.leg → y = x) →
         (s.after d).ball (x.leg / 64) (x.leg % 64) = (if x.gh = x.gl then 0 else if x.gh then 2 else 1)) ∧
     (∀ ps, ∃ d, exec (.samplePreload dt ps) s = .next (s.after d) ∧ alone d ∧ d.tap.extest = false ∧ asks ps d) ∧
     (∀ (a : BitVec 24) (w : Word), s.pages → s.dev.tap.busy = false → a.toNat < s.dev.variant.memWords →
       (∃ d, exec (.memacc dt 2 a w) s = .next (s.after d) ∧ { d with tap := s.dev.tap, mem := s.dev.mem } = at_ ∧
         d.mem.at a.toNat = ⟨w, .clean⟩ ∧ (∀ x, x ≠ a.toNat → d.mem.at x = s.dev.mem.at x) ∧ d.tap.status = 0) ∧
       ((s.dev.mem.at a.toNat).ecc = .clean →
         ∃ d, exec (.memacc dt 1 a w) s = .next (s.after d) ∧ alone d ∧ d.tap.data = (s.dev.mem.at a.toNat).data ∧ d.tap.status = 0)))

/-- Writes of the Blotter that nothing refuses (R460, R463, R464): CTRL is stored, and a sample is due at the first boundary after
STREAM is written 1; RD moves on.
The model's reading: log 32. -/
def Obligations.BlotterWrites : Prop :=
  ∀ (s : State) (w : RegWrite), w.win = .direct →
    (let at_ := s.dev.advance w.dt
     (s.takes w pgBlot Reg.blot.CTRL →
       ∃ S, at_.Stores pgBlot Reg.blot.CTRL S ∧ S.rf pgBlot Reg.blot.CTRL 1 0 = fld w.data 1 0 ∧
         S.rf pgBlot Reg.blot.CTRL 12 8 = fld w.data 12 8 ∧ S.rb pgBlot Reg.blot.CTRL 16 = w.data.getLsbD 16 ∧
         (w.data.getLsbD 0 = true → s.dev.rb pgBlot Reg.blot.CTRL 0 = false →
           exec (.blotCtrl w) s = .next (s.after { S with bl := { s.dev.bl with wait := 0 } })) ∧
         (w.data.getLsbD 0 = false ∨ s.dev.rb pgBlot Reg.blot.CTRL 0 = true → exec (.blotCtrl w) s = .next (s.after S))) ∧
     (s.takes w pgBlot Reg.blot.RD →
       ∃ S, at_.Stores pgBlot Reg.blot.RD S ∧ S.rf pgBlot Reg.blot.RD 22 0 = fld w.data 22 0 ∧
         exec (.blotRdWrite w) s = .next (s.after S)))
end

