-- ==== Sys2Proof/Laws/State.lean ====
section
/-!
SUPPORT. Laws/State: what each setter of the device leaves as it was, field by field, and what it sets.
-/
namespace Sys2Proof.Machine

@[simp] theorem Dev.setTb_variant (d : Dev) (x : Timebase) : (d.setTb x).variant = d.variant := (rfl)
@[simp] theorem Dev.setTb_clk (d : Dev) (x : Timebase) : (d.setTb x).clk = d.clk := (rfl)
@[simp] theorem Dev.setTb_draws (d : Dev) (x : Timebase) : (d.setTb x).draws = d.draws := (rfl)
@[simp] theorem Dev.setTb_seq (d : Dev) (x : Timebase) : (d.setTb x).seq = d.seq := (rfl)
@[simp] theorem Dev.setTb_regs (d : Dev) (x : Timebase) : (d.setTb x).regs = d.regs := (rfl)
@[simp] theorem Dev.setTb_hist (d : Dev) (x : Timebase) : (d.setTb x).hist = d.hist := (rfl)
@[simp] theorem Dev.setTb_shadow (d : Dev) (x : Timebase) : (d.setTb x).shadow = d.shadow := (rfl)
@[simp] theorem Dev.setTb_strobes (d : Dev) (x : Timebase) : (d.setTb x).strobes = d.strobes := (rfl)
@[simp] theorem Dev.setTb_mem (d : Dev) (x : Timebase) : (d.setTb x).mem = d.mem := (rfl)
@[simp] theorem Dev.setTb_acc (d : Dev) (x : Timebase) : (d.setTb x).acc = d.acc := (rfl)
@[simp] theorem Dev.setTb_plans (d : Dev) (x : Timebase) : (d.setTb x).plans = d.plans := (rfl)
@[simp] theorem Dev.setTb_queues (d : Dev) (x : Timebase) : (d.setTb x).queues = d.queues := (rfl)
@[simp] theorem Dev.setTb_obs (d : Dev) (x : Timebase) : (d.setTb x).obs = d.obs := (rfl)
@[simp] theorem Dev.setTb_gax (d : Dev) (x : Timebase) : (d.setTb x).gax = d.gax := (rfl)
@[simp] theorem Dev.setTb_ranks (d : Dev) (x : Timebase) : (d.setTb x).ranks = d.ranks := (rfl)
@[simp] theorem Dev.setTb_scr (d : Dev) (x : Timebase) : (d.setTb x).scr = d.scr := (rfl)
@[simp] theorem Dev.setTb_groves (d : Dev) (x : Timebase) : (d.setTb x).groves = d.groves := (rfl)
@[simp] theorem Dev.setTb_coils (d : Dev) (x : Timebase) : (d.setTb x).coils = d.coils := (rfl)
@[simp] theorem Dev.setTb_legs (d : Dev) (x : Timebase) : (d.setTb x).legs = d.legs := (rfl)
@[simp] theorem Dev.setTb_convs (d : Dev) (x : Timebase) : (d.setTb x).convs = d.convs := (rfl)
@[simp] theorem Dev.setTb_cals (d : Dev) (x : Timebase) : (d.setTb x).cals = d.cals := (rfl)
@[simp] theorem Dev.setTb_tw (d : Dev) (x : Timebase) : (d.setTb x).tw = d.tw := (rfl)
@[simp] theorem Dev.setTb_pins (d : Dev) (x : Timebase) : (d.setTb x).pins = d.pins := (rfl)
@[simp] theorem Dev.setTb_sup (d : Dev) (x : Timebase) : (d.setTb x).sup = d.sup := (rfl)
@[simp] theorem Dev.setTb_tk (d : Dev) (x : Timebase) : (d.setTb x).tk = d.tk := (rfl)
@[simp] theorem Dev.setTb_rose (d : Dev) (x : Timebase) : (d.setTb x).rose = d.rose := (rfl)
@[simp] theorem Dev.setTb_due (d : Dev) (x : Timebase) : (d.setTb x).due = d.due := (rfl)
@[simp] theorem Dev.setTb_hp (d : Dev) (x : Timebase) : (d.setTb x).hp = d.hp := (rfl)
@[simp] theorem Dev.setTb_lk (d : Dev) (x : Timebase) : (d.setTb x).lk = d.lk := (rfl)
@[simp] theorem Dev.setTb_inp (d : Dev) (x : Timebase) : (d.setTb x).inp = d.inp := (rfl)
@[simp] theorem Dev.setTb_fl (d : Dev) (x : Timebase) : (d.setTb x).fl = d.fl := (rfl)
@[simp] theorem Dev.setTb_jr (d : Dev) (x : Timebase) : (d.setTb x).jr = d.jr := (rfl)
@[simp] theorem Dev.setTb_pp (d : Dev) (x : Timebase) : (d.setTb x).pp = d.pp := (rfl)
@[simp] theorem Dev.setTb_bl (d : Dev) (x : Timebase) : (d.setTb x).bl = d.bl := (rfl)
@[simp] theorem Dev.setTb_tap (d : Dev) (x : Timebase) : (d.setTb x).tap = d.tap := (rfl)
@[simp] theorem Dev.setTb_tb (d : Dev) (x : Timebase) : (d.setTb x).tb = x := (rfl)
@[simp] theorem Dev.setPlan_variant (d : Dev) (n : Nat) (x : Plan) : (d.setPlan n x).variant = d.variant := (rfl)
@[simp] theorem Dev.setPlan_clk (d : Dev) (n : Nat) (x : Plan) : (d.setPlan n x).clk = d.clk := (rfl)
@[simp] theorem Dev.setPlan_draws (d : Dev) (n : Nat) (x : Plan) : (d.setPlan n x).draws = d.draws := (rfl)
@[simp] theorem Dev.setPlan_seq (d : Dev) (n : Nat) (x : Plan) : (d.setPlan n x).seq = d.seq := (rfl)
@[simp] theorem Dev.setPlan_regs (d : Dev) (n : Nat) (x : Plan) : (d.setPlan n x).regs = d.regs := (rfl)
@[simp] theorem Dev.setPlan_hist (d : Dev) (n : Nat) (x : Plan) : (d.setPlan n x).hist = d.hist := (rfl)
@[simp] theorem Dev.setPlan_shadow (d : Dev) (n : Nat) (x : Plan) : (d.setPlan n x).shadow = d.shadow := (rfl)
@[simp] theorem Dev.setPlan_strobes (d : Dev) (n : Nat) (x : Plan) : (d.setPlan n x).strobes = d.strobes := (rfl)
@[simp] theorem Dev.setPlan_mem (d : Dev) (n : Nat) (x : Plan) : (d.setPlan n x).mem = d.mem := (rfl)
@[simp] theorem Dev.setPlan_acc (d : Dev) (n : Nat) (x : Plan) : (d.setPlan n x).acc = d.acc := (rfl)
@[simp] theorem Dev.setPlan_tb (d : Dev) (n : Nat) (x : Plan) : (d.setPlan n x).tb = d.tb := (rfl)
@[simp] theorem Dev.setPlan_queues (d : Dev) (n : Nat) (x : Plan) : (d.setPlan n x).queues = d.queues := (rfl)
@[simp] theorem Dev.setPlan_obs (d : Dev) (n : Nat) (x : Plan) : (d.setPlan n x).obs = d.obs := (rfl)
@[simp] theorem Dev.setPlan_gax (d : Dev) (n : Nat) (x : Plan) : (d.setPlan n x).gax = d.gax := (rfl)
@[simp] theorem Dev.setPlan_ranks (d : Dev) (n : Nat) (x : Plan) : (d.setPlan n x).ranks = d.ranks := (rfl)
@[simp] theorem Dev.setPlan_scr (d : Dev) (n : Nat) (x : Plan) : (d.setPlan n x).scr = d.scr := (rfl)
@[simp] theorem Dev.setPlan_groves (d : Dev) (n : Nat) (x : Plan) : (d.setPlan n x).groves = d.groves := (rfl)
@[simp] theorem Dev.setPlan_coils (d : Dev) (n : Nat) (x : Plan) : (d.setPlan n x).coils = d.coils := (rfl)
@[simp] theorem Dev.setPlan_legs (d : Dev) (n : Nat) (x : Plan) : (d.setPlan n x).legs = d.legs := (rfl)
@[simp] theorem Dev.setPlan_convs (d : Dev) (n : Nat) (x : Plan) : (d.setPlan n x).convs = d.convs := (rfl)
@[simp] theorem Dev.setPlan_cals (d : Dev) (n : Nat) (x : Plan) : (d.setPlan n x).cals = d.cals := (rfl)
@[simp] theorem Dev.setPlan_tw (d : Dev) (n : Nat) (x : Plan) : (d.setPlan n x).tw = d.tw := (rfl)
@[simp] theorem Dev.setPlan_pins (d : Dev) (n : Nat) (x : Plan) : (d.setPlan n x).pins = d.pins := (rfl)
@[simp] theorem Dev.setPlan_sup (d : Dev) (n : Nat) (x : Plan) : (d.setPlan n x).sup = d.sup := (rfl)
@[simp] theorem Dev.setPlan_tk (d : Dev) (n : Nat) (x : Plan) : (d.setPlan n x).tk = d.tk := (rfl)
@[simp] theorem Dev.setPlan_rose (d : Dev) (n : Nat) (x : Plan) : (d.setPlan n x).rose = d.rose := (rfl)
@[simp] theorem Dev.setPlan_due (d : Dev) (n : Nat) (x : Plan) : (d.setPlan n x).due = d.due := (rfl)
@[simp] theorem Dev.setPlan_hp (d : Dev) (n : Nat) (x : Plan) : (d.setPlan n x).hp = d.hp := (rfl)
@[simp] theorem Dev.setPlan_lk (d : Dev) (n : Nat) (x : Plan) : (d.setPlan n x).lk = d.lk := (rfl)
@[simp] theorem Dev.setPlan_inp (d : Dev) (n : Nat) (x : Plan) : (d.setPlan n x).inp = d.inp := (rfl)
@[simp] theorem Dev.setPlan_fl (d : Dev) (n : Nat) (x : Plan) : (d.setPlan n x).fl = d.fl := (rfl)
@[simp] theorem Dev.setPlan_jr (d : Dev) (n : Nat) (x : Plan) : (d.setPlan n x).jr = d.jr := (rfl)
@[simp] theorem Dev.setPlan_pp (d : Dev) (n : Nat) (x : Plan) : (d.setPlan n x).pp = d.pp := (rfl)
@[simp] theorem Dev.setPlan_bl (d : Dev) (n : Nat) (x : Plan) : (d.setPlan n x).bl = d.bl := (rfl)
@[simp] theorem Dev.setPlan_tap (d : Dev) (n : Nat) (x : Plan) : (d.setPlan n x).tap = d.tap := (rfl)
@[simp] theorem Dev.setQueue_variant (d : Dev) (n : Nat) (x : Queue) : (d.setQueue n x).variant = d.variant := (rfl)
@[simp] theorem Dev.setQueue_clk (d : Dev) (n : Nat) (x : Queue) : (d.setQueue n x).clk = d.clk := (rfl)
@[simp] theorem Dev.setQueue_draws (d : Dev) (n : Nat) (x : Queue) : (d.setQueue n x).draws = d.draws := (rfl)
@[simp] theorem Dev.setQueue_seq (d : Dev) (n : Nat) (x : Queue) : (d.setQueue n x).seq = d.seq := (rfl)
@[simp] theorem Dev.setQueue_regs (d : Dev) (n : Nat) (x : Queue) : (d.setQueue n x).regs = d.regs := (rfl)
@[simp] theorem Dev.setQueue_hist (d : Dev) (n : Nat) (x : Queue) : (d.setQueue n x).hist = d.hist := (rfl)
@[simp] theorem Dev.setQueue_shadow (d : Dev) (n : Nat) (x : Queue) : (d.setQueue n x).shadow = d.shadow := (rfl)
@[simp] theorem Dev.setQueue_strobes (d : Dev) (n : Nat) (x : Queue) : (d.setQueue n x).strobes = d.strobes := (rfl)
@[simp] theorem Dev.setQueue_mem (d : Dev) (n : Nat) (x : Queue) : (d.setQueue n x).mem = d.mem := (rfl)
@[simp] theorem Dev.setQueue_acc (d : Dev) (n : Nat) (x : Queue) : (d.setQueue n x).acc = d.acc := (rfl)
@[simp] theorem Dev.setQueue_tb (d : Dev) (n : Nat) (x : Queue) : (d.setQueue n x).tb = d.tb := (rfl)
@[simp] theorem Dev.setQueue_plans (d : Dev) (n : Nat) (x : Queue) : (d.setQueue n x).plans = d.plans := (rfl)
@[simp] theorem Dev.setQueue_obs (d : Dev) (n : Nat) (x : Queue) : (d.setQueue n x).obs = d.obs := (rfl)
@[simp] theorem Dev.setQueue_gax (d : Dev) (n : Nat) (x : Queue) : (d.setQueue n x).gax = d.gax := (rfl)
@[simp] theorem Dev.setQueue_ranks (d : Dev) (n : Nat) (x : Queue) : (d.setQueue n x).ranks = d.ranks := (rfl)
@[simp] theorem Dev.setQueue_scr (d : Dev) (n : Nat) (x : Queue) : (d.setQueue n x).scr = d.scr := (rfl)
@[simp] theorem Dev.setQueue_groves (d : Dev) (n : Nat) (x : Queue) : (d.setQueue n x).groves = d.groves := (rfl)
@[simp] theorem Dev.setQueue_coils (d : Dev) (n : Nat) (x : Queue) : (d.setQueue n x).coils = d.coils := (rfl)
@[simp] theorem Dev.setQueue_legs (d : Dev) (n : Nat) (x : Queue) : (d.setQueue n x).legs = d.legs := (rfl)
@[simp] theorem Dev.setQueue_convs (d : Dev) (n : Nat) (x : Queue) : (d.setQueue n x).convs = d.convs := (rfl)
@[simp] theorem Dev.setQueue_cals (d : Dev) (n : Nat) (x : Queue) : (d.setQueue n x).cals = d.cals := (rfl)
@[simp] theorem Dev.setQueue_tw (d : Dev) (n : Nat) (x : Queue) : (d.setQueue n x).tw = d.tw := (rfl)
@[simp] theorem Dev.setQueue_pins (d : Dev) (n : Nat) (x : Queue) : (d.setQueue n x).pins = d.pins := (rfl)
@[simp] theorem Dev.setQueue_sup (d : Dev) (n : Nat) (x : Queue) : (d.setQueue n x).sup = d.sup := (rfl)
@[simp] theorem Dev.setQueue_tk (d : Dev) (n : Nat) (x : Queue) : (d.setQueue n x).tk = d.tk := (rfl)
@[simp] theorem Dev.setQueue_rose (d : Dev) (n : Nat) (x : Queue) : (d.setQueue n x).rose = d.rose := (rfl)
@[simp] theorem Dev.setQueue_due (d : Dev) (n : Nat) (x : Queue) : (d.setQueue n x).due = d.due := (rfl)
@[simp] theorem Dev.setQueue_hp (d : Dev) (n : Nat) (x : Queue) : (d.setQueue n x).hp = d.hp := (rfl)
@[simp] theorem Dev.setQueue_lk (d : Dev) (n : Nat) (x : Queue) : (d.setQueue n x).lk = d.lk := (rfl)
@[simp] theorem Dev.setQueue_inp (d : Dev) (n : Nat) (x : Queue) : (d.setQueue n x).inp = d.inp := (rfl)
@[simp] theorem Dev.setQueue_fl (d : Dev) (n : Nat) (x : Queue) : (d.setQueue n x).fl = d.fl := (rfl)
@[simp] theorem Dev.setQueue_jr (d : Dev) (n : Nat) (x : Queue) : (d.setQueue n x).jr = d.jr := (rfl)
@[simp] theorem Dev.setQueue_pp (d : Dev) (n : Nat) (x : Queue) : (d.setQueue n x).pp = d.pp := (rfl)
@[simp] theorem Dev.setQueue_bl (d : Dev) (n : Nat) (x : Queue) : (d.setQueue n x).bl = d.bl := (rfl)
@[simp] theorem Dev.setQueue_tap (d : Dev) (n : Nat) (x : Queue) : (d.setQueue n x).tap = d.tap := (rfl)
@[simp] theorem Dev.setOb_variant (d : Dev) (n : Nat) (x : Observer) : (d.setOb n x).variant = d.variant := (rfl)
@[simp] theorem Dev.setOb_clk (d : Dev) (n : Nat) (x : Observer) : (d.setOb n x).clk = d.clk := (rfl)
@[simp] theorem Dev.setOb_draws (d : Dev) (n : Nat) (x : Observer) : (d.setOb n x).draws = d.draws := (rfl)
@[simp] theorem Dev.setOb_seq (d : Dev) (n : Nat) (x : Observer) : (d.setOb n x).seq = d.seq := (rfl)
@[simp] theorem Dev.setOb_regs (d : Dev) (n : Nat) (x : Observer) : (d.setOb n x).regs = d.regs := (rfl)
@[simp] theorem Dev.setOb_hist (d : Dev) (n : Nat) (x : Observer) : (d.setOb n x).hist = d.hist := (rfl)
@[simp] theorem Dev.setOb_shadow (d : Dev) (n : Nat) (x : Observer) : (d.setOb n x).shadow = d.shadow := (rfl)
@[simp] theorem Dev.setOb_strobes (d : Dev) (n : Nat) (x : Observer) : (d.setOb n x).strobes = d.strobes := (rfl)
@[simp] theorem Dev.setOb_mem (d : Dev) (n : Nat) (x : Observer) : (d.setOb n x).mem = d.mem := (rfl)
@[simp] theorem Dev.setOb_acc (d : Dev) (n : Nat) (x : Observer) : (d.setOb n x).acc = d.acc := (rfl)
@[simp] theorem Dev.setOb_tb (d : Dev) (n : Nat) (x : Observer) : (d.setOb n x).tb = d.tb := (rfl)
@[simp] theorem Dev.setOb_plans (d : Dev) (n : Nat) (x : Observer) : (d.setOb n x).plans = d.plans := (rfl)
@[simp] theorem Dev.setOb_queues (d : Dev) (n : Nat) (x : Observer) : (d.setOb n x).queues = d.queues := (rfl)
@[simp] theorem Dev.setOb_gax (d : Dev) (n : Nat) (x : Observer) : (d.setOb n x).gax = d.gax := (rfl)
@[simp] theorem Dev.setOb_ranks (d : Dev) (n : Nat) (x : Observer) : (d.setOb n x).ranks = d.ranks := (rfl)
@[simp] theorem Dev.setOb_scr (d : Dev) (n : Nat) (x : Observer) : (d.setOb n x).scr = d.scr := (rfl)
@[simp] theorem Dev.setOb_groves (d : Dev) (n : Nat) (x : Observer) : (d.setOb n x).groves = d.groves := (rfl)
@[simp] theorem Dev.setOb_coils (d : Dev) (n : Nat) (x : Observer) : (d.setOb n x).coils = d.coils := (rfl)
@[simp] theorem Dev.setOb_legs (d : Dev) (n : Nat) (x : Observer) : (d.setOb n x).legs = d.legs := (rfl)
@[simp] theorem Dev.setOb_convs (d : Dev) (n : Nat) (x : Observer) : (d.setOb n x).convs = d.convs := (rfl)
@[simp] theorem Dev.setOb_cals (d : Dev) (n : Nat) (x : Observer) : (d.setOb n x).cals = d.cals := (rfl)
@[simp] theorem Dev.setOb_tw (d : Dev) (n : Nat) (x : Observer) : (d.setOb n x).tw = d.tw := (rfl)
@[simp] theorem Dev.setOb_pins (d : Dev) (n : Nat) (x : Observer) : (d.setOb n x).pins = d.pins := (rfl)
@[simp] theorem Dev.setOb_sup (d : Dev) (n : Nat) (x : Observer) : (d.setOb n x).sup = d.sup := (rfl)
@[simp] theorem Dev.setOb_tk (d : Dev) (n : Nat) (x : Observer) : (d.setOb n x).tk = d.tk := (rfl)
@[simp] theorem Dev.setOb_rose (d : Dev) (n : Nat) (x : Observer) : (d.setOb n x).rose = d.rose := (rfl)
@[simp] theorem Dev.setOb_due (d : Dev) (n : Nat) (x : Observer) : (d.setOb n x).due = d.due := (rfl)
@[simp] theorem Dev.setOb_hp (d : Dev) (n : Nat) (x : Observer) : (d.setOb n x).hp = d.hp := (rfl)
@[simp] theorem Dev.setOb_lk (d : Dev) (n : Nat) (x : Observer) : (d.setOb n x).lk = d.lk := (rfl)
@[simp] theorem Dev.setOb_inp (d : Dev) (n : Nat) (x : Observer) : (d.setOb n x).inp = d.inp := (rfl)
@[simp] theorem Dev.setOb_fl (d : Dev) (n : Nat) (x : Observer) : (d.setOb n x).fl = d.fl := (rfl)
@[simp] theorem Dev.setOb_jr (d : Dev) (n : Nat) (x : Observer) : (d.setOb n x).jr = d.jr := (rfl)
@[simp] theorem Dev.setOb_pp (d : Dev) (n : Nat) (x : Observer) : (d.setOb n x).pp = d.pp := (rfl)
@[simp] theorem Dev.setOb_bl (d : Dev) (n : Nat) (x : Observer) : (d.setOb n x).bl = d.bl := (rfl)
@[simp] theorem Dev.setOb_tap (d : Dev) (n : Nat) (x : Observer) : (d.setOb n x).tap = d.tap := (rfl)
@[simp] theorem Dev.setGa_variant (d : Dev) (n : Nat) (x : GAxis) : (d.setGa n x).variant = d.variant := (rfl)
@[simp] theorem Dev.setGa_clk (d : Dev) (n : Nat) (x : GAxis) : (d.setGa n x).clk = d.clk := (rfl)
@[simp] theorem Dev.setGa_draws (d : Dev) (n : Nat) (x : GAxis) : (d.setGa n x).draws = d.draws := (rfl)
@[simp] theorem Dev.setGa_seq (d : Dev) (n : Nat) (x : GAxis) : (d.setGa n x).seq = d.seq := (rfl)
@[simp] theorem Dev.setGa_regs (d : Dev) (n : Nat) (x : GAxis) : (d.setGa n x).regs = d.regs := (rfl)
@[simp] theorem Dev.setGa_hist (d : Dev) (n : Nat) (x : GAxis) : (d.setGa n x).hist = d.hist := (rfl)
@[simp] theorem Dev.setGa_shadow (d : Dev) (n : Nat) (x : GAxis) : (d.setGa n x).shadow = d.shadow := (rfl)
@[simp] theorem Dev.setGa_strobes (d : Dev) (n : Nat) (x : GAxis) : (d.setGa n x).strobes = d.strobes := (rfl)
@[simp] theorem Dev.setGa_mem (d : Dev) (n : Nat) (x : GAxis) : (d.setGa n x).mem = d.mem := (rfl)
@[simp] theorem Dev.setGa_acc (d : Dev) (n : Nat) (x : GAxis) : (d.setGa n x).acc = d.acc := (rfl)
@[simp] theorem Dev.setGa_tb (d : Dev) (n : Nat) (x : GAxis) : (d.setGa n x).tb = d.tb := (rfl)
@[simp] theorem Dev.setGa_plans (d : Dev) (n : Nat) (x : GAxis) : (d.setGa n x).plans = d.plans := (rfl)
@[simp] theorem Dev.setGa_queues (d : Dev) (n : Nat) (x : GAxis) : (d.setGa n x).queues = d.queues := (rfl)
@[simp] theorem Dev.setGa_obs (d : Dev) (n : Nat) (x : GAxis) : (d.setGa n x).obs = d.obs := (rfl)
@[simp] theorem Dev.setGa_ranks (d : Dev) (n : Nat) (x : GAxis) : (d.setGa n x).ranks = d.ranks := (rfl)
@[simp] theorem Dev.setGa_scr (d : Dev) (n : Nat) (x : GAxis) : (d.setGa n x).scr = d.scr := (rfl)
@[simp] theorem Dev.setGa_groves (d : Dev) (n : Nat) (x : GAxis) : (d.setGa n x).groves = d.groves := (rfl)
@[simp] theorem Dev.setGa_coils (d : Dev) (n : Nat) (x : GAxis) : (d.setGa n x).coils = d.coils := (rfl)
@[simp] theorem Dev.setGa_legs (d : Dev) (n : Nat) (x : GAxis) : (d.setGa n x).legs = d.legs := (rfl)
@[simp] theorem Dev.setGa_convs (d : Dev) (n : Nat) (x : GAxis) : (d.setGa n x).convs = d.convs := (rfl)
@[simp] theorem Dev.setGa_cals (d : Dev) (n : Nat) (x : GAxis) : (d.setGa n x).cals = d.cals := (rfl)
@[simp] theorem Dev.setGa_tw (d : Dev) (n : Nat) (x : GAxis) : (d.setGa n x).tw = d.tw := (rfl)
@[simp] theorem Dev.setGa_pins (d : Dev) (n : Nat) (x : GAxis) : (d.setGa n x).pins = d.pins := (rfl)
@[simp] theorem Dev.setGa_sup (d : Dev) (n : Nat) (x : GAxis) : (d.setGa n x).sup = d.sup := (rfl)
@[simp] theorem Dev.setGa_tk (d : Dev) (n : Nat) (x : GAxis) : (d.setGa n x).tk = d.tk := (rfl)
@[simp] theorem Dev.setGa_rose (d : Dev) (n : Nat) (x : GAxis) : (d.setGa n x).rose = d.rose := (rfl)
@[simp] theorem Dev.setGa_due (d : Dev) (n : Nat) (x : GAxis) : (d.setGa n x).due = d.due := (rfl)
@[simp] theorem Dev.setGa_hp (d : Dev) (n : Nat) (x : GAxis) : (d.setGa n x).hp = d.hp := (rfl)
@[simp] theorem Dev.setGa_lk (d : Dev) (n : Nat) (x : GAxis) : (d.setGa n x).lk = d.lk := (rfl)
@[simp] theorem Dev.setGa_inp (d : Dev) (n : Nat) (x : GAxis) : (d.setGa n x).inp = d.inp := (rfl)
@[simp] theorem Dev.setGa_fl (d : Dev) (n : Nat) (x : GAxis) : (d.setGa n x).fl = d.fl := (rfl)
@[simp] theorem Dev.setGa_jr (d : Dev) (n : Nat) (x : GAxis) : (d.setGa n x).jr = d.jr := (rfl)
@[simp] theorem Dev.setGa_pp (d : Dev) (n : Nat) (x : GAxis) : (d.setGa n x).pp = d.pp := (rfl)
@[simp] theorem Dev.setGa_bl (d : Dev) (n : Nat) (x : GAxis) : (d.setGa n x).bl = d.bl := (rfl)
@[simp] theorem Dev.setGa_tap (d : Dev) (n : Nat) (x : GAxis) : (d.setGa n x).tap = d.tap := (rfl)
@[simp] theorem Dev.setRank_variant (d : Dev) (r : Nat) (x : Rank) : (d.setRank r x).variant = d.variant := (rfl)
@[simp] theorem Dev.setRank_clk (d : Dev) (r : Nat) (x : Rank) : (d.setRank r x).clk = d.clk := (rfl)
@[simp] theorem Dev.setRank_draws (d : Dev) (r : Nat) (x : Rank) : (d.setRank r x).draws = d.draws := (rfl)
@[simp] theorem Dev.setRank_seq (d : Dev) (r : Nat) (x : Rank) : (d.setRank r x).seq = d.seq := (rfl)
@[simp] theorem Dev.setRank_regs (d : Dev) (r : Nat) (x : Rank) : (d.setRank r x).regs = d.regs := (rfl)
@[simp] theorem Dev.setRank_hist (d : Dev) (r : Nat) (x : Rank) : (d.setRank r x).hist = d.hist := (rfl)
@[simp] theorem Dev.setRank_shadow (d : Dev) (r : Nat) (x : Rank) : (d.setRank r x).shadow = d.shadow := (rfl)
@[simp] theorem Dev.setRank_strobes (d : Dev) (r : Nat) (x : Rank) : (d.setRank r x).strobes = d.strobes := (rfl)
@[simp] theorem Dev.setRank_mem (d : Dev) (r : Nat) (x : Rank) : (d.setRank r x).mem = d.mem := (rfl)
@[simp] theorem Dev.setRank_acc (d : Dev) (r : Nat) (x : Rank) : (d.setRank r x).acc = d.acc := (rfl)
@[simp] theorem Dev.setRank_tb (d : Dev) (r : Nat) (x : Rank) : (d.setRank r x).tb = d.tb := (rfl)
@[simp] theorem Dev.setRank_plans (d : Dev) (r : Nat) (x : Rank) : (d.setRank r x).plans = d.plans := (rfl)
@[simp] theorem Dev.setRank_queues (d : Dev) (r : Nat) (x : Rank) : (d.setRank r x).queues = d.queues := (rfl)
@[simp] theorem Dev.setRank_obs (d : Dev) (r : Nat) (x : Rank) : (d.setRank r x).obs = d.obs := (rfl)
@[simp] theorem Dev.setRank_gax (d : Dev) (r : Nat) (x : Rank) : (d.setRank r x).gax = d.gax := (rfl)
@[simp] theorem Dev.setRank_scr (d : Dev) (r : Nat) (x : Rank) : (d.setRank r x).scr = d.scr := (rfl)
@[simp] theorem Dev.setRank_groves (d : Dev) (r : Nat) (x : Rank) : (d.setRank r x).groves = d.groves := (rfl)
@[simp] theorem Dev.setRank_coils (d : Dev) (r : Nat) (x : Rank) : (d.setRank r x).coils = d.coils := (rfl)
@[simp] theorem Dev.setRank_legs (d : Dev) (r : Nat) (x : Rank) : (d.setRank r x).legs = d.legs := (rfl)
@[simp] theorem Dev.setRank_convs (d : Dev) (r : Nat) (x : Rank) : (d.setRank r x).convs = d.convs := (rfl)
@[simp] theorem Dev.setRank_cals (d : Dev) (r : Nat) (x : Rank) : (d.setRank r x).cals = d.cals := (rfl)
@[simp] theorem Dev.setRank_tw (d : Dev) (r : Nat) (x : Rank) : (d.setRank r x).tw = d.tw := (rfl)
@[simp] theorem Dev.setRank_pins (d : Dev) (r : Nat) (x : Rank) : (d.setRank r x).pins = d.pins := (rfl)
@[simp] theorem Dev.setRank_sup (d : Dev) (r : Nat) (x : Rank) : (d.setRank r x).sup = d.sup := (rfl)
@[simp] theorem Dev.setRank_tk (d : Dev) (r : Nat) (x : Rank) : (d.setRank r x).tk = d.tk := (rfl)
@[simp] theorem Dev.setRank_rose (d : Dev) (r : Nat) (x : Rank) : (d.setRank r x).rose = d.rose := (rfl)
@[simp] theorem Dev.setRank_due (d : Dev) (r : Nat) (x : Rank) : (d.setRank r x).due = d.due := (rfl)
@[simp] theorem Dev.setRank_hp (d : Dev) (r : Nat) (x : Rank) : (d.setRank r x).hp = d.hp := (rfl)
@[simp] theorem Dev.setRank_lk (d : Dev) (r : Nat) (x : Rank) : (d.setRank r x).lk = d.lk := (rfl)
@[simp] theorem Dev.setRank_inp (d : Dev) (r : Nat) (x : Rank) : (d.setRank r x).inp = d.inp := (rfl)
@[simp] theorem Dev.setRank_fl (d : Dev) (r : Nat) (x : Rank) : (d.setRank r x).fl = d.fl := (rfl)
@[simp] theorem Dev.setRank_jr (d : Dev) (r : Nat) (x : Rank) : (d.setRank r x).jr = d.jr := (rfl)
@[simp] theorem Dev.setRank_pp (d : Dev) (r : Nat) (x : Rank) : (d.setRank r x).pp = d.pp := (rfl)
@[simp] theorem Dev.setRank_bl (d : Dev) (r : Nat) (x : Rank) : (d.setRank r x).bl = d.bl := (rfl)
@[simp] theorem Dev.setRank_tap (d : Dev) (r : Nat) (x : Rank) : (d.setRank r x).tap = d.tap := (rfl)
@[simp] theorem Dev.setGrove_variant (d : Dev) (g : Nat) (x : Grove) : (d.setGrove g x).variant = d.variant := (rfl)
@[simp] theorem Dev.setGrove_clk (d : Dev) (g : Nat) (x : Grove) : (d.setGrove g x).clk = d.clk := (rfl)
@[simp] theorem Dev.setGrove_draws (d : Dev) (g : Nat) (x : Grove) : (d.setGrove g x).draws = d.draws := (rfl)
@[simp] theorem Dev.setGrove_seq (d : Dev) (g : Nat) (x : Grove) : (d.setGrove g x).seq = d.seq := (rfl)
@[simp] theorem Dev.setGrove_regs (d : Dev) (g : Nat) (x : Grove) : (d.setGrove g x).regs = d.regs := (rfl)
@[simp] theorem Dev.setGrove_hist (d : Dev) (g : Nat) (x : Grove) : (d.setGrove g x).hist = d.hist := (rfl)
@[simp] theorem Dev.setGrove_shadow (d : Dev) (g : Nat) (x : Grove) : (d.setGrove g x).shadow = d.shadow := (rfl)
@[simp] theorem Dev.setGrove_strobes (d : Dev) (g : Nat) (x : Grove) : (d.setGrove g x).strobes = d.strobes := (rfl)
@[simp] theorem Dev.setGrove_mem (d : Dev) (g : Nat) (x : Grove) : (d.setGrove g x).mem = d.mem := (rfl)
@[simp] theorem Dev.setGrove_acc (d : Dev) (g : Nat) (x : Grove) : (d.setGrove g x).acc = d.acc := (rfl)
@[simp] theorem Dev.setGrove_tb (d : Dev) (g : Nat) (x : Grove) : (d.setGrove g x).tb = d.tb := (rfl)
@[simp] theorem Dev.setGrove_plans (d : Dev) (g : Nat) (x : Grove) : (d.setGrove g x).plans = d.plans := (rfl)
@[simp] theorem Dev.setGrove_queues (d : Dev) (g : Nat) (x : Grove) : (d.setGrove g x).queues = d.queues := (rfl)
@[simp] theorem Dev.setGrove_obs (d : Dev) (g : Nat) (x : Grove) : (d.setGrove g x).obs = d.obs := (rfl)
@[simp] theorem Dev.setGrove_gax (d : Dev) (g : Nat) (x : Grove) : (d.setGrove g x).gax = d.gax := (rfl)
@[simp] theorem Dev.setGrove_ranks (d : Dev) (g : Nat) (x : Grove) : (d.setGrove g x).ranks = d.ranks := (rfl)
@[simp] theorem Dev.setGrove_scr (d : Dev) (g : Nat) (x : Grove) : (d.setGrove g x).scr = d.scr := (rfl)
@[simp] theorem Dev.setGrove_coils (d : Dev) (g : Nat) (x : Grove) : (d.setGrove g x).coils = d.coils := (rfl)
@[simp] theorem Dev.setGrove_legs (d : Dev) (g : Nat) (x : Grove) : (d.setGrove g x).legs = d.legs := (rfl)
@[simp] theorem Dev.setGrove_convs (d : Dev) (g : Nat) (x : Grove) : (d.setGrove g x).convs = d.convs := (rfl)
@[simp] theorem Dev.setGrove_cals (d : Dev) (g : Nat) (x : Grove) : (d.setGrove g x).cals = d.cals := (rfl)
@[simp] theorem Dev.setGrove_tw (d : Dev) (g : Nat) (x : Grove) : (d.setGrove g x).tw = d.tw := (rfl)
@[simp] theorem Dev.setGrove_pins (d : Dev) (g : Nat) (x : Grove) : (d.setGrove g x).pins = d.pins := (rfl)
@[simp] theorem Dev.setGrove_sup (d : Dev) (g : Nat) (x : Grove) : (d.setGrove g x).sup = d.sup := (rfl)
@[simp] theorem Dev.setGrove_tk (d : Dev) (g : Nat) (x : Grove) : (d.setGrove g x).tk = d.tk := (rfl)
@[simp] theorem Dev.setGrove_rose (d : Dev) (g : Nat) (x : Grove) : (d.setGrove g x).rose = d.rose := (rfl)
@[simp] theorem Dev.setGrove_due (d : Dev) (g : Nat) (x : Grove) : (d.setGrove g x).due = d.due := (rfl)
@[simp] theorem Dev.setGrove_hp (d : Dev) (g : Nat) (x : Grove) : (d.setGrove g x).hp = d.hp := (rfl)
@[simp] theorem Dev.setGrove_lk (d : Dev) (g : Nat) (x : Grove) : (d.setGrove g x).lk = d.lk := (rfl)
@[simp] theorem Dev.setGrove_inp (d : Dev) (g : Nat) (x : Grove) : (d.setGrove g x).inp = d.inp := (rfl)
@[simp] theorem Dev.setGrove_fl (d : Dev) (g : Nat) (x : Grove) : (d.setGrove g x).fl = d.fl := (rfl)
@[simp] theorem Dev.setGrove_jr (d : Dev) (g : Nat) (x : Grove) : (d.setGrove g x).jr = d.jr := (rfl)
@[simp] theorem Dev.setGrove_pp (d : Dev) (g : Nat) (x : Grove) : (d.setGrove g x).pp = d.pp := (rfl)
@[simp] theorem Dev.setGrove_bl (d : Dev) (g : Nat) (x : Grove) : (d.setGrove g x).bl = d.bl := (rfl)
@[simp] theorem Dev.setGrove_tap (d : Dev) (g : Nat) (x : Grove) : (d.setGrove g x).tap = d.tap := (rfl)
@[simp] theorem Dev.setCoil_variant (d : Dev) (c : Nat) (x : Coil) : (d.setCoil c x).variant = d.variant := (rfl)
@[simp] theorem Dev.setCoil_clk (d : Dev) (c : Nat) (x : Coil) : (d.setCoil c x).clk = d.clk := (rfl)
@[simp] theorem Dev.setCoil_draws (d : Dev) (c : Nat) (x : Coil) : (d.setCoil c x).draws = d.draws := (rfl)
@[simp] theorem Dev.setCoil_seq (d : Dev) (c : Nat) (x : Coil) : (d.setCoil c x).seq = d.seq := (rfl)
@[simp] theorem Dev.setCoil_regs (d : Dev) (c : Nat) (x : Coil) : (d.setCoil c x).regs = d.regs := (rfl)
@[simp] theorem Dev.setCoil_hist (d : Dev) (c : Nat) (x : Coil) : (d.setCoil c x).hist = d.hist := (rfl)
@[simp] theorem Dev.setCoil_shadow (d : Dev) (c : Nat) (x : Coil) : (d.setCoil c x).shadow = d.shadow := (rfl)
@[simp] theorem Dev.setCoil_strobes (d : Dev) (c : Nat) (x : Coil) : (d.setCoil c x).strobes = d.strobes := (rfl)
@[simp] theorem Dev.setCoil_mem (d : Dev) (c : Nat) (x : Coil) : (d.setCoil c x).mem = d.mem := (rfl)
@[simp] theorem Dev.setCoil_acc (d : Dev) (c : Nat) (x : Coil) : (d.setCoil c x).acc = d.acc := (rfl)
@[simp] theorem Dev.setCoil_tb (d : Dev) (c : Nat) (x : Coil) : (d.setCoil c x).tb = d.tb := (rfl)
@[simp] theorem Dev.setCoil_plans (d : Dev) (c : Nat) (x : Coil) : (d.setCoil c x).plans = d.plans := (rfl)
@[simp] theorem Dev.setCoil_queues (d : Dev) (c : Nat) (x : Coil) : (d.setCoil c x).queues = d.queues := (rfl)
@[simp] theorem Dev.setCoil_obs (d : Dev) (c : Nat) (x : Coil) : (d.setCoil c x).obs = d.obs := (rfl)
@[simp] theorem Dev.setCoil_gax (d : Dev) (c : Nat) (x : Coil) : (d.setCoil c x).gax = d.gax := (rfl)
@[simp] theorem Dev.setCoil_ranks (d : Dev) (c : Nat) (x : Coil) : (d.setCoil c x).ranks = d.ranks := (rfl)
@[simp] theorem Dev.setCoil_scr (d : Dev) (c : Nat) (x : Coil) : (d.setCoil c x).scr = d.scr := (rfl)
@[simp] theorem Dev.setCoil_groves (d : Dev) (c : Nat) (x : Coil) : (d.setCoil c x).groves = d.groves := (rfl)
@[simp] theorem Dev.setCoil_legs (d : Dev) (c : Nat) (x : Coil) : (d.setCoil c x).legs = d.legs := (rfl)
@[simp] theorem Dev.setCoil_convs (d : Dev) (c : Nat) (x : Coil) : (d.setCoil c x).convs = d.convs := (rfl)
@[simp] theorem Dev.setCoil_cals (d : Dev) (c : Nat) (x : Coil) : (d.setCoil c x).cals = d.cals := (rfl)
@[simp] theorem Dev.setCoil_tw (d : Dev) (c : Nat) (x : Coil) : (d.setCoil c x).tw = d.tw := (rfl)
@[simp] theorem Dev.setCoil_pins (d : Dev) (c : Nat) (x : Coil) : (d.setCoil c x).pins = d.pins := (rfl)
@[simp] theorem Dev.setCoil_sup (d : Dev) (c : Nat) (x : Coil) : (d.setCoil c x).sup = d.sup := (rfl)
@[simp] theorem Dev.setCoil_tk (d : Dev) (c : Nat) (x : Coil) : (d.setCoil c x).tk = d.tk := (rfl)
@[simp] theorem Dev.setCoil_rose (d : Dev) (c : Nat) (x : Coil) : (d.setCoil c x).rose = d.rose := (rfl)
@[simp] theorem Dev.setCoil_due (d : Dev) (c : Nat) (x : Coil) : (d.setCoil c x).due = d.due := (rfl)
@[simp] theorem Dev.setCoil_hp (d : Dev) (c : Nat) (x : Coil) : (d.setCoil c x).hp = d.hp := (rfl)
@[simp] theorem Dev.setCoil_lk (d : Dev) (c : Nat) (x : Coil) : (d.setCoil c x).lk = d.lk := (rfl)
@[simp] theorem Dev.setCoil_inp (d : Dev) (c : Nat) (x : Coil) : (d.setCoil c x).inp = d.inp := (rfl)
@[simp] theorem Dev.setCoil_fl (d : Dev) (c : Nat) (x : Coil) : (d.setCoil c x).fl = d.fl := (rfl)
@[simp] theorem Dev.setCoil_jr (d : Dev) (c : Nat) (x : Coil) : (d.setCoil c x).jr = d.jr := (rfl)
@[simp] theorem Dev.setCoil_pp (d : Dev) (c : Nat) (x : Coil) : (d.setCoil c x).pp = d.pp := (rfl)
@[simp] theorem Dev.setCoil_bl (d : Dev) (c : Nat) (x : Coil) : (d.setCoil c x).bl = d.bl := (rfl)
@[simp] theorem Dev.setCoil_tap (d : Dev) (c : Nat) (x : Coil) : (d.setCoil c x).tap = d.tap := (rfl)
@[simp] theorem Dev.setLeg_variant (d : Dev) (l : Nat) (x : Leg) : (d.setLeg l x).variant = d.variant := (rfl)
@[simp] theorem Dev.setLeg_clk (d : Dev) (l : Nat) (x : Leg) : (d.setLeg l x).clk = d.clk := (rfl)
@[simp] theorem Dev.setLeg_draws (d : Dev) (l : Nat) (x : Leg) : (d.setLeg l x).draws = d.draws := (rfl)
@[simp] theorem Dev.setLeg_seq (d : Dev) (l : Nat) (x : Leg) : (d.setLeg l x).seq = d.seq := (rfl)
@[simp] theorem Dev.setLeg_regs (d : Dev) (l : Nat) (x : Leg) : (d.setLeg l x).regs = d.regs := (rfl)
@[simp] theorem Dev.setLeg_hist (d : Dev) (l : Nat) (x : Leg) : (d.setLeg l x).hist = d.hist := (rfl)
@[simp] theorem Dev.setLeg_shadow (d : Dev) (l : Nat) (x : Leg) : (d.setLeg l x).shadow = d.shadow := (rfl)
@[simp] theorem Dev.setLeg_strobes (d : Dev) (l : Nat) (x : Leg) : (d.setLeg l x).strobes = d.strobes := (rfl)
@[simp] theorem Dev.setLeg_mem (d : Dev) (l : Nat) (x : Leg) : (d.setLeg l x).mem = d.mem := (rfl)
@[simp] theorem Dev.setLeg_acc (d : Dev) (l : Nat) (x : Leg) : (d.setLeg l x).acc = d.acc := (rfl)
@[simp] theorem Dev.setLeg_tb (d : Dev) (l : Nat) (x : Leg) : (d.setLeg l x).tb = d.tb := (rfl)
@[simp] theorem Dev.setLeg_plans (d : Dev) (l : Nat) (x : Leg) : (d.setLeg l x).plans = d.plans := (rfl)
@[simp] theorem Dev.setLeg_queues (d : Dev) (l : Nat) (x : Leg) : (d.setLeg l x).queues = d.queues := (rfl)
@[simp] theorem Dev.setLeg_obs (d : Dev) (l : Nat) (x : Leg) : (d.setLeg l x).obs = d.obs := (rfl)
@[simp] theorem Dev.setLeg_gax (d : Dev) (l : Nat) (x : Leg) : (d.setLeg l x).gax = d.gax := (rfl)
@[simp] theorem Dev.setLeg_ranks (d : Dev) (l : Nat) (x : Leg) : (d.setLeg l x).ranks = d.ranks := (rfl)
@[simp] theorem Dev.setLeg_scr (d : Dev) (l : Nat) (x : Leg) : (d.setLeg l x).scr = d.scr := (rfl)
@[simp] theorem Dev.setLeg_groves (d : Dev) (l : Nat) (x : Leg) : (d.setLeg l x).groves = d.groves := (rfl)
@[simp] theorem Dev.setLeg_coils (d : Dev) (l : Nat) (x : Leg) : (d.setLeg l x).coils = d.coils := (rfl)
@[simp] theorem Dev.setLeg_convs (d : Dev) (l : Nat) (x : Leg) : (d.setLeg l x).convs = d.convs := (rfl)
@[simp] theorem Dev.setLeg_cals (d : Dev) (l : Nat) (x : Leg) : (d.setLeg l x).cals = d.cals := (rfl)
@[simp] theorem Dev.setLeg_tw (d : Dev) (l : Nat) (x : Leg) : (d.setLeg l x).tw = d.tw := (rfl)
@[simp] theorem Dev.setLeg_pins (d : Dev) (l : Nat) (x : Leg) : (d.setLeg l x).pins = d.pins := (rfl)
@[simp] theorem Dev.setLeg_sup (d : Dev) (l : Nat) (x : Leg) : (d.setLeg l x).sup = d.sup := (rfl)
@[simp] theorem Dev.setLeg_tk (d : Dev) (l : Nat) (x : Leg) : (d.setLeg l x).tk = d.tk := (rfl)
@[simp] theorem Dev.setLeg_rose (d : Dev) (l : Nat) (x : Leg) : (d.setLeg l x).rose = d.rose := (rfl)
@[simp] theorem Dev.setLeg_due (d : Dev) (l : Nat) (x : Leg) : (d.setLeg l x).due = d.due := (rfl)
@[simp] theorem Dev.setLeg_hp (d : Dev) (l : Nat) (x : Leg) : (d.setLeg l x).hp = d.hp := (rfl)
@[simp] theorem Dev.setLeg_lk (d : Dev) (l : Nat) (x : Leg) : (d.setLeg l x).lk = d.lk := (rfl)
@[simp] theorem Dev.setLeg_inp (d : Dev) (l : Nat) (x : Leg) : (d.setLeg l x).inp = d.inp := (rfl)
@[simp] theorem Dev.setLeg_fl (d : Dev) (l : Nat) (x : Leg) : (d.setLeg l x).fl = d.fl := (rfl)
@[simp] theorem Dev.setLeg_jr (d : Dev) (l : Nat) (x : Leg) : (d.setLeg l x).jr = d.jr := (rfl)
@[simp] theorem Dev.setLeg_pp (d : Dev) (l : Nat) (x : Leg) : (d.setLeg l x).pp = d.pp := (rfl)
@[simp] theorem Dev.setLeg_bl (d : Dev) (l : Nat) (x : Leg) : (d.setLeg l x).bl = d.bl := (rfl)
@[simp] theorem Dev.setLeg_tap (d : Dev) (l : Nat) (x : Leg) : (d.setLeg l x).tap = d.tap := (rfl)
@[simp] theorem Dev.setConv_variant (d : Dev) (i : Nat) (x : Conv) : (d.setConv i x).variant = d.variant := (rfl)
@[simp] theorem Dev.setConv_clk (d : Dev) (i : Nat) (x : Conv) : (d.setConv i x).clk = d.clk := (rfl)
@[simp] theorem Dev.setConv_draws (d : Dev) (i : Nat) (x : Conv) : (d.setConv i x).draws = d.draws := (rfl)
@[simp] theorem Dev.setConv_seq (d : Dev) (i : Nat) (x : Conv) : (d.setConv i x).seq = d.seq := (rfl)
@[simp] theorem Dev.setConv_regs (d : Dev) (i : Nat) (x : Conv) : (d.setConv i x).regs = d.regs := (rfl)
@[simp] theorem Dev.setConv_hist (d : Dev) (i : Nat) (x : Conv) : (d.setConv i x).hist = d.hist := (rfl)
@[simp] theorem Dev.setConv_shadow (d : Dev) (i : Nat) (x : Conv) : (d.setConv i x).shadow = d.shadow := (rfl)
@[simp] theorem Dev.setConv_strobes (d : Dev) (i : Nat) (x : Conv) : (d.setConv i x).strobes = d.strobes := (rfl)
@[simp] theorem Dev.setConv_mem (d : Dev) (i : Nat) (x : Conv) : (d.setConv i x).mem = d.mem := (rfl)
@[simp] theorem Dev.setConv_acc (d : Dev) (i : Nat) (x : Conv) : (d.setConv i x).acc = d.acc := (rfl)
@[simp] theorem Dev.setConv_tb (d : Dev) (i : Nat) (x : Conv) : (d.setConv i x).tb = d.tb := (rfl)
@[simp] theorem Dev.setConv_plans (d : Dev) (i : Nat) (x : Conv) : (d.setConv i x).plans = d.plans := (rfl)
@[simp] theorem Dev.setConv_queues (d : Dev) (i : Nat) (x : Conv) : (d.setConv i x).queues = d.queues := (rfl)
@[simp] theorem Dev.setConv_obs (d : Dev) (i : Nat) (x : Conv) : (d.setConv i x).obs = d.obs := (rfl)
@[simp] theorem Dev.setConv_gax (d : Dev) (i : Nat) (x : Conv) : (d.setConv i x).gax = d.gax := (rfl)
@[simp] theorem Dev.setConv_ranks (d : Dev) (i : Nat) (x : Conv) : (d.setConv i x).ranks = d.ranks := (rfl)
@[simp] theorem Dev.setConv_scr (d : Dev) (i : Nat) (x : Conv) : (d.setConv i x).scr = d.scr := (rfl)
@[simp] theorem Dev.setConv_groves (d : Dev) (i : Nat) (x : Conv) : (d.setConv i x).groves = d.groves := (rfl)
@[simp] theorem Dev.setConv_coils (d : Dev) (i : Nat) (x : Conv) : (d.setConv i x).coils = d.coils := (rfl)
@[simp] theorem Dev.setConv_legs (d : Dev) (i : Nat) (x : Conv) : (d.setConv i x).legs = d.legs := (rfl)
@[simp] theorem Dev.setConv_cals (d : Dev) (i : Nat) (x : Conv) : (d.setConv i x).cals = d.cals := (rfl)
@[simp] theorem Dev.setConv_tw (d : Dev) (i : Nat) (x : Conv) : (d.setConv i x).tw = d.tw := (rfl)
@[simp] theorem Dev.setConv_pins (d : Dev) (i : Nat) (x : Conv) : (d.setConv i x).pins = d.pins := (rfl)
@[simp] theorem Dev.setConv_sup (d : Dev) (i : Nat) (x : Conv) : (d.setConv i x).sup = d.sup := (rfl)
@[simp] theorem Dev.setConv_tk (d : Dev) (i : Nat) (x : Conv) : (d.setConv i x).tk = d.tk := (rfl)
@[simp] theorem Dev.setConv_rose (d : Dev) (i : Nat) (x : Conv) : (d.setConv i x).rose = d.rose := (rfl)
@[simp] theorem Dev.setConv_due (d : Dev) (i : Nat) (x : Conv) : (d.setConv i x).due = d.due := (rfl)
@[simp] theorem Dev.setConv_hp (d : Dev) (i : Nat) (x : Conv) : (d.setConv i x).hp = d.hp := (rfl)
@[simp] theorem Dev.setConv_lk (d : Dev) (i : Nat) (x : Conv) : (d.setConv i x).lk = d.lk := (rfl)
@[simp] theorem Dev.setConv_inp (d : Dev) (i : Nat) (x : Conv) : (d.setConv i x).inp = d.inp := (rfl)
@[simp] theorem Dev.setConv_fl (d : Dev) (i : Nat) (x : Conv) : (d.setConv i x).fl = d.fl := (rfl)
@[simp] theorem Dev.setConv_jr (d : Dev) (i : Nat) (x : Conv) : (d.setConv i x).jr = d.jr := (rfl)
@[simp] theorem Dev.setConv_pp (d : Dev) (i : Nat) (x : Conv) : (d.setConv i x).pp = d.pp := (rfl)
@[simp] theorem Dev.setConv_bl (d : Dev) (i : Nat) (x : Conv) : (d.setConv i x).bl = d.bl := (rfl)
@[simp] theorem Dev.setConv_tap (d : Dev) (i : Nat) (x : Conv) : (d.setConv i x).tap = d.tap := (rfl)
@[simp] theorem Dev.setCal_variant (d : Dev) (g : Nat) (x : CalState) : (d.setCal g x).variant = d.variant := (rfl)
@[simp] theorem Dev.setCal_clk (d : Dev) (g : Nat) (x : CalState) : (d.setCal g x).clk = d.clk := (rfl)
@[simp] theorem Dev.setCal_draws (d : Dev) (g : Nat) (x : CalState) : (d.setCal g x).draws = d.draws := (rfl)
@[simp] theorem Dev.setCal_seq (d : Dev) (g : Nat) (x : CalState) : (d.setCal g x).seq = d.seq := (rfl)
@[simp] theorem Dev.setCal_regs (d : Dev) (g : Nat) (x : CalState) : (d.setCal g x).regs = d.regs := (rfl)
@[simp] theorem Dev.setCal_hist (d : Dev) (g : Nat) (x : CalState) : (d.setCal g x).hist = d.hist := (rfl)
@[simp] theorem Dev.setCal_shadow (d : Dev) (g : Nat) (x : CalState) : (d.setCal g x).shadow = d.shadow := (rfl)
@[simp] theorem Dev.setCal_strobes (d : Dev) (g : Nat) (x : CalState) : (d.setCal g x).strobes = d.strobes := (rfl)
@[simp] theorem Dev.setCal_mem (d : Dev) (g : Nat) (x : CalState) : (d.setCal g x).mem = d.mem := (rfl)
@[simp] theorem Dev.setCal_acc (d : Dev) (g : Nat) (x : CalState) : (d.setCal g x).acc = d.acc := (rfl)
@[simp] theorem Dev.setCal_tb (d : Dev) (g : Nat) (x : CalState) : (d.setCal g x).tb = d.tb := (rfl)
@[simp] theorem Dev.setCal_plans (d : Dev) (g : Nat) (x : CalState) : (d.setCal g x).plans = d.plans := (rfl)
@[simp] theorem Dev.setCal_queues (d : Dev) (g : Nat) (x : CalState) : (d.setCal g x).queues = d.queues := (rfl)
@[simp] theorem Dev.setCal_obs (d : Dev) (g : Nat) (x : CalState) : (d.setCal g x).obs = d.obs := (rfl)
@[simp] theorem Dev.setCal_gax (d : Dev) (g : Nat) (x : CalState) : (d.setCal g x).gax = d.gax := (rfl)
@[simp] theorem Dev.setCal_ranks (d : Dev) (g : Nat) (x : CalState) : (d.setCal g x).ranks = d.ranks := (rfl)
@[simp] theorem Dev.setCal_scr (d : Dev) (g : Nat) (x : CalState) : (d.setCal g x).scr = d.scr := (rfl)
@[simp] theorem Dev.setCal_groves (d : Dev) (g : Nat) (x : CalState) : (d.setCal g x).groves = d.groves := (rfl)
@[simp] theorem Dev.setCal_coils (d : Dev) (g : Nat) (x : CalState) : (d.setCal g x).coils = d.coils := (rfl)
@[simp] theorem Dev.setCal_legs (d : Dev) (g : Nat) (x : CalState) : (d.setCal g x).legs = d.legs := (rfl)
@[simp] theorem Dev.setCal_convs (d : Dev) (g : Nat) (x : CalState) : (d.setCal g x).convs = d.convs := (rfl)
@[simp] theorem Dev.setCal_tw (d : Dev) (g : Nat) (x : CalState) : (d.setCal g x).tw = d.tw := (rfl)
@[simp] theorem Dev.setCal_pins (d : Dev) (g : Nat) (x : CalState) : (d.setCal g x).pins = d.pins := (rfl)
@[simp] theorem Dev.setCal_sup (d : Dev) (g : Nat) (x : CalState) : (d.setCal g x).sup = d.sup := (rfl)
@[simp] theorem Dev.setCal_tk (d : Dev) (g : Nat) (x : CalState) : (d.setCal g x).tk = d.tk := (rfl)
@[simp] theorem Dev.setCal_rose (d : Dev) (g : Nat) (x : CalState) : (d.setCal g x).rose = d.rose := (rfl)
@[simp] theorem Dev.setCal_due (d : Dev) (g : Nat) (x : CalState) : (d.setCal g x).due = d.due := (rfl)
@[simp] theorem Dev.setCal_hp (d : Dev) (g : Nat) (x : CalState) : (d.setCal g x).hp = d.hp := (rfl)
@[simp] theorem Dev.setCal_lk (d : Dev) (g : Nat) (x : CalState) : (d.setCal g x).lk = d.lk := (rfl)
@[simp] theorem Dev.setCal_inp (d : Dev) (g : Nat) (x : CalState) : (d.setCal g x).inp = d.inp := (rfl)
@[simp] theorem Dev.setCal_fl (d : Dev) (g : Nat) (x : CalState) : (d.setCal g x).fl = d.fl := (rfl)
@[simp] theorem Dev.setCal_jr (d : Dev) (g : Nat) (x : CalState) : (d.setCal g x).jr = d.jr := (rfl)
@[simp] theorem Dev.setCal_pp (d : Dev) (g : Nat) (x : CalState) : (d.setCal g x).pp = d.pp := (rfl)
@[simp] theorem Dev.setCal_bl (d : Dev) (g : Nat) (x : CalState) : (d.setCal g x).bl = d.bl := (rfl)
@[simp] theorem Dev.setCal_tap (d : Dev) (g : Nat) (x : CalState) : (d.setCal g x).tap = d.tap := (rfl)
@[simp] theorem Dev.setHp_variant (d : Dev) (x : HostPort) : (d.setHp x).variant = d.variant := (rfl)
@[simp] theorem Dev.setHp_clk (d : Dev) (x : HostPort) : (d.setHp x).clk = d.clk := (rfl)
@[simp] theorem Dev.setHp_draws (d : Dev) (x : HostPort) : (d.setHp x).draws = d.draws := (rfl)
@[simp] theorem Dev.setHp_seq (d : Dev) (x : HostPort) : (d.setHp x).seq = d.seq := (rfl)
@[simp] theorem Dev.setHp_regs (d : Dev) (x : HostPort) : (d.setHp x).regs = d.regs := (rfl)
@[simp] theorem Dev.setHp_hist (d : Dev) (x : HostPort) : (d.setHp x).hist = d.hist := (rfl)
@[simp] theorem Dev.setHp_shadow (d : Dev) (x : HostPort) : (d.setHp x).shadow = d.shadow := (rfl)
@[simp] theorem Dev.setHp_strobes (d : Dev) (x : HostPort) : (d.setHp x).strobes = d.strobes := (rfl)
@[simp] theorem Dev.setHp_mem (d : Dev) (x : HostPort) : (d.setHp x).mem = d.mem := (rfl)
@[simp] theorem Dev.setHp_acc (d : Dev) (x : HostPort) : (d.setHp x).acc = d.acc := (rfl)
@[simp] theorem Dev.setHp_tb (d : Dev) (x : HostPort) : (d.setHp x).tb = d.tb := (rfl)
@[simp] theorem Dev.setHp_plans (d : Dev) (x : HostPort) : (d.setHp x).plans = d.plans := (rfl)
@[simp] theorem Dev.setHp_queues (d : Dev) (x : HostPort) : (d.setHp x).queues = d.queues := (rfl)
@[simp] theorem Dev.setHp_obs (d : Dev) (x : HostPort) : (d.setHp x).obs = d.obs := (rfl)
@[simp] theorem Dev.setHp_gax (d : Dev) (x : HostPort) : (d.setHp x).gax = d.gax := (rfl)
@[simp] theorem Dev.setHp_ranks (d : Dev) (x : HostPort) : (d.setHp x).ranks = d.ranks := (rfl)
@[simp] theorem Dev.setHp_scr (d : Dev) (x : HostPort) : (d.setHp x).scr = d.scr := (rfl)
@[simp] theorem Dev.setHp_groves (d : Dev) (x : HostPort) : (d.setHp x).groves = d.groves := (rfl)
@[simp] theorem Dev.setHp_coils (d : Dev) (x : HostPort) : (d.setHp x).coils = d.coils := (rfl)
@[simp] theorem Dev.setHp_legs (d : Dev) (x : HostPort) : (d.setHp x).legs = d.legs := (rfl)
@[simp] theorem Dev.setHp_convs (d : Dev) (x : HostPort) : (d.setHp x).convs = d.convs := (rfl)
@[simp] theorem Dev.setHp_cals (d : Dev) (x : HostPort) : (d.setHp x).cals = d.cals := (rfl)
@[simp] theorem Dev.setHp_tw (d : Dev) (x : HostPort) : (d.setHp x).tw = d.tw := (rfl)
@[simp] theorem Dev.setHp_pins (d : Dev) (x : HostPort) : (d.setHp x).pins = d.pins := (rfl)
@[simp] theorem Dev.setHp_sup (d : Dev) (x : HostPort) : (d.setHp x).sup = d.sup := (rfl)
@[simp] theorem Dev.setHp_tk (d : Dev) (x : HostPort) : (d.setHp x).tk = d.tk := (rfl)
@[simp] theorem Dev.setHp_rose (d : Dev) (x : HostPort) : (d.setHp x).rose = d.rose := (rfl)
@[simp] theorem Dev.setHp_due (d : Dev) (x : HostPort) : (d.setHp x).due = d.due := (rfl)
@[simp] theorem Dev.setHp_lk (d : Dev) (x : HostPort) : (d.setHp x).lk = d.lk := (rfl)
@[simp] theorem Dev.setHp_inp (d : Dev) (x : HostPort) : (d.setHp x).inp = d.inp := (rfl)
@[simp] theorem Dev.setHp_fl (d : Dev) (x : HostPort) : (d.setHp x).fl = d.fl := (rfl)
@[simp] theorem Dev.setHp_jr (d : Dev) (x : HostPort) : (d.setHp x).jr = d.jr := (rfl)
@[simp] theorem Dev.setHp_pp (d : Dev) (x : HostPort) : (d.setHp x).pp = d.pp := (rfl)
@[simp] theorem Dev.setHp_bl (d : Dev) (x : HostPort) : (d.setHp x).bl = d.bl := (rfl)
@[simp] theorem Dev.setHp_tap (d : Dev) (x : HostPort) : (d.setHp x).tap = d.tap := (rfl)
@[simp] theorem Dev.setHp_hp (d : Dev) (x : HostPort) : (d.setHp x).hp = x := (rfl)
@[simp] theorem Dev.setLk_variant (d : Dev) (x : Link) : (d.setLk x).variant = d.variant := (rfl)
@[simp] theorem Dev.setLk_clk (d : Dev) (x : Link) : (d.setLk x).clk = d.clk := (rfl)
@[simp] theorem Dev.setLk_draws (d : Dev) (x : Link) : (d.setLk x).draws = d.draws := (rfl)
@[simp] theorem Dev.setLk_seq (d : Dev) (x : Link) : (d.setLk x).seq = d.seq := (rfl)
@[simp] theorem Dev.setLk_regs (d : Dev) (x : Link) : (d.setLk x).regs = d.regs := (rfl)
@[simp] theorem Dev.setLk_hist (d : Dev) (x : Link) : (d.setLk x).hist = d.hist := (rfl)
@[simp] theorem Dev.setLk_shadow (d : Dev) (x : Link) : (d.setLk x).shadow = d.shadow := (rfl)
@[simp] theorem Dev.setLk_strobes (d : Dev) (x : Link) : (d.setLk x).strobes = d.strobes := (rfl)
@[simp] theorem Dev.setLk_mem (d : Dev) (x : Link) : (d.setLk x).mem = d.mem := (rfl)
@[simp] theorem Dev.setLk_acc (d : Dev) (x : Link) : (d.setLk x).acc = d.acc := (rfl)
@[simp] theorem Dev.setLk_tb (d : Dev) (x : Link) : (d.setLk x).tb = d.tb := (rfl)
@[simp] theorem Dev.setLk_plans (d : Dev) (x : Link) : (d.setLk x).plans = d.plans := (rfl)
@[simp] theorem Dev.setLk_queues (d : Dev) (x : Link) : (d.setLk x).queues = d.queues := (rfl)
@[simp] theorem Dev.setLk_obs (d : Dev) (x : Link) : (d.setLk x).obs = d.obs := (rfl)
@[simp] theorem Dev.setLk_gax (d : Dev) (x : Link) : (d.setLk x).gax = d.gax := (rfl)
@[simp] theorem Dev.setLk_ranks (d : Dev) (x : Link) : (d.setLk x).ranks = d.ranks := (rfl)
@[simp] theorem Dev.setLk_scr (d : Dev) (x : Link) : (d.setLk x).scr = d.scr := (rfl)
@[simp] theorem Dev.setLk_groves (d : Dev) (x : Link) : (d.setLk x).groves = d.groves := (rfl)
@[simp] theorem Dev.setLk_coils (d : Dev) (x : Link) : (d.setLk x).coils = d.coils := (rfl)
@[simp] theorem Dev.setLk_legs (d : Dev) (x : Link) : (d.setLk x).legs = d.legs := (rfl)
@[simp] theorem Dev.setLk_convs (d : Dev) (x : Link) : (d.setLk x).convs = d.convs := (rfl)
@[simp] theorem Dev.setLk_cals (d : Dev) (x : Link) : (d.setLk x).cals = d.cals := (rfl)
@[simp] theorem Dev.setLk_tw (d : Dev) (x : Link) : (d.setLk x).tw = d.tw := (rfl)
@[simp] theorem Dev.setLk_pins (d : Dev) (x : Link) : (d.setLk x).pins = d.pins := (rfl)
@[simp] theorem Dev.setLk_sup (d : Dev) (x : Link) : (d.setLk x).sup = d.sup := (rfl)
@[simp] theorem Dev.setLk_tk (d : Dev) (x : Link) : (d.setLk x).tk = d.tk := (rfl)
@[simp] theorem Dev.setLk_rose (d : Dev) (x : Link) : (d.setLk x).rose = d.rose := (rfl)
@[simp] theorem Dev.setLk_due (d : Dev) (x : Link) : (d.setLk x).due = d.due := (rfl)
@[simp] theorem Dev.setLk_hp (d : Dev) (x : Link) : (d.setLk x).hp = d.hp := (rfl)
@[simp] theorem Dev.setLk_inp (d : Dev) (x : Link) : (d.setLk x).inp = d.inp := (rfl)
@[simp] theorem Dev.setLk_fl (d : Dev) (x : Link) : (d.setLk x).fl = d.fl := (rfl)
@[simp] theorem Dev.setLk_jr (d : Dev) (x : Link) : (d.setLk x).jr = d.jr := (rfl)
@[simp] theorem Dev.setLk_pp (d : Dev) (x : Link) : (d.setLk x).pp = d.pp := (rfl)
@[simp] theorem Dev.setLk_bl (d : Dev) (x : Link) : (d.setLk x).bl = d.bl := (rfl)
@[simp] theorem Dev.setLk_tap (d : Dev) (x : Link) : (d.setLk x).tap = d.tap := (rfl)
@[simp] theorem Dev.setLk_lk (d : Dev) (x : Link) : (d.setLk x).lk = x := (rfl)
@[simp] theorem Dev.setInp_variant (d : Dev) (x : Inputs) : (d.setInp x).variant = d.variant := (rfl)
@[simp] theorem Dev.setInp_clk (d : Dev) (x : Inputs) : (d.setInp x).clk = d.clk := (rfl)
@[simp] theorem Dev.setInp_draws (d : Dev) (x : Inputs) : (d.setInp x).draws = d.draws := (rfl)
@[simp] theorem Dev.setInp_seq (d : Dev) (x : Inputs) : (d.setInp x).seq = d.seq := (rfl)
@[simp] theorem Dev.setInp_regs (d : Dev) (x : Inputs) : (d.setInp x).regs = d.regs := (rfl)
@[simp] theorem Dev.setInp_hist (d : Dev) (x : Inputs) : (d.setInp x).hist = d.hist := (rfl)
@[simp] theorem Dev.setInp_shadow (d : Dev) (x : Inputs) : (d.setInp x).shadow = d.shadow := (rfl)
@[simp] theorem Dev.setInp_strobes (d : Dev) (x : Inputs) : (d.setInp x).strobes = d.strobes := (rfl)
@[simp] theorem Dev.setInp_mem (d : Dev) (x : Inputs) : (d.setInp x).mem = d.mem := (rfl)
@[simp] theorem Dev.setInp_acc (d : Dev) (x : Inputs) : (d.setInp x).acc = d.acc := (rfl)
@[simp] theorem Dev.setInp_tb (d : Dev) (x : Inputs) : (d.setInp x).tb = d.tb := (rfl)
@[simp] theorem Dev.setInp_plans (d : Dev) (x : Inputs) : (d.setInp x).plans = d.plans := (rfl)
@[simp] theorem Dev.setInp_queues (d : Dev) (x : Inputs) : (d.setInp x).queues = d.queues := (rfl)
@[simp] theorem Dev.setInp_obs (d : Dev) (x : Inputs) : (d.setInp x).obs = d.obs := (rfl)
@[simp] theorem Dev.setInp_gax (d : Dev) (x : Inputs) : (d.setInp x).gax = d.gax := (rfl)
@[simp] theorem Dev.setInp_ranks (d : Dev) (x : Inputs) : (d.setInp x).ranks = d.ranks := (rfl)
@[simp] theorem Dev.setInp_scr (d : Dev) (x : Inputs) : (d.setInp x).scr = d.scr := (rfl)
@[simp] theorem Dev.setInp_groves (d : Dev) (x : Inputs) : (d.setInp x).groves = d.groves := (rfl)
@[simp] theorem Dev.setInp_coils (d : Dev) (x : Inputs) : (d.setInp x).coils = d.coils := (rfl)
@[simp] theorem Dev.setInp_legs (d : Dev) (x : Inputs) : (d.setInp x).legs = d.legs := (rfl)
@[simp] theorem Dev.setInp_convs (d : Dev) (x : Inputs) : (d.setInp x).convs = d.convs := (rfl)
@[simp] theorem Dev.setInp_cals (d : Dev) (x : Inputs) : (d.setInp x).cals = d.cals := (rfl)
@[simp] theorem Dev.setInp_tw (d : Dev) (x : Inputs) : (d.setInp x).tw = d.tw := (rfl)
@[simp] theorem Dev.setInp_pins (d : Dev) (x : Inputs) : (d.setInp x).pins = d.pins := (rfl)
@[simp] theorem Dev.setInp_sup (d : Dev) (x : Inputs) : (d.setInp x).sup = d.sup := (rfl)
@[simp] theorem Dev.setInp_tk (d : Dev) (x : Inputs) : (d.setInp x).tk = d.tk := (rfl)
@[simp] theorem Dev.setInp_rose (d : Dev) (x : Inputs) : (d.setInp x).rose = d.rose := (rfl)
@[simp] theorem Dev.setInp_due (d : Dev) (x : Inputs) : (d.setInp x).due = d.due := (rfl)
@[simp] theorem Dev.setInp_hp (d : Dev) (x : Inputs) : (d.setInp x).hp = d.hp := (rfl)
@[simp] theorem Dev.setInp_lk (d : Dev) (x : Inputs) : (d.setInp x).lk = d.lk := (rfl)
@[simp] theorem Dev.setInp_fl (d : Dev) (x : Inputs) : (d.setInp x).fl = d.fl := (rfl)
@[simp] theorem Dev.setInp_jr (d : Dev) (x : Inputs) : (d.setInp x).jr = d.jr := (rfl)
@[simp] theorem Dev.setInp_pp (d : Dev) (x : Inputs) : (d.setInp x).pp = d.pp := (rfl)
@[simp] theorem Dev.setInp_bl (d : Dev) (x : Inputs) : (d.setInp x).bl = d.bl := (rfl)
@[simp] theorem Dev.setInp_tap (d : Dev) (x : Inputs) : (d.setInp x).tap = d.tap := (rfl)
@[simp] theorem Dev.setInp_inp (d : Dev) (x : Inputs) : (d.setInp x).inp = x := (rfl)
@[simp] theorem Dev.setFl_variant (d : Dev) (x : Flash) : (d.setFl x).variant = d.variant := (rfl)
@[simp] theorem Dev.setFl_clk (d : Dev) (x : Flash) : (d.setFl x).clk = d.clk := (rfl)
@[simp] theorem Dev.setFl_draws (d : Dev) (x : Flash) : (d.setFl x).draws = d.draws := (rfl)
@[simp] theorem Dev.setFl_seq (d : Dev) (x : Flash) : (d.setFl x).seq = d.seq := (rfl)
@[simp] theorem Dev.setFl_regs (d : Dev) (x : Flash) : (d.setFl x).regs = d.regs := (rfl)
@[simp] theorem Dev.setFl_hist (d : Dev) (x : Flash) : (d.setFl x).hist = d.hist := (rfl)
@[simp] theorem Dev.setFl_shadow (d : Dev) (x : Flash) : (d.setFl x).shadow = d.shadow := (rfl)
@[simp] theorem Dev.setFl_strobes (d : Dev) (x : Flash) : (d.setFl x).strobes = d.strobes := (rfl)
@[simp] theorem Dev.setFl_mem (d : Dev) (x : Flash) : (d.setFl x).mem = d.mem := (rfl)
@[simp] theorem Dev.setFl_acc (d : Dev) (x : Flash) : (d.setFl x).acc = d.acc := (rfl)
@[simp] theorem Dev.setFl_tb (d : Dev) (x : Flash) : (d.setFl x).tb = d.tb := (rfl)
@[simp] theorem Dev.setFl_plans (d : Dev) (x : Flash) : (d.setFl x).plans = d.plans := (rfl)
@[simp] theorem Dev.setFl_queues (d : Dev) (x : Flash) : (d.setFl x).queues = d.queues := (rfl)
@[simp] theorem Dev.setFl_obs (d : Dev) (x : Flash) : (d.setFl x).obs = d.obs := (rfl)
@[simp] theorem Dev.setFl_gax (d : Dev) (x : Flash) : (d.setFl x).gax = d.gax := (rfl)
@[simp] theorem Dev.setFl_ranks (d : Dev) (x : Flash) : (d.setFl x).ranks = d.ranks := (rfl)
@[simp] theorem Dev.setFl_scr (d : Dev) (x : Flash) : (d.setFl x).scr = d.scr := (rfl)
@[simp] theorem Dev.setFl_groves (d : Dev) (x : Flash) : (d.setFl x).groves = d.groves := (rfl)
@[simp] theorem Dev.setFl_coils (d : Dev) (x : Flash) : (d.setFl x).coils = d.coils := (rfl)
@[simp] theorem Dev.setFl_legs (d : Dev) (x : Flash) : (d.setFl x).legs = d.legs := (rfl)
@[simp] theorem Dev.setFl_convs (d : Dev) (x : Flash) : (d.setFl x).convs = d.convs := (rfl)
@[simp] theorem Dev.setFl_cals (d : Dev) (x : Flash) : (d.setFl x).cals = d.cals := (rfl)
@[simp] theorem Dev.setFl_tw (d : Dev) (x : Flash) : (d.setFl x).tw = d.tw := (rfl)
@[simp] theorem Dev.setFl_pins (d : Dev) (x : Flash) : (d.setFl x).pins = d.pins := (rfl)
@[simp] theorem Dev.setFl_sup (d : Dev) (x : Flash) : (d.setFl x).sup = d.sup := (rfl)
@[simp] theorem Dev.setFl_tk (d : Dev) (x : Flash) : (d.setFl x).tk = d.tk := (rfl)
@[simp] theorem Dev.setFl_rose (d : Dev) (x : Flash) : (d.setFl x).rose = d.rose := (rfl)
@[simp] theorem Dev.setFl_due (d : Dev) (x : Flash) : (d.setFl x).due = d.due := (rfl)
@[simp] theorem Dev.setFl_hp (d : Dev) (x : Flash) : (d.setFl x).hp = d.hp := (rfl)
@[simp] theorem Dev.setFl_lk (d : Dev) (x : Flash) : (d.setFl x).lk = d.lk := (rfl)
@[simp] theorem Dev.setFl_inp (d : Dev) (x : Flash) : (d.setFl x).inp = d.inp := (rfl)
@[simp] theorem Dev.setFl_jr (d : Dev) (x : Flash) : (d.setFl x).jr = d.jr := (rfl)
@[simp] theorem Dev.setFl_pp (d : Dev) (x : Flash) : (d.setFl x).pp = d.pp := (rfl)
@[simp] theorem Dev.setFl_bl (d : Dev) (x : Flash) : (d.setFl x).bl = d.bl := (rfl)
@[simp] theorem Dev.setFl_tap (d : Dev) (x : Flash) : (d.setFl x).tap = d.tap := (rfl)
@[simp] theorem Dev.setFl_fl (d : Dev) (x : Flash) : (d.setFl x).fl = x := (rfl)
@[simp] theorem Dev.setJr_variant (d : Dev) (x : Journal) : (d.setJr x).variant = d.variant := (rfl)
@[simp] theorem Dev.setJr_clk (d : Dev) (x : Journal) : (d.setJr x).clk = d.clk := (rfl)
@[simp] theorem Dev.setJr_draws (d : Dev) (x : Journal) : (d.setJr x).draws = d.draws := (rfl)
@[simp] theorem Dev.setJr_seq (d : Dev) (x : Journal) : (d.setJr x).seq = d.seq := (rfl)
@[simp] theorem Dev.setJr_regs (d : Dev) (x : Journal) : (d.setJr x).regs = d.regs := (rfl)
@[simp] theorem Dev.setJr_hist (d : Dev) (x : Journal) : (d.setJr x).hist = d.hist := (rfl)
@[simp] theorem Dev.setJr_shadow (d : Dev) (x : Journal) : (d.setJr x).shadow = d.shadow := (rfl)
@[simp] theorem Dev.setJr_strobes (d : Dev) (x : Journal) : (d.setJr x).strobes = d.strobes := (rfl)
@[simp] theorem Dev.setJr_mem (d : Dev) (x : Journal) : (d.setJr x).mem = d.mem := (rfl)
@[simp] theorem Dev.setJr_acc (d : Dev) (x : Journal) : (d.setJr x).acc = d.acc := (rfl)
@[simp] theorem Dev.setJr_tb (d : Dev) (x : Journal) : (d.setJr x).tb = d.tb := (rfl)
@[simp] theorem Dev.setJr_plans (d : Dev) (x : Journal) : (d.setJr x).plans = d.plans := (rfl)
@[simp] theorem Dev.setJr_queues (d : Dev) (x : Journal) : (d.setJr x).queues = d.queues := (rfl)
@[simp] theorem Dev.setJr_obs (d : Dev) (x : Journal) : (d.setJr x).obs = d.obs := (rfl)
@[simp] theorem Dev.setJr_gax (d : Dev) (x : Journal) : (d.setJr x).gax = d.gax := (rfl)
@[simp] theorem Dev.setJr_ranks (d : Dev) (x : Journal) : (d.setJr x).ranks = d.ranks := (rfl)
@[simp] theorem Dev.setJr_scr (d : Dev) (x : Journal) : (d.setJr x).scr = d.scr := (rfl)
@[simp] theorem Dev.setJr_groves (d : Dev) (x : Journal) : (d.setJr x).groves = d.groves := (rfl)
@[simp] theorem Dev.setJr_coils (d : Dev) (x : Journal) : (d.setJr x).coils = d.coils := (rfl)
@[simp] theorem Dev.setJr_legs (d : Dev) (x : Journal) : (d.setJr x).legs = d.legs := (rfl)
@[simp] theorem Dev.setJr_convs (d : Dev) (x : Journal) : (d.setJr x).convs = d.convs := (rfl)
@[simp] theorem Dev.setJr_cals (d : Dev) (x : Journal) : (d.setJr x).cals = d.cals := (rfl)
@[simp] theorem Dev.setJr_tw (d : Dev) (x : Journal) : (d.setJr x).tw = d.tw := (rfl)
@[simp] theorem Dev.setJr_pins (d : Dev) (x : Journal) : (d.setJr x).pins = d.pins := (rfl)
@[simp] theorem Dev.setJr_sup (d : Dev) (x : Journal) : (d.setJr x).sup = d.sup := (rfl)
@[simp] theorem Dev.setJr_tk (d : Dev) (x : Journal) : (d.setJr x).tk = d.tk := (rfl)
@[simp] theorem Dev.setJr_rose (d : Dev) (x : Journal) : (d.setJr x).rose = d.rose := (rfl)
@[simp] theorem Dev.setJr_due (d : Dev) (x : Journal) : (d.setJr x).due = d.due := (rfl)
@[simp] theorem Dev.setJr_hp (d : Dev) (x : Journal) : (d.setJr x).hp = d.hp := (rfl)
@[simp] theorem Dev.setJr_lk (d : Dev) (x : Journal) : (d.setJr x).lk = d.lk := (rfl)
@[simp] theorem Dev.setJr_inp (d : Dev) (x : Journal) : (d.setJr x).inp = d.inp := (rfl)
@[simp] theorem Dev.setJr_fl (d : Dev) (x : Journal) : (d.setJr x).fl = d.fl := (rfl)
@[simp] theorem Dev.setJr_pp (d : Dev) (x : Journal) : (d.setJr x).pp = d.pp := (rfl)
@[simp] theorem Dev.setJr_bl (d : Dev) (x : Journal) : (d.setJr x).bl = d.bl := (rfl)
@[simp] theorem Dev.setJr_tap (d : Dev) (x : Journal) : (d.setJr x).tap = d.tap := (rfl)
@[simp] theorem Dev.setJr_jr (d : Dev) (x : Journal) : (d.setJr x).jr = x := (rfl)
@[simp] theorem Dev.setPp_variant (d : Dev) (x : Periph) : (d.setPp x).variant = d.variant := (rfl)
@[simp] theorem Dev.setPp_clk (d : Dev) (x : Periph) : (d.setPp x).clk = d.clk := (rfl)
@[simp] theorem Dev.setPp_draws (d : Dev) (x : Periph) : (d.setPp x).draws = d.draws := (rfl)
@[simp] theorem Dev.setPp_seq (d : Dev) (x : Periph) : (d.setPp x).seq = d.seq := (rfl)
@[simp] theorem Dev.setPp_regs (d : Dev) (x : Periph) : (d.setPp x).regs = d.regs := (rfl)
@[simp] theorem Dev.setPp_hist (d : Dev) (x : Periph) : (d.setPp x).hist = d.hist := (rfl)
@[simp] theorem Dev.setPp_shadow (d : Dev) (x : Periph) : (d.setPp x).shadow = d.shadow := (rfl)
@[simp] theorem Dev.setPp_strobes (d : Dev) (x : Periph) : (d.setPp x).strobes = d.strobes := (rfl)
@[simp] theorem Dev.setPp_mem (d : Dev) (x : Periph) : (d.setPp x).mem = d.mem := (rfl)
@[simp] theorem Dev.setPp_acc (d : Dev) (x : Periph) : (d.setPp x).acc = d.acc := (rfl)
@[simp] theorem Dev.setPp_tb (d : Dev) (x : Periph) : (d.setPp x).tb = d.tb := (rfl)
@[simp] theorem Dev.setPp_plans (d : Dev) (x : Periph) : (d.setPp x).plans = d.plans := (rfl)
@[simp] theorem Dev.setPp_queues (d : Dev) (x : Periph) : (d.setPp x).queues = d.queues := (rfl)
@[simp] theorem Dev.setPp_obs (d : Dev) (x : Periph) : (d.setPp x).obs = d.obs := (rfl)
@[simp] theorem Dev.setPp_gax (d : Dev) (x : Periph) : (d.setPp x).gax = d.gax := (rfl)
@[simp] theorem Dev.setPp_ranks (d : Dev) (x : Periph) : (d.setPp x).ranks = d.ranks := (rfl)
@[simp] theorem Dev.setPp_scr (d : Dev) (x : Periph) : (d.setPp x).scr = d.scr := (rfl)
@[simp] theorem Dev.setPp_groves (d : Dev) (x : Periph) : (d.setPp x).groves = d.groves := (rfl)
@[simp] theorem Dev.setPp_coils (d : Dev) (x : Periph) : (d.setPp x).coils = d.coils := (rfl)
@[simp] theorem Dev.setPp_legs (d : Dev) (x : Periph) : (d.setPp x).legs = d.legs := (rfl)
@[simp] theorem Dev.setPp_convs (d : Dev) (x : Periph) : (d.setPp x).convs = d.convs := (rfl)
@[simp] theorem Dev.setPp_cals (d : Dev) (x : Periph) : (d.setPp x).cals = d.cals := (rfl)
@[simp] theorem Dev.setPp_tw (d : Dev) (x : Periph) : (d.setPp x).tw = d.tw := (rfl)
@[simp] theorem Dev.setPp_pins (d : Dev) (x : Periph) : (d.setPp x).pins = d.pins := (rfl)
@[simp] theorem Dev.setPp_sup (d : Dev) (x : Periph) : (d.setPp x).sup = d.sup := (rfl)
@[simp] theorem Dev.setPp_tk (d : Dev) (x : Periph) : (d.setPp x).tk = d.tk := (rfl)
@[simp] theorem Dev.setPp_rose (d : Dev) (x : Periph) : (d.setPp x).rose = d.rose := (rfl)
@[simp] theorem Dev.setPp_due (d : Dev) (x : Periph) : (d.setPp x).due = d.due := (rfl)
@[simp] theorem Dev.setPp_hp (d : Dev) (x : Periph) : (d.setPp x).hp = d.hp := (rfl)
@[simp] theorem Dev.setPp_lk (d : Dev) (x : Periph) : (d.setPp x).lk = d.lk := (rfl)
@[simp] theorem Dev.setPp_inp (d : Dev) (x : Periph) : (d.setPp x).inp = d.inp := (rfl)
@[simp] theorem Dev.setPp_fl (d : Dev) (x : Periph) : (d.setPp x).fl = d.fl := (rfl)
@[simp] theorem Dev.setPp_jr (d : Dev) (x : Periph) : (d.setPp x).jr = d.jr := (rfl)
@[simp] theorem Dev.setPp_bl (d : Dev) (x : Periph) : (d.setPp x).bl = d.bl := (rfl)
@[simp] theorem Dev.setPp_tap (d : Dev) (x : Periph) : (d.setPp x).tap = d.tap := (rfl)
@[simp] theorem Dev.setPp_pp (d : Dev) (x : Periph) : (d.setPp x).pp = x := (rfl)
@[simp] theorem Dev.setBl_variant (d : Dev) (x : Blotter) : (d.setBl x).variant = d.variant := (rfl)
@[simp] theorem Dev.setBl_clk (d : Dev) (x : Blotter) : (d.setBl x).clk = d.clk := (rfl)
@[simp] theorem Dev.setBl_draws (d : Dev) (x : Blotter) : (d.setBl x).draws = d.draws := (rfl)
@[simp] theorem Dev.setBl_seq (d : Dev) (x : Blotter) : (d.setBl x).seq = d.seq := (rfl)
@[simp] theorem Dev.setBl_regs (d : Dev) (x : Blotter) : (d.setBl x).regs = d.regs := (rfl)
@[simp] theorem Dev.setBl_hist (d : Dev) (x : Blotter) : (d.setBl x).hist = d.hist := (rfl)
@[simp] theorem Dev.setBl_shadow (d : Dev) (x : Blotter) : (d.setBl x).shadow = d.shadow := (rfl)
@[simp] theorem Dev.setBl_strobes (d : Dev) (x : Blotter) : (d.setBl x).strobes = d.strobes := (rfl)
@[simp] theorem Dev.setBl_mem (d : Dev) (x : Blotter) : (d.setBl x).mem = d.mem := (rfl)
@[simp] theorem Dev.setBl_acc (d : Dev) (x : Blotter) : (d.setBl x).acc = d.acc := (rfl)
@[simp] theorem Dev.setBl_tb (d : Dev) (x : Blotter) : (d.setBl x).tb = d.tb := (rfl)
@[simp] theorem Dev.setBl_plans (d : Dev) (x : Blotter) : (d.setBl x).plans = d.plans := (rfl)
@[simp] theorem Dev.setBl_queues (d : Dev) (x : Blotter) : (d.setBl x).queues = d.queues := (rfl)
@[simp] theorem Dev.setBl_obs (d : Dev) (x : Blotter) : (d.setBl x).obs = d.obs := (rfl)
@[simp] theorem Dev.setBl_gax (d : Dev) (x : Blotter) : (d.setBl x).gax = d.gax := (rfl)
@[simp] theorem Dev.setBl_ranks (d : Dev) (x : Blotter) : (d.setBl x).ranks = d.ranks := (rfl)
@[simp] theorem Dev.setBl_scr (d : Dev) (x : Blotter) : (d.setBl x).scr = d.scr := (rfl)
@[simp] theorem Dev.setBl_groves (d : Dev) (x : Blotter) : (d.setBl x).groves = d.groves := (rfl)
@[simp] theorem Dev.setBl_coils (d : Dev) (x : Blotter) : (d.setBl x).coils = d.coils := (rfl)
@[simp] theorem Dev.setBl_legs (d : Dev) (x : Blotter) : (d.setBl x).legs = d.legs := (rfl)
@[simp] theorem Dev.setBl_convs (d : Dev) (x : Blotter) : (d.setBl x).convs = d.convs := (rfl)
@[simp] theorem Dev.setBl_cals (d : Dev) (x : Blotter) : (d.setBl x).cals = d.cals := (rfl)
@[simp] theorem Dev.setBl_tw (d : Dev) (x : Blotter) : (d.setBl x).tw = d.tw := (rfl)
@[simp] theorem Dev.setBl_pins (d : Dev) (x : Blotter) : (d.setBl x).pins = d.pins := (rfl)
@[simp] theorem Dev.setBl_sup (d : Dev) (x : Blotter) : (d.setBl x).sup = d.sup := (rfl)
@[simp] theorem Dev.setBl_tk (d : Dev) (x : Blotter) : (d.setBl x).tk = d.tk := (rfl)
@[simp] theorem Dev.setBl_rose (d : Dev) (x : Blotter) : (d.setBl x).rose = d.rose := (rfl)
@[simp] theorem Dev.setBl_due (d : Dev) (x : Blotter) : (d.setBl x).due = d.due := (rfl)
@[simp] theorem Dev.setBl_hp (d : Dev) (x : Blotter) : (d.setBl x).hp = d.hp := (rfl)
@[simp] theorem Dev.setBl_lk (d : Dev) (x : Blotter) : (d.setBl x).lk = d.lk := (rfl)
@[simp] theorem Dev.setBl_inp (d : Dev) (x : Blotter) : (d.setBl x).inp = d.inp := (rfl)
@[simp] theorem Dev.setBl_fl (d : Dev) (x : Blotter) : (d.setBl x).fl = d.fl := (rfl)
@[simp] theorem Dev.setBl_jr (d : Dev) (x : Blotter) : (d.setBl x).jr = d.jr := (rfl)
@[simp] theorem Dev.setBl_pp (d : Dev) (x : Blotter) : (d.setBl x).pp = d.pp := (rfl)
@[simp] theorem Dev.setBl_tap (d : Dev) (x : Blotter) : (d.setBl x).tap = d.tap := (rfl)
@[simp] theorem Dev.setBl_bl (d : Dev) (x : Blotter) : (d.setBl x).bl = x := (rfl)
@[simp] theorem Dev.setTap_variant (d : Dev) (x : Jtag) : (d.setTap x).variant = d.variant := (rfl)
@[simp] theorem Dev.setTap_clk (d : Dev) (x : Jtag) : (d.setTap x).clk = d.clk := (rfl)
@[simp] theorem Dev.setTap_draws (d : Dev) (x : Jtag) : (d.setTap x).draws = d.draws := (rfl)
@[simp] theorem Dev.setTap_seq (d : Dev) (x : Jtag) : (d.setTap x).seq = d.seq := (rfl)
@[simp] theorem Dev.setTap_regs (d : Dev) (x : Jtag) : (d.setTap x).regs = d.regs := (rfl)
@[simp] theorem Dev.setTap_hist (d : Dev) (x : Jtag) : (d.setTap x).hist = d.hist := (rfl)
@[simp] theorem Dev.setTap_shadow (d : Dev) (x : Jtag) : (d.setTap x).shadow = d.shadow := (rfl)
@[simp] theorem Dev.setTap_strobes (d : Dev) (x : Jtag) : (d.setTap x).strobes = d.strobes := (rfl)
@[simp] theorem Dev.setTap_mem (d : Dev) (x : Jtag) : (d.setTap x).mem = d.mem := (rfl)
@[simp] theorem Dev.setTap_acc (d : Dev) (x : Jtag) : (d.setTap x).acc = d.acc := (rfl)
@[simp] theorem Dev.setTap_tb (d : Dev) (x : Jtag) : (d.setTap x).tb = d.tb := (rfl)
@[simp] theorem Dev.setTap_plans (d : Dev) (x : Jtag) : (d.setTap x).plans = d.plans := (rfl)
@[simp] theorem Dev.setTap_queues (d : Dev) (x : Jtag) : (d.setTap x).queues = d.queues := (rfl)
@[simp] theorem Dev.setTap_obs (d : Dev) (x : Jtag) : (d.setTap x).obs = d.obs := (rfl)
@[simp] theorem Dev.setTap_gax (d : Dev) (x : Jtag) : (d.setTap x).gax = d.gax := (rfl)
@[simp] theorem Dev.setTap_ranks (d : Dev) (x : Jtag) : (d.setTap x).ranks = d.ranks := (rfl)
@[simp] theorem Dev.setTap_scr (d : Dev) (x : Jtag) : (d.setTap x).scr = d.scr := (rfl)
@[simp] theorem Dev.setTap_groves (d : Dev) (x : Jtag) : (d.setTap x).groves = d.groves := (rfl)
@[simp] theorem Dev.setTap_coils (d : Dev) (x : Jtag) : (d.setTap x).coils = d.coils := (rfl)
@[simp] theorem Dev.setTap_legs (d : Dev) (x : Jtag) : (d.setTap x).legs = d.legs := (rfl)
@[simp] theorem Dev.setTap_convs (d : Dev) (x : Jtag) : (d.setTap x).convs = d.convs := (rfl)
@[simp] theorem Dev.setTap_cals (d : Dev) (x : Jtag) : (d.setTap x).cals = d.cals := (rfl)
@[simp] theorem Dev.setTap_tw (d : Dev) (x : Jtag) : (d.setTap x).tw = d.tw := (rfl)
@[simp] theorem Dev.setTap_pins (d : Dev) (x : Jtag) : (d.setTap x).pins = d.pins := (rfl)
@[simp] theorem Dev.setTap_sup (d : Dev) (x : Jtag) : (d.setTap x).sup = d.sup := (rfl)
@[simp] theorem Dev.setTap_tk (d : Dev) (x : Jtag) : (d.setTap x).tk = d.tk := (rfl)
@[simp] theorem Dev.setTap_rose (d : Dev) (x : Jtag) : (d.setTap x).rose = d.rose := (rfl)
@[simp] theorem Dev.setTap_due (d : Dev) (x : Jtag) : (d.setTap x).due = d.due := (rfl)
@[simp] theorem Dev.setTap_hp (d : Dev) (x : Jtag) : (d.setTap x).hp = d.hp := (rfl)
@[simp] theorem Dev.setTap_lk (d : Dev) (x : Jtag) : (d.setTap x).lk = d.lk := (rfl)
@[simp] theorem Dev.setTap_inp (d : Dev) (x : Jtag) : (d.setTap x).inp = d.inp := (rfl)
@[simp] theorem Dev.setTap_fl (d : Dev) (x : Jtag) : (d.setTap x).fl = d.fl := (rfl)
@[simp] theorem Dev.setTap_jr (d : Dev) (x : Jtag) : (d.setTap x).jr = d.jr := (rfl)
@[simp] theorem Dev.setTap_pp (d : Dev) (x : Jtag) : (d.setTap x).pp = d.pp := (rfl)
@[simp] theorem Dev.setTap_bl (d : Dev) (x : Jtag) : (d.setTap x).bl = d.bl := (rfl)
@[simp] theorem Dev.setTap_tap (d : Dev) (x : Jtag) : (d.setTap x).tap = x := (rfl)
@[simp] theorem Dev.setTw_variant (d : Dev) (x : Twin) : (d.setTw x).variant = d.variant := (rfl)
@[simp] theorem Dev.setTw_clk (d : Dev) (x : Twin) : (d.setTw x).clk = d.clk := (rfl)
@[simp] theorem Dev.setTw_draws (d : Dev) (x : Twin) : (d.setTw x).draws = d.draws := (rfl)
@[simp] theorem Dev.setTw_seq (d : Dev) (x : Twin) : (d.setTw x).seq = d.seq := (rfl)
@[simp] theorem Dev.setTw_regs (d : Dev) (x : Twin) : (d.setTw x).regs = d.regs := (rfl)
@[simp] theorem Dev.setTw_hist (d : Dev) (x : Twin) : (d.setTw x).hist = d.hist := (rfl)
@[simp] theorem Dev.setTw_shadow (d : Dev) (x : Twin) : (d.setTw x).shadow = d.shadow := (rfl)
@[simp] theorem Dev.setTw_strobes (d : Dev) (x : Twin) : (d.setTw x).strobes = d.strobes := (rfl)
@[simp] theorem Dev.setTw_mem (d : Dev) (x : Twin) : (d.setTw x).mem = d.mem := (rfl)
@[simp] theorem Dev.setTw_acc (d : Dev) (x : Twin) : (d.setTw x).acc = d.acc := (rfl)
@[simp] theorem Dev.setTw_tb (d : Dev) (x : Twin) : (d.setTw x).tb = d.tb := (rfl)
@[simp] theorem Dev.setTw_plans (d : Dev) (x : Twin) : (d.setTw x).plans = d.plans := (rfl)
@[simp] theorem Dev.setTw_queues (d : Dev) (x : Twin) : (d.setTw x).queues = d.queues := (rfl)
@[simp] theorem Dev.setTw_obs (d : Dev) (x : Twin) : (d.setTw x).obs = d.obs := (rfl)
@[simp] theorem Dev.setTw_gax (d : Dev) (x : Twin) : (d.setTw x).gax = d.gax := (rfl)
@[simp] theorem Dev.setTw_ranks (d : Dev) (x : Twin) : (d.setTw x).ranks = d.ranks := (rfl)
@[simp] theorem Dev.setTw_scr (d : Dev) (x : Twin) : (d.setTw x).scr = d.scr := (rfl)
@[simp] theorem Dev.setTw_groves (d : Dev) (x : Twin) : (d.setTw x).groves = d.groves := (rfl)
@[simp] theorem Dev.setTw_coils (d : Dev) (x : Twin) : (d.setTw x).coils = d.coils := (rfl)
@[simp] theorem Dev.setTw_legs (d : Dev) (x : Twin) : (d.setTw x).legs = d.legs := (rfl)
@[simp] theorem Dev.setTw_convs (d : Dev) (x : Twin) : (d.setTw x).convs = d.convs := (rfl)
@[simp] theorem Dev.setTw_cals (d : Dev) (x : Twin) : (d.setTw x).cals = d.cals := (rfl)
@[simp] theorem Dev.setTw_pins (d : Dev) (x : Twin) : (d.setTw x).pins = d.pins := (rfl)
@[simp] theorem Dev.setTw_sup (d : Dev) (x : Twin) : (d.setTw x).sup = d.sup := (rfl)
@[simp] theorem Dev.setTw_tk (d : Dev) (x : Twin) : (d.setTw x).tk = d.tk := (rfl)
@[simp] theorem Dev.setTw_rose (d : Dev) (x : Twin) : (d.setTw x).rose = d.rose := (rfl)
@[simp] theorem Dev.setTw_due (d : Dev) (x : Twin) : (d.setTw x).due = d.due := (rfl)
@[simp] theorem Dev.setTw_hp (d : Dev) (x : Twin) : (d.setTw x).hp = d.hp := (rfl)
@[simp] theorem Dev.setTw_lk (d : Dev) (x : Twin) : (d.setTw x).lk = d.lk := (rfl)
@[simp] theorem Dev.setTw_inp (d : Dev) (x : Twin) : (d.setTw x).inp = d.inp := (rfl)
@[simp] theorem Dev.setTw_fl (d : Dev) (x : Twin) : (d.setTw x).fl = d.fl := (rfl)
@[simp] theorem Dev.setTw_jr (d : Dev) (x : Twin) : (d.setTw x).jr = d.jr := (rfl)
@[simp] theorem Dev.setTw_pp (d : Dev) (x : Twin) : (d.setTw x).pp = d.pp := (rfl)
@[simp] theorem Dev.setTw_bl (d : Dev) (x : Twin) : (d.setTw x).bl = d.bl := (rfl)
@[simp] theorem Dev.setTw_tap (d : Dev) (x : Twin) : (d.setTw x).tap = d.tap := (rfl)
@[simp] theorem Dev.setTw_tw (d : Dev) (x : Twin) : (d.setTw x).tw = x := (rfl)
@[simp] theorem Dev.setScr_variant (d : Dev) (x : Scribe) : (d.setScr x).variant = d.variant := (rfl)
@[simp] theorem Dev.setScr_clk (d : Dev) (x : Scribe) : (d.setScr x).clk = d.clk := (rfl)
@[simp] theorem Dev.setScr_draws (d : Dev) (x : Scribe) : (d.setScr x).draws = d.draws := (rfl)
@[simp] theorem Dev.setScr_seq (d : Dev) (x : Scribe) : (d.setScr x).seq = d.seq := (rfl)
@[simp] theorem Dev.setScr_regs (d : Dev) (x : Scribe) : (d.setScr x).regs = d.regs := (rfl)
@[simp] theorem Dev.setScr_hist (d : Dev) (x : Scribe) : (d.setScr x).hist = d.hist := (rfl)
@[simp] theorem Dev.setScr_shadow (d : Dev) (x : Scribe) : (d.setScr x).shadow = d.shadow := (rfl)
@[simp] theorem Dev.setScr_strobes (d : Dev) (x : Scribe) : (d.setScr x).strobes = d.strobes := (rfl)
@[simp] theorem Dev.setScr_mem (d : Dev) (x : Scribe) : (d.setScr x).mem = d.mem := (rfl)
@[simp] theorem Dev.setScr_acc (d : Dev) (x : Scribe) : (d.setScr x).acc = d.acc := (rfl)
@[simp] theorem Dev.setScr_tb (d : Dev) (x : Scribe) : (d.setScr x).tb = d.tb := (rfl)
@[simp] theorem Dev.setScr_plans (d : Dev) (x : Scribe) : (d.setScr x).plans = d.plans := (rfl)
@[simp] theorem Dev.setScr_queues (d : Dev) (x : Scribe) : (d.setScr x).queues = d.queues := (rfl)
@[simp] theorem Dev.setScr_obs (d : Dev) (x : Scribe) : (d.setScr x).obs = d.obs := (rfl)
@[simp] theorem Dev.setScr_gax (d : Dev) (x : Scribe) : (d.setScr x).gax = d.gax := (rfl)
@[simp] theorem Dev.setScr_ranks (d : Dev) (x : Scribe) : (d.setScr x).ranks = d.ranks := (rfl)
@[simp] theorem Dev.setScr_groves (d : Dev) (x : Scribe) : (d.setScr x).groves = d.groves := (rfl)
@[simp] theorem Dev.setScr_coils (d : Dev) (x : Scribe) : (d.setScr x).coils = d.coils := (rfl)
@[simp] theorem Dev.setScr_legs (d : Dev) (x : Scribe) : (d.setScr x).legs = d.legs := (rfl)
@[simp] theorem Dev.setScr_convs (d : Dev) (x : Scribe) : (d.setScr x).convs = d.convs := (rfl)
@[simp] theorem Dev.setScr_cals (d : Dev) (x : Scribe) : (d.setScr x).cals = d.cals := (rfl)
@[simp] theorem Dev.setScr_tw (d : Dev) (x : Scribe) : (d.setScr x).tw = d.tw := (rfl)
@[simp] theorem Dev.setScr_pins (d : Dev) (x : Scribe) : (d.setScr x).pins = d.pins := (rfl)
@[simp] theorem Dev.setScr_sup (d : Dev) (x : Scribe) : (d.setScr x).sup = d.sup := (rfl)
@[simp] theorem Dev.setScr_tk (d : Dev) (x : Scribe) : (d.setScr x).tk = d.tk := (rfl)
@[simp] theorem Dev.setScr_rose (d : Dev) (x : Scribe) : (d.setScr x).rose = d.rose := (rfl)
@[simp] theorem Dev.setScr_due (d : Dev) (x : Scribe) : (d.setScr x).due = d.due := (rfl)
@[simp] theorem Dev.setScr_hp (d : Dev) (x : Scribe) : (d.setScr x).hp = d.hp := (rfl)
@[simp] theorem Dev.setScr_lk (d : Dev) (x : Scribe) : (d.setScr x).lk = d.lk := (rfl)
@[simp] theorem Dev.setScr_inp (d : Dev) (x : Scribe) : (d.setScr x).inp = d.inp := (rfl)
@[simp] theorem Dev.setScr_fl (d : Dev) (x : Scribe) : (d.setScr x).fl = d.fl := (rfl)
@[simp] theorem Dev.setScr_jr (d : Dev) (x : Scribe) : (d.setScr x).jr = d.jr := (rfl)
@[simp] theorem Dev.setScr_pp (d : Dev) (x : Scribe) : (d.setScr x).pp = d.pp := (rfl)
@[simp] theorem Dev.setScr_bl (d : Dev) (x : Scribe) : (d.setScr x).bl = d.bl := (rfl)
@[simp] theorem Dev.setScr_tap (d : Dev) (x : Scribe) : (d.setScr x).tap = d.tap := (rfl)
@[simp] theorem Dev.setScr_scr (d : Dev) (x : Scribe) : (d.setScr x).scr = x := (rfl)
@[simp] theorem Dev.setSup_variant (d : Dev) (x : Supv) : (d.setSup x).variant = d.variant := (rfl)
@[simp] theorem Dev.setSup_clk (d : Dev) (x : Supv) : (d.setSup x).clk = d.clk := (rfl)
@[simp] theorem Dev.setSup_draws (d : Dev) (x : Supv) : (d.setSup x).draws = d.draws := (rfl)
@[simp] theorem Dev.setSup_seq (d : Dev) (x : Supv) : (d.setSup x).seq = d.seq := (rfl)
@[simp] theorem Dev.setSup_regs (d : Dev) (x : Supv) : (d.setSup x).regs = d.regs := (rfl)
@[simp] theorem Dev.setSup_hist (d : Dev) (x : Supv) : (d.setSup x).hist = d.hist := (rfl)
@[simp] theorem Dev.setSup_shadow (d : Dev) (x : Supv) : (d.setSup x).shadow = d.shadow := (rfl)
@[simp] theorem Dev.setSup_strobes (d : Dev) (x : Supv) : (d.setSup x).strobes = d.strobes := (rfl)
@[simp] theorem Dev.setSup_mem (d : Dev) (x : Supv) : (d.setSup x).mem = d.mem := (rfl)
@[simp] theorem Dev.setSup_acc (d : Dev) (x : Supv) : (d.setSup x).acc = d.acc := (rfl)
@[simp] theorem Dev.setSup_tb (d : Dev) (x : Supv) : (d.setSup x).tb = d.tb := (rfl)
@[simp] theorem Dev.setSup_plans (d : Dev) (x : Supv) : (d.setSup x).plans = d.plans := (rfl)
@[simp] theorem Dev.setSup_queues (d : Dev) (x : Supv) : (d.setSup x).queues = d.queues := (rfl)
@[simp] theorem Dev.setSup_obs (d : Dev) (x : Supv) : (d.setSup x).obs = d.obs := (rfl)
@[simp] theorem Dev.setSup_gax (d : Dev) (x : Supv) : (d.setSup x).gax = d.gax := (rfl)
@[simp] theorem Dev.setSup_ranks (d : Dev) (x : Supv) : (d.setSup x).ranks = d.ranks := (rfl)
@[simp] theorem Dev.setSup_scr (d : Dev) (x : Supv) : (d.setSup x).scr = d.scr := (rfl)
@[simp] theorem Dev.setSup_groves (d : Dev) (x : Supv) : (d.setSup x).groves = d.groves := (rfl)
@[simp] theorem Dev.setSup_coils (d : Dev) (x : Supv) : (d.setSup x).coils = d.coils := (rfl)
@[simp] theorem Dev.setSup_legs (d : Dev) (x : Supv) : (d.setSup x).legs = d.legs := (rfl)
@[simp] theorem Dev.setSup_convs (d : Dev) (x : Supv) : (d.setSup x).convs = d.convs := (rfl)
@[simp] theorem Dev.setSup_cals (d : Dev) (x : Supv) : (d.setSup x).cals = d.cals := (rfl)
@[simp] theorem Dev.setSup_tw (d : Dev) (x : Supv) : (d.setSup x).tw = d.tw := (rfl)
@[simp] theorem Dev.setSup_pins (d : Dev) (x : Supv) : (d.setSup x).pins = d.pins := (rfl)
@[simp] theorem Dev.setSup_tk (d : Dev) (x : Supv) : (d.setSup x).tk = d.tk := (rfl)
@[simp] theorem Dev.setSup_rose (d : Dev) (x : Supv) : (d.setSup x).rose = d.rose := (rfl)
@[simp] theorem Dev.setSup_due (d : Dev) (x : Supv) : (d.setSup x).due = d.due := (rfl)
@[simp] theorem Dev.setSup_hp (d : Dev) (x : Supv) : (d.setSup x).hp = d.hp := (rfl)
@[simp] theorem Dev.setSup_lk (d : Dev) (x : Supv) : (d.setSup x).lk = d.lk := (rfl)
@[simp] theorem Dev.setSup_inp (d : Dev) (x : Supv) : (d.setSup x).inp = d.inp := (rfl)
@[simp] theorem Dev.setSup_fl (d : Dev) (x : Supv) : (d.setSup x).fl = d.fl := (rfl)
@[simp] theorem Dev.setSup_jr (d : Dev) (x : Supv) : (d.setSup x).jr = d.jr := (rfl)
@[simp] theorem Dev.setSup_pp (d : Dev) (x : Supv) : (d.setSup x).pp = d.pp := (rfl)
@[simp] theorem Dev.setSup_bl (d : Dev) (x : Supv) : (d.setSup x).bl = d.bl := (rfl)
@[simp] theorem Dev.setSup_tap (d : Dev) (x : Supv) : (d.setSup x).tap = d.tap := (rfl)
@[simp] theorem Dev.setSup_sup (d : Dev) (x : Supv) : (d.setSup x).sup = x := (rfl)
@[simp] theorem Dev.setRest_variant (d : Dev) (n i : Nat) (v : Bool) : (d.setRest n i v).variant = d.variant := (rfl)
@[simp] theorem Dev.setRest_clk (d : Dev) (n i : Nat) (v : Bool) : (d.setRest n i v).clk = d.clk := (rfl)
@[simp] theorem Dev.setRest_draws (d : Dev) (n i : Nat) (v : Bool) : (d.setRest n i v).draws = d.draws := (rfl)
@[simp] theorem Dev.setRest_seq (d : Dev) (n i : Nat) (v : Bool) : (d.setRest n i v).seq = d.seq := (rfl)
@[simp] theorem Dev.setRest_regs (d : Dev) (n i : Nat) (v : Bool) : (d.setRest n i v).regs = d.regs := (rfl)
@[simp] theorem Dev.setRest_hist (d : Dev) (n i : Nat) (v : Bool) : (d.setRest n i v).hist = d.hist := (rfl)
@[simp] theorem Dev.setRest_shadow (d : Dev) (n i : Nat) (v : Bool) : (d.setRest n i v).shadow = d.shadow := (rfl)
@[simp] theorem Dev.setRest_strobes (d : Dev) (n i : Nat) (v : Bool) : (d.setRest n i v).strobes = d.strobes := (rfl)
@[simp] theorem Dev.setRest_mem (d : Dev) (n i : Nat) (v : Bool) : (d.setRest n i v).mem = d.mem := (rfl)
@[simp] theorem Dev.setRest_acc (d : Dev) (n i : Nat) (v : Bool) : (d.setRest n i v).acc = d.acc := (rfl)
@[simp] theorem Dev.setRest_tb (d : Dev) (n i : Nat) (v : Bool) : (d.setRest n i v).tb = d.tb := (rfl)
@[simp] theorem Dev.setRest_plans (d : Dev) (n i : Nat) (v : Bool) : (d.setRest n i v).plans = d.plans := (rfl)
@[simp] theorem Dev.setRest_queues (d : Dev) (n i : Nat) (v : Bool) : (d.setRest n i v).queues = d.queues := (rfl)
@[simp] theorem Dev.setRest_obs (d : Dev) (n i : Nat) (v : Bool) : (d.setRest n i v).obs = d.obs := (rfl)
@[simp] theorem Dev.setRest_gax (d : Dev) (n i : Nat) (v : Bool) : (d.setRest n i v).gax = d.gax := (rfl)
@[simp] theorem Dev.setRest_ranks (d : Dev) (n i : Nat) (v : Bool) : (d.setRest n i v).ranks = d.ranks := (rfl)
@[simp] theorem Dev.setRest_scr (d : Dev) (n i : Nat) (v : Bool) : (d.setRest n i v).scr = d.scr := (rfl)
@[simp] theorem Dev.setRest_groves (d : Dev) (n i : Nat) (v : Bool) : (d.setRest n i v).groves = d.groves := (rfl)
@[simp] theorem Dev.setRest_coils (d : Dev) (n i : Nat) (v : Bool) : (d.setRest n i v).coils = d.coils := (rfl)
@[simp] theorem Dev.setRest_legs (d : Dev) (n i : Nat) (v : Bool) : (d.setRest n i v).legs = d.legs := (rfl)
@[simp] theorem Dev.setRest_convs (d : Dev) (n i : Nat) (v : Bool) : (d.setRest n i v).convs = d.convs := (rfl)
@[simp] theorem Dev.setRest_cals (d : Dev) (n i : Nat) (v : Bool) : (d.setRest n i v).cals = d.cals := (rfl)
@[simp] theorem Dev.setRest_tw (d : Dev) (n i : Nat) (v : Bool) : (d.setRest n i v).tw = d.tw := (rfl)
@[simp] theorem Dev.setRest_pins (d : Dev) (n i : Nat) (v : Bool) : (d.setRest n i v).pins = d.pins := (rfl)
@[simp] theorem Dev.setRest_sup (d : Dev) (n i : Nat) (v : Bool) : (d.setRest n i v).sup = d.sup := (rfl)
@[simp] theorem Dev.setRest_tk (d : Dev) (n i : Nat) (v : Bool) : (d.setRest n i v).tk = d.tk := (rfl)
@[simp] theorem Dev.setRest_rose (d : Dev) (n i : Nat) (v : Bool) : (d.setRest n i v).rose = d.rose := (rfl)
@[simp] theorem Dev.setRest_hp (d : Dev) (n i : Nat) (v : Bool) : (d.setRest n i v).hp = d.hp := (rfl)
@[simp] theorem Dev.setRest_lk (d : Dev) (n i : Nat) (v : Bool) : (d.setRest n i v).lk = d.lk := (rfl)
@[simp] theorem Dev.setRest_inp (d : Dev) (n i : Nat) (v : Bool) : (d.setRest n i v).inp = d.inp := (rfl)
@[simp] theorem Dev.setRest_fl (d : Dev) (n i : Nat) (v : Bool) : (d.setRest n i v).fl = d.fl := (rfl)
@[simp] theorem Dev.setRest_jr (d : Dev) (n i : Nat) (v : Bool) : (d.setRest n i v).jr = d.jr := (rfl)
@[simp] theorem Dev.setRest_pp (d : Dev) (n i : Nat) (v : Bool) : (d.setRest n i v).pp = d.pp := (rfl)
@[simp] theorem Dev.setRest_bl (d : Dev) (n i : Nat) (v : Bool) : (d.setRest n i v).bl = d.bl := (rfl)
@[simp] theorem Dev.setRest_tap (d : Dev) (n i : Nat) (v : Bool) : (d.setRest n i v).tap = d.tap := (rfl)
@[simp] theorem Dev.wr_variant (d : Dev) (p off : Nat) (w : Word) : (d.wr p off w).variant = d.variant := (rfl)
@[simp] theorem Dev.wr_clk (d : Dev) (p off : Nat) (w : Word) : (d.wr p off w).clk = d.clk := (rfl)
@[simp] theorem Dev.wr_draws (d : Dev) (p off : Nat) (w : Word) : (d.wr p off w).draws = d.draws := (rfl)
@[simp] theorem Dev.wr_seq (d : Dev) (p off : Nat) (w : Word) : (d.wr p off w).seq = d.seq := (rfl)
@[simp] theorem Dev.wr_hist (d : Dev) (p off : Nat) (w : Word) : (d.wr p off w).hist = d.hist := (rfl)
@[simp] theorem Dev.wr_shadow (d : Dev) (p off : Nat) (w : Word) : (d.wr p off w).shadow = d.shadow := (rfl)
@[simp] theorem Dev.wr_strobes (d : Dev) (p off : Nat) (w : Word) : (d.wr p off w).strobes = d.strobes := (rfl)
@[simp] theorem Dev.wr_mem (d : Dev) (p off : Nat) (w : Word) : (d.wr p off w).mem = d.mem := (rfl)
@[simp] theorem Dev.wr_acc (d : Dev) (p off : Nat) (w : Word) : (d.wr p off w).acc = d.acc := (rfl)
@[simp] theorem Dev.wr_tb (d : Dev) (p off : Nat) (w : Word) : (d.wr p off w).tb = d.tb := (rfl)
@[simp] theorem Dev.wr_plans (d : Dev) (p off : Nat) (w : Word) : (d.wr p off w).plans = d.plans := (rfl)
@[simp] theorem Dev.wr_queues (d : Dev) (p off : Nat) (w : Word) : (d.wr p off w).queues = d.queues := (rfl)
@[simp] theorem Dev.wr_obs (d : Dev) (p off : Nat) (w : Word) : (d.wr p off w).obs = d.obs := (rfl)
@[simp] theorem Dev.wr_gax (d : Dev) (p off : Nat) (w : Word) : (d.wr p off w).gax = d.gax := (rfl)
@[simp] theorem Dev.wr_ranks (d : Dev) (p off : Nat) (w : Word) : (d.wr p off w).ranks = d.ranks := (rfl)
@[simp] theorem Dev.wr_scr (d : Dev) (p off : Nat) (w : Word) : (d.wr p off w).scr = d.scr := (rfl)
@[simp] theorem Dev.wr_groves (d : Dev) (p off : Nat) (w : Word) : (d.wr p off w).groves = d.groves := (rfl)
@[simp] theorem Dev.wr_coils (d : Dev) (p off : Nat) (w : Word) : (d.wr p off w).coils = d.coils := (rfl)
@[simp] theorem Dev.wr_legs (d : Dev) (p off : Nat) (w : Word) : (d.wr p off w).legs = d.legs := (rfl)
@[simp] theorem Dev.wr_convs (d : Dev) (p off : Nat) (w : Word) : (d.wr p off w).convs = d.convs := (rfl)
@[simp] theorem Dev.wr_cals (d : Dev) (p off : Nat) (w : Word) : (d.wr p off w).cals = d.cals := (rfl)
@[simp] theorem Dev.wr_tw (d : Dev) (p off : Nat) (w : Word) : (d.wr p off w).tw = d.tw := (rfl)
@[simp] theorem Dev.wr_pins (d : Dev) (p off : Nat) (w : Word) : (d.wr p off w).pins = d.pins := (rfl)
@[simp] theorem Dev.wr_sup (d : Dev) (p off : Nat) (w : Word) : (d.wr p off w).sup = d.sup := (rfl)
@[simp] theorem Dev.wr_tk (d : Dev) (p off : Nat) (w : Word) : (d.wr p off w).tk = d.tk := (rfl)
@[simp] theorem Dev.wr_rose (d : Dev) (p off : Nat) (w : Word) : (d.wr p off w).rose = d.rose := (rfl)
@[simp] theorem Dev.wr_due (d : Dev) (p off : Nat) (w : Word) : (d.wr p off w).due = d.due := (rfl)
@[simp] theorem Dev.wr_hp (d : Dev) (p off : Nat) (w : Word) : (d.wr p off w).hp = d.hp := (rfl)
@[simp] theorem Dev.wr_lk (d : Dev) (p off : Nat) (w : Word) : (d.wr p off w).lk = d.lk := (rfl)
@[simp] theorem Dev.wr_inp (d : Dev) (p off : Nat) (w : Word) : (d.wr p off w).inp = d.inp := (rfl)
@[simp] theorem Dev.wr_fl (d : Dev) (p off : Nat) (w : Word) : (d.wr p off w).fl = d.fl := (rfl)
@[simp] theorem Dev.wr_jr (d : Dev) (p off : Nat) (w : Word) : (d.wr p off w).jr = d.jr := (rfl)
@[simp] theorem Dev.wr_pp (d : Dev) (p off : Nat) (w : Word) : (d.wr p off w).pp = d.pp := (rfl)
@[simp] theorem Dev.wr_bl (d : Dev) (p off : Nat) (w : Word) : (d.wr p off w).bl = d.bl := (rfl)
@[simp] theorem Dev.wr_tap (d : Dev) (p off : Nat) (w : Word) : (d.wr p off w).tap = d.tap := (rfl)
@[simp] theorem Dev.wf_variant (d : Dev) (p off hi lo v : Nat) : (d.wf p off hi lo v).variant = d.variant := (rfl)
@[simp] theorem Dev.wf_clk (d : Dev) (p off hi lo v : Nat) : (d.wf p off hi lo v).clk = d.clk := (rfl)
@[simp] theorem Dev.wf_draws (d : Dev) (p off hi lo v : Nat) : (d.wf p off hi lo v).draws = d.draws := (rfl)
@[simp] theorem Dev.wf_seq (d : Dev) (p off hi lo v : Nat) : (d.wf p off hi lo v).seq = d.seq := (rfl)
@[simp] theorem Dev.wf_hist (d : Dev) (p off hi lo v : Nat) : (d.wf p off hi lo v).hist = d.hist := (rfl)
@[simp] theorem Dev.wf_shadow (d : Dev) (p off hi lo v : Nat) : (d.wf p off hi lo v).shadow = d.shadow := (rfl)
@[simp] theorem Dev.wf_strobes (d : Dev) (p off hi lo v : Nat) : (d.wf p off hi lo v).strobes = d.strobes := (rfl)
@[simp] theorem Dev.wf_mem (d : Dev) (p off hi lo v : Nat) : (d.wf p off hi lo v).mem = d.mem := (rfl)
@[simp] theorem Dev.wf_acc (d : Dev) (p off hi lo v : Nat) : (d.wf p off hi lo v).acc = d.acc := (rfl)
@[simp] theorem Dev.wf_tb (d : Dev) (p off hi lo v : Nat) : (d.wf p off hi lo v).tb = d.tb := (rfl)
@[simp] theorem Dev.wf_plans (d : Dev) (p off hi lo v : Nat) : (d.wf p off hi lo v).plans = d.plans := (rfl)
@[simp] theorem Dev.wf_queues (d : Dev) (p off hi lo v : Nat) : (d.wf p off hi lo v).queues = d.queues := (rfl)
@[simp] theorem Dev.wf_obs (d : Dev) (p off hi lo v : Nat) : (d.wf p off hi lo v).obs = d.obs := (rfl)
@[simp] theorem Dev.wf_gax (d : Dev) (p off hi lo v : Nat) : (d.wf p off hi lo v).gax = d.gax := (rfl)
@[simp] theorem Dev.wf_ranks (d : Dev) (p off hi lo v : Nat) : (d.wf p off hi lo v).ranks = d.ranks := (rfl)
@[simp] theorem Dev.wf_scr (d : Dev) (p off hi lo v : Nat) : (d.wf p off hi lo v).scr = d.scr := (rfl)
@[simp] theorem Dev.wf_groves (d : Dev) (p off hi lo v : Nat) : (d.wf p off hi lo v).groves = d.groves := (rfl)
@[simp] theorem Dev.wf_coils (d : Dev) (p off hi lo v : Nat) : (d.wf p off hi lo v).coils = d.coils := (rfl)
@[simp] theorem Dev.wf_legs (d : Dev) (p off hi lo v : Nat) : (d.wf p off hi lo v).legs = d.legs := (rfl)
@[simp] theorem Dev.wf_convs (d : Dev) (p off hi lo v : Nat) : (d.wf p off hi lo v).convs = d.convs := (rfl)
@[simp] theorem Dev.wf_cals (d : Dev) (p off hi lo v : Nat) : (d.wf p off hi lo v).cals = d.cals := (rfl)
@[simp] theorem Dev.wf_tw (d : Dev) (p off hi lo v : Nat) : (d.wf p off hi lo v).tw = d.tw := (rfl)
@[simp] theorem Dev.wf_pins (d : Dev) (p off hi lo v : Nat) : (d.wf p off hi lo v).pins = d.pins := (rfl)
@[simp] theorem Dev.wf_sup (d : Dev) (p off hi lo v : Nat) : (d.wf p off hi lo v).sup = d.sup := (rfl)
@[simp] theorem Dev.wf_tk (d : Dev) (p off hi lo v : Nat) : (d.wf p off hi lo v).tk = d.tk := (rfl)
@[simp] theorem Dev.wf_rose (d : Dev) (p off hi lo v : Nat) : (d.wf p off hi lo v).rose = d.rose := (rfl)
@[simp] theorem Dev.wf_due (d : Dev) (p off hi lo v : Nat) : (d.wf p off hi lo v).due = d.due := (rfl)
@[simp] theorem Dev.wf_hp (d : Dev) (p off hi lo v : Nat) : (d.wf p off hi lo v).hp = d.hp := (rfl)
@[simp] theorem Dev.wf_lk (d : Dev) (p off hi lo v : Nat) : (d.wf p off hi lo v).lk = d.lk := (rfl)
@[simp] theorem Dev.wf_inp (d : Dev) (p off hi lo v : Nat) : (d.wf p off hi lo v).inp = d.inp := (rfl)
@[simp] theorem Dev.wf_fl (d : Dev) (p off hi lo v : Nat) : (d.wf p off hi lo v).fl = d.fl := (rfl)
@[simp] theorem Dev.wf_jr (d : Dev) (p off hi lo v : Nat) : (d.wf p off hi lo v).jr = d.jr := (rfl)
@[simp] theorem Dev.wf_pp (d : Dev) (p off hi lo v : Nat) : (d.wf p off hi lo v).pp = d.pp := (rfl)
@[simp] theorem Dev.wf_bl (d : Dev) (p off hi lo v : Nat) : (d.wf p off hi lo v).bl = d.bl := (rfl)
@[simp] theorem Dev.wf_tap (d : Dev) (p off hi lo v : Nat) : (d.wf p off hi lo v).tap = d.tap := (rfl)
@[simp] theorem Dev.incWrap_variant (d : Dev) (p off hi lo n : Nat) : (d.incWrap p off hi lo n).variant = d.variant := (rfl)
@[simp] theorem Dev.incWrap_clk (d : Dev) (p off hi lo n : Nat) : (d.incWrap p off hi lo n).clk = d.clk := (rfl)
@[simp] theorem Dev.incWrap_draws (d : Dev) (p off hi lo n : Nat) : (d.incWrap p off hi lo n).draws = d.draws := (rfl)
@[simp] theorem Dev.incWrap_seq (d : Dev) (p off hi lo n : Nat) : (d.incWrap p off hi lo n).seq = d.seq := (rfl)
@[simp] theorem Dev.incWrap_hist (d : Dev) (p off hi lo n : Nat) : (d.incWrap p off hi lo n).hist = d.hist := (rfl)
@[simp] theorem Dev.incWrap_shadow (d : Dev) (p off hi lo n : Nat) : (d.incWrap p off hi lo n).shadow = d.shadow := (rfl)
@[simp] theorem Dev.incWrap_strobes (d : Dev) (p off hi lo n : Nat) : (d.incWrap p off hi lo n).strobes = d.strobes := (rfl)
@[simp] theorem Dev.incWrap_mem (d : Dev) (p off hi lo n : Nat) : (d.incWrap p off hi lo n).mem = d.mem := (rfl)
@[simp] theorem Dev.incWrap_acc (d : Dev) (p off hi lo n : Nat) : (d.incWrap p off hi lo n).acc = d.acc := (rfl)
@[simp] theorem Dev.incWrap_tb (d : Dev) (p off hi lo n : Nat) : (d.incWrap p off hi lo n).tb = d.tb := (rfl)
@[simp] theorem Dev.incWrap_plans (d : Dev) (p off hi lo n : Nat) : (d.incWrap p off hi lo n).plans = d.plans := (rfl)
@[simp] theorem Dev.incWrap_queues (d : Dev) (p off hi lo n : Nat) : (d.incWrap p off hi lo n).queues = d.queues := (rfl)
@[simp] theorem Dev.incWrap_obs (d : Dev) (p off hi lo n : Nat) : (d.incWrap p off hi lo n).obs = d.obs := (rfl)
@[simp] theorem Dev.incWrap_gax (d : Dev) (p off hi lo n : Nat) : (d.incWrap p off hi lo n).gax = d.gax := (rfl)
@[simp] theorem Dev.incWrap_ranks (d : Dev) (p off hi lo n : Nat) : (d.incWrap p off hi lo n).ranks = d.ranks := (rfl)
@[simp] theorem Dev.incWrap_scr (d : Dev) (p off hi lo n : Nat) : (d.incWrap p off hi lo n).scr = d.scr := (rfl)
@[simp] theorem Dev.incWrap_groves (d : Dev) (p off hi lo n : Nat) : (d.incWrap p off hi lo n).groves = d.groves := (rfl)
@[simp] theorem Dev.incWrap_coils (d : Dev) (p off hi lo n : Nat) : (d.incWrap p off hi lo n).coils = d.coils := (rfl)
@[simp] theorem Dev.incWrap_legs (d : Dev) (p off hi lo n : Nat) : (d.incWrap p off hi lo n).legs = d.legs := (rfl)
@[simp] theorem Dev.incWrap_convs (d : Dev) (p off hi lo n : Nat) : (d.incWrap p off hi lo n).convs = d.convs := (rfl)
@[simp] theorem Dev.incWrap_cals (d : Dev) (p off hi lo n : Nat) : (d.incWrap p off hi lo n).cals = d.cals := (rfl)
@[simp] theorem Dev.incWrap_tw (d : Dev) (p off hi lo n : Nat) : (d.incWrap p off hi lo n).tw = d.tw := (rfl)
@[simp] theorem Dev.incWrap_pins (d : Dev) (p off hi lo n : Nat) : (d.incWrap p off hi lo n).pins = d.pins := (rfl)
@[simp] theorem Dev.incWrap_sup (d : Dev) (p off hi lo n : Nat) : (d.incWrap p off hi lo n).sup = d.sup := (rfl)
@[simp] theorem Dev.incWrap_tk (d : Dev) (p off hi lo n : Nat) : (d.incWrap p off hi lo n).tk = d.tk := (rfl)
@[simp] theorem Dev.incWrap_rose (d : Dev) (p off hi lo n : Nat) : (d.incWrap p off hi lo n).rose = d.rose := (rfl)
@[simp] theorem Dev.incWrap_due (d : Dev) (p off hi lo n : Nat) : (d.incWrap p off hi lo n).due = d.due := (rfl)
@[simp] theorem Dev.incWrap_hp (d : Dev) (p off hi lo n : Nat) : (d.incWrap p off hi lo n).hp = d.hp := (rfl)
@[simp] theorem Dev.incWrap_lk (d : Dev) (p off hi lo n : Nat) : (d.incWrap p off hi lo n).lk = d.lk := (rfl)
@[simp] theorem Dev.incWrap_inp (d : Dev) (p off hi lo n : Nat) : (d.incWrap p off hi lo n).inp = d.inp := (rfl)
@[simp] theorem Dev.incWrap_fl (d : Dev) (p off hi lo n : Nat) : (d.incWrap p off hi lo n).fl = d.fl := (rfl)
@[simp] theorem Dev.incWrap_jr (d : Dev) (p off hi lo n : Nat) : (d.incWrap p off hi lo n).jr = d.jr := (rfl)
@[simp] theorem Dev.incWrap_pp (d : Dev) (p off hi lo n : Nat) : (d.incWrap p off hi lo n).pp = d.pp := (rfl)
@[simp] theorem Dev.incWrap_bl (d : Dev) (p off hi lo n : Nat) : (d.incWrap p off hi lo n).bl = d.bl := (rfl)
@[simp] theorem Dev.incWrap_tap (d : Dev) (p off hi lo n : Nat) : (d.incWrap p off hi lo n).tap = d.tap := (rfl)
@[simp] theorem Dev.wr72_variant (d : Dev) (p off v : Nat) : (d.wr72 p off v).variant = d.variant := (rfl)
@[simp] theorem Dev.wr72_clk (d : Dev) (p off v : Nat) : (d.wr72 p off v).clk = d.clk := (rfl)
@[simp] theorem Dev.wr72_draws (d : Dev) (p off v : Nat) : (d.wr72 p off v).draws = d.draws := (rfl)
@[simp] theorem Dev.wr72_seq (d : Dev) (p off v : Nat) : (d.wr72 p off v).seq = d.seq := (rfl)
@[simp] theorem Dev.wr72_hist (d : Dev) (p off v : Nat) : (d.wr72 p off v).hist = d.hist := (rfl)
@[simp] theorem Dev.wr72_shadow (d : Dev) (p off v : Nat) : (d.wr72 p off v).shadow = d.shadow := (rfl)
@[simp] theorem Dev.wr72_strobes (d : Dev) (p off v : Nat) : (d.wr72 p off v).strobes = d.strobes := (rfl)
@[simp] theorem Dev.wr72_mem (d : Dev) (p off v : Nat) : (d.wr72 p off v).mem = d.mem := (rfl)
@[simp] theorem Dev.wr72_acc (d : Dev) (p off v : Nat) : (d.wr72 p off v).acc = d.acc := (rfl)
@[simp] theorem Dev.wr72_tb (d : Dev) (p off v : Nat) : (d.wr72 p off v).tb = d.tb := (rfl)
@[simp] theorem Dev.wr72_plans (d : Dev) (p off v : Nat) : (d.wr72 p off v).plans = d.plans := (rfl)
@[simp] theorem Dev.wr72_queues (d : Dev) (p off v : Nat) : (d.wr72 p off v).queues = d.queues := (rfl)
@[simp] theorem Dev.wr72_obs (d : Dev) (p off v : Nat) : (d.wr72 p off v).obs = d.obs := (rfl)
@[simp] theorem Dev.wr72_gax (d : Dev) (p off v : Nat) : (d.wr72 p off v).gax = d.gax := (rfl)
@[simp] theorem Dev.wr72_ranks (d : Dev) (p off v : Nat) : (d.wr72 p off v).ranks = d.ranks := (rfl)
@[simp] theorem Dev.wr72_scr (d : Dev) (p off v : Nat) : (d.wr72 p off v).scr = d.scr := (rfl)
@[simp] theorem Dev.wr72_groves (d : Dev) (p off v : Nat) : (d.wr72 p off v).groves = d.groves := (rfl)
@[simp] theorem Dev.wr72_coils (d : Dev) (p off v : Nat) : (d.wr72 p off v).coils = d.coils := (rfl)
@[simp] theorem Dev.wr72_legs (d : Dev) (p off v : Nat) : (d.wr72 p off v).legs = d.legs := (rfl)
@[simp] theorem Dev.wr72_convs (d : Dev) (p off v : Nat) : (d.wr72 p off v).convs = d.convs := (rfl)
@[simp] theorem Dev.wr72_cals (d : Dev) (p off v : Nat) : (d.wr72 p off v).cals = d.cals := (rfl)
@[simp] theorem Dev.wr72_tw (d : Dev) (p off v : Nat) : (d.wr72 p off v).tw = d.tw := (rfl)
@[simp] theorem Dev.wr72_pins (d : Dev) (p off v : Nat) : (d.wr72 p off v).pins = d.pins := (rfl)
@[simp] theorem Dev.wr72_sup (d : Dev) (p off v : Nat) : (d.wr72 p off v).sup = d.sup := (rfl)
@[simp] theorem Dev.wr72_tk (d : Dev) (p off v : Nat) : (d.wr72 p off v).tk = d.tk := (rfl)
@[simp] theorem Dev.wr72_rose (d : Dev) (p off v : Nat) : (d.wr72 p off v).rose = d.rose := (rfl)
@[simp] theorem Dev.wr72_due (d : Dev) (p off v : Nat) : (d.wr72 p off v).due = d.due := (rfl)
@[simp] theorem Dev.wr72_hp (d : Dev) (p off v : Nat) : (d.wr72 p off v).hp = d.hp := (rfl)
@[simp] theorem Dev.wr72_lk (d : Dev) (p off v : Nat) : (d.wr72 p off v).lk = d.lk := (rfl)
@[simp] theorem Dev.wr72_inp (d : Dev) (p off v : Nat) : (d.wr72 p off v).inp = d.inp := (rfl)
@[simp] theorem Dev.wr72_fl (d : Dev) (p off v : Nat) : (d.wr72 p off v).fl = d.fl := (rfl)
@[simp] theorem Dev.wr72_jr (d : Dev) (p off v : Nat) : (d.wr72 p off v).jr = d.jr := (rfl)
@[simp] theorem Dev.wr72_pp (d : Dev) (p off v : Nat) : (d.wr72 p off v).pp = d.pp := (rfl)
@[simp] theorem Dev.wr72_bl (d : Dev) (p off v : Nat) : (d.wr72 p off v).bl = d.bl := (rfl)
@[simp] theorem Dev.wr72_tap (d : Dev) (p off v : Nat) : (d.wr72 p off v).tap = d.tap := (rfl)
@[simp] theorem Dev.evt_variant (d : Dev) (p m : Nat) : (d.evt p m).variant = d.variant := (rfl)
@[simp] theorem Dev.evt_clk (d : Dev) (p m : Nat) : (d.evt p m).clk = d.clk := (rfl)
@[simp] theorem Dev.evt_draws (d : Dev) (p m : Nat) : (d.evt p m).draws = d.draws := (rfl)
@[simp] theorem Dev.evt_seq (d : Dev) (p m : Nat) : (d.evt p m).seq = d.seq := (rfl)
@[simp] theorem Dev.evt_hist (d : Dev) (p m : Nat) : (d.evt p m).hist = d.hist := (rfl)
@[simp] theorem Dev.evt_shadow (d : Dev) (p m : Nat) : (d.evt p m).shadow = d.shadow := (rfl)
@[simp] theorem Dev.evt_strobes (d : Dev) (p m : Nat) : (d.evt p m).strobes = d.strobes := (rfl)
@[simp] theorem Dev.evt_mem (d : Dev) (p m : Nat) : (d.evt p m).mem = d.mem := (rfl)
@[simp] theorem Dev.evt_acc (d : Dev) (p m : Nat) : (d.evt p m).acc = d.acc := (rfl)
@[simp] theorem Dev.evt_tb (d : Dev) (p m : Nat) : (d.evt p m).tb = d.tb := (rfl)
@[simp] theorem Dev.evt_plans (d : Dev) (p m : Nat) : (d.evt p m).plans = d.plans := (rfl)
@[simp] theorem Dev.evt_queues (d : Dev) (p m : Nat) : (d.evt p m).queues = d.queues := (rfl)
@[simp] theorem Dev.evt_obs (d : Dev) (p m : Nat) : (d.evt p m).obs = d.obs := (rfl)
@[simp] theorem Dev.evt_gax (d : Dev) (p m : Nat) : (d.evt p m).gax = d.gax := (rfl)
@[simp] theorem Dev.evt_ranks (d : Dev) (p m : Nat) : (d.evt p m).ranks = d.ranks := (rfl)
@[simp] theorem Dev.evt_scr (d : Dev) (p m : Nat) : (d.evt p m).scr = d.scr := (rfl)
@[simp] theorem Dev.evt_groves (d : Dev) (p m : Nat) : (d.evt p m).groves = d.groves := (rfl)
@[simp] theorem Dev.evt_coils (d : Dev) (p m : Nat) : (d.evt p m).coils = d.coils := (rfl)
@[simp] theorem Dev.evt_legs (d : Dev) (p m : Nat) : (d.evt p m).legs = d.legs := (rfl)
@[simp] theorem Dev.evt_convs (d : Dev) (p m : Nat) : (d.evt p m).convs = d.convs := (rfl)
@[simp] theorem Dev.evt_cals (d : Dev) (p m : Nat) : (d.evt p m).cals = d.cals := (rfl)
@[simp] theorem Dev.evt_tw (d : Dev) (p m : Nat) : (d.evt p m).tw = d.tw := (rfl)
@[simp] theorem Dev.evt_pins (d : Dev) (p m : Nat) : (d.evt p m).pins = d.pins := (rfl)
@[simp] theorem Dev.evt_sup (d : Dev) (p m : Nat) : (d.evt p m).sup = d.sup := (rfl)
@[simp] theorem Dev.evt_tk (d : Dev) (p m : Nat) : (d.evt p m).tk = d.tk := (rfl)
@[simp] theorem Dev.evt_due (d : Dev) (p m : Nat) : (d.evt p m).due = d.due := (rfl)
@[simp] theorem Dev.evt_hp (d : Dev) (p m : Nat) : (d.evt p m).hp = d.hp := (rfl)
@[simp] theorem Dev.evt_lk (d : Dev) (p m : Nat) : (d.evt p m).lk = d.lk := (rfl)
@[simp] theorem Dev.evt_inp (d : Dev) (p m : Nat) : (d.evt p m).inp = d.inp := (rfl)
@[simp] theorem Dev.evt_fl (d : Dev) (p m : Nat) : (d.evt p m).fl = d.fl := (rfl)
@[simp] theorem Dev.evt_jr (d : Dev) (p m : Nat) : (d.evt p m).jr = d.jr := (rfl)
@[simp] theorem Dev.evt_pp (d : Dev) (p m : Nat) : (d.evt p m).pp = d.pp := (rfl)
@[simp] theorem Dev.evt_bl (d : Dev) (p m : Nat) : (d.evt p m).bl = d.bl := (rfl)
@[simp] theorem Dev.evt_tap (d : Dev) (p m : Nat) : (d.evt p m).tap = d.tap := (rfl)
@[simp] theorem Dev.ev_variant (d : Dev) (p i : Nat) : (d.ev p i).variant = d.variant := (rfl)
@[simp] theorem Dev.ev_clk (d : Dev) (p i : Nat) : (d.ev p i).clk = d.clk := (rfl)
@[simp] theorem Dev.ev_draws (d : Dev) (p i : Nat) : (d.ev p i).draws = d.draws := (rfl)
@[simp] theorem Dev.ev_seq (d : Dev) (p i : Nat) : (d.ev p i).seq = d.seq := (rfl)
@[simp] theorem Dev.ev_hist (d : Dev) (p i : Nat) : (d.ev p i).hist = d.hist := (rfl)
@[simp] theorem Dev.ev_shadow (d : Dev) (p i : Nat) : (d.ev p i).shadow = d.shadow := (rfl)
@[simp] theorem Dev.ev_strobes (d : Dev) (p i : Nat) : (d.ev p i).strobes = d.strobes := (rfl)
@[simp] theorem Dev.ev_mem (d : Dev) (p i : Nat) : (d.ev p i).mem = d.mem := (rfl)
@[simp] theorem Dev.ev_acc (d : Dev) (p i : Nat) : (d.ev p i).acc = d.acc := (rfl)
@[simp] theorem Dev.ev_tb (d : Dev) (p i : Nat) : (d.ev p i).tb = d.tb := (rfl)
@[simp] theorem Dev.ev_plans (d : Dev) (p i : Nat) : (d.ev p i).plans = d.plans := (rfl)
@[simp] theorem Dev.ev_queues (d : Dev) (p i : Nat) : (d.ev p i).queues = d.queues := (rfl)
@[simp] theorem Dev.ev_obs (d : Dev) (p i : Nat) : (d.ev p i).obs = d.obs := (rfl)
@[simp] theorem Dev.ev_gax (d : Dev) (p i : Nat) : (d.ev p i).gax = d.gax := (rfl)
@[simp] theorem Dev.ev_ranks (d : Dev) (p i : Nat) : (d.ev p i).ranks = d.ranks := (rfl)
@[simp] theorem Dev.ev_scr (d : Dev) (p i : Nat) : (d.ev p i).scr = d.scr := (rfl)
@[simp] theorem Dev.ev_groves (d : Dev) (p i : Nat) : (d.ev p i).groves = d.groves := (rfl)
@[simp] theorem Dev.ev_coils (d : Dev) (p i : Nat) : (d.ev p i).coils = d.coils := (rfl)
@[simp] theorem Dev.ev_legs (d : Dev) (p i : Nat) : (d.ev p i).legs = d.legs := (rfl)
@[simp] theorem Dev.ev_convs (d : Dev) (p i : Nat) : (d.ev p i).convs = d.convs := (rfl)
@[simp] theorem Dev.ev_cals (d : Dev) (p i : Nat) : (d.ev p i).cals = d.cals := (rfl)
@[simp] theorem Dev.ev_tw (d : Dev) (p i : Nat) : (d.ev p i).tw = d.tw := (rfl)
@[simp] theorem Dev.ev_pins (d : Dev) (p i : Nat) : (d.ev p i).pins = d.pins := (rfl)
@[simp] theorem Dev.ev_sup (d : Dev) (p i : Nat) : (d.ev p i).sup = d.sup := (rfl)
@[simp] theorem Dev.ev_tk (d : Dev) (p i : Nat) : (d.ev p i).tk = d.tk := (rfl)
@[simp] theorem Dev.ev_due (d : Dev) (p i : Nat) : (d.ev p i).due = d.due := (rfl)
@[simp] theorem Dev.ev_hp (d : Dev) (p i : Nat) : (d.ev p i).hp = d.hp := (rfl)
@[simp] theorem Dev.ev_lk (d : Dev) (p i : Nat) : (d.ev p i).lk = d.lk := (rfl)
@[simp] theorem Dev.ev_inp (d : Dev) (p i : Nat) : (d.ev p i).inp = d.inp := (rfl)
@[simp] theorem Dev.ev_fl (d : Dev) (p i : Nat) : (d.ev p i).fl = d.fl := (rfl)
@[simp] theorem Dev.ev_jr (d : Dev) (p i : Nat) : (d.ev p i).jr = d.jr := (rfl)
@[simp] theorem Dev.ev_pp (d : Dev) (p i : Nat) : (d.ev p i).pp = d.pp := (rfl)
@[simp] theorem Dev.ev_bl (d : Dev) (p i : Nat) : (d.ev p i).bl = d.bl := (rfl)
@[simp] theorem Dev.ev_tap (d : Dev) (p i : Nat) : (d.ev p i).tap = d.tap := (rfl)
@[simp] theorem Dev.note_variant (d : Dev) : (d.note).variant = d.variant := (rfl)
@[simp] theorem Dev.note_clk (d : Dev) : (d.note).clk = d.clk := (rfl)
@[simp] theorem Dev.note_draws (d : Dev) : (d.note).draws = d.draws := (rfl)
@[simp] theorem Dev.note_seq (d : Dev) : (d.note).seq = d.seq := (rfl)
@[simp] theorem Dev.note_regs (d : Dev) : (d.note).regs = d.regs := (rfl)
@[simp] theorem Dev.note_shadow (d : Dev) : (d.note).shadow = d.shadow := (rfl)
@[simp] theorem Dev.note_strobes (d : Dev) : (d.note).strobes = d.strobes := (rfl)
@[simp] theorem Dev.note_mem (d : Dev) : (d.note).mem = d.mem := (rfl)
@[simp] theorem Dev.note_acc (d : Dev) : (d.note).acc = d.acc := (rfl)
@[simp] theorem Dev.note_tb (d : Dev) : (d.note).tb = d.tb := (rfl)
@[simp] theorem Dev.note_plans (d : Dev) : (d.note).plans = d.plans := (rfl)
@[simp] theorem Dev.note_queues (d : Dev) : (d.note).queues = d.queues := (rfl)
@[simp] theorem Dev.note_obs (d : Dev) : (d.note).obs = d.obs := (rfl)
@[simp] theorem Dev.note_gax (d : Dev) : (d.note).gax = d.gax := (rfl)
@[simp] theorem Dev.note_ranks (d : Dev) : (d.note).ranks = d.ranks := (rfl)
@[simp] theorem Dev.note_scr (d : Dev) : (d.note).scr = d.scr := (rfl)
@[simp] theorem Dev.note_groves (d : Dev) : (d.note).groves = d.groves := (rfl)
@[simp] theorem Dev.note_coils (d : Dev) : (d.note).coils = d.coils := (rfl)
@[simp] theorem Dev.note_legs (d : Dev) : (d.note).legs = d.legs := (rfl)
@[simp] theorem Dev.note_convs (d : Dev) : (d.note).convs = d.convs := (rfl)
@[simp] theorem Dev.note_cals (d : Dev) : (d.note).cals = d.cals := (rfl)
@[simp] theorem Dev.note_tw (d : Dev) : (d.note).tw = d.tw := (rfl)
@[simp] theorem Dev.note_pins (d : Dev) : (d.note).pins = d.pins := (rfl)
@[simp] theorem Dev.note_sup (d : Dev) : (d.note).sup = d.sup := (rfl)
@[simp] theorem Dev.note_tk (d : Dev) : (d.note).tk = d.tk := (rfl)
@[simp] theorem Dev.note_rose (d : Dev) : (d.note).rose = d.rose := (rfl)
@[simp] theorem Dev.note_due (d : Dev) : (d.note).due = d.due := (rfl)
@[simp] theorem Dev.note_hp (d : Dev) : (d.note).hp = d.hp := (rfl)
@[simp] theorem Dev.note_lk (d : Dev) : (d.note).lk = d.lk := (rfl)
@[simp] theorem Dev.note_inp (d : Dev) : (d.note).inp = d.inp := (rfl)
@[simp] theorem Dev.note_fl (d : Dev) : (d.note).fl = d.fl := (rfl)
@[simp] theorem Dev.note_jr (d : Dev) : (d.note).jr = d.jr := (rfl)
@[simp] theorem Dev.note_pp (d : Dev) : (d.note).pp = d.pp := (rfl)
@[simp] theorem Dev.note_bl (d : Dev) : (d.note).bl = d.bl := (rfl)
@[simp] theorem Dev.note_tap (d : Dev) : (d.note).tap = d.tap := (rfl)
@[simp] theorem Dev.strobe_variant (d : Dev) (m : Nat) : (d.strobe m).variant = d.variant := (rfl)
@[simp] theorem Dev.strobe_clk (d : Dev) (m : Nat) : (d.strobe m).clk = d.clk := (rfl)
@[simp] theorem Dev.strobe_draws (d : Dev) (m : Nat) : (d.strobe m).draws = d.draws := (rfl)
@[simp] theorem Dev.strobe_seq (d : Dev) (m : Nat) : (d.strobe m).seq = d.seq := (rfl)
@[simp] theorem Dev.strobe_regs (d : Dev) (m : Nat) : (d.strobe m).regs = d.regs := (rfl)
@[simp] theorem Dev.strobe_hist (d : Dev) (m : Nat) : (d.strobe m).hist = d.hist := (rfl)
@[simp] theorem Dev.strobe_shadow (d : Dev) (m : Nat) : (d.strobe m).shadow = d.shadow := (rfl)
@[simp] theorem Dev.strobe_mem (d : Dev) (m : Nat) : (d.strobe m).mem = d.mem := (rfl)
@[simp] theorem Dev.strobe_acc (d : Dev) (m : Nat) : (d.strobe m).acc = d.acc := (rfl)
@[simp] theorem Dev.strobe_tb (d : Dev) (m : Nat) : (d.strobe m).tb = d.tb := (rfl)
@[simp] theorem Dev.strobe_plans (d : Dev) (m : Nat) : (d.strobe m).plans = d.plans := (rfl)
@[simp] theorem Dev.strobe_queues (d : Dev) (m : Nat) : (d.strobe m).queues = d.queues := (rfl)
@[simp] theorem Dev.strobe_obs (d : Dev) (m : Nat) : (d.strobe m).obs = d.obs := (rfl)
@[simp] theorem Dev.strobe_gax (d : Dev) (m : Nat) : (d.strobe m).gax = d.gax := (rfl)
@[simp] theorem Dev.strobe_ranks (d : Dev) (m : Nat) : (d.strobe m).ranks = d.ranks := (rfl)
@[simp] theorem Dev.strobe_scr (d : Dev) (m : Nat) : (d.strobe m).scr = d.scr := (rfl)
@[simp] theorem Dev.strobe_groves (d : Dev) (m : Nat) : (d.strobe m).groves = d.groves := (rfl)
@[simp] theorem Dev.strobe_coils (d : Dev) (m : Nat) : (d.strobe m).coils = d.coils := (rfl)
@[simp] theorem Dev.strobe_legs (d : Dev) (m : Nat) : (d.strobe m).legs = d.legs := (rfl)
@[simp] theorem Dev.strobe_convs (d : Dev) (m : Nat) : (d.strobe m).convs = d.convs := (rfl)
@[simp] theorem Dev.strobe_cals (d : Dev) (m : Nat) : (d.strobe m).cals = d.cals := (rfl)
@[simp] theorem Dev.strobe_tw (d : Dev) (m : Nat) : (d.strobe m).tw = d.tw := (rfl)
@[simp] theorem Dev.strobe_pins (d : Dev) (m : Nat) : (d.strobe m).pins = d.pins := (rfl)
@[simp] theorem Dev.strobe_sup (d : Dev) (m : Nat) : (d.strobe m).sup = d.sup := (rfl)
@[simp] theorem Dev.strobe_tk (d : Dev) (m : Nat) : (d.strobe m).tk = d.tk := (rfl)
@[simp] theorem Dev.strobe_rose (d : Dev) (m : Nat) : (d.strobe m).rose = d.rose := (rfl)
@[simp] theorem Dev.strobe_due (d : Dev) (m : Nat) : (d.strobe m).due = d.due := (rfl)
@[simp] theorem Dev.strobe_hp (d : Dev) (m : Nat) : (d.strobe m).hp = d.hp := (rfl)
@[simp] theorem Dev.strobe_lk (d : Dev) (m : Nat) : (d.strobe m).lk = d.lk := (rfl)
@[simp] theorem Dev.strobe_inp (d : Dev) (m : Nat) : (d.strobe m).inp = d.inp := (rfl)
@[simp] theorem Dev.strobe_fl (d : Dev) (m : Nat) : (d.strobe m).fl = d.fl := (rfl)
@[simp] theorem Dev.strobe_jr (d : Dev) (m : Nat) : (d.strobe m).jr = d.jr := (rfl)
@[simp] theorem Dev.strobe_pp (d : Dev) (m : Nat) : (d.strobe m).pp = d.pp := (rfl)
@[simp] theorem Dev.strobe_bl (d : Dev) (m : Nat) : (d.strobe m).bl = d.bl := (rfl)
@[simp] theorem Dev.strobe_tap (d : Dev) (m : Nat) : (d.strobe m).tap = d.tap := (rfl)
@[simp] theorem Dev.shadowPut_variant (d : Dev) (p off : Nat) (w : Word) : (d.shadowPut p off w).variant = d.variant := (rfl)
@[simp] theorem Dev.shadowPut_clk (d : Dev) (p off : Nat) (w : Word) : (d.shadowPut p off w).clk = d.clk := (rfl)
@[simp] theorem Dev.shadowPut_draws (d : Dev) (p off : Nat) (w : Word) : (d.shadowPut p off w).draws = d.draws := (rfl)
@[simp] theorem Dev.shadowPut_regs (d : Dev) (p off : Nat) (w : Word) : (d.shadowPut p off w).regs = d.regs := (rfl)
@[simp] theorem Dev.shadowPut_hist (d : Dev) (p off : Nat) (w : Word) : (d.shadowPut p off w).hist = d.hist := (rfl)
@[simp] theorem Dev.shadowPut_strobes (d : Dev) (p off : Nat) (w : Word) : (d.shadowPut p off w).strobes = d.strobes := (rfl)
@[simp] theorem Dev.shadowPut_mem (d : Dev) (p off : Nat) (w : Word) : (d.shadowPut p off w).mem = d.mem := (rfl)
@[simp] theorem Dev.shadowPut_acc (d : Dev) (p off : Nat) (w : Word) : (d.shadowPut p off w).acc = d.acc := (rfl)
@[simp] theorem Dev.shadowPut_tb (d : Dev) (p off : Nat) (w : Word) : (d.shadowPut p off w).tb = d.tb := (rfl)
@[simp] theorem Dev.shadowPut_plans (d : Dev) (p off : Nat) (w : Word) : (d.shadowPut p off w).plans = d.plans := (rfl)
@[simp] theorem Dev.shadowPut_queues (d : Dev) (p off : Nat) (w : Word) : (d.shadowPut p off w).queues = d.queues := (rfl)
@[simp] theorem Dev.shadowPut_obs (d : Dev) (p off : Nat) (w : Word) : (d.shadowPut p off w).obs = d.obs := (rfl)
@[simp] theorem Dev.shadowPut_gax (d : Dev) (p off : Nat) (w : Word) : (d.shadowPut p off w).gax = d.gax := (rfl)
@[simp] theorem Dev.shadowPut_ranks (d : Dev) (p off : Nat) (w : Word) : (d.shadowPut p off w).ranks = d.ranks := (rfl)
@[simp] theorem Dev.shadowPut_scr (d : Dev) (p off : Nat) (w : Word) : (d.shadowPut p off w).scr = d.scr := (rfl)
@[simp] theorem Dev.shadowPut_groves (d : Dev) (p off : Nat) (w : Word) : (d.shadowPut p off w).groves = d.groves := (rfl)
@[simp] theorem Dev.shadowPut_coils (d : Dev) (p off : Nat) (w : Word) : (d.shadowPut p off w).coils = d.coils := (rfl)
@[simp] theorem Dev.shadowPut_legs (d : Dev) (p off : Nat) (w : Word) : (d.shadowPut p off w).legs = d.legs := (rfl)
@[simp] theorem Dev.shadowPut_convs (d : Dev) (p off : Nat) (w : Word) : (d.shadowPut p off w).convs = d.convs := (rfl)
@[simp] theorem Dev.shadowPut_cals (d : Dev) (p off : Nat) (w : Word) : (d.shadowPut p off w).cals = d.cals := (rfl)
@[simp] theorem Dev.shadowPut_tw (d : Dev) (p off : Nat) (w : Word) : (d.shadowPut p off w).tw = d.tw := (rfl)
@[simp] theorem Dev.shadowPut_pins (d : Dev) (p off : Nat) (w : Word) : (d.shadowPut p off w).pins = d.pins := (rfl)
@[simp] theorem Dev.shadowPut_sup (d : Dev) (p off : Nat) (w : Word) : (d.shadowPut p off w).sup = d.sup := (rfl)
@[simp] theorem Dev.shadowPut_tk (d : Dev) (p off : Nat) (w : Word) : (d.shadowPut p off w).tk = d.tk := (rfl)
@[simp] theorem Dev.shadowPut_rose (d : Dev) (p off : Nat) (w : Word) : (d.shadowPut p off w).rose = d.rose := (rfl)
@[simp] theorem Dev.shadowPut_due (d : Dev) (p off : Nat) (w : Word) : (d.shadowPut p off w).due = d.due := (rfl)
@[simp] theorem Dev.shadowPut_hp (d : Dev) (p off : Nat) (w : Word) : (d.shadowPut p off w).hp = d.hp := (rfl)
@[simp] theorem Dev.shadowPut_lk (d : Dev) (p off : Nat) (w : Word) : (d.shadowPut p off w).lk = d.lk := (rfl)
@[simp] theorem Dev.shadowPut_inp (d : Dev) (p off : Nat) (w : Word) : (d.shadowPut p off w).inp = d.inp := (rfl)
@[simp] theorem Dev.shadowPut_fl (d : Dev) (p off : Nat) (w : Word) : (d.shadowPut p off w).fl = d.fl := (rfl)
@[simp] theorem Dev.shadowPut_jr (d : Dev) (p off : Nat) (w : Word) : (d.shadowPut p off w).jr = d.jr := (rfl)
@[simp] theorem Dev.shadowPut_pp (d : Dev) (p off : Nat) (w : Word) : (d.shadowPut p off w).pp = d.pp := (rfl)
@[simp] theorem Dev.shadowPut_bl (d : Dev) (p off : Nat) (w : Word) : (d.shadowPut p off w).bl = d.bl := (rfl)
@[simp] theorem Dev.shadowPut_tap (d : Dev) (p off : Nat) (w : Word) : (d.shadowPut p off w).tap = d.tap := (rfl)

end Sys2Proof.Machine
end

