-- ==== Sys2Proof/Laws/Tables.lean ====
section
/-!
SUPPORT. Laws/Tables: sparse tables, the registers kept in one, and the canonical form of memory.
-/
namespace Sys2Proof.Machine

/-! ### Reading after writing -/

theorem Tab.look_put_eq {α : Type} (t : Tab α) (k : Nat) (v : α) : (t.put k v).look k = some v := by
  induction t with
  | nil => simp [Tab.put, Tab.look]
  | cons e t ih =>
    obtain ⟨k', v'⟩ := e
    by_cases h1 : k' = k
    · simp [Tab.put, Tab.look, h1]
    · by_cases h2 : k < k'
      · simp [Tab.put, Tab.look, h1, h2]
      · simp [Tab.put, Tab.look, h1, h2, ih]

theorem Tab.look_put_ne {α : Type} (t : Tab α) {k k' : Nat} (v : α) (h : k ≠ k') : (t.put k v).look k' = t.look k' := by
  induction t with
  | nil => simp [Tab.put, Tab.look, h]
  | cons e t ih =>
    obtain ⟨x, y⟩ := e
    by_cases h1 : x = k
    · subst h1
      simp [Tab.put, Tab.look, h]
    · by_cases h2 : k < x
      · simp [Tab.put, Tab.look, h1, h2, h]
      · simp [Tab.put, Tab.look, h1, h2, ih]

theorem Tab.look_erase_eq {α : Type} (t : Tab α) (k : Nat) : (t.erase k).look k = none := by
  induction t with
  | nil => rfl
  | cons e t ih =>
    obtain ⟨x, y⟩ := e
    by_cases h1 : x = k
    · simp [Tab.erase, h1, ih]
    · simp [Tab.erase, Tab.look, h1, ih]

theorem Tab.look_erase_ne {α : Type} (t : Tab α) {k k' : Nat} (h : k ≠ k') : (t.erase k).look k' = t.look k' := by
  induction t with
  | nil => rfl
  | cons e t ih =>
    obtain ⟨x, y⟩ := e
    by_cases h1 : x = k
    · subst h1
      simp [Tab.erase, Tab.look, h, ih]
    · simp [Tab.erase, Tab.look, h1, ih]

/-- A table reads at a key what was last set there. -/
@[simp] theorem Tab.get_set_eq {α : Type} [DecidableEq α] (t : Tab α) (k : Nat) (v dflt : α) :
    (t.set k v dflt).get k dflt = v := by
  by_cases h : v = dflt
  · simp [Tab.set, Tab.get, h, Tab.look_erase_eq]
  · simp [Tab.set, Tab.get, h, Tab.look_put_eq]

/-- Setting one key leaves every other as it was. -/
theorem Tab.get_set_ne {α : Type} [DecidableEq α] (t : Tab α) {k k' : Nat} (v dflt dflt' : α) (h : k ≠ k') :
    (t.set k v dflt).get k' dflt' = t.get k' dflt' := by
  by_cases hv : v = dflt
  · simp [Tab.set, Tab.get, hv, Tab.look_erase_ne _ h]
  · simp [Tab.set, Tab.get, hv, Tab.look_put_ne _ _ h]

/-! ### The units' tables -/

@[simp] theorem Dev.plan_setPlan (d : Dev) (n : Nat) (x : Plan) : (d.setPlan n x).plan n = x := by simp [Dev.plan, Dev.setPlan]
@[simp] theorem Dev.queue_setQueue (d : Dev) (n : Nat) (x : Queue) : (d.setQueue n x).queue n = x := by simp [Dev.queue, Dev.setQueue]
@[simp] theorem Dev.ob_setOb (d : Dev) (n : Nat) (x : Observer) : (d.setOb n x).ob n = x := by simp [Dev.ob, Dev.setOb]
@[simp] theorem Dev.ga_setGa (d : Dev) (n : Nat) (x : GAxis) : (d.setGa n x).ga n = x := by simp [Dev.ga, Dev.setGa]
@[simp] theorem Dev.grove_setGrove (d : Dev) (g : Nat) (x : Grove) : (d.setGrove g x).grove g = x := by simp [Dev.grove, Dev.setGrove]
@[simp] theorem Dev.coil_setCoil (d : Dev) (c : Nat) (x : Coil) : (d.setCoil c x).coil c = x := by simp [Dev.coil, Dev.setCoil]
@[simp] theorem Dev.leg_setLeg (d : Dev) (l : Nat) (x : Leg) : (d.setLeg l x).leg l = x := by simp [Dev.leg, Dev.setLeg]
@[simp] theorem Dev.conv_setConv (d : Dev) (i : Nat) (x : Conv) : (d.setConv i x).conv i = x := by simp [Dev.conv, Dev.setConv]
@[simp] theorem Dev.calSt_setCal (d : Dev) (g : Nat) (x : CalState) : (d.setCal g x).calSt g = x := by simp [Dev.calSt, Dev.setCal]

theorem Dev.plan_setPlan_ne (d : Dev) {n m : Nat} (x : Plan) (h : n ≠ m) : (d.setPlan n x).plan m = d.plan m := by
  simp [Dev.plan, Dev.setPlan, Tab.get_set_ne _ _ _ _ h]
theorem Dev.queue_setQueue_ne (d : Dev) {n m : Nat} (x : Queue) (h : n ≠ m) : (d.setQueue n x).queue m = d.queue m := by
  simp [Dev.queue, Dev.setQueue, Tab.get_set_ne _ _ _ _ h]
theorem Dev.ob_setOb_ne (d : Dev) {n m : Nat} (x : Observer) (h : n ≠ m) : (d.setOb n x).ob m = d.ob m := by
  simp [Dev.ob, Dev.setOb, Tab.get_set_ne _ _ _ _ h]
theorem Dev.ga_setGa_ne (d : Dev) {n m : Nat} (x : GAxis) (h : n ≠ m) : (d.setGa n x).ga m = d.ga m := by
  simp [Dev.ga, Dev.setGa, Tab.get_set_ne _ _ _ _ h]
theorem Dev.grove_setGrove_ne (d : Dev) {g h : Nat} (x : Grove) (hn : g ≠ h) : (d.setGrove g x).grove h = d.grove h := by
  simp [Dev.grove, Dev.setGrove, Tab.get_set_ne _ _ _ _ hn]
theorem Dev.coil_setCoil_ne (d : Dev) {c e : Nat} (x : Coil) (h : c ≠ e) : (d.setCoil c x).coil e = d.coil e := by
  simp [Dev.coil, Dev.setCoil, Tab.get_set_ne _ _ _ _ h]
theorem Dev.leg_setLeg_ne (d : Dev) {l m : Nat} (x : Leg) (h : l ≠ m) : (d.setLeg l x).leg m = d.leg m := by
  simp [Dev.leg, Dev.setLeg, Tab.get_set_ne _ _ _ _ h]
theorem Dev.conv_setConv_ne (d : Dev) {i j : Nat} (x : Conv) (h : i ≠ j) : (d.setConv i x).conv j = d.conv j := by
  simp [Dev.conv, Dev.setConv, Tab.get_set_ne _ _ _ _ h]
theorem Dev.calSt_setCal_ne (d : Dev) {g h : Nat} (x : CalState) (hn : g ≠ h) : (d.setCal g x).calSt h = d.calSt h := by
  simp [Dev.calSt, Dev.setCal, Tab.get_set_ne _ _ _ _ hn]

/-! ### Registers -/

theorem key_inj {p q o r : Nat} (ho : o < 1024) (hr : r < 1024) : key p o = key q r ↔ p = q ∧ o = r := by
  unfold key; omega

/-- A register reads what was last written to it. -/
@[simp] theorem Dev.rd_wr_eq (d : Dev) (p off : Nat) (w : Word) : (d.wr p off w).rd p off = w := by
  simp [Dev.rd, Dev.wr]

/-- A write of one register leaves every other as it was. -/
theorem Dev.rd_wr_ne (d : Dev) {p off q o : Nat} (w : Word) (h : key p off ≠ key q o) :
    (d.wr p off w).rd q o = d.rd q o := by
  simp [Dev.rd, Dev.wr, Tab.get_set_ne _ _ _ _ h]

theorem Dev.rd_wf_ne (d : Dev) {p off q o : Nat} (hi lo v : Nat) (h : key p off ≠ key q o) :
    (d.wf p off hi lo v).rd q o = d.rd q o := d.rd_wr_ne _ h

theorem Dev.rd_evt_ne (d : Dev) {p q o : Nat} (m : Nat) (h : key p Reg.PAGE_EVT ≠ key q o) :
    (d.evt p m).rd q o = d.rd q o := d.rd_wr_ne _ h

theorem Dev.rd_ev_ne (d : Dev) {p q o : Nat} (i : Nat) (h : key p Reg.PAGE_EVT ≠ key q o) :
    (d.ev p i).rd q o = d.rd q o := d.rd_wr_ne _ h

/-- An event bit that the device sets reads 1 (R50). -/
theorem Dev.ev_bit (d : Dev) (p i : Nat) (h : i < 36) : ((d.ev p i).rd p Reg.PAGE_EVT).getLsbD i = true := by
  show (((d.wr p Reg.PAGE_EVT (BitVec.ofNat 36 ((d.rd p Reg.PAGE_EVT).toNat ||| 2 ^ i))).rd p Reg.PAGE_EVT)).getLsbD i = true
  rw [Dev.rd_wr_eq, BitVec.getLsbD_ofNat, Nat.testBit_or, Nat.testBit_two_pow_self]
  simp [h]

/-! ### Saturating counters change their register only -/

@[simp] theorem Dev.incSat_variant (d : Dev) (p o hi lo : Nat) : (d.incSat p o hi lo).variant = d.variant := by unfold Dev.incSat; dsimp only; split <;> rfl
@[simp] theorem Dev.incSat_clk (d : Dev) (p o hi lo : Nat) : (d.incSat p o hi lo).clk = d.clk := by unfold Dev.incSat; dsimp only; split <;> rfl
@[simp] theorem Dev.incSat_draws (d : Dev) (p o hi lo : Nat) : (d.incSat p o hi lo).draws = d.draws := by unfold Dev.incSat; dsimp only; split <;> rfl
@[simp] theorem Dev.incSat_seq (d : Dev) (p o hi lo : Nat) : (d.incSat p o hi lo).seq = d.seq := by unfold Dev.incSat; dsimp only; split <;> rfl
@[simp] theorem Dev.incSat_hist (d : Dev) (p o hi lo : Nat) : (d.incSat p o hi lo).hist = d.hist := by unfold Dev.incSat; dsimp only; split <;> rfl
@[simp] theorem Dev.incSat_shadow (d : Dev) (p o hi lo : Nat) : (d.incSat p o hi lo).shadow = d.shadow := by unfold Dev.incSat; dsimp only; split <;> rfl
@[simp] theorem Dev.incSat_strobes (d : Dev) (p o hi lo : Nat) : (d.incSat p o hi lo).strobes = d.strobes := by unfold Dev.incSat; dsimp only; split <;> rfl
@[simp] theorem Dev.incSat_mem (d : Dev) (p o hi lo : Nat) : (d.incSat p o hi lo).mem = d.mem := by unfold Dev.incSat; dsimp only; split <;> rfl
@[simp] theorem Dev.incSat_acc (d : Dev) (p o hi lo : Nat) : (d.incSat p o hi lo).acc = d.acc := by unfold Dev.incSat; dsimp only; split <;> rfl
@[simp] theorem Dev.incSat_tb (d : Dev) (p o hi lo : Nat) : (d.incSat p o hi lo).tb = d.tb := by unfold Dev.incSat; dsimp only; split <;> rfl
@[simp] theorem Dev.incSat_plans (d : Dev) (p o hi lo : Nat) : (d.incSat p o hi lo).plans = d.plans := by unfold Dev.incSat; dsimp only; split <;> rfl
@[simp] theorem Dev.incSat_queues (d : Dev) (p o hi lo : Nat) : (d.incSat p o hi lo).queues = d.queues := by unfold Dev.incSat; dsimp only; split <;> rfl
@[simp] theorem Dev.incSat_obs (d : Dev) (p o hi lo : Nat) : (d.incSat p o hi lo).obs = d.obs := by unfold Dev.incSat; dsimp only; split <;> rfl
@[simp] theorem Dev.incSat_gax (d : Dev) (p o hi lo : Nat) : (d.incSat p o hi lo).gax = d.gax := by unfold Dev.incSat; dsimp only; split <;> rfl
@[simp] theorem Dev.incSat_ranks (d : Dev) (p o hi lo : Nat) : (d.incSat p o hi lo).ranks = d.ranks := by unfold Dev.incSat; dsimp only; split <;> rfl
@[simp] theorem Dev.incSat_scr (d : Dev) (p o hi lo : Nat) : (d.incSat p o hi lo).scr = d.scr := by unfold Dev.incSat; dsimp only; split <;> rfl
@[simp] theorem Dev.incSat_groves (d : Dev) (p o hi lo : Nat) : (d.incSat p o hi lo).groves = d.groves := by unfold Dev.incSat; dsimp only; split <;> rfl
@[simp] theorem Dev.incSat_coils (d : Dev) (p o hi lo : Nat) : (d.incSat p o hi lo).coils = d.coils := by unfold Dev.incSat; dsimp only; split <;> rfl
@[simp] theorem Dev.incSat_legs (d : Dev) (p o hi lo : Nat) : (d.incSat p o hi lo).legs = d.legs := by unfold Dev.incSat; dsimp only; split <;> rfl
@[simp] theorem Dev.incSat_convs (d : Dev) (p o hi lo : Nat) : (d.incSat p o hi lo).convs = d.convs := by unfold Dev.incSat; dsimp only; split <;> rfl
@[simp] theorem Dev.incSat_cals (d : Dev) (p o hi lo : Nat) : (d.incSat p o hi lo).cals = d.cals := by unfold Dev.incSat; dsimp only; split <;> rfl
@[simp] theorem Dev.incSat_tw (d : Dev) (p o hi lo : Nat) : (d.incSat p o hi lo).tw = d.tw := by unfold Dev.incSat; dsimp only; split <;> rfl
@[simp] theorem Dev.incSat_pins (d : Dev) (p o hi lo : Nat) : (d.incSat p o hi lo).pins = d.pins := by unfold Dev.incSat; dsimp only; split <;> rfl
@[simp] theorem Dev.incSat_sup (d : Dev) (p o hi lo : Nat) : (d.incSat p o hi lo).sup = d.sup := by unfold Dev.incSat; dsimp only; split <;> rfl
@[simp] theorem Dev.incSat_tk (d : Dev) (p o hi lo : Nat) : (d.incSat p o hi lo).tk = d.tk := by unfold Dev.incSat; dsimp only; split <;> rfl
@[simp] theorem Dev.incSat_rose (d : Dev) (p o hi lo : Nat) : (d.incSat p o hi lo).rose = d.rose := by unfold Dev.incSat; dsimp only; split <;> rfl
@[simp] theorem Dev.incSat_due (d : Dev) (p o hi lo : Nat) : (d.incSat p o hi lo).due = d.due := by unfold Dev.incSat; dsimp only; split <;> rfl
@[simp] theorem Dev.incSat_hp (d : Dev) (p o hi lo : Nat) : (d.incSat p o hi lo).hp = d.hp := by unfold Dev.incSat; dsimp only; split <;> rfl
@[simp] theorem Dev.incSat_lk (d : Dev) (p o hi lo : Nat) : (d.incSat p o hi lo).lk = d.lk := by unfold Dev.incSat; dsimp only; split <;> rfl
@[simp] theorem Dev.incSat_inp (d : Dev) (p o hi lo : Nat) : (d.incSat p o hi lo).inp = d.inp := by unfold Dev.incSat; dsimp only; split <;> rfl
@[simp] theorem Dev.incSat_fl (d : Dev) (p o hi lo : Nat) : (d.incSat p o hi lo).fl = d.fl := by unfold Dev.incSat; dsimp only; split <;> rfl
@[simp] theorem Dev.incSat_jr (d : Dev) (p o hi lo : Nat) : (d.incSat p o hi lo).jr = d.jr := by unfold Dev.incSat; dsimp only; split <;> rfl
@[simp] theorem Dev.incSat_pp (d : Dev) (p o hi lo : Nat) : (d.incSat p o hi lo).pp = d.pp := by unfold Dev.incSat; dsimp only; split <;> rfl
@[simp] theorem Dev.incSat_bl (d : Dev) (p o hi lo : Nat) : (d.incSat p o hi lo).bl = d.bl := by unfold Dev.incSat; dsimp only; split <;> rfl
@[simp] theorem Dev.incSat_tap (d : Dev) (p o hi lo : Nat) : (d.incSat p o hi lo).tap = d.tap := by unfold Dev.incSat; dsimp only; split <;> rfl

theorem Dev.rd_incSat_ne (d : Dev) {p off q o : Nat} (hi lo : Nat) (h : key p off ≠ key q o) :
    (d.incSat p off hi lo).rd q o = d.rd q o := by
  unfold Dev.incSat
  dsimp only
  split
  · exact d.rd_wf_ne _ _ _ h
  · rfl

/-- A counter field of a register reads one more after a count, up to its largest value. -/
theorem Dev.rd_incSat_eq (d : Dev) (p off hi lo : Nat) :
    (d.incSat p off hi lo).rd p off =
      if d.rf p off hi lo + 1 < 2 ^ (hi - lo + 1) then setFld (d.rd p off) hi lo (d.rf p off hi lo + 1) else d.rd p off := by
  unfold Dev.incSat
  dsimp only
  split
  · exact d.rd_wr_eq _ _ _
  · rfl

/-! ### The canonical form (Tab.wf) -/

theorem Tab.rising_mono {α : Type} (t : Tab α) {lo lo' : Nat} (h : lo' ≤ lo) (ht : Tab.rising lo t = true) :
    Tab.rising lo' t = true := by
  cases t with
  | nil => rfl
  | cons e t =>
    obtain ⟨k, v⟩ := e
    simp only [Tab.rising, Bool.and_eq_true, decide_eq_true_eq] at ht ⊢
    exact ⟨by omega, ht.2⟩

theorem Tab.rising_put {α : Type} (t : Tab α) (k : Nat) (v : α) (lo : Nat) (hk : lo ≤ k) (ht : Tab.rising lo t = true) :
    Tab.rising lo (t.put k v) = true := by
  induction t generalizing lo with
  | nil => simp [Tab.put, Tab.rising, hk]
  | cons e t ih =>
    obtain ⟨x, y⟩ := e
    simp only [Tab.rising, Bool.and_eq_true, decide_eq_true_eq] at ht
    by_cases h1 : x = k
    · subst h1
      simp [Tab.put, Tab.rising, hk, ht.2]
    · by_cases h2 : k < x
      · simp [Tab.put, Tab.rising, h1, h2, hk, ht.2]
      · simp only [Tab.put, h1, h2, if_false, Tab.rising, Bool.and_eq_true, decide_eq_true_eq]
        exact ⟨ht.1, ih (x + 1) (by omega) ht.2⟩

theorem Tab.rising_erase {α : Type} (t : Tab α) (k lo : Nat) (ht : Tab.rising lo t = true) : Tab.rising lo (t.erase k) = true := by
  induction t generalizing lo with
  | nil => rfl
  | cons e t ih =>
    obtain ⟨x, y⟩ := e
    simp only [Tab.rising, Bool.and_eq_true, decide_eq_true_eq] at ht
    by_cases h1 : x = k
    · simp only [Tab.erase, h1, if_true]
      exact ih lo (Tab.rising_mono t (by omega) ht.2)
    · simp only [Tab.erase, h1, if_false, Tab.rising, Bool.and_eq_true, decide_eq_true_eq]
      exact ⟨ht.1, ih (x + 1) ht.2⟩

theorem Tab.rising_filter {α : Type} (t : Tab α) (f : Nat × α → Bool) (lo : Nat) (ht : Tab.rising lo t = true) :
    Tab.rising lo (t.filter f) = true := by
  induction t generalizing lo with
  | nil => rfl
  | cons e t ih =>
    obtain ⟨x, y⟩ := e
    simp only [Tab.rising, Bool.and_eq_true, decide_eq_true_eq] at ht
    by_cases h : f (x, y) = true
    · simp only [List.filter_cons, h, if_true, Tab.rising, Bool.and_eq_true, decide_eq_true_eq]
      exact ⟨ht.1, ih (x + 1) ht.2⟩
    · simp only [List.filter_cons, h]
      exact ih lo (Tab.rising_mono t (by omega) ht.2)

theorem Tab.mem_put {α : Type} (t : Tab α) (k : Nat) (v : α) (e : Nat × α) (h : e ∈ t.put k v) : e = (k, v) ∨ e ∈ t := by
  induction t with
  | nil => simpa [Tab.put] using h
  | cons x t ih =>
    obtain ⟨a, b⟩ := x
    by_cases h1 : a = k
    · simp only [Tab.put, h1, if_true, List.mem_cons] at h
      rcases h with h | h
      · exact .inl h
      · exact .inr (List.mem_cons_of_mem _ h)
    · by_cases h2 : k < a
      · simp only [Tab.put, h1, h2, if_true, if_false, List.mem_cons] at h
        rcases h with h | h | h
        · exact .inl h
        · exact .inr (by simp [h])
        · exact .inr (List.mem_cons_of_mem _ h)
      · simp only [Tab.put, h1, h2, if_false, List.mem_cons] at h
        rcases h with h | h
        · exact .inr (by simp [h])
        · rcases ih h with h | h
          · exact .inl h
          · exact .inr (List.mem_cons_of_mem _ h)

theorem Tab.mem_erase {α : Type} (t : Tab α) (k : Nat) (e : Nat × α) (h : e ∈ t.erase k) : e ∈ t := by
  induction t with
  | nil => exact h
  | cons x t ih =>
    obtain ⟨a, b⟩ := x
    by_cases h1 : a = k
    · simp only [Tab.erase, h1, if_true] at h
      exact List.mem_cons_of_mem _ (ih h)
    · simp only [Tab.erase, h1, if_false, List.mem_cons] at h
      rcases h with h | h
      · simp [h]
      · exact List.mem_cons_of_mem _ (ih h)

/-- Setting a key keeps the canonical form. -/
theorem Tab.wf_set {α : Type} [DecidableEq α] (dflt : Nat → α) (t : Tab α) (k : Nat) (v : α) (ht : Tab.wf dflt t = true) :
    Tab.wf dflt (t.set k v (dflt k)) = true := by
  simp only [Tab.wf, Bool.and_eq_true, List.all_eq_true, decide_eq_true_eq] at ht ⊢
  by_cases hv : v = dflt k
  · simp only [Tab.set, hv, if_true]
    exact ⟨Tab.rising_erase t k 0 ht.1, fun e he => ht.2 e (Tab.mem_erase t k e he)⟩
  · simp only [Tab.set, hv, if_false]
    refine ⟨Tab.rising_put t k v 0 (Nat.zero_le k) ht.1, fun e he => ?_⟩
    rcases Tab.mem_put t k v e he with h | h
    · simpa [h] using hv
    · exact ht.2 e h

/-- A word write keeps the memory's canonical form. -/
theorem Mem.wf_put (m : Mem) (a : Nat) (w : Word) (h : m.wf = true) : (m.put a w).wf = true :=
  Tab.wf_set m.dflt m.cells a ⟨w, .clean⟩ h

/-- The correction of a single-bit error keeps it. -/
theorem Mem.wf_scrubbed (m : Mem) (a : Nat) (h : m.wf = true) : (m.scrubbed a).wf = true := m.wf_put a _ h

/-- The memory right after reset has it. -/
theorem reset_memory_wf : State.reset.dev.mem.wf = true := rfl

/-- A reset keeps it (R390). -/
theorem memAfter_wf (m : Mem) (c : ResetCause) (h : m.wf = true) : (memAfter m c).wf = true := by
  cases c <;> first | rfl | exact h

/-- Blocks that lie within a range do not matter outside it. -/
theorem blockDflt_filter (era lo len a : Nat) (h : ¬ (lo ≤ a ∧ a < lo + len)) (bs : List Block) :
    blockDflt era a (bs.filter (fun x => decide (¬ (lo ≤ x.lo ∧ x.lo + x.len ≤ lo + len)))) = blockDflt era a bs := by
  induction bs with
  | nil => rfl
  | cons b t ih =>
    by_cases hb : lo ≤ b.lo ∧ b.lo + b.len ≤ lo + len
    · have hn : ¬ (b.lo ≤ a ∧ a < b.lo + b.len) := by omega
      rw [List.filter_cons_of_neg (by simp [hb]), ih]
      simp only [blockDflt, if_neg hn]
    · rw [List.filter_cons_of_pos (by simp [hb])]
      simp only [blockDflt, ih]

/-- A block write keeps the canonical form. -/
theorem Mem.wf_putBlock (m : Mem) (b : Block) (h : m.wf = true) : (m.putBlock b).wf = true := by
  simp only [Mem.wf, Tab.wf, Bool.and_eq_true, List.all_eq_true, decide_eq_true_eq] at h ⊢
  refine ⟨Tab.rising_filter m.cells _ 0 h.1, fun e he => ?_⟩
  simp only [Mem.putBlock, cellsOutside, List.mem_filter, decide_eq_true_eq] at he
  have hd : (m.putBlock b).dflt e.1 = m.dflt e.1 := by
    simp only [Mem.dflt, Mem.putBlock, blockDflt, if_neg he.2]
    exact blockDflt_filter m.era b.lo b.len e.1 he.2 m.blocks
  rw [hd]
  exact h.2 e he.1

/-- A memory word reads what was last written there, with good check bits (R40). -/
theorem Mem.at_put_eq (m : Mem) (a : Nat) (w : Word) : (m.put a w).at a = ⟨w, .clean⟩ := by
  simp [Mem.at, Mem.put, Mem.dflt]

theorem Mem.at_put_ne (m : Mem) {a b : Nat} (w : Word) (h : a ≠ b) : (m.put a w).at b = m.at b := by
  simp [Mem.at, Mem.put, Mem.dflt, Tab.get_set_ne _ _ _ _ h]

end Sys2Proof.Machine
end

