-- ==== Sys2Proof/Laws/Reads.lean ====
section
/-!
SUPPORT. Laws/Reads: what each setter of the device leaves alone in the units' tables and in the registers.
-/
namespace Sys2Proof.Machine

@[simp] theorem Dev.rd_setTb (d : Dev) (x : Timebase) (p o : Nat) : (d.setTb x).rd p o = d.rd p o := (rfl)
@[simp] theorem Dev.rf_setTb (d : Dev) (x : Timebase) (p o h l : Nat) : (d.setTb x).rf p o h l = d.rf p o h l := (rfl)
@[simp] theorem Dev.rb_setTb (d : Dev) (x : Timebase) (p o b : Nat) : (d.setTb x).rb p o b = d.rb p o b := (rfl)
@[simp] theorem Dev.plan_setTb (d : Dev) (x : Timebase) (m : Nat) : (d.setTb x).plan m = d.plan m := (rfl)
@[simp] theorem Dev.queue_setTb (d : Dev) (x : Timebase) (m : Nat) : (d.setTb x).queue m = d.queue m := (rfl)
@[simp] theorem Dev.ob_setTb (d : Dev) (x : Timebase) (m : Nat) : (d.setTb x).ob m = d.ob m := (rfl)
@[simp] theorem Dev.ga_setTb (d : Dev) (x : Timebase) (m : Nat) : (d.setTb x).ga m = d.ga m := (rfl)
@[simp] theorem Dev.rank_setTb (d : Dev) (x : Timebase) (m : Nat) : (d.setTb x).rank m = d.rank m := (rfl)
@[simp] theorem Dev.grove_setTb (d : Dev) (x : Timebase) (m : Nat) : (d.setTb x).grove m = d.grove m := (rfl)
@[simp] theorem Dev.coil_setTb (d : Dev) (x : Timebase) (m : Nat) : (d.setTb x).coil m = d.coil m := (rfl)
@[simp] theorem Dev.leg_setTb (d : Dev) (x : Timebase) (m : Nat) : (d.setTb x).leg m = d.leg m := (rfl)
@[simp] theorem Dev.conv_setTb (d : Dev) (x : Timebase) (m : Nat) : (d.setTb x).conv m = d.conv m := (rfl)
@[simp] theorem Dev.calSt_setTb (d : Dev) (x : Timebase) (m : Nat) : (d.setTb x).calSt m = d.calSt m := (rfl)

@[simp] theorem Dev.rd_setPlan (d : Dev) (n : Nat) (x : Plan) (p o : Nat) : (d.setPlan n x).rd p o = d.rd p o := (rfl)
@[simp] theorem Dev.rf_setPlan (d : Dev) (n : Nat) (x : Plan) (p o h l : Nat) : (d.setPlan n x).rf p o h l = d.rf p o h l := (rfl)
@[simp] theorem Dev.rb_setPlan (d : Dev) (n : Nat) (x : Plan) (p o b : Nat) : (d.setPlan n x).rb p o b = d.rb p o b := (rfl)
@[simp] theorem Dev.queue_setPlan (d : Dev) (n : Nat) (x : Plan) (m : Nat) : (d.setPlan n x).queue m = d.queue m := (rfl)
@[simp] theorem Dev.ob_setPlan (d : Dev) (n : Nat) (x : Plan) (m : Nat) : (d.setPlan n x).ob m = d.ob m := (rfl)
@[simp] theorem Dev.ga_setPlan (d : Dev) (n : Nat) (x : Plan) (m : Nat) : (d.setPlan n x).ga m = d.ga m := (rfl)
@[simp] theorem Dev.rank_setPlan (d : Dev) (n : Nat) (x : Plan) (m : Nat) : (d.setPlan n x).rank m = d.rank m := (rfl)
@[simp] theorem Dev.grove_setPlan (d : Dev) (n : Nat) (x : Plan) (m : Nat) : (d.setPlan n x).grove m = d.grove m := (rfl)
@[simp] theorem Dev.coil_setPlan (d : Dev) (n : Nat) (x : Plan) (m : Nat) : (d.setPlan n x).coil m = d.coil m := (rfl)
@[simp] theorem Dev.leg_setPlan (d : Dev) (n : Nat) (x : Plan) (m : Nat) : (d.setPlan n x).leg m = d.leg m := (rfl)
@[simp] theorem Dev.conv_setPlan (d : Dev) (n : Nat) (x : Plan) (m : Nat) : (d.setPlan n x).conv m = d.conv m := (rfl)
@[simp] theorem Dev.calSt_setPlan (d : Dev) (n : Nat) (x : Plan) (m : Nat) : (d.setPlan n x).calSt m = d.calSt m := (rfl)

@[simp] theorem Dev.rd_setQueue (d : Dev) (n : Nat) (x : Queue) (p o : Nat) : (d.setQueue n x).rd p o = d.rd p o := (rfl)
@[simp] theorem Dev.rf_setQueue (d : Dev) (n : Nat) (x : Queue) (p o h l : Nat) : (d.setQueue n x).rf p o h l = d.rf p o h l := (rfl)
@[simp] theorem Dev.rb_setQueue (d : Dev) (n : Nat) (x : Queue) (p o b : Nat) : (d.setQueue n x).rb p o b = d.rb p o b := (rfl)
@[simp] theorem Dev.plan_setQueue (d : Dev) (n : Nat) (x : Queue) (m : Nat) : (d.setQueue n x).plan m = d.plan m := (rfl)
@[simp] theorem Dev.ob_setQueue (d : Dev) (n : Nat) (x : Queue) (m : Nat) : (d.setQueue n x).ob m = d.ob m := (rfl)
@[simp] theorem Dev.ga_setQueue (d : Dev) (n : Nat) (x : Queue) (m : Nat) : (d.setQueue n x).ga m = d.ga m := (rfl)
@[simp] theorem Dev.rank_setQueue (d : Dev) (n : Nat) (x : Queue) (m : Nat) : (d.setQueue n x).rank m = d.rank m := (rfl)
@[simp] theorem Dev.grove_setQueue (d : Dev) (n : Nat) (x : Queue) (m : Nat) : (d.setQueue n x).grove m = d.grove m := (rfl)
@[simp] theorem Dev.coil_setQueue (d : Dev) (n : Nat) (x : Queue) (m : Nat) : (d.setQueue n x).coil m = d.coil m := (rfl)
@[simp] theorem Dev.leg_setQueue (d : Dev) (n : Nat) (x : Queue) (m : Nat) : (d.setQueue n x).leg m = d.leg m := (rfl)
@[simp] theorem Dev.conv_setQueue (d : Dev) (n : Nat) (x : Queue) (m : Nat) : (d.setQueue n x).conv m = d.conv m := (rfl)
@[simp] theorem Dev.calSt_setQueue (d : Dev) (n : Nat) (x : Queue) (m : Nat) : (d.setQueue n x).calSt m = d.calSt m := (rfl)

@[simp] theorem Dev.rd_setOb (d : Dev) (n : Nat) (x : Observer) (p o : Nat) : (d.setOb n x).rd p o = d.rd p o := (rfl)
@[simp] theorem Dev.rf_setOb (d : Dev) (n : Nat) (x : Observer) (p o h l : Nat) : (d.setOb n x).rf p o h l = d.rf p o h l := (rfl)
@[simp] theorem Dev.rb_setOb (d : Dev) (n : Nat) (x : Observer) (p o b : Nat) : (d.setOb n x).rb p o b = d.rb p o b := (rfl)
@[simp] theorem Dev.plan_setOb (d : Dev) (n : Nat) (x : Observer) (m : Nat) : (d.setOb n x).plan m = d.plan m := (rfl)
@[simp] theorem Dev.queue_setOb (d : Dev) (n : Nat) (x : Observer) (m : Nat) : (d.setOb n x).queue m = d.queue m := (rfl)
@[simp] theorem Dev.ga_setOb (d : Dev) (n : Nat) (x : Observer) (m : Nat) : (d.setOb n x).ga m = d.ga m := (rfl)
@[simp] theorem Dev.rank_setOb (d : Dev) (n : Nat) (x : Observer) (m : Nat) : (d.setOb n x).rank m = d.rank m := (rfl)
@[simp] theorem Dev.grove_setOb (d : Dev) (n : Nat) (x : Observer) (m : Nat) : (d.setOb n x).grove m = d.grove m := (rfl)
@[simp] theorem Dev.coil_setOb (d : Dev) (n : Nat) (x : Observer) (m : Nat) : (d.setOb n x).coil m = d.coil m := (rfl)
@[simp] theorem Dev.leg_setOb (d : Dev) (n : Nat) (x : Observer) (m : Nat) : (d.setOb n x).leg m = d.leg m := (rfl)
@[simp] theorem Dev.conv_setOb (d : Dev) (n : Nat) (x : Observer) (m : Nat) : (d.setOb n x).conv m = d.conv m := (rfl)
@[simp] theorem Dev.calSt_setOb (d : Dev) (n : Nat) (x : Observer) (m : Nat) : (d.setOb n x).calSt m = d.calSt m := (rfl)

@[simp] theorem Dev.rd_setGa (d : Dev) (n : Nat) (x : GAxis) (p o : Nat) : (d.setGa n x).rd p o = d.rd p o := (rfl)
@[simp] theorem Dev.rf_setGa (d : Dev) (n : Nat) (x : GAxis) (p o h l : Nat) : (d.setGa n x).rf p o h l = d.rf p o h l := (rfl)
@[simp] theorem Dev.rb_setGa (d : Dev) (n : Nat) (x : GAxis) (p o b : Nat) : (d.setGa n x).rb p o b = d.rb p o b := (rfl)
@[simp] theorem Dev.plan_setGa (d : Dev) (n : Nat) (x : GAxis) (m : Nat) : (d.setGa n x).plan m = d.plan m := (rfl)
@[simp] theorem Dev.queue_setGa (d : Dev) (n : Nat) (x : GAxis) (m : Nat) : (d.setGa n x).queue m = d.queue m := (rfl)
@[simp] theorem Dev.ob_setGa (d : Dev) (n : Nat) (x : GAxis) (m : Nat) : (d.setGa n x).ob m = d.ob m := (rfl)
@[simp] theorem Dev.rank_setGa (d : Dev) (n : Nat) (x : GAxis) (m : Nat) : (d.setGa n x).rank m = d.rank m := (rfl)
@[simp] theorem Dev.grove_setGa (d : Dev) (n : Nat) (x : GAxis) (m : Nat) : (d.setGa n x).grove m = d.grove m := (rfl)
@[simp] theorem Dev.coil_setGa (d : Dev) (n : Nat) (x : GAxis) (m : Nat) : (d.setGa n x).coil m = d.coil m := (rfl)
@[simp] theorem Dev.leg_setGa (d : Dev) (n : Nat) (x : GAxis) (m : Nat) : (d.setGa n x).leg m = d.leg m := (rfl)
@[simp] theorem Dev.conv_setGa (d : Dev) (n : Nat) (x : GAxis) (m : Nat) : (d.setGa n x).conv m = d.conv m := (rfl)
@[simp] theorem Dev.calSt_setGa (d : Dev) (n : Nat) (x : GAxis) (m : Nat) : (d.setGa n x).calSt m = d.calSt m := (rfl)

@[simp] theorem Dev.rd_setRank (d : Dev) (r : Nat) (x : Rank) (p o : Nat) : (d.setRank r x).rd p o = d.rd p o := (rfl)
@[simp] theorem Dev.rf_setRank (d : Dev) (r : Nat) (x : Rank) (p o h l : Nat) : (d.setRank r x).rf p o h l = d.rf p o h l := (rfl)
@[simp] theorem Dev.rb_setRank (d : Dev) (r : Nat) (x : Rank) (p o b : Nat) : (d.setRank r x).rb p o b = d.rb p o b := (rfl)
@[simp] theorem Dev.plan_setRank (d : Dev) (r : Nat) (x : Rank) (m : Nat) : (d.setRank r x).plan m = d.plan m := (rfl)
@[simp] theorem Dev.queue_setRank (d : Dev) (r : Nat) (x : Rank) (m : Nat) : (d.setRank r x).queue m = d.queue m := (rfl)
@[simp] theorem Dev.ob_setRank (d : Dev) (r : Nat) (x : Rank) (m : Nat) : (d.setRank r x).ob m = d.ob m := (rfl)
@[simp] theorem Dev.ga_setRank (d : Dev) (r : Nat) (x : Rank) (m : Nat) : (d.setRank r x).ga m = d.ga m := (rfl)
@[simp] theorem Dev.grove_setRank (d : Dev) (r : Nat) (x : Rank) (m : Nat) : (d.setRank r x).grove m = d.grove m := (rfl)
@[simp] theorem Dev.coil_setRank (d : Dev) (r : Nat) (x : Rank) (m : Nat) : (d.setRank r x).coil m = d.coil m := (rfl)
@[simp] theorem Dev.leg_setRank (d : Dev) (r : Nat) (x : Rank) (m : Nat) : (d.setRank r x).leg m = d.leg m := (rfl)
@[simp] theorem Dev.conv_setRank (d : Dev) (r : Nat) (x : Rank) (m : Nat) : (d.setRank r x).conv m = d.conv m := (rfl)
@[simp] theorem Dev.calSt_setRank (d : Dev) (r : Nat) (x : Rank) (m : Nat) : (d.setRank r x).calSt m = d.calSt m := (rfl)

@[simp] theorem Dev.rd_setGrove (d : Dev) (g : Nat) (x : Grove) (p o : Nat) : (d.setGrove g x).rd p o = d.rd p o := (rfl)
@[simp] theorem Dev.rf_setGrove (d : Dev) (g : Nat) (x : Grove) (p o h l : Nat) : (d.setGrove g x).rf p o h l = d.rf p o h l := (rfl)
@[simp] theorem Dev.rb_setGrove (d : Dev) (g : Nat) (x : Grove) (p o b : Nat) : (d.setGrove g x).rb p o b = d.rb p o b := (rfl)
@[simp] theorem Dev.plan_setGrove (d : Dev) (g : Nat) (x : Grove) (m : Nat) : (d.setGrove g x).plan m = d.plan m := (rfl)
@[simp] theorem Dev.queue_setGrove (d : Dev) (g : Nat) (x : Grove) (m : Nat) : (d.setGrove g x).queue m = d.queue m := (rfl)
@[simp] theorem Dev.ob_setGrove (d : Dev) (g : Nat) (x : Grove) (m : Nat) : (d.setGrove g x).ob m = d.ob m := (rfl)
@[simp] theorem Dev.ga_setGrove (d : Dev) (g : Nat) (x : Grove) (m : Nat) : (d.setGrove g x).ga m = d.ga m := (rfl)
@[simp] theorem Dev.rank_setGrove (d : Dev) (g : Nat) (x : Grove) (m : Nat) : (d.setGrove g x).rank m = d.rank m := (rfl)
@[simp] theorem Dev.coil_setGrove (d : Dev) (g : Nat) (x : Grove) (m : Nat) : (d.setGrove g x).coil m = d.coil m := (rfl)
@[simp] theorem Dev.leg_setGrove (d : Dev) (g : Nat) (x : Grove) (m : Nat) : (d.setGrove g x).leg m = d.leg m := (rfl)
@[simp] theorem Dev.conv_setGrove (d : Dev) (g : Nat) (x : Grove) (m : Nat) : (d.setGrove g x).conv m = d.conv m := (rfl)
@[simp] theorem Dev.calSt_setGrove (d : Dev) (g : Nat) (x : Grove) (m : Nat) : (d.setGrove g x).calSt m = d.calSt m := (rfl)

@[simp] theorem Dev.rd_setCoil (d : Dev) (c : Nat) (x : Coil) (p o : Nat) : (d.setCoil c x).rd p o = d.rd p o := (rfl)
@[simp] theorem Dev.rf_setCoil (d : Dev) (c : Nat) (x : Coil) (p o h l : Nat) : (d.setCoil c x).rf p o h l = d.rf p o h l := (rfl)
@[simp] theorem Dev.rb_setCoil (d : Dev) (c : Nat) (x : Coil) (p o b : Nat) : (d.setCoil c x).rb p o b = d.rb p o b := (rfl)
@[simp] theorem Dev.plan_setCoil (d : Dev) (c : Nat) (x : Coil) (m : Nat) : (d.setCoil c x).plan m = d.plan m := (rfl)
@[simp] theorem Dev.queue_setCoil (d : Dev) (c : Nat) (x : Coil) (m : Nat) : (d.setCoil c x).queue m = d.queue m := (rfl)
@[simp] theorem Dev.ob_setCoil (d : Dev) (c : Nat) (x : Coil) (m : Nat) : (d.setCoil c x).ob m = d.ob m := (rfl)
@[simp] theorem Dev.ga_setCoil (d : Dev) (c : Nat) (x : Coil) (m : Nat) : (d.setCoil c x).ga m = d.ga m := (rfl)
@[simp] theorem Dev.rank_setCoil (d : Dev) (c : Nat) (x : Coil) (m : Nat) : (d.setCoil c x).rank m = d.rank m := (rfl)
@[simp] theorem Dev.grove_setCoil (d : Dev) (c : Nat) (x : Coil) (m : Nat) : (d.setCoil c x).grove m = d.grove m := (rfl)
@[simp] theorem Dev.leg_setCoil (d : Dev) (c : Nat) (x : Coil) (m : Nat) : (d.setCoil c x).leg m = d.leg m := (rfl)
@[simp] theorem Dev.conv_setCoil (d : Dev) (c : Nat) (x : Coil) (m : Nat) : (d.setCoil c x).conv m = d.conv m := (rfl)
@[simp] theorem Dev.calSt_setCoil (d : Dev) (c : Nat) (x : Coil) (m : Nat) : (d.setCoil c x).calSt m = d.calSt m := (rfl)

@[simp] theorem Dev.rd_setLeg (d : Dev) (l : Nat) (x : Leg) (p o : Nat) : (d.setLeg l x).rd p o = d.rd p o := (rfl)
@[simp] theorem Dev.rf_setLeg (d : Dev) (l : Nat) (x : Leg) (p o h l' : Nat) : (d.setLeg l x).rf p o h l' = d.rf p o h l' := (rfl)
@[simp] theorem Dev.rb_setLeg (d : Dev) (l : Nat) (x : Leg) (p o b : Nat) : (d.setLeg l x).rb p o b = d.rb p o b := (rfl)
@[simp] theorem Dev.plan_setLeg (d : Dev) (l : Nat) (x : Leg) (m : Nat) : (d.setLeg l x).plan m = d.plan m := (rfl)
@[simp] theorem Dev.queue_setLeg (d : Dev) (l : Nat) (x : Leg) (m : Nat) : (d.setLeg l x).queue m = d.queue m := (rfl)
@[simp] theorem Dev.ob_setLeg (d : Dev) (l : Nat) (x : Leg) (m : Nat) : (d.setLeg l x).ob m = d.ob m := (rfl)
@[simp] theorem Dev.ga_setLeg (d : Dev) (l : Nat) (x : Leg) (m : Nat) : (d.setLeg l x).ga m = d.ga m := (rfl)
@[simp] theorem Dev.rank_setLeg (d : Dev) (l : Nat) (x : Leg) (m : Nat) : (d.setLeg l x).rank m = d.rank m := (rfl)
@[simp] theorem Dev.grove_setLeg (d : Dev) (l : Nat) (x : Leg) (m : Nat) : (d.setLeg l x).grove m = d.grove m := (rfl)
@[simp] theorem Dev.coil_setLeg (d : Dev) (l : Nat) (x : Leg) (m : Nat) : (d.setLeg l x).coil m = d.coil m := (rfl)
@[simp] theorem Dev.conv_setLeg (d : Dev) (l : Nat) (x : Leg) (m : Nat) : (d.setLeg l x).conv m = d.conv m := (rfl)
@[simp] theorem Dev.calSt_setLeg (d : Dev) (l : Nat) (x : Leg) (m : Nat) : (d.setLeg l x).calSt m = d.calSt m := (rfl)

@[simp] theorem Dev.rd_setConv (d : Dev) (i : Nat) (x : Conv) (p o : Nat) : (d.setConv i x).rd p o = d.rd p o := (rfl)
@[simp] theorem Dev.rf_setConv (d : Dev) (i : Nat) (x : Conv) (p o h l : Nat) : (d.setConv i x).rf p o h l = d.rf p o h l := (rfl)
@[simp] theorem Dev.rb_setConv (d : Dev) (i : Nat) (x : Conv) (p o b : Nat) : (d.setConv i x).rb p o b = d.rb p o b := (rfl)
@[simp] theorem Dev.plan_setConv (d : Dev) (i : Nat) (x : Conv) (m : Nat) : (d.setConv i x).plan m = d.plan m := (rfl)
@[simp] theorem Dev.queue_setConv (d : Dev) (i : Nat) (x : Conv) (m : Nat) : (d.setConv i x).queue m = d.queue m := (rfl)
@[simp] theorem Dev.ob_setConv (d : Dev) (i : Nat) (x : Conv) (m : Nat) : (d.setConv i x).ob m = d.ob m := (rfl)
@[simp] theorem Dev.ga_setConv (d : Dev) (i : Nat) (x : Conv) (m : Nat) : (d.setConv i x).ga m = d.ga m := (rfl)
@[simp] theorem Dev.rank_setConv (d : Dev) (i : Nat) (x : Conv) (m : Nat) : (d.setConv i x).rank m = d.rank m := (rfl)
@[simp] theorem Dev.grove_setConv (d : Dev) (i : Nat) (x : Conv) (m : Nat) : (d.setConv i x).grove m = d.grove m := (rfl)
@[simp] theorem Dev.coil_setConv (d : Dev) (i : Nat) (x : Conv) (m : Nat) : (d.setConv i x).coil m = d.coil m := (rfl)
@[simp] theorem Dev.leg_setConv (d : Dev) (i : Nat) (x : Conv) (m : Nat) : (d.setConv i x).leg m = d.leg m := (rfl)
@[simp] theorem Dev.calSt_setConv (d : Dev) (i : Nat) (x : Conv) (m : Nat) : (d.setConv i x).calSt m = d.calSt m := (rfl)

@[simp] theorem Dev.rd_setCal (d : Dev) (g : Nat) (x : CalState) (p o : Nat) : (d.setCal g x).rd p o = d.rd p o := (rfl)
@[simp] theorem Dev.rf_setCal (d : Dev) (g : Nat) (x : CalState) (p o h l : Nat) : (d.setCal g x).rf p o h l = d.rf p o h l := (rfl)
@[simp] theorem Dev.rb_setCal (d : Dev) (g : Nat) (x : CalState) (p o b : Nat) : (d.setCal g x).rb p o b = d.rb p o b := (rfl)
@[simp] theorem Dev.plan_setCal (d : Dev) (g : Nat) (x : CalState) (m : Nat) : (d.setCal g x).plan m = d.plan m := (rfl)
@[simp] theorem Dev.queue_setCal (d : Dev) (g : Nat) (x : CalState) (m : Nat) : (d.setCal g x).queue m = d.queue m := (rfl)
@[simp] theorem Dev.ob_setCal (d : Dev) (g : Nat) (x : CalState) (m : Nat) : (d.setCal g x).ob m = d.ob m := (rfl)
@[simp] theorem Dev.ga_setCal (d : Dev) (g : Nat) (x : CalState) (m : Nat) : (d.setCal g x).ga m = d.ga m := (rfl)
@[simp] theorem Dev.rank_setCal (d : Dev) (g : Nat) (x : CalState) (m : Nat) : (d.setCal g x).rank m = d.rank m := (rfl)
@[simp] theorem Dev.grove_setCal (d : Dev) (g : Nat) (x : CalState) (m : Nat) : (d.setCal g x).grove m = d.grove m := (rfl)
@[simp] theorem Dev.coil_setCal (d : Dev) (g : Nat) (x : CalState) (m : Nat) : (d.setCal g x).coil m = d.coil m := (rfl)
@[simp] theorem Dev.leg_setCal (d : Dev) (g : Nat) (x : CalState) (m : Nat) : (d.setCal g x).leg m = d.leg m := (rfl)
@[simp] theorem Dev.conv_setCal (d : Dev) (g : Nat) (x : CalState) (m : Nat) : (d.setCal g x).conv m = d.conv m := (rfl)

@[simp] theorem Dev.rd_setHp (d : Dev) (x : HostPort) (p o : Nat) : (d.setHp x).rd p o = d.rd p o := (rfl)
@[simp] theorem Dev.rf_setHp (d : Dev) (x : HostPort) (p o h l : Nat) : (d.setHp x).rf p o h l = d.rf p o h l := (rfl)
@[simp] theorem Dev.rb_setHp (d : Dev) (x : HostPort) (p o b : Nat) : (d.setHp x).rb p o b = d.rb p o b := (rfl)
@[simp] theorem Dev.plan_setHp (d : Dev) (x : HostPort) (m : Nat) : (d.setHp x).plan m = d.plan m := (rfl)
@[simp] theorem Dev.queue_setHp (d : Dev) (x : HostPort) (m : Nat) : (d.setHp x).queue m = d.queue m := (rfl)
@[simp] theorem Dev.ob_setHp (d : Dev) (x : HostPort) (m : Nat) : (d.setHp x).ob m = d.ob m := (rfl)
@[simp] theorem Dev.ga_setHp (d : Dev) (x : HostPort) (m : Nat) : (d.setHp x).ga m = d.ga m := (rfl)
@[simp] theorem Dev.rank_setHp (d : Dev) (x : HostPort) (m : Nat) : (d.setHp x).rank m = d.rank m := (rfl)
@[simp] theorem Dev.grove_setHp (d : Dev) (x : HostPort) (m : Nat) : (d.setHp x).grove m = d.grove m := (rfl)
@[simp] theorem Dev.coil_setHp (d : Dev) (x : HostPort) (m : Nat) : (d.setHp x).coil m = d.coil m := (rfl)
@[simp] theorem Dev.leg_setHp (d : Dev) (x : HostPort) (m : Nat) : (d.setHp x).leg m = d.leg m := (rfl)
@[simp] theorem Dev.conv_setHp (d : Dev) (x : HostPort) (m : Nat) : (d.setHp x).conv m = d.conv m := (rfl)
@[simp] theorem Dev.calSt_setHp (d : Dev) (x : HostPort) (m : Nat) : (d.setHp x).calSt m = d.calSt m := (rfl)

@[simp] theorem Dev.rd_setLk (d : Dev) (x : Link) (p o : Nat) : (d.setLk x).rd p o = d.rd p o := (rfl)
@[simp] theorem Dev.rf_setLk (d : Dev) (x : Link) (p o h l : Nat) : (d.setLk x).rf p o h l = d.rf p o h l := (rfl)
@[simp] theorem Dev.rb_setLk (d : Dev) (x : Link) (p o b : Nat) : (d.setLk x).rb p o b = d.rb p o b := (rfl)
@[simp] theorem Dev.plan_setLk (d : Dev) (x : Link) (m : Nat) : (d.setLk x).plan m = d.plan m := (rfl)
@[simp] theorem Dev.queue_setLk (d : Dev) (x : Link) (m : Nat) : (d.setLk x).queue m = d.queue m := (rfl)
@[simp] theorem Dev.ob_setLk (d : Dev) (x : Link) (m : Nat) : (d.setLk x).ob m = d.ob m := (rfl)
@[simp] theorem Dev.ga_setLk (d : Dev) (x : Link) (m : Nat) : (d.setLk x).ga m = d.ga m := (rfl)
@[simp] theorem Dev.rank_setLk (d : Dev) (x : Link) (m : Nat) : (d.setLk x).rank m = d.rank m := (rfl)
@[simp] theorem Dev.grove_setLk (d : Dev) (x : Link) (m : Nat) : (d.setLk x).grove m = d.grove m := (rfl)
@[simp] theorem Dev.coil_setLk (d : Dev) (x : Link) (m : Nat) : (d.setLk x).coil m = d.coil m := (rfl)
@[simp] theorem Dev.leg_setLk (d : Dev) (x : Link) (m : Nat) : (d.setLk x).leg m = d.leg m := (rfl)
@[simp] theorem Dev.conv_setLk (d : Dev) (x : Link) (m : Nat) : (d.setLk x).conv m = d.conv m := (rfl)
@[simp] theorem Dev.calSt_setLk (d : Dev) (x : Link) (m : Nat) : (d.setLk x).calSt m = d.calSt m := (rfl)

@[simp] theorem Dev.rd_setInp (d : Dev) (x : Inputs) (p o : Nat) : (d.setInp x).rd p o = d.rd p o := (rfl)
@[simp] theorem Dev.rf_setInp (d : Dev) (x : Inputs) (p o h l : Nat) : (d.setInp x).rf p o h l = d.rf p o h l := (rfl)
@[simp] theorem Dev.rb_setInp (d : Dev) (x : Inputs) (p o b : Nat) : (d.setInp x).rb p o b = d.rb p o b := (rfl)
@[simp] theorem Dev.plan_setInp (d : Dev) (x : Inputs) (m : Nat) : (d.setInp x).plan m = d.plan m := (rfl)
@[simp] theorem Dev.queue_setInp (d : Dev) (x : Inputs) (m : Nat) : (d.setInp x).queue m = d.queue m := (rfl)
@[simp] theorem Dev.ob_setInp (d : Dev) (x : Inputs) (m : Nat) : (d.setInp x).ob m = d.ob m := (rfl)
@[simp] theorem Dev.ga_setInp (d : Dev) (x : Inputs) (m : Nat) : (d.setInp x).ga m = d.ga m := (rfl)
@[simp] theorem Dev.rank_setInp (d : Dev) (x : Inputs) (m : Nat) : (d.setInp x).rank m = d.rank m := (rfl)
@[simp] theorem Dev.grove_setInp (d : Dev) (x : Inputs) (m : Nat) : (d.setInp x).grove m = d.grove m := (rfl)
@[simp] theorem Dev.coil_setInp (d : Dev) (x : Inputs) (m : Nat) : (d.setInp x).coil m = d.coil m := (rfl)
@[simp] theorem Dev.leg_setInp (d : Dev) (x : Inputs) (m : Nat) : (d.setInp x).leg m = d.leg m := (rfl)
@[simp] theorem Dev.conv_setInp (d : Dev) (x : Inputs) (m : Nat) : (d.setInp x).conv m = d.conv m := (rfl)
@[simp] theorem Dev.calSt_setInp (d : Dev) (x : Inputs) (m : Nat) : (d.setInp x).calSt m = d.calSt m := (rfl)

@[simp] theorem Dev.rd_setFl (d : Dev) (x : Flash) (p o : Nat) : (d.setFl x).rd p o = d.rd p o := (rfl)
@[simp] theorem Dev.rf_setFl (d : Dev) (x : Flash) (p o h l : Nat) : (d.setFl x).rf p o h l = d.rf p o h l := (rfl)
@[simp] theorem Dev.rb_setFl (d : Dev) (x : Flash) (p o b : Nat) : (d.setFl x).rb p o b = d.rb p o b := (rfl)
@[simp] theorem Dev.plan_setFl (d : Dev) (x : Flash) (m : Nat) : (d.setFl x).plan m = d.plan m := (rfl)
@[simp] theorem Dev.queue_setFl (d : Dev) (x : Flash) (m : Nat) : (d.setFl x).queue m = d.queue m := (rfl)
@[simp] theorem Dev.ob_setFl (d : Dev) (x : Flash) (m : Nat) : (d.setFl x).ob m = d.ob m := (rfl)
@[simp] theorem Dev.ga_setFl (d : Dev) (x : Flash) (m : Nat) : (d.setFl x).ga m = d.ga m := (rfl)
@[simp] theorem Dev.rank_setFl (d : Dev) (x : Flash) (m : Nat) : (d.setFl x).rank m = d.rank m := (rfl)
@[simp] theorem Dev.grove_setFl (d : Dev) (x : Flash) (m : Nat) : (d.setFl x).grove m = d.grove m := (rfl)
@[simp] theorem Dev.coil_setFl (d : Dev) (x : Flash) (m : Nat) : (d.setFl x).coil m = d.coil m := (rfl)
@[simp] theorem Dev.leg_setFl (d : Dev) (x : Flash) (m : Nat) : (d.setFl x).leg m = d.leg m := (rfl)
@[simp] theorem Dev.conv_setFl (d : Dev) (x : Flash) (m : Nat) : (d.setFl x).conv m = d.conv m := (rfl)
@[simp] theorem Dev.calSt_setFl (d : Dev) (x : Flash) (m : Nat) : (d.setFl x).calSt m = d.calSt m := (rfl)

@[simp] theorem Dev.rd_setJr (d : Dev) (x : Journal) (p o : Nat) : (d.setJr x).rd p o = d.rd p o := (rfl)
@[simp] theorem Dev.rf_setJr (d : Dev) (x : Journal) (p o h l : Nat) : (d.setJr x).rf p o h l = d.rf p o h l := (rfl)
@[simp] theorem Dev.rb_setJr (d : Dev) (x : Journal) (p o b : Nat) : (d.setJr x).rb p o b = d.rb p o b := (rfl)
@[simp] theorem Dev.plan_setJr (d : Dev) (x : Journal) (m : Nat) : (d.setJr x).plan m = d.plan m := (rfl)
@[simp] theorem Dev.queue_setJr (d : Dev) (x : Journal) (m : Nat) : (d.setJr x).queue m = d.queue m := (rfl)
@[simp] theorem Dev.ob_setJr (d : Dev) (x : Journal) (m : Nat) : (d.setJr x).ob m = d.ob m := (rfl)
@[simp] theorem Dev.ga_setJr (d : Dev) (x : Journal) (m : Nat) : (d.setJr x).ga m = d.ga m := (rfl)
@[simp] theorem Dev.rank_setJr (d : Dev) (x : Journal) (m : Nat) : (d.setJr x).rank m = d.rank m := (rfl)
@[simp] theorem Dev.grove_setJr (d : Dev) (x : Journal) (m : Nat) : (d.setJr x).grove m = d.grove m := (rfl)
@[simp] theorem Dev.coil_setJr (d : Dev) (x : Journal) (m : Nat) : (d.setJr x).coil m = d.coil m := (rfl)
@[simp] theorem Dev.leg_setJr (d : Dev) (x : Journal) (m : Nat) : (d.setJr x).leg m = d.leg m := (rfl)
@[simp] theorem Dev.conv_setJr (d : Dev) (x : Journal) (m : Nat) : (d.setJr x).conv m = d.conv m := (rfl)
@[simp] theorem Dev.calSt_setJr (d : Dev) (x : Journal) (m : Nat) : (d.setJr x).calSt m = d.calSt m := (rfl)

@[simp] theorem Dev.rd_setPp (d : Dev) (x : Periph) (p o : Nat) : (d.setPp x).rd p o = d.rd p o := (rfl)
@[simp] theorem Dev.rf_setPp (d : Dev) (x : Periph) (p o h l : Nat) : (d.setPp x).rf p o h l = d.rf p o h l := (rfl)
@[simp] theorem Dev.rb_setPp (d : Dev) (x : Periph) (p o b : Nat) : (d.setPp x).rb p o b = d.rb p o b := (rfl)
@[simp] theorem Dev.plan_setPp (d : Dev) (x : Periph) (m : Nat) : (d.setPp x).plan m = d.plan m := (rfl)
@[simp] theorem Dev.queue_setPp (d : Dev) (x : Periph) (m : Nat) : (d.setPp x).queue m = d.queue m := (rfl)
@[simp] theorem Dev.ob_setPp (d : Dev) (x : Periph) (m : Nat) : (d.setPp x).ob m = d.ob m := (rfl)
@[simp] theorem Dev.ga_setPp (d : Dev) (x : Periph) (m : Nat) : (d.setPp x).ga m = d.ga m := (rfl)
@[simp] theorem Dev.rank_setPp (d : Dev) (x : Periph) (m : Nat) : (d.setPp x).rank m = d.rank m := (rfl)
@[simp] theorem Dev.grove_setPp (d : Dev) (x : Periph) (m : Nat) : (d.setPp x).grove m = d.grove m := (rfl)
@[simp] theorem Dev.coil_setPp (d : Dev) (x : Periph) (m : Nat) : (d.setPp x).coil m = d.coil m := (rfl)
@[simp] theorem Dev.leg_setPp (d : Dev) (x : Periph) (m : Nat) : (d.setPp x).leg m = d.leg m := (rfl)
@[simp] theorem Dev.conv_setPp (d : Dev) (x : Periph) (m : Nat) : (d.setPp x).conv m = d.conv m := (rfl)
@[simp] theorem Dev.calSt_setPp (d : Dev) (x : Periph) (m : Nat) : (d.setPp x).calSt m = d.calSt m := (rfl)

@[simp] theorem Dev.rd_setBl (d : Dev) (x : Blotter) (p o : Nat) : (d.setBl x).rd p o = d.rd p o := (rfl)
@[simp] theorem Dev.rf_setBl (d : Dev) (x : Blotter) (p o h l : Nat) : (d.setBl x).rf p o h l = d.rf p o h l := (rfl)
@[simp] theorem Dev.rb_setBl (d : Dev) (x : Blotter) (p o b : Nat) : (d.setBl x).rb p o b = d.rb p o b := (rfl)
@[simp] theorem Dev.plan_setBl (d : Dev) (x : Blotter) (m : Nat) : (d.setBl x).plan m = d.plan m := (rfl)
@[simp] theorem Dev.queue_setBl (d : Dev) (x : Blotter) (m : Nat) : (d.setBl x).queue m = d.queue m := (rfl)
@[simp] theorem Dev.ob_setBl (d : Dev) (x : Blotter) (m : Nat) : (d.setBl x).ob m = d.ob m := (rfl)
@[simp] theorem Dev.ga_setBl (d : Dev) (x : Blotter) (m : Nat) : (d.setBl x).ga m = d.ga m := (rfl)
@[simp] theorem Dev.rank_setBl (d : Dev) (x : Blotter) (m : Nat) : (d.setBl x).rank m = d.rank m := (rfl)
@[simp] theorem Dev.grove_setBl (d : Dev) (x : Blotter) (m : Nat) : (d.setBl x).grove m = d.grove m := (rfl)
@[simp] theorem Dev.coil_setBl (d : Dev) (x : Blotter) (m : Nat) : (d.setBl x).coil m = d.coil m := (rfl)
@[simp] theorem Dev.leg_setBl (d : Dev) (x : Blotter) (m : Nat) : (d.setBl x).leg m = d.leg m := (rfl)
@[simp] theorem Dev.conv_setBl (d : Dev) (x : Blotter) (m : Nat) : (d.setBl x).conv m = d.conv m := (rfl)
@[simp] theorem Dev.calSt_setBl (d : Dev) (x : Blotter) (m : Nat) : (d.setBl x).calSt m = d.calSt m := (rfl)

@[simp] theorem Dev.rd_setTap (d : Dev) (x : Jtag) (p o : Nat) : (d.setTap x).rd p o = d.rd p o := (rfl)
@[simp] theorem Dev.rf_setTap (d : Dev) (x : Jtag) (p o h l : Nat) : (d.setTap x).rf p o h l = d.rf p o h l := (rfl)
@[simp] theorem Dev.rb_setTap (d : Dev) (x : Jtag) (p o b : Nat) : (d.setTap x).rb p o b = d.rb p o b := (rfl)
@[simp] theorem Dev.plan_setTap (d : Dev) (x : Jtag) (m : Nat) : (d.setTap x).plan m = d.plan m := (rfl)
@[simp] theorem Dev.queue_setTap (d : Dev) (x : Jtag) (m : Nat) : (d.setTap x).queue m = d.queue m := (rfl)
@[simp] theorem Dev.ob_setTap (d : Dev) (x : Jtag) (m : Nat) : (d.setTap x).ob m = d.ob m := (rfl)
@[simp] theorem Dev.ga_setTap (d : Dev) (x : Jtag) (m : Nat) : (d.setTap x).ga m = d.ga m := (rfl)
@[simp] theorem Dev.rank_setTap (d : Dev) (x : Jtag) (m : Nat) : (d.setTap x).rank m = d.rank m := (rfl)
@[simp] theorem Dev.grove_setTap (d : Dev) (x : Jtag) (m : Nat) : (d.setTap x).grove m = d.grove m := (rfl)
@[simp] theorem Dev.coil_setTap (d : Dev) (x : Jtag) (m : Nat) : (d.setTap x).coil m = d.coil m := (rfl)
@[simp] theorem Dev.leg_setTap (d : Dev) (x : Jtag) (m : Nat) : (d.setTap x).leg m = d.leg m := (rfl)
@[simp] theorem Dev.conv_setTap (d : Dev) (x : Jtag) (m : Nat) : (d.setTap x).conv m = d.conv m := (rfl)
@[simp] theorem Dev.calSt_setTap (d : Dev) (x : Jtag) (m : Nat) : (d.setTap x).calSt m = d.calSt m := (rfl)

@[simp] theorem Dev.rd_setTw (d : Dev) (x : Twin) (p o : Nat) : (d.setTw x).rd p o = d.rd p o := (rfl)
@[simp] theorem Dev.rf_setTw (d : Dev) (x : Twin) (p o h l : Nat) : (d.setTw x).rf p o h l = d.rf p o h l := (rfl)
@[simp] theorem Dev.rb_setTw (d : Dev) (x : Twin) (p o b : Nat) : (d.setTw x).rb p o b = d.rb p o b := (rfl)
@[simp] theorem Dev.plan_setTw (d : Dev) (x : Twin) (m : Nat) : (d.setTw x).plan m = d.plan m := (rfl)
@[simp] theorem Dev.queue_setTw (d : Dev) (x : Twin) (m : Nat) : (d.setTw x).queue m = d.queue m := (rfl)
@[simp] theorem Dev.ob_setTw (d : Dev) (x : Twin) (m : Nat) : (d.setTw x).ob m = d.ob m := (rfl)
@[simp] theorem Dev.ga_setTw (d : Dev) (x : Twin) (m : Nat) : (d.setTw x).ga m = d.ga m := (rfl)
@[simp] theorem Dev.rank_setTw (d : Dev) (x : Twin) (m : Nat) : (d.setTw x).rank m = d.rank m := (rfl)
@[simp] theorem Dev.grove_setTw (d : Dev) (x : Twin) (m : Nat) : (d.setTw x).grove m = d.grove m := (rfl)
@[simp] theorem Dev.coil_setTw (d : Dev) (x : Twin) (m : Nat) : (d.setTw x).coil m = d.coil m := (rfl)
@[simp] theorem Dev.leg_setTw (d : Dev) (x : Twin) (m : Nat) : (d.setTw x).leg m = d.leg m := (rfl)
@[simp] theorem Dev.conv_setTw (d : Dev) (x : Twin) (m : Nat) : (d.setTw x).conv m = d.conv m := (rfl)
@[simp] theorem Dev.calSt_setTw (d : Dev) (x : Twin) (m : Nat) : (d.setTw x).calSt m = d.calSt m := (rfl)

@[simp] theorem Dev.rd_setScr (d : Dev) (x : Scribe) (p o : Nat) : (d.setScr x).rd p o = d.rd p o := (rfl)
@[simp] theorem Dev.rf_setScr (d : Dev) (x : Scribe) (p o h l : Nat) : (d.setScr x).rf p o h l = d.rf p o h l := (rfl)
@[simp] theorem Dev.rb_setScr (d : Dev) (x : Scribe) (p o b : Nat) : (d.setScr x).rb p o b = d.rb p o b := (rfl)
@[simp] theorem Dev.plan_setScr (d : Dev) (x : Scribe) (m : Nat) : (d.setScr x).plan m = d.plan m := (rfl)
@[simp] theorem Dev.queue_setScr (d : Dev) (x : Scribe) (m : Nat) : (d.setScr x).queue m = d.queue m := (rfl)
@[simp] theorem Dev.ob_setScr (d : Dev) (x : Scribe) (m : Nat) : (d.setScr x).ob m = d.ob m := (rfl)
@[simp] theorem Dev.ga_setScr (d : Dev) (x : Scribe) (m : Nat) : (d.setScr x).ga m = d.ga m := (rfl)
@[simp] theorem Dev.rank_setScr (d : Dev) (x : Scribe) (m : Nat) : (d.setScr x).rank m = d.rank m := (rfl)
@[simp] theorem Dev.grove_setScr (d : Dev) (x : Scribe) (m : Nat) : (d.setScr x).grove m = d.grove m := (rfl)
@[simp] theorem Dev.coil_setScr (d : Dev) (x : Scribe) (m : Nat) : (d.setScr x).coil m = d.coil m := (rfl)
@[simp] theorem Dev.leg_setScr (d : Dev) (x : Scribe) (m : Nat) : (d.setScr x).leg m = d.leg m := (rfl)
@[simp] theorem Dev.conv_setScr (d : Dev) (x : Scribe) (m : Nat) : (d.setScr x).conv m = d.conv m := (rfl)
@[simp] theorem Dev.calSt_setScr (d : Dev) (x : Scribe) (m : Nat) : (d.setScr x).calSt m = d.calSt m := (rfl)

@[simp] theorem Dev.rd_setSup (d : Dev) (x : Supv) (p o : Nat) : (d.setSup x).rd p o = d.rd p o := (rfl)
@[simp] theorem Dev.rf_setSup (d : Dev) (x : Supv) (p o h l : Nat) : (d.setSup x).rf p o h l = d.rf p o h l := (rfl)
@[simp] theorem Dev.rb_setSup (d : Dev) (x : Supv) (p o b : Nat) : (d.setSup x).rb p o b = d.rb p o b := (rfl)
@[simp] theorem Dev.plan_setSup (d : Dev) (x : Supv) (m : Nat) : (d.setSup x).plan m = d.plan m := (rfl)
@[simp] theorem Dev.queue_setSup (d : Dev) (x : Supv) (m : Nat) : (d.setSup x).queue m = d.queue m := (rfl)
@[simp] theorem Dev.ob_setSup (d : Dev) (x : Supv) (m : Nat) : (d.setSup x).ob m = d.ob m := (rfl)
@[simp] theorem Dev.ga_setSup (d : Dev) (x : Supv) (m : Nat) : (d.setSup x).ga m = d.ga m := (rfl)
@[simp] theorem Dev.rank_setSup (d : Dev) (x : Supv) (m : Nat) : (d.setSup x).rank m = d.rank m := (rfl)
@[simp] theorem Dev.grove_setSup (d : Dev) (x : Supv) (m : Nat) : (d.setSup x).grove m = d.grove m := (rfl)
@[simp] theorem Dev.coil_setSup (d : Dev) (x : Supv) (m : Nat) : (d.setSup x).coil m = d.coil m := (rfl)
@[simp] theorem Dev.leg_setSup (d : Dev) (x : Supv) (m : Nat) : (d.setSup x).leg m = d.leg m := (rfl)
@[simp] theorem Dev.conv_setSup (d : Dev) (x : Supv) (m : Nat) : (d.setSup x).conv m = d.conv m := (rfl)
@[simp] theorem Dev.calSt_setSup (d : Dev) (x : Supv) (m : Nat) : (d.setSup x).calSt m = d.calSt m := (rfl)

@[simp] theorem Dev.rd_setRest (d : Dev) (n i : Nat) (v : Bool) (p o : Nat) : (d.setRest n i v).rd p o = d.rd p o := (rfl)
@[simp] theorem Dev.rf_setRest (d : Dev) (n i : Nat) (v : Bool) (p o h l : Nat) : (d.setRest n i v).rf p o h l = d.rf p o h l := (rfl)
@[simp] theorem Dev.rb_setRest (d : Dev) (n i : Nat) (v : Bool) (p o b : Nat) : (d.setRest n i v).rb p o b = d.rb p o b := (rfl)
@[simp] theorem Dev.plan_setRest (d : Dev) (n i : Nat) (v : Bool) (m : Nat) : (d.setRest n i v).plan m = d.plan m := (rfl)
@[simp] theorem Dev.queue_setRest (d : Dev) (n i : Nat) (v : Bool) (m : Nat) : (d.setRest n i v).queue m = d.queue m := (rfl)
@[simp] theorem Dev.ob_setRest (d : Dev) (n i : Nat) (v : Bool) (m : Nat) : (d.setRest n i v).ob m = d.ob m := (rfl)
@[simp] theorem Dev.ga_setRest (d : Dev) (n i : Nat) (v : Bool) (m : Nat) : (d.setRest n i v).ga m = d.ga m := (rfl)
@[simp] theorem Dev.rank_setRest (d : Dev) (n i : Nat) (v : Bool) (m : Nat) : (d.setRest n i v).rank m = d.rank m := (rfl)
@[simp] theorem Dev.grove_setRest (d : Dev) (n i : Nat) (v : Bool) (m : Nat) : (d.setRest n i v).grove m = d.grove m := (rfl)
@[simp] theorem Dev.coil_setRest (d : Dev) (n i : Nat) (v : Bool) (m : Nat) : (d.setRest n i v).coil m = d.coil m := (rfl)
@[simp] theorem Dev.leg_setRest (d : Dev) (n i : Nat) (v : Bool) (m : Nat) : (d.setRest n i v).leg m = d.leg m := (rfl)
@[simp] theorem Dev.conv_setRest (d : Dev) (n i : Nat) (v : Bool) (m : Nat) : (d.setRest n i v).conv m = d.conv m := (rfl)
@[simp] theorem Dev.calSt_setRest (d : Dev) (n i : Nat) (v : Bool) (m : Nat) : (d.setRest n i v).calSt m = d.calSt m := (rfl)

@[simp] theorem Dev.plan_wr (d : Dev) (p off : Nat) (w : Word) (m : Nat) : (d.wr p off w).plan m = d.plan m := (rfl)
@[simp] theorem Dev.queue_wr (d : Dev) (p off : Nat) (w : Word) (m : Nat) : (d.wr p off w).queue m = d.queue m := (rfl)
@[simp] theorem Dev.ob_wr (d : Dev) (p off : Nat) (w : Word) (m : Nat) : (d.wr p off w).ob m = d.ob m := (rfl)
@[simp] theorem Dev.ga_wr (d : Dev) (p off : Nat) (w : Word) (m : Nat) : (d.wr p off w).ga m = d.ga m := (rfl)
@[simp] theorem Dev.rank_wr (d : Dev) (p off : Nat) (w : Word) (m : Nat) : (d.wr p off w).rank m = d.rank m := (rfl)
@[simp] theorem Dev.grove_wr (d : Dev) (p off : Nat) (w : Word) (m : Nat) : (d.wr p off w).grove m = d.grove m := (rfl)
@[simp] theorem Dev.coil_wr (d : Dev) (p off : Nat) (w : Word) (m : Nat) : (d.wr p off w).coil m = d.coil m := (rfl)
@[simp] theorem Dev.leg_wr (d : Dev) (p off : Nat) (w : Word) (m : Nat) : (d.wr p off w).leg m = d.leg m := (rfl)
@[simp] theorem Dev.conv_wr (d : Dev) (p off : Nat) (w : Word) (m : Nat) : (d.wr p off w).conv m = d.conv m := (rfl)
@[simp] theorem Dev.calSt_wr (d : Dev) (p off : Nat) (w : Word) (m : Nat) : (d.wr p off w).calSt m = d.calSt m := (rfl)

@[simp] theorem Dev.plan_wf (d : Dev) (p off hi lo v : Nat) (m : Nat) : (d.wf p off hi lo v).plan m = d.plan m := (rfl)
@[simp] theorem Dev.queue_wf (d : Dev) (p off hi lo v : Nat) (m : Nat) : (d.wf p off hi lo v).queue m = d.queue m := (rfl)
@[simp] theorem Dev.ob_wf (d : Dev) (p off hi lo v : Nat) (m : Nat) : (d.wf p off hi lo v).ob m = d.ob m := (rfl)
@[simp] theorem Dev.ga_wf (d : Dev) (p off hi lo v : Nat) (m : Nat) : (d.wf p off hi lo v).ga m = d.ga m := (rfl)
@[simp] theorem Dev.rank_wf (d : Dev) (p off hi lo v : Nat) (m : Nat) : (d.wf p off hi lo v).rank m = d.rank m := (rfl)
@[simp] theorem Dev.grove_wf (d : Dev) (p off hi lo v : Nat) (m : Nat) : (d.wf p off hi lo v).grove m = d.grove m := (rfl)
@[simp] theorem Dev.coil_wf (d : Dev) (p off hi lo v : Nat) (m : Nat) : (d.wf p off hi lo v).coil m = d.coil m := (rfl)
@[simp] theorem Dev.leg_wf (d : Dev) (p off hi lo v : Nat) (m : Nat) : (d.wf p off hi lo v).leg m = d.leg m := (rfl)
@[simp] theorem Dev.conv_wf (d : Dev) (p off hi lo v : Nat) (m : Nat) : (d.wf p off hi lo v).conv m = d.conv m := (rfl)
@[simp] theorem Dev.calSt_wf (d : Dev) (p off hi lo v : Nat) (m : Nat) : (d.wf p off hi lo v).calSt m = d.calSt m := (rfl)

@[simp] theorem Dev.plan_incWrap (d : Dev) (p off hi lo n : Nat) (m : Nat) : (d.incWrap p off hi lo n).plan m = d.plan m := (rfl)
@[simp] theorem Dev.queue_incWrap (d : Dev) (p off hi lo n : Nat) (m : Nat) : (d.incWrap p off hi lo n).queue m = d.queue m := (rfl)
@[simp] theorem Dev.ob_incWrap (d : Dev) (p off hi lo n : Nat) (m : Nat) : (d.incWrap p off hi lo n).ob m = d.ob m := (rfl)
@[simp] theorem Dev.ga_incWrap (d : Dev) (p off hi lo n : Nat) (m : Nat) : (d.incWrap p off hi lo n).ga m = d.ga m := (rfl)
@[simp] theorem Dev.rank_incWrap (d : Dev) (p off hi lo n : Nat) (m : Nat) : (d.incWrap p off hi lo n).rank m = d.rank m := (rfl)
@[simp] theorem Dev.grove_incWrap (d : Dev) (p off hi lo n : Nat) (m : Nat) : (d.incWrap p off hi lo n).grove m = d.grove m := (rfl)
@[simp] theorem Dev.coil_incWrap (d : Dev) (p off hi lo n : Nat) (m : Nat) : (d.incWrap p off hi lo n).coil m = d.coil m := (rfl)
@[simp] theorem Dev.leg_incWrap (d : Dev) (p off hi lo n : Nat) (m : Nat) : (d.incWrap p off hi lo n).leg m = d.leg m := (rfl)
@[simp] theorem Dev.conv_incWrap (d : Dev) (p off hi lo n : Nat) (m : Nat) : (d.incWrap p off hi lo n).conv m = d.conv m := (rfl)
@[simp] theorem Dev.calSt_incWrap (d : Dev) (p off hi lo n : Nat) (m : Nat) : (d.incWrap p off hi lo n).calSt m = d.calSt m := (rfl)

@[simp] theorem Dev.plan_wr72 (d : Dev) (p off v : Nat) (m : Nat) : (d.wr72 p off v).plan m = d.plan m := (rfl)
@[simp] theorem Dev.queue_wr72 (d : Dev) (p off v : Nat) (m : Nat) : (d.wr72 p off v).queue m = d.queue m := (rfl)
@[simp] theorem Dev.ob_wr72 (d : Dev) (p off v : Nat) (m : Nat) : (d.wr72 p off v).ob m = d.ob m := (rfl)
@[simp] theorem Dev.ga_wr72 (d : Dev) (p off v : Nat) (m : Nat) : (d.wr72 p off v).ga m = d.ga m := (rfl)
@[simp] theorem Dev.rank_wr72 (d : Dev) (p off v : Nat) (m : Nat) : (d.wr72 p off v).rank m = d.rank m := (rfl)
@[simp] theorem Dev.grove_wr72 (d : Dev) (p off v : Nat) (m : Nat) : (d.wr72 p off v).grove m = d.grove m := (rfl)
@[simp] theorem Dev.coil_wr72 (d : Dev) (p off v : Nat) (m : Nat) : (d.wr72 p off v).coil m = d.coil m := (rfl)
@[simp] theorem Dev.leg_wr72 (d : Dev) (p off v : Nat) (m : Nat) : (d.wr72 p off v).leg m = d.leg m := (rfl)
@[simp] theorem Dev.conv_wr72 (d : Dev) (p off v : Nat) (m : Nat) : (d.wr72 p off v).conv m = d.conv m := (rfl)
@[simp] theorem Dev.calSt_wr72 (d : Dev) (p off v : Nat) (m : Nat) : (d.wr72 p off v).calSt m = d.calSt m := (rfl)

@[simp] theorem Dev.plan_evt (d : Dev) (p m : Nat) (m' : Nat) : (d.evt p m).plan m' = d.plan m' := (rfl)
@[simp] theorem Dev.queue_evt (d : Dev) (p m : Nat) (m' : Nat) : (d.evt p m).queue m' = d.queue m' := (rfl)
@[simp] theorem Dev.ob_evt (d : Dev) (p m : Nat) (m' : Nat) : (d.evt p m).ob m' = d.ob m' := (rfl)
@[simp] theorem Dev.ga_evt (d : Dev) (p m : Nat) (m' : Nat) : (d.evt p m).ga m' = d.ga m' := (rfl)
@[simp] theorem Dev.rank_evt (d : Dev) (p m : Nat) (m' : Nat) : (d.evt p m).rank m' = d.rank m' := (rfl)
@[simp] theorem Dev.grove_evt (d : Dev) (p m : Nat) (m' : Nat) : (d.evt p m).grove m' = d.grove m' := (rfl)
@[simp] theorem Dev.coil_evt (d : Dev) (p m : Nat) (m' : Nat) : (d.evt p m).coil m' = d.coil m' := (rfl)
@[simp] theorem Dev.leg_evt (d : Dev) (p m : Nat) (m' : Nat) : (d.evt p m).leg m' = d.leg m' := (rfl)
@[simp] theorem Dev.conv_evt (d : Dev) (p m : Nat) (m' : Nat) : (d.evt p m).conv m' = d.conv m' := (rfl)
@[simp] theorem Dev.calSt_evt (d : Dev) (p m : Nat) (m' : Nat) : (d.evt p m).calSt m' = d.calSt m' := (rfl)

@[simp] theorem Dev.plan_ev (d : Dev) (p i : Nat) (m : Nat) : (d.ev p i).plan m = d.plan m := (rfl)
@[simp] theorem Dev.queue_ev (d : Dev) (p i : Nat) (m : Nat) : (d.ev p i).queue m = d.queue m := (rfl)
@[simp] theorem Dev.ob_ev (d : Dev) (p i : Nat) (m : Nat) : (d.ev p i).ob m = d.ob m := (rfl)
@[simp] theorem Dev.ga_ev (d : Dev) (p i : Nat) (m : Nat) : (d.ev p i).ga m = d.ga m := (rfl)
@[simp] theorem Dev.rank_ev (d : Dev) (p i : Nat) (m : Nat) : (d.ev p i).rank m = d.rank m := (rfl)
@[simp] theorem Dev.grove_ev (d : Dev) (p i : Nat) (m : Nat) : (d.ev p i).grove m = d.grove m := (rfl)
@[simp] theorem Dev.coil_ev (d : Dev) (p i : Nat) (m : Nat) : (d.ev p i).coil m = d.coil m := (rfl)
@[simp] theorem Dev.leg_ev (d : Dev) (p i : Nat) (m : Nat) : (d.ev p i).leg m = d.leg m := (rfl)
@[simp] theorem Dev.conv_ev (d : Dev) (p i : Nat) (m : Nat) : (d.ev p i).conv m = d.conv m := (rfl)
@[simp] theorem Dev.calSt_ev (d : Dev) (p i : Nat) (m : Nat) : (d.ev p i).calSt m = d.calSt m := (rfl)

@[simp] theorem Dev.rd_note (d : Dev) (p o : Nat) : (d.note).rd p o = d.rd p o := (rfl)
@[simp] theorem Dev.rf_note (d : Dev) (p o h l : Nat) : (d.note).rf p o h l = d.rf p o h l := (rfl)
@[simp] theorem Dev.rb_note (d : Dev) (p o b : Nat) : (d.note).rb p o b = d.rb p o b := (rfl)
@[simp] theorem Dev.plan_note (d : Dev) (m : Nat) : (d.note).plan m = d.plan m := (rfl)
@[simp] theorem Dev.queue_note (d : Dev) (m : Nat) : (d.note).queue m = d.queue m := (rfl)
@[simp] theorem Dev.ob_note (d : Dev) (m : Nat) : (d.note).ob m = d.ob m := (rfl)
@[simp] theorem Dev.ga_note (d : Dev) (m : Nat) : (d.note).ga m = d.ga m := (rfl)
@[simp] theorem Dev.rank_note (d : Dev) (m : Nat) : (d.note).rank m = d.rank m := (rfl)
@[simp] theorem Dev.grove_note (d : Dev) (m : Nat) : (d.note).grove m = d.grove m := (rfl)
@[simp] theorem Dev.coil_note (d : Dev) (m : Nat) : (d.note).coil m = d.coil m := (rfl)
@[simp] theorem Dev.leg_note (d : Dev) (m : Nat) : (d.note).leg m = d.leg m := (rfl)
@[simp] theorem Dev.conv_note (d : Dev) (m : Nat) : (d.note).conv m = d.conv m := (rfl)
@[simp] theorem Dev.calSt_note (d : Dev) (m : Nat) : (d.note).calSt m = d.calSt m := (rfl)

@[simp] theorem Dev.rd_strobe (d : Dev) (m : Nat) (p o : Nat) : (d.strobe m).rd p o = d.rd p o := (rfl)
@[simp] theorem Dev.rf_strobe (d : Dev) (m : Nat) (p o h l : Nat) : (d.strobe m).rf p o h l = d.rf p o h l := (rfl)
@[simp] theorem Dev.rb_strobe (d : Dev) (m : Nat) (p o b : Nat) : (d.strobe m).rb p o b = d.rb p o b := (rfl)
@[simp] theorem Dev.plan_strobe (d : Dev) (m : Nat) (m' : Nat) : (d.strobe m).plan m' = d.plan m' := (rfl)
@[simp] theorem Dev.queue_strobe (d : Dev) (m : Nat) (m' : Nat) : (d.strobe m).queue m' = d.queue m' := (rfl)
@[simp] theorem Dev.ob_strobe (d : Dev) (m : Nat) (m' : Nat) : (d.strobe m).ob m' = d.ob m' := (rfl)
@[simp] theorem Dev.ga_strobe (d : Dev) (m : Nat) (m' : Nat) : (d.strobe m).ga m' = d.ga m' := (rfl)
@[simp] theorem Dev.rank_strobe (d : Dev) (m : Nat) (m' : Nat) : (d.strobe m).rank m' = d.rank m' := (rfl)
@[simp] theorem Dev.grove_strobe (d : Dev) (m : Nat) (m' : Nat) : (d.strobe m).grove m' = d.grove m' := (rfl)
@[simp] theorem Dev.coil_strobe (d : Dev) (m : Nat) (m' : Nat) : (d.strobe m).coil m' = d.coil m' := (rfl)
@[simp] theorem Dev.leg_strobe (d : Dev) (m : Nat) (m' : Nat) : (d.strobe m).leg m' = d.leg m' := (rfl)
@[simp] theorem Dev.conv_strobe (d : Dev) (m : Nat) (m' : Nat) : (d.strobe m).conv m' = d.conv m' := (rfl)
@[simp] theorem Dev.calSt_strobe (d : Dev) (m : Nat) (m' : Nat) : (d.strobe m).calSt m' = d.calSt m' := (rfl)

@[simp] theorem Dev.rd_shadowPut (d : Dev) (p off : Nat) (w : Word) (p' o : Nat) : (d.shadowPut p off w).rd p' o = d.rd p' o := (rfl)
@[simp] theorem Dev.rf_shadowPut (d : Dev) (p off : Nat) (w : Word) (p' o h l : Nat) : (d.shadowPut p off w).rf p' o h l = d.rf p' o h l := (rfl)
@[simp] theorem Dev.rb_shadowPut (d : Dev) (p off : Nat) (w : Word) (p' o b : Nat) : (d.shadowPut p off w).rb p' o b = d.rb p' o b := (rfl)
@[simp] theorem Dev.plan_shadowPut (d : Dev) (p off : Nat) (w : Word) (m : Nat) : (d.shadowPut p off w).plan m = d.plan m := (rfl)
@[simp] theorem Dev.queue_shadowPut (d : Dev) (p off : Nat) (w : Word) (m : Nat) : (d.shadowPut p off w).queue m = d.queue m := (rfl)
@[simp] theorem Dev.ob_shadowPut (d : Dev) (p off : Nat) (w : Word) (m : Nat) : (d.shadowPut p off w).ob m = d.ob m := (rfl)
@[simp] theorem Dev.ga_shadowPut (d : Dev) (p off : Nat) (w : Word) (m : Nat) : (d.shadowPut p off w).ga m = d.ga m := (rfl)
@[simp] theorem Dev.rank_shadowPut (d : Dev) (p off : Nat) (w : Word) (m : Nat) : (d.shadowPut p off w).rank m = d.rank m := (rfl)
@[simp] theorem Dev.grove_shadowPut (d : Dev) (p off : Nat) (w : Word) (m : Nat) : (d.shadowPut p off w).grove m = d.grove m := (rfl)
@[simp] theorem Dev.coil_shadowPut (d : Dev) (p off : Nat) (w : Word) (m : Nat) : (d.shadowPut p off w).coil m = d.coil m := (rfl)
@[simp] theorem Dev.leg_shadowPut (d : Dev) (p off : Nat) (w : Word) (m : Nat) : (d.shadowPut p off w).leg m = d.leg m := (rfl)
@[simp] theorem Dev.conv_shadowPut (d : Dev) (p off : Nat) (w : Word) (m : Nat) : (d.shadowPut p off w).conv m = d.conv m := (rfl)
@[simp] theorem Dev.calSt_shadowPut (d : Dev) (p off : Nat) (w : Word) (m : Nat) : (d.shadowPut p off w).calSt m = d.calSt m := (rfl)

@[simp] theorem Dev.plan_incSat (d : Dev) (p o h l : Nat) (m : Nat) : (d.incSat p o h l).plan m = d.plan m := by simp [Dev.plan]
@[simp] theorem Dev.queue_incSat (d : Dev) (p o h l : Nat) (m : Nat) : (d.incSat p o h l).queue m = d.queue m := by simp [Dev.queue]
@[simp] theorem Dev.ob_incSat (d : Dev) (p o h l : Nat) (m : Nat) : (d.incSat p o h l).ob m = d.ob m := by simp [Dev.ob]
@[simp] theorem Dev.ga_incSat (d : Dev) (p o h l : Nat) (m : Nat) : (d.incSat p o h l).ga m = d.ga m := by simp [Dev.ga]
@[simp] theorem Dev.rank_incSat (d : Dev) (p o h l : Nat) (m : Nat) : (d.incSat p o h l).rank m = d.rank m := by simp [Dev.rank]
@[simp] theorem Dev.grove_incSat (d : Dev) (p o h l : Nat) (m : Nat) : (d.incSat p o h l).grove m = d.grove m := by simp [Dev.grove]
@[simp] theorem Dev.coil_incSat (d : Dev) (p o h l : Nat) (m : Nat) : (d.incSat p o h l).coil m = d.coil m := by simp [Dev.coil]
@[simp] theorem Dev.leg_incSat (d : Dev) (p o h l : Nat) (m : Nat) : (d.incSat p o h l).leg m = d.leg m := by simp [Dev.leg]
@[simp] theorem Dev.conv_incSat (d : Dev) (p o h l : Nat) (m : Nat) : (d.incSat p o h l).conv m = d.conv m := by simp [Dev.conv]
@[simp] theorem Dev.calSt_incSat (d : Dev) (p o h l : Nat) (m : Nat) : (d.incSat p o h l).calSt m = d.calSt m := by simp [Dev.calSt]

end Sys2Proof.Machine
end

