-- ==== Sys2Proof/Laws/Grove.lean ====
section
/-!
SUPPORT. Laws/Grove: what the work inside a grove can change: trips, the ends of drive and what follows them stay within
that grove. Everything else of the device stays as it is.
-/
namespace Sys2Proof.Machine

theorem Dev.Within.refl (g : Nat) (d : Dev) : d.Within g d :=
  ⟨rfl, fun _ _ _ _ => rfl, fun _ _ => rfl, fun _ _ => rfl, fun _ _ => rfl, fun _ _ => rfl, fun _ _ => rfl,
    fun _ _ => rfl, fun _ _ => rfl⟩

theorem Dev.Within.trans {g : Nat} {a b c : Dev} (h : a.Within g b) (k : b.Within g c) : a.Within g c :=
  ⟨k.apart.trans h.apart, fun p off ho hp => (k.rd p off ho hp).trans (h.rd p off ho hp),
    fun x hx => (k.grove x hx).trans (h.grove x hx), fun x hx => (k.coil x hx).trans (h.coil x hx),
    fun x hx => (k.leg x hx).trans (h.leg x hx), fun x hx => (k.conv x hx).trans (h.conv x hx),
    fun x hx => (k.cal x hx).trans (h.cal x hx), fun x hx => (k.ob x hx).trans (h.ob x hx),
    fun x hx => (k.ga x hx).trans (h.ga x hx)⟩

theorem Dev.Within.ite {g : Nat} {d a b : Dev} {c : Prop} [Decidable c] (h : d.Within g a) (k : d.Within g b) :
    d.Within g (if c then a else b) := by
  split <;> assumption

theorem Dev.Within.foldl {g : Nat} {α : Type} (f : Dev → α → Dev) (l : List α)
    (h : ∀ (d : Dev) x, x ∈ l → d.Within g (f d x)) (d : Dev) : d.Within g (l.foldl f d) := by
  induction l generalizing d with
  | nil => exact .refl g d
  | cons a t ih => exact (h d a (by simp)).trans (ih (fun d x hx => h d x (by simp [hx])) (f d a))

theorem Dev.Within.each {g : Nat} (d : Dev) (n : Nat) (f : Dev → Nat → Dev)
    (h : ∀ (d : Dev) x, x < n → d.Within g (f d x)) : d.Within g (d.each n f) :=
  .foldl f _ (fun d x hx => h d x (List.mem_range.mp hx)) d

section fields
variable {g : Nat} {d d' : Dev} (h : d.Within g d')
include h

theorem Dev.Within.variant : d'.variant = d.variant := (congrArg Dev.variant h.apart :)
theorem Dev.Within.clk : d'.clk = d.clk := (congrArg Dev.clk h.apart :)
theorem Dev.Within.mem : d'.mem = d.mem := (congrArg Dev.mem h.apart :)
theorem Dev.Within.acc : d'.acc = d.acc := (congrArg Dev.acc h.apart :)
theorem Dev.Within.shadow : d'.shadow = d.shadow := (congrArg Dev.shadow h.apart :)
theorem Dev.Within.strobes : d'.strobes = d.strobes := (congrArg Dev.strobes h.apart :)
theorem Dev.Within.tb : d'.tb = d.tb := (congrArg Dev.tb h.apart :)
theorem Dev.Within.plans : d'.plans = d.plans := (congrArg Dev.plans h.apart :)
theorem Dev.Within.queues : d'.queues = d.queues := (congrArg Dev.queues h.apart :)
theorem Dev.Within.ranks : d'.ranks = d.ranks := (congrArg Dev.ranks h.apart :)
theorem Dev.Within.scr : d'.scr = d.scr := (congrArg Dev.scr h.apart :)
theorem Dev.Within.tw : d'.tw = d.tw := (congrArg Dev.tw h.apart :)
theorem Dev.Within.pins : d'.pins = d.pins := (congrArg Dev.pins h.apart :)
theorem Dev.Within.sup : d'.sup = d.sup := (congrArg Dev.sup h.apart :)
theorem Dev.Within.tk : d'.tk = d.tk := (congrArg Dev.tk h.apart :)
theorem Dev.Within.due : d'.due = d.due := (congrArg Dev.due h.apart :)
theorem Dev.Within.hp : d'.hp = d.hp := (congrArg Dev.hp h.apart :)
theorem Dev.Within.lk : d'.lk = d.lk := (congrArg Dev.lk h.apart :)
theorem Dev.Within.inp : d'.inp = d.inp := (congrArg Dev.inp h.apart :)
theorem Dev.Within.fl : d'.fl = d.fl := (congrArg Dev.fl h.apart :)
theorem Dev.Within.jr : d'.jr = d.jr := (congrArg Dev.jr h.apart :)
theorem Dev.Within.pp : d'.pp = d.pp := (congrArg Dev.pp h.apart :)
theorem Dev.Within.bl : d'.bl = d.bl := (congrArg Dev.bl h.apart :)
theorem Dev.Within.tap : d'.tap = d.tap := (congrArg Dev.tap h.apart :)

end fields

/-! ### The setters -/

theorem Dev.setGrove_within (d : Dev) (g : Nat) (x : Grove) : d.Within g (d.setGrove g x) :=
  { Dev.Within.refl g d with apart := rfl, grove := fun _ h => d.grove_setGrove_ne x (Ne.symm h) }
theorem Dev.setCoil_within (d : Dev) {g c : Nat} (x : Coil) (h : c / 32 = g) : d.Within g (d.setCoil c x) :=
  { Dev.Within.refl g d with apart := rfl, coil := fun _ hn => d.coil_setCoil_ne x (by omega) }
theorem Dev.setLeg_within (d : Dev) {g l : Nat} (x : Leg) (h : l / 64 = g) : d.Within g (d.setLeg l x) :=
  { Dev.Within.refl g d with apart := rfl, leg := fun _ hn => d.leg_setLeg_ne x (by omega) }
theorem Dev.setConv_within (d : Dev) {g i : Nat} (x : Conv) (h : i / 4 = g) : d.Within g (d.setConv i x) :=
  { Dev.Within.refl g d with apart := rfl, conv := fun _ hn => d.conv_setConv_ne x (by omega) }
theorem Dev.setOb_within (d : Dev) {g n : Nat} (x : Observer) (h : n / 16 = g) : d.Within g (d.setOb n x) :=
  { Dev.Within.refl g d with apart := rfl, ob := fun _ hn => d.ob_setOb_ne x (by omega) }
theorem Dev.setGa_within (d : Dev) {g n : Nat} (x : GAxis) (h : n / 16 = g) : d.Within g (d.setGa n x) :=
  { Dev.Within.refl g d with apart := rfl, ga := fun _ hn => d.ga_setGa_ne x (by omega) }
theorem Dev.setCal_within (d : Dev) (g : Nat) (x : CalState) : d.Within g (d.setCal g x) :=
  { Dev.Within.refl g d with apart := rfl, cal := fun _ hn => d.calSt_setCal_ne x (Ne.symm hn) }

/-- A register of a grove page is no register of another grove's pages or of a lower page. -/
theorem key_apart {p off q o g : Nat} (hp : 0x100 ≤ p) (hg : groveOf p = g) (ho : o < 1024) (hoff : off < 1024)
    (hq : q < 0x100 ∨ groveOf q ≠ g) : key p off ≠ key q o := by
  intro h
  rcases (key_inj hoff ho).mp h with ⟨rfl, _⟩
  rcases hq with hq | hq
  · omega
  · exact hq hg

theorem Dev.wr_within (d : Dev) {g p off : Nat} (w : Word) (hp : 0x100 ≤ p) (hg : groveOf p = g) (ho : off < 1024) :
    d.Within g (d.wr p off w) :=
  { Dev.Within.refl g d with apart := rfl, rd := fun _ _ h hq => d.rd_wr_ne w (key_apart hp hg h ho hq) }
theorem Dev.wf_within (d : Dev) {g p off : Nat} (hi lo v : Nat) (hp : 0x100 ≤ p) (hg : groveOf p = g) (ho : off < 1024) :
    d.Within g (d.wf p off hi lo v) := d.wr_within _ hp hg ho
theorem Dev.ev_within (d : Dev) {g p : Nat} (i : Nat) (hp : 0x100 ≤ p) (hg : groveOf p = g) : d.Within g (d.ev p i) :=
  { Dev.Within.refl g d with apart := rfl, rd := fun _ _ h hq => d.rd_ev_ne i (key_apart hp hg h (by decide) hq) }
theorem Dev.incSat_within (d : Dev) {g p off : Nat} (hi lo : Nat) (hp : 0x100 ≤ p) (hg : groveOf p = g) (ho : off < 1024) :
    d.Within g (d.incSat p off hi lo) := by
  unfold Dev.incSat
  exact .ite (d.wf_within hi lo _ hp hg ho) (.refl g d)

/-- The pages of a grove, and which grove they belong to. -/
structure PageOf (g p : Nat) : Prop where
  high : 0x100 ≤ p
  of : groveOf p = g

theorem pgGrove_of (g : Nat) : PageOf g (pgGrove g) := by constructor <;> simp only [pgGrove, groveOf] <;> omega
theorem pgCarrier_of (g : Nat) : PageOf g (pgCarrier g) := by constructor <;> simp only [pgCarrier, pgGrove, groveOf] <;> omega
theorem pgFire_of (g : Nat) : PageOf g (pgFire g) := by constructor <;> simp only [pgFire, pgGrove, groveOf] <;> omega
theorem pgNib_of (g : Nat) : PageOf g (pgNib g) := by constructor <;> simp only [pgNib, pgGrove, groveOf] <;> omega
theorem pgOvrd_of (g : Nat) : PageOf g (pgOvrd g) := by constructor <;> simp only [pgOvrd, pgGrove, groveOf] <;> omega
theorem pgCal_of (g : Nat) : PageOf g (pgCal g) := by constructor <;> simp only [pgCal, pgGrove, groveOf] <;> omega
theorem pgAxis_of {n g : Nat} (h : n / 16 = g) : PageOf g (pgAxis n) := by
  constructor <;> simp only [pgAxis, pgGrove, groveOf] <;> omega
theorem pgCv_of {c g : Nat} (h : c / 4 = g) : PageOf g (pgCv c) := by
  constructor <;> simp only [pgCv, pgConv, pgGrove, groveOf] <;> omega

theorem PageOf.wr {g p : Nat} (h : PageOf g p) (d : Dev) (off : Nat) (w : Word) (ho : off < 1024) : d.Within g (d.wr p off w) :=
  d.wr_within w h.high h.of ho
theorem PageOf.wf {g p : Nat} (h : PageOf g p) (d : Dev) (off hi lo v : Nat) (ho : off < 1024) :
    d.Within g (d.wf p off hi lo v) := d.wf_within hi lo v h.high h.of ho
theorem PageOf.ev {g p : Nat} (h : PageOf g p) (d : Dev) (i : Nat) : d.Within g (d.ev p i) := d.ev_within i h.high h.of
theorem PageOf.incSat {g p : Nat} (h : PageOf g p) (d : Dev) (off hi lo : Nat) (ho : off < 1024) :
    d.Within g (d.incSat p off hi lo) := d.incSat_within hi lo h.high h.of ho

/-! ### Legs and coils -/

theorem overlapEvent_within (d : Dev) (g k : Nat) (hk : k < 64) : d.Within g (overlapEvent d g k) := by
  have n := pgNib_of g
  have h2 : d.Within g (((((d.setLeg (64 * g + k) { d.leg (64 * g + k) with events := (((d.grove g).carNo :: (d.leg (64 * g + k)).events).take 8) }).wr (pgNib g)
      (Reg.nib.SHOOT + k / 32) (setBit ((d.setLeg (64 * g + k) { d.leg (64 * g + k) with events := (((d.grove g).carNo :: (d.leg (64 * g + k)).events).take 8) }).rd (pgNib g)
      (Reg.nib.SHOOT + k / 32)) (k % 32) true))).ev (pgNib g) 0).incSat (pgNib g) Reg.nib.SHOOTCNT 23 0) :=
    (((d.setLeg_within _ (by omega)).trans (n.wr _ _ _ (by simp only [Reg.nib.SHOOT]; omega))).trans (n.ev _ _)).trans
      (n.incSat _ _ _ _ (by decide))
  unfold overlapEvent
  refine .ite ?_ h2
  exact ((h2.trans (n.wr _ _ _ (by simp only [Reg.nib.LEGFLT]; omega))).trans (n.ev _ _)).trans (Dev.setGrove_within _ _ _)

theorem legCommand_within (d : Dev) (g k cmd tag mag at_ : Nat) (w : Bool) (hk : k < 64) :
    d.Within g (legCommand d g k cmd tag mag at_ w) := by
  unfold legCommand
  refine .ite (.refl g d) (.ite ?_ (d.setLeg_within _ (by omega)))
  exact (d.setLeg_within _ (by omega)).trans (overlapEvent_within _ g k hk)

theorem emitAxis_within (d : Dev) (g a : Nat) (tags : Nat → Coil) (at_ : Nat) (ha : a < 16) :
    d.Within g (emitAxis d g a tags at_) :=
  .each d 4 _ (fun _ _ hp => legCommand_within _ _ _ _ _ _ _ _ (by omega))

theorem setChop_within (d : Dev) (g j : Nat) (new : Coil) (at_ : Nat) (hj : j < 32) : d.Within g (setChop d g j new at_) := by
  unfold setChop
  exact (d.setCoil_within new (by omega)).trans (emitAxis_within _ _ _ _ _ (by omega))

/-! ### Converters -/

theorem startEntry_within (d : Dev) {g c : Nat} (e : Nat) (r : Bool) (t : Nat) (h : c / 4 = g) :
    d.Within g (startEntry d c e r t) := d.setConv_within _ h

theorem convNext_within (d : Dev) {g c : Nat} (t : Nat) (h : c / 4 = g) : d.Within g (convNext d c t) := by
  unfold convNext
  refine .ite (.refl g d) ?_
  split
  · exact (d.setConv_within _ h).trans (Dev.setConv_within _ _ h)
  · refine .ite (.refl g d) ?_
    split
    · exact startEntry_within d _ _ _ h
    · exact .ite ((d.setConv_within _ h).trans (startEntry_within _ _ _ _ h)) (.refl g d)

theorem removeRequest_within (d : Dev) (g j : Nat) : d.Within g (removeRequest d g j).2 := by
  have step : ∀ (l : List Nat) (f : Bool × Dev → Nat → Bool × Dev), (∀ (a : Bool × Dev) i, i ∈ l → a.2.Within g (f a i).2) →
      ∀ a : Bool × Dev, a.2.Within g (l.foldl f a).2 := by
    intro l f h
    induction l with
    | nil => exact fun a => .refl g a.2
    | cons x t ih => exact fun a => (h a x (by simp)).trans (ih (fun a i hi => h a i (by simp [hi])) (f a x))
  refine step _ _ (fun a i hi => ?_) (false, d)
  have hc : (4 * g + i) / 4 = g := by have := List.mem_range.mp hi; omega
  dsimp only
  rw [apply_ite Prod.snd, apply_ite Prod.snd]
  exact .ite ((Dev.setConv_within _ _ hc).trans (convNext_within _ _ hc)) (.ite (Dev.setConv_within _ _ hc) (.refl g _))

/-! ### The ends of drive -/

theorem coilOff_within (d : Dev) (g j : Nat) (hj : j < 32) : d.Within g (coilOff d g j) := by
  unfold coilOff
  exact (Dev.Within.ite (removeRequest_within d g j) (.refl g d)).trans (setChop_within _ _ _ _ _ hj)

theorem axisOff_within (d : Dev) (g a : Nat) (ha : a < 16) : d.Within g (axisOff d g a) :=
  (coilOff_within d g _ (by omega)).trans (coilOff_within _ g _ (by omega))

/-! ### Trips -/

theorem addCause_within (d : Dev) (g c : Nat) : d.Within g (addCause d g c) := d.setGrove_within _ _

@[simp] theorem addCause_due (d : Dev) (g c : Nat) : ((addCause d g c).grove g).due = (d.grove g).due := by
  unfold addCause; rw [Dev.grove_setGrove]; dsimp only; split <;> rfl
@[simp] theorem addCause_tripped (d : Dev) (g c : Nat) : ((addCause d g c).grove g).tripped = (d.grove g).tripped := by
  unfold addCause; rw [Dev.grove_setGrove]; dsimp only; split <;> rfl
@[simp] theorem addCause_ramp (d : Dev) (g c : Nat) : ((addCause d g c).grove g).ramp = (d.grove g).ramp := by
  unfold addCause; rw [Dev.grove_setGrove]; dsimp only; split <;> rfl
@[simp] theorem addCause_held (d : Dev) (g c : Nat) : ((addCause d g c).grove g).held = (d.grove g).held := by
  unfold addCause; rw [Dev.grove_setGrove]; dsimp only; split <;> rfl
/-- A cause that a grove takes stands in CAUSE beside those before it (R203). -/
@[simp] theorem addCause_causes (d : Dev) (g c : Nat) : ((addCause d g c).grove g).causes = (d.grove g).causes ||| 2 ^ c := by
  unfold addCause; rw [Dev.grove_setGrove]

theorem endHold_within (d : Dev) (g : Nat) : d.Within g (endHold d g) := by
  unfold endHold
  dsimp only
  split
  · exact .refl g d
  · exact d.setGrove_within _ _

theorem loseTrust_within (d : Dev) {g n : Nat} (c : Nat) (h : n / 16 = g) : d.Within g (d.loseTrust n c) := by
  unfold Dev.loseTrust
  exact .ite ((d.setOb_within _ h).trans ((pgAxis_of h).ev _ _)) (.refl g d)

theorem moveTrust_within (d : Dev) {g n : Nat} (c : Nat) (h : n / 16 = g) : d.Within g (moveTrust d n c) :=
  .ite (loseTrust_within d c h) (.refl g d)

theorem mem_groveAxes {g n : Nat} (h : n ∈ groveAxes g) : n / 16 = g := by
  obtain ⟨a, ha, rfl⟩ := List.mem_map.mp h
  have := List.mem_range.mp ha
  omega

theorem latchTrip_within (d : Dev) (g : Nat) : d.Within g (latchTrip d g) := by
  unfold latchTrip
  exact ((((Dev.Within.foldl _ _ (fun d n _ => axisOff_within d g (n % 16) (by omega)) d).trans
    ((pgFire_of g).incSat _ _ _ _ (by decide))).trans ((pgFire_of g).ev _ _)).trans (Dev.setGrove_within _ _ _))

/-- An immediate trip stays within its grove. -/
theorem trip_within (d : Dev) (g c : Nat) : d.Within g (trip d g c) := by
  unfold trip
  refine .ite (.refl g d) ?_
  have h2 : d.Within g (if ((addCause d g c).grove g).held.isSome then addCause (endHold (addCause d g c) g) g 9 else addCause d g c) :=
    .ite (((addCause_within d g c).trans (endHold_within _ g)).trans (addCause_within _ g 9)) (addCause_within d g c)
  exact .ite h2 ((h2.trans (.foldl _ _ (fun d n hn => moveTrust_within d 2 (mem_groveAxes hn)) _)).trans (latchTrip_within _ g))

theorem rampRequest_within (d : Dev) (g c : Nat) : d.Within g (rampRequest d g c) := by
  unfold rampRequest
  refine .ite (.refl g d) ?_
  refine .ite (addCause_within d g c) ?_
  split
  · exact (addCause_within d g c).trans (Dev.setGrove_within _ _ _)
  · exact .ite (addCause_within d g c) ((addCause_within d g c).trans (Dev.setGrove_within _ _ _))

/-- What a ramp-first source asks of its grove (R201): the cause, and the ramp engine unless the grove has tripped. -/
theorem rampRequest_grove (d : Dev) (g c : Nat) (h : d.hasGrove g = true) :
    ((rampRequest d g c).grove g).causes = (d.grove g).causes ||| 2 ^ c ∧
    ((rampRequest d g c).grove g).due = (d.grove g).due ∧
    ((rampRequest d g c).grove g).tripped = (d.grove g).tripped ∧
    ((d.grove g).tripped = false → ∃ r, ((rampRequest d g c).grove g).ramp = some r ∧ r.trips = true) := by
  unfold rampRequest
  rw [if_neg (by simp [h])]
  dsimp only
  by_cases ht : (d.grove g).tripped = true
  · rw [if_pos (by simpa using ht)]
    simp [ht]
  · rw [if_neg (by simpa using ht)]
    cases hr : (d.grove g).ramp with
    | none => simp [hr]
    | some r =>
      by_cases hk : r.trips = true
      · simp [hr, hk]
      · simp [hr, hk]

/-- A ramp-first source changes its grove's own record only. -/
theorem rampRequest_groves (d : Dev) (g c : Nat) : ∃ G, rampRequest d g c = { d with groves := G } := by
  have he : ∃ G, addCause d g c = { d with groves := G } := ⟨_, rfl⟩
  unfold rampRequest
  obtain ⟨G, hG⟩ := he
  rw [hG]
  split
  · exact ⟨d.groves, rfl⟩
  · dsimp only
    split
    · exact ⟨G, rfl⟩
    · split
      · exact ⟨_, rfl⟩
      · split
        · exact ⟨G, rfl⟩
        · exact ⟨_, rfl⟩

theorem rampRequest_absent (d : Dev) (g c : Nat) (h : d.hasGrove g = false) : rampRequest d g c = d := by
  simp [rampRequest, h]

theorem rampTrip_within (d : Dev) (g : Nat) : d.Within g (rampTrip d g) := .ite (.refl g d) (latchTrip_within d g)

theorem fireDue_within (d : Dev) (g : Nat) : d.Within g (fireDue d g) := by
  unfold fireDue
  refine .ite (.refl g d) ?_
  exact ((d.setGrove_within _ _).trans (.foldl _ _ (fun d c _ => trip_within d g c) _)).trans (Dev.setGrove_within _ _ _)

theorem fireDue_due (d : Dev) (g : Nat) : ((fireDue d g).grove g).due = 0 := by
  unfold fireDue
  by_cases h : (d.grove g).due = 0
  · simp [h]
  · simp [h]

theorem fireDue_of_none (d : Dev) (g : Nat) (h : (d.grove g).due = 0) : fireDue d g = d := by simp [fireDue, h]

/-! ### The end of a step -/

/-- `d'` differs from `d` within the groves only. -/
structure Dev.GroveOnly (d d' : Dev) : Prop where
  apart : d'.apart = d.apart
  low : ∀ p off, p < 0x100 → off < 1024 → d'.rd p off = d.rd p off

theorem Dev.GroveOnly.refl (d : Dev) : d.GroveOnly d := ⟨rfl, fun _ _ _ _ => rfl⟩

theorem Dev.GroveOnly.trans {a b c : Dev} (h : a.GroveOnly b) (k : b.GroveOnly c) : a.GroveOnly c :=
  ⟨k.apart.trans h.apart, fun p off hp ho => (k.low p off hp ho).trans (h.low p off hp ho)⟩

theorem Dev.Within.only {g : Nat} {d d' : Dev} (h : d.Within g d') : d.GroveOnly d' :=
  ⟨h.apart, fun p off hp ho => h.rd p off ho (.inl hp)⟩

theorem settleList_only (l : List Nat) (d : Dev) : d.GroveOnly (l.foldl fireDue d) := by
  induction l generalizing d with
  | nil => exact .refl d
  | cons g t ih => exact (fireDue_within d g).only.trans (ih _)

/-- Causes that a step found trip at its end: nothing outside the groves changes. -/
theorem settle_only (d : Dev) : d.GroveOnly (settle d) := settleList_only _ d

section fields
variable {d d' : Dev} (h : d.GroveOnly d')
include h

theorem Dev.GroveOnly.variant : d'.variant = d.variant := (congrArg Dev.variant h.apart :)
theorem Dev.GroveOnly.clk : d'.clk = d.clk := (congrArg Dev.clk h.apart :)
theorem Dev.GroveOnly.mem : d'.mem = d.mem := (congrArg Dev.mem h.apart :)
theorem Dev.GroveOnly.acc : d'.acc = d.acc := (congrArg Dev.acc h.apart :)
theorem Dev.GroveOnly.shadow : d'.shadow = d.shadow := (congrArg Dev.shadow h.apart :)
theorem Dev.GroveOnly.strobes : d'.strobes = d.strobes := (congrArg Dev.strobes h.apart :)
theorem Dev.GroveOnly.tb : d'.tb = d.tb := (congrArg Dev.tb h.apart :)
theorem Dev.GroveOnly.tw : d'.tw = d.tw := (congrArg Dev.tw h.apart :)
theorem Dev.GroveOnly.scr : d'.scr = d.scr := (congrArg Dev.scr h.apart :)
theorem Dev.GroveOnly.pins : d'.pins = d.pins := (congrArg Dev.pins h.apart :)
theorem Dev.GroveOnly.sup : d'.sup = d.sup := (congrArg Dev.sup h.apart :)
theorem Dev.GroveOnly.tk : d'.tk = d.tk := (congrArg Dev.tk h.apart :)
theorem Dev.GroveOnly.hp : d'.hp = d.hp := (congrArg Dev.hp h.apart :)
theorem Dev.GroveOnly.lk : d'.lk = d.lk := (congrArg Dev.lk h.apart :)
theorem Dev.GroveOnly.inp : d'.inp = d.inp := (congrArg Dev.inp h.apart :)
theorem Dev.GroveOnly.fl : d'.fl = d.fl := (congrArg Dev.fl h.apart :)
theorem Dev.GroveOnly.jr : d'.jr = d.jr := (congrArg Dev.jr h.apart :)
theorem Dev.GroveOnly.pp : d'.pp = d.pp := (congrArg Dev.pp h.apart :)
theorem Dev.GroveOnly.bl : d'.bl = d.bl := (congrArg Dev.bl h.apart :)
theorem Dev.GroveOnly.tap : d'.tap = d.tap := (congrArg Dev.tap h.apart :)

end fields

/-- Where no cause is due nothing settles. -/
theorem settle_of_none (d : Dev) (h : d.settled) : settle d = d := by
  unfold settle Dev.eachGrove Dev.each
  have : ∀ l : List Nat, (∀ g ∈ l, (d.grove g).due = 0) → l.foldl fireDue d = d := by
    intro l
    induction l with
    | nil => exact fun _ => rfl
    | cons g t ih =>
      intro hl
      rw [List.foldl, fireDue_of_none d g (hl g (by simp))]
      exact ih (fun x hx => hl x (by simp [hx]))
  exact this _ (fun g hg => h g (List.mem_range.mp hg))

theorem settleList_keep (l : List Nat) (d : Dev) (g : Nat) (h : (d.grove g).due = 0 ∨ g ∈ l) :
    ((l.foldl fireDue d).grove g).due = 0 := by
  induction l generalizing d with
  | nil => simpa using h
  | cons x t ih =>
    refine ih _ ?_
    by_cases hx : g = x
    · subst hx
      exact .inl (fireDue_due d g)
    · rcases h with h | h
      · exact .inl (by rw [(fireDue_within d x).grove g hx]; exact h)
      · exact .inr (by simpa [hx] using h)

/-- After the end of a step no cause is due. -/
theorem settle_settled (d : Dev) : (settle d).settled := by
  intro g hg
  rw [(settle_only d).variant] at hg
  exact settleList_keep _ d g (.inr (List.mem_range.mpr hg))

/-- Where only grove `g` can have a cause due, what the end of a step does stays within it. -/
theorem settle_within (d : Dev) (g : Nat) (h : ∀ x, x < d.variant.groves → x ≠ g → (d.grove x).due = 0) :
    d.Within g (settle d) := by
  have : ∀ (l : List Nat) (e : Dev), d.Within g e → (∀ x ∈ l, x < d.variant.groves) → e.Within g (l.foldl fireDue e) := by
    intro l
    induction l with
    | nil => exact fun e _ _ => .refl g e
    | cons x t ih =>
      intro e he hl
      by_cases hx : x = g
      · subst hx
        exact (fireDue_within e x).trans (ih _ (he.trans (fireDue_within e x)) (fun y hy => hl y (by simp [hy])))
      · have hz : (e.grove x).due = 0 := by rw [he.grove x hx]; exact h x (hl x (by simp)) hx
        rw [List.foldl, fireDue_of_none e x hz]
        exact ih e he (fun y hy => hl y (by simp [hy]))
  exact this _ d (.refl g d) (fun x hx => List.mem_range.mp hx)

end Sys2Proof.Machine
end

