-- ==== Sys2Proof/Laws/Step.lean ====
section
/-!
SUPPORT. Laws/Step: what the shared shapes of a command do: time that passes, an effect on the device, the islands in
which a unit acts, and the step.
-/
namespace Sys2Proof.Machine

/-! ### Time that passes changes the clock and the timebase only -/

@[simp] theorem Dev.advance_variant (d : Dev) (k : Nat) : (d.advance k).variant = d.variant := by unfold Dev.advance; split <;> [rfl; split] <;> rfl
@[simp] theorem Dev.advance_draws (d : Dev) (k : Nat) : (d.advance k).draws = d.draws := by unfold Dev.advance; split <;> [rfl; split] <;> rfl
@[simp] theorem Dev.advance_seq (d : Dev) (k : Nat) : (d.advance k).seq = d.seq := by unfold Dev.advance; split <;> [rfl; split] <;> rfl
@[simp] theorem Dev.advance_regs (d : Dev) (k : Nat) : (d.advance k).regs = d.regs := by unfold Dev.advance; split <;> [rfl; split] <;> rfl
@[simp] theorem Dev.advance_hist (d : Dev) (k : Nat) : (d.advance k).hist = d.hist := by unfold Dev.advance; split <;> [rfl; split] <;> rfl
@[simp] theorem Dev.advance_shadow (d : Dev) (k : Nat) : (d.advance k).shadow = d.shadow := by unfold Dev.advance; split <;> [rfl; split] <;> rfl
@[simp] theorem Dev.advance_strobes (d : Dev) (k : Nat) : (d.advance k).strobes = d.strobes := by unfold Dev.advance; split <;> [rfl; split] <;> rfl
@[simp] theorem Dev.advance_mem (d : Dev) (k : Nat) : (d.advance k).mem = d.mem := by unfold Dev.advance; split <;> [rfl; split] <;> rfl
@[simp] theorem Dev.advance_acc (d : Dev) (k : Nat) : (d.advance k).acc = d.acc := by unfold Dev.advance; split <;> [rfl; split] <;> rfl
@[simp] theorem Dev.advance_plans (d : Dev) (k : Nat) : (d.advance k).plans = d.plans := by unfold Dev.advance; split <;> [rfl; split] <;> rfl
@[simp] theorem Dev.advance_queues (d : Dev) (k : Nat) : (d.advance k).queues = d.queues := by unfold Dev.advance; split <;> [rfl; split] <;> rfl
@[simp] theorem Dev.advance_obs (d : Dev) (k : Nat) : (d.advance k).obs = d.obs := by unfold Dev.advance; split <;> [rfl; split] <;> rfl
@[simp] theorem Dev.advance_gax (d : Dev) (k : Nat) : (d.advance k).gax = d.gax := by unfold Dev.advance; split <;> [rfl; split] <;> rfl
@[simp] theorem Dev.advance_ranks (d : Dev) (k : Nat) : (d.advance k).ranks = d.ranks := by unfold Dev.advance; split <;> [rfl; split] <;> rfl
@[simp] theorem Dev.advance_scr (d : Dev) (k : Nat) : (d.advance k).scr = d.scr := by unfold Dev.advance; split <;> [rfl; split] <;> rfl
@[simp] theorem Dev.advance_groves (d : Dev) (k : Nat) : (d.advance k).groves = d.groves := by unfold Dev.advance; split <;> [rfl; split] <;> rfl
@[simp] theorem Dev.advance_coils (d : Dev) (k : Nat) : (d.advance k).coils = d.coils := by unfold Dev.advance; split <;> [rfl; split] <;> rfl
@[simp] theorem Dev.advance_legs (d : Dev) (k : Nat) : (d.advance k).legs = d.legs := by unfold Dev.advance; split <;> [rfl; split] <;> rfl
@[simp] theorem Dev.advance_convs (d : Dev) (k : Nat) : (d.advance k).convs = d.convs := by unfold Dev.advance; split <;> [rfl; split] <;> rfl
@[simp] theorem Dev.advance_cals (d : Dev) (k : Nat) : (d.advance k).cals = d.cals := by unfold Dev.advance; split <;> [rfl; split] <;> rfl
@[simp] theorem Dev.advance_tw (d : Dev) (k : Nat) : (d.advance k).tw = d.tw := by unfold Dev.advance; split <;> [rfl; split] <;> rfl
@[simp] theorem Dev.advance_pins (d : Dev) (k : Nat) : (d.advance k).pins = d.pins := by unfold Dev.advance; split <;> [rfl; split] <;> rfl
@[simp] theorem Dev.advance_sup (d : Dev) (k : Nat) : (d.advance k).sup = d.sup := by unfold Dev.advance; split <;> [rfl; split] <;> rfl
@[simp] theorem Dev.advance_tk (d : Dev) (k : Nat) : (d.advance k).tk = d.tk := by unfold Dev.advance; split <;> [rfl; split] <;> rfl
@[simp] theorem Dev.advance_rose (d : Dev) (k : Nat) : (d.advance k).rose = d.rose := by unfold Dev.advance; split <;> [rfl; split] <;> rfl
@[simp] theorem Dev.advance_due (d : Dev) (k : Nat) : (d.advance k).due = d.due := by unfold Dev.advance; split <;> [rfl; split] <;> rfl
@[simp] theorem Dev.advance_hp (d : Dev) (k : Nat) : (d.advance k).hp = d.hp := by unfold Dev.advance; split <;> [rfl; split] <;> rfl
@[simp] theorem Dev.advance_lk (d : Dev) (k : Nat) : (d.advance k).lk = d.lk := by unfold Dev.advance; split <;> [rfl; split] <;> rfl
@[simp] theorem Dev.advance_inp (d : Dev) (k : Nat) : (d.advance k).inp = d.inp := by unfold Dev.advance; split <;> [rfl; split] <;> rfl
@[simp] theorem Dev.advance_fl (d : Dev) (k : Nat) : (d.advance k).fl = d.fl := by unfold Dev.advance; split <;> [rfl; split] <;> rfl
@[simp] theorem Dev.advance_jr (d : Dev) (k : Nat) : (d.advance k).jr = d.jr := by unfold Dev.advance; split <;> [rfl; split] <;> rfl
@[simp] theorem Dev.advance_pp (d : Dev) (k : Nat) : (d.advance k).pp = d.pp := by unfold Dev.advance; split <;> [rfl; split] <;> rfl
@[simp] theorem Dev.advance_bl (d : Dev) (k : Nat) : (d.advance k).bl = d.bl := by unfold Dev.advance; split <;> [rfl; split] <;> rfl
@[simp] theorem Dev.advance_tap (d : Dev) (k : Nat) : (d.advance k).tap = d.tap := by unfold Dev.advance; split <;> [rfl; split] <;> rfl

@[simp] theorem Dev.advance_zero (d : Dev) : d.advance 0 = d := (rfl)
@[simp] theorem Dev.advance_clk (d : Dev) (k : Nat) : (d.advance k).clk = d.clk + k := by
  unfold Dev.advance
  split
  · next h => simp [h]
  · split <;> rfl
@[simp] theorem Dev.advance_tb_rate (d : Dev) (k : Nat) : (d.advance k).tb.rate = d.tb.rate := by unfold Dev.advance; split <;> [rfl; split] <;> rfl
@[simp] theorem Dev.advance_tb_slew (d : Dev) (k : Nat) : (d.advance k).tb.slew = d.tb.slew := by unfold Dev.advance; split <;> [rfl; split] <;> rfl
@[simp] theorem Dev.advance_tb_slewing (d : Dev) (k : Nat) : (d.advance k).tb.slewing = d.tb.slewing := by unfold Dev.advance; split <;> [rfl; split] <;> rfl
@[simp] theorem Dev.advance_tb_sel (d : Dev) (k : Nat) : (d.advance k).tb.sel = d.tb.sel := by unfold Dev.advance; split <;> [rfl; split] <;> rfl
@[simp] theorem Dev.advance_tb_sx (d : Dev) (k : Nat) : (d.advance k).tb.sx = d.tb.sx := by unfold Dev.advance; split <;> [rfl; split] <;> rfl
@[simp] theorem Dev.advance_tb_pps (d : Dev) (k : Nat) : (d.advance k).tb.pps = d.tb.pps := by unfold Dev.advance; split <;> [rfl; split] <;> rfl
@[simp] theorem Dev.advance_tb_holdover (d : Dev) (k : Nat) : (d.advance k).tb.holdover = d.tb.holdover := by unfold Dev.advance; split <;> [rfl; split] <;> rfl
@[simp] theorem Dev.advance_tb_locked (d : Dev) (k : Nat) : (d.advance k).tb.locked = d.tb.locked := by unfold Dev.advance; split <;> [rfl; split] <;> rfl
@[simp] theorem Dev.advance_tb_gnext (d : Dev) (k : Nat) : (d.advance k).tb.gnext = d.tb.gnext := by unfold Dev.advance; split <;> [rfl; split] <;> rfl
@[simp] theorem Dev.advance_tb_grem (d : Dev) (k : Nat) : (d.advance k).tb.grem = d.tb.grem := by unfold Dev.advance; split <;> [rfl; split] <;> rfl
@[simp] theorem Dev.advance_tb_gofs (d : Dev) (k : Nat) : (d.advance k).tb.gofs = d.tb.gofs := by unfold Dev.advance; split <;> [rfl; split] <;> rfl
@[simp] theorem Dev.advance_tb_bnext (d : Dev) (k : Nat) : (d.advance k).tb.bnext = d.tb.bnext := by unfold Dev.advance; split <;> [rfl; split] <;> rfl
@[simp] theorem Dev.advance_tb_lastB (d : Dev) (k : Nat) : (d.advance k).tb.lastB = d.tb.lastB := by unfold Dev.advance; split <;> [rfl; split] <;> rfl
@[simp] theorem Dev.advance_tb_tper (d : Dev) (k : Nat) : (d.advance k).tb.tper = d.tb.tper := by unfold Dev.advance; split <;> [rfl; split] <;> rfl
@[simp] theorem Dev.advance_tb_tgrid (d : Dev) (k : Nat) : (d.advance k).tb.tgrid = d.tb.tgrid := by unfold Dev.advance; split <;> [rfl; split] <;> rfl
@[simp] theorem Dev.advance_tb_tperAt (d : Dev) (k : Nat) : (d.advance k).tb.tperAt = d.tb.tperAt := by unfold Dev.advance; split <;> [rfl; split] <;> rfl
@[simp] theorem Dev.advance_tb_tgridAt (d : Dev) (k : Nat) : (d.advance k).tb.tgridAt = d.tb.tgridAt := by unfold Dev.advance; split <;> [rfl; split] <;> rfl
@[simp] theorem Dev.advance_tb_epochPending (d : Dev) (k : Nat) : (d.advance k).tb.epochPending = d.tb.epochPending := by unfold Dev.advance; split <;> [rfl; split] <;> rfl
@[simp] theorem Dev.advance_tb_started (d : Dev) (k : Nat) : (d.advance k).tb.started = d.tb.started := by unfold Dev.advance; split <;> [rfl; split] <;> rfl
@[simp] theorem Dev.advance_tb_stepAt (d : Dev) (k : Nat) : (d.advance k).tb.stepAt = d.tb.stepAt := by unfold Dev.advance; split <;> [rfl; split] <;> rfl

@[simp] theorem Dev.rd_advance (d : Dev) (k p off : Nat) : (d.advance k).rd p off = d.rd p off := by simp [Dev.rd]
@[simp] theorem Dev.plan_advance (d : Dev) (k n : Nat) : (d.advance k).plan n = d.plan n := by simp [Dev.plan]
@[simp] theorem Dev.queue_advance (d : Dev) (k n : Nat) : (d.advance k).queue n = d.queue n := by simp [Dev.queue]
@[simp] theorem Dev.ob_advance (d : Dev) (k n : Nat) : (d.advance k).ob n = d.ob n := by simp [Dev.ob]
@[simp] theorem Dev.ga_advance (d : Dev) (k n : Nat) : (d.advance k).ga n = d.ga n := by simp [Dev.ga]
@[simp] theorem Dev.rank_advance (d : Dev) (k n : Nat) : (d.advance k).rank n = d.rank n := by simp [Dev.rank]
@[simp] theorem Dev.grove_advance (d : Dev) (k n : Nat) : (d.advance k).grove n = d.grove n := by simp [Dev.grove]
@[simp] theorem Dev.coil_advance (d : Dev) (k n : Nat) : (d.advance k).coil n = d.coil n := by simp [Dev.coil]
@[simp] theorem Dev.leg_advance (d : Dev) (k n : Nat) : (d.advance k).leg n = d.leg n := by simp [Dev.leg]
@[simp] theorem Dev.conv_advance (d : Dev) (k n : Nat) : (d.advance k).conv n = d.conv n := by simp [Dev.conv]
@[simp] theorem Dev.calSt_advance (d : Dev) (k n : Nat) : (d.advance k).calSt n = d.calSt n := by simp [Dev.calSt]

@[simp] theorem Dev.rf_advance (d : Dev) (k p off hi lo : Nat) : (d.advance k).rf p off hi lo = d.rf p off hi lo := by simp [Dev.rf]
@[simp] theorem Dev.rb_advance (d : Dev) (k p off i : Nat) : (d.advance k).rb p off i = d.rb p off i := by simp [Dev.rb]
@[simp] theorem Dev.hasGrove_advance (d : Dev) (k g : Nat) : (d.advance k).hasGrove g = d.hasGrove g := by simp [Dev.hasGrove]
@[simp] theorem Dev.restDue_advance (d : Dev) (k n i : Nat) : (d.advance k).restDue n i = d.restDue n i := by simp [Dev.restDue]
@[simp] theorem Dev.grovesRun_advance (d : Dev) (k : Nat) : (d.advance k).grovesRun = d.grovesRun := by simp [Dev.grovesRun]
@[simp] theorem Dev.groveLive_advance (d : Dev) (k g : Nat) : (d.advance k).groveLive g = d.groveLive g := by simp [Dev.groveLive]

/-- Time runs up to an instant that lies ahead. -/
theorem advanceTo_clk (d : Dev) (t : Nat) (h : d.clk ≤ t) : (d.advanceTo t).clk = t := by
  unfold Dev.advanceTo; rw [Dev.advance_clk]; omega

/-! ### The state after an effect on the device -/

@[simp] theorem State.after_dev (s : State) (d : Dev) : (s.after d).dev = settle d := (rfl)
@[simp] theorem State.after_pending (s : State) (d : Dev) : (s.after d).pending = s.pending := (rfl)
@[simp] theorem State.after_balls (s : State) (d : Dev) : (s.after d).balls = ballsOf (settle d) := (rfl)

@[simp] theorem State.afterTick_dev (s : State) (d x : Dev) : (s.afterTick d x).dev = settle d := (rfl)
@[simp] theorem State.afterTick_pending (s : State) (d x : Dev) : (s.afterTick d x).pending = s.pending := (rfl)
@[simp] theorem State.afterTick_balls (s : State) (d x : Dev) : (s.afterTick d x).balls = ballsOf (settle d) := (rfl)
@[simp] theorem State.afterTick_tele1 (s : State) (d x : Dev) : (s.afterTick d x).tele1 = x := (rfl)
@[simp] theorem State.afterTick_tele2 (s : State) (d x : Dev) : (s.afterTick d x).tele2 = s.tele1 := (rfl)

/-- A boundary has the number that was next (R315), and so has its sample. -/
theorem tickBoundary_tk (d : Dev) (ue : List (Nat × Nat)) : (tickBoundary d ue).1.tk = d.nextTick := by
  unfold tickBoundary; dsimp only
theorem tickBoundary_sample_tk (d : Dev) (ue : List (Nat × Nat)) : (tickBoundary d ue).2.tk = d.nextTick := by
  unfold tickBoundary; dsimp only

/-- A boundary where the islands run. -/
theorem execTickBoundary_runs (ue : List (Fin 2 × Fin 128)) (s : State) (h : s.dev.grovesRun = true) :
    execTickBoundary ue s = .next (s.afterTick (tickBoundary s.dev (ue.map (fun e => (e.1.val, e.2.val)))).1
      (tickBoundary s.dev (ue.map (fun e => (e.1.val, e.2.val)))).2) := by
  unfold execTickBoundary; rw [if_neg (by simp [h])]

/-- None is placed while they stand (R399). -/
theorem execTickBoundary_stands (ue : List (Fin 2 × Fin 128)) (s : State) (h : s.dev.grovesRun = false) :
    execTickBoundary ue s = .next s := by
  unfold execTickBoundary; rw [if_pos (by simp [h])]

/-- A command that acts outside reset answers the state after its effect. -/
theorem State.does_eq (s : State) (f : Dev → Dev) (h : s.dev.sup.inReset = false) : s.does f = .next (s.after (f s.dev)) := by
  simp [State.does, State.run, h]

/-- While reset lasts it answers the state as it was (R389). -/
theorem State.does_reset (s : State) (f : Dev → Dev) (h : s.dev.sup.inReset = true) : s.does f = .next s := by
  simp [State.does, State.run, h]

/-- The islands of the Quills and groves run (R399). -/
theorem inIslands_eq (dt : Nat) (f : Dev → Dev) (d : Dev) (h : d.grovesRun = true) : inIslands dt f d = f (d.advance dt) := by
  simp [inIslands, h]

theorem inPorts_eq (dt : Nat) (f : Dev → Dev) (d : Dev) (h : d.sup.ps ≠ .retain) : inPorts dt f d = f (d.advance dt) := by
  simp [inPorts, h]

theorem inGrove_eq (g dt : Nat) (f : Dev → Dev) (d : Dev) (h : d.groveLive g = true) : inGrove g dt f d = f (d.advance dt) := by
  simp [inGrove, h]

theorem regWrite_eq (d : Dev) (w : RegWrite) (p off : Nat) (h : d.sup.ps ≠ .retain) :
    regWrite d w p off = writeCommand (d.advance w.dt) p off w := by
  simp [regWrite, h]

end Sys2Proof.Machine
end

