-- ==== Sys2Proof/Laws/Balls.lean ====
section
/-!
SUPPORT. Laws/Balls: the table of ball levels reads, for every leg, the level that the device's own state gives.
-/
namespace Sys2Proof.Machine

theorem Tab.look_append {α : Type} (a b : Tab α) (k : Nat) : (a ++ b : Tab α).look k = (a.look k).or (b.look k) := by
  induction a with
  | nil => simp [Tab.look]
  | cons e t ih =>
    obtain ⟨x, y⟩ := e
    by_cases h : x = k
    · simp [Tab.look, h]
    · simpa [Tab.look, h] using ih

theorem Tab.look_none {α : Type} (t : Tab α) (k : Nat) (h : ∀ e ∈ t, e.1 ≠ k) : t.look k = none := by
  induction t with
  | nil => rfl
  | cons e t ih =>
    obtain ⟨x, y⟩ := e
    have hx : x ≠ k := h (x, y) (by simp)
    simp only [Tab.look, hx, if_false]
    exact ih (fun e he => h e (List.mem_cons_of_mem _ he))

/-- A filtered list of values by key, the keys injective: what a key of the list reads. -/
theorem Tab.get_map_filter (f : Nat → Nat) (b : Nat) (l : List Nat) (k : Nat) (hk : k ∈ l) (hn : l.Nodup) :
    Tab.get (((l.map (fun k => (b + k, f k))).filter (fun e => e.2 != 0) : Tab Nat)) (b + k) 0 = f k := by
  induction l with
  | nil => simp at hk
  | cons x t ih =>
    have hd := List.nodup_cons.mp hn
    by_cases h : x = k
    · subst h
      have hr : Tab.look ((t.map (fun k => (b + k, f k))).filter (fun e => e.2 != 0) : Tab Nat) (b + x) = none := by
        apply Tab.look_none
        intro e he
        simp only [List.mem_filter, List.mem_map] at he
        obtain ⟨⟨y, hy, rfl⟩, _⟩ := he
        intro h
        have : y = x := by simpa using h
        exact hd.1 (this ▸ hy)
      by_cases hf : f x = 0
      · simp [hf, Tab.get, hr]
      · simp [hf, Tab.get, Tab.look]
    · have hm : k ∈ t := by simpa [Ne.symm h] using hk
      by_cases hf : f x = 0
      · simpa [hf] using ih hm hd.2
      · have := ih hm hd.2
        simpa [hf, Tab.get, Tab.look, h] using this

theorem groveBalls_get (d : Dev) (g k : Nat) (hk : k < 64) : (groveBalls d g).get (64 * g + k) 0 = ballOf d g k :=
  Tab.get_map_filter (ballOf d g) (64 * g) (List.range 64) k (List.mem_range.mpr hk) List.nodup_range

theorem groveBalls_keys (d : Dev) (g : Nat) (e : Nat × Nat) (he : e ∈ groveBalls d g) : 64 * g ≤ e.1 ∧ e.1 < 64 * g + 64 := by
  simp only [groveBalls, List.mem_filter, List.mem_map, List.mem_range] at he
  obtain ⟨⟨k, hk, rfl⟩, _⟩ := he
  simp only
  omega

theorem flatBalls_get (d : Dev) (gs : List Nat) (g k : Nat) (hg : g ∈ gs) (hk : k < 64) :
    Tab.get (gs.flatMap (groveBalls d) : Tab Nat) (64 * g + k) 0 = ballOf d g k := by
  induction gs with
  | nil => simp at hg
  | cons x t ih =>
    rw [List.flatMap_cons]
    by_cases h : x = g
    · subst h
      have hx := groveBalls_get d x k hk
      unfold Tab.get at hx ⊢
      rw [Tab.look_append]
      cases hl : Tab.look (groveBalls d x) (64 * x + k) with
      | some v => simpa [hl] using hx
      | none =>
        rw [hl] at hx
        simp only [Option.none_or]
        by_cases hm : x ∈ t
        · have := ih hm
          unfold Tab.get at this
          exact this
        · rw [Tab.look_none]
          · simpa using hx
          · intro e he
            obtain ⟨y, hy, hey⟩ := List.mem_flatMap.mp he
            have hb := groveBalls_keys d y e hey
            have hne : y ≠ x := fun h => hm (h ▸ hy)
            omega
    · have hm : g ∈ t := by simpa [Ne.symm h] using hg
      have := ih hm
      unfold Tab.get at this ⊢
      rw [Tab.look_append, Tab.look_none (groveBalls d x)]
      · simpa using this
      · intro e he
        have hb := groveBalls_keys d x e he
        omega

/-- The level of a leg's balls in the table. -/
theorem ballsOf_get (d : Dev) (g k : Nat) (hg : g < 8) (hk : k < 64) : (ballsOf d).get (64 * g + k) 0 = ballOf d g k :=
  flatBalls_get d (List.range 8) g k (List.mem_range.mpr hg) hk

/-- Where the balls follow the device a leg's level is the one that the device gives. -/
theorem State.ball_eq (s : State) (h : s.ballsFollow) (g k : Nat) (hg : g < 8) (hk : k < 64) : s.ball g k = ballOf s.dev g k := by
  unfold State.ball
  rw [show s.balls = ballsOf s.dev from h]
  exact ballsOf_get s.dev g k hg hk

/-- The balls follow the device after every effect. -/
theorem State.after_follows (s : State) (d : Dev) : (s.after d).ballsFollow := rfl

theorem State.afterTick_follows (s : State) (d x : Dev) : (s.afterTick d x).ballsFollow := rfl

theorem State.run_follows (s : State) (f : Dev → Dev) (h : s.ballsFollow) : (s.run f).ballsFollow := by
  unfold State.run
  split
  · exact h
  · exact s.after_follows _

end Sys2Proof.Machine
end

