-- ==== Sys2Proof/Laws/Bits.lean ====
section
/-!
SUPPORT. Laws/Bits: fields of words, read after they are set.
-/
namespace Sys2Proof.Machine

theorem testBit_nfld (w hi lo i : Nat) : (nfld w hi lo).testBit i = (decide (i < hi - lo + 1) && w.testBit (i + lo)) := by
  rw [nfld, Nat.testBit_mod_two_pow, Nat.testBit_shiftRight, Nat.add_comm lo i]

/-- The three parts of a number: below a field, the field, and above it. -/
theorem nfld_split (w hi lo : Nat) (h : lo ≤ hi) :
    w = w % 2 ^ lo + nfld w hi lo * 2 ^ lo + (w / 2 ^ (hi + 1)) * 2 ^ (hi + 1) := by
  have e : hi + 1 = lo + (hi - lo + 1) := by omega
  rw [e, Nat.pow_add, nfld, Nat.shiftRight_eq_div_pow]
  have a := Nat.div_add_mod w (2 ^ lo)
  have b := Nat.div_add_mod (w / 2 ^ lo) (2 ^ (hi - lo + 1))
  rw [Nat.div_div_eq_div_mul] at b
  generalize w / (2 ^ lo * 2 ^ (hi - lo + 1)) = q at *
  generalize w / 2 ^ lo % 2 ^ (hi - lo + 1) = r at *
  generalize w % 2 ^ lo = u at *
  generalize 2 ^ (hi - lo + 1) = n at *
  generalize 2 ^ lo = m at *
  rw [← b] at a
  rw [← a]
  ring

/-- A set field, bit by bit. -/
theorem toNat_setFld (w : Word) (hi lo v : Nat) (h : lo ≤ hi) (hh : hi < 36) (i : Nat) :
    (setFld w hi lo v).toNat.testBit i =
      if lo ≤ i ∧ i ≤ hi then v.testBit (i - lo) else w.toNat.testBit i := by
  have hw := nfld_split w.toNat hi lo h
  have hlt := w.isLt
  have e : hi + 1 = lo + (hi - lo + 1) := by omega
  have hn : w.toNat - nfld w.toNat hi lo * 2 ^ lo + (v % 2 ^ (hi - lo + 1)) * 2 ^ lo =
      2 ^ (hi + 1) * (w.toNat / 2 ^ (hi + 1)) + (2 ^ lo * (v % 2 ^ (hi - lo + 1)) + w.toNat % 2 ^ lo) := by
    generalize w.toNat / 2 ^ (hi + 1) = a at *
    generalize w.toNat % 2 ^ lo = b at *
    generalize nfld w.toNat hi lo = c at *
    generalize v % 2 ^ (hi - lo + 1) = x at *
    rw [hw]
    have : b + c * 2 ^ lo + a * 2 ^ (hi + 1) - c * 2 ^ lo = b + a * 2 ^ (hi + 1) := by omega
    rw [this]
    ring
  have hx : 2 ^ lo * (v % 2 ^ (hi - lo + 1)) + w.toNat % 2 ^ lo < 2 ^ (hi + 1) := by
    have h1 : v % 2 ^ (hi - lo + 1) + 1 ≤ 2 ^ (hi - lo + 1) := Nat.mod_lt _ (by positivity)
    have h2 : w.toNat % 2 ^ lo < 2 ^ lo := Nat.mod_lt _ (by positivity)
    have h3 := Nat.mul_le_mul_left (2 ^ lo) h1
    rw [Nat.mul_add, ← Nat.pow_add, ← e] at h3
    omega
  have hb : w.toNat % 2 ^ lo < 2 ^ lo := Nat.mod_lt _ (by positivity)
  have hs : 2 ^ (hi + 1) * (w.toNat / 2 ^ (hi + 1)) + (2 ^ lo * (v % 2 ^ (hi - lo + 1)) + w.toNat % 2 ^ lo) < 2 ^ 36 := by
    have h4 : w.toNat / 2 ^ (hi + 1) < 2 ^ (36 - (hi + 1)) := by
      apply Nat.div_lt_of_lt_mul
      rw [← Nat.pow_add]
      rw [show hi + 1 + (36 - (hi + 1)) = 36 by omega]
      exact hlt
    have h5 := Nat.mul_le_mul_left (2 ^ (hi + 1)) h4
    rw [← Nat.pow_add, show hi + 1 + (36 - (hi + 1)) = 36 by omega, Nat.mul_succ] at h5
    omega
  unfold setFld
  dsimp only
  rw [BitVec.toNat_ofNat, hn, Nat.mod_eq_of_lt hs, Nat.testBit_two_pow_mul_add _ hx, Nat.testBit_two_pow_mul_add _ hb]
  by_cases h1 : i < hi + 1
  · by_cases h2 : i < lo
    · rw [if_pos h1, if_pos h2, if_neg (by omega), Nat.testBit_mod_two_pow]
      simp [h2]
    · rw [if_pos h1, if_neg h2, if_pos (by omega), Nat.testBit_mod_two_pow]
      simp [show i - lo < hi - lo + 1 by omega]
  · rw [if_neg h1, if_neg (by omega), Nat.testBit_div_two_pow]
    congr 1
    omega

/-- A field that has been set reads what was put there. -/
theorem fld_setFld_eq (w : Word) (hi lo v : Nat) (h : lo ≤ hi) (hh : hi < 36) :
    fld (setFld w hi lo v) hi lo = v % 2 ^ (hi - lo + 1) := by
  apply Nat.eq_of_testBit_eq
  intro i
  rw [fld, testBit_nfld, toNat_setFld w hi lo v h hh, Nat.testBit_mod_two_pow]
  by_cases hi' : i < hi - lo + 1
  · rw [if_pos (by omega), Nat.add_sub_cancel]
  · simp [hi']

/-- Another field stays. -/
theorem fld_setFld_ne (w : Word) (hi lo v a b : Nat) (h : lo ≤ hi) (hh : hi < 36) (ha : b ≤ a) (hd : a < lo ∨ hi < b) :
    fld (setFld w hi lo v) a b = fld w a b := by
  apply Nat.eq_of_testBit_eq
  intro i
  rw [fld, fld, testBit_nfld, testBit_nfld, toNat_setFld w hi lo v h hh]
  by_cases hi' : i < a - b + 1
  · rw [if_neg (by omega)]
  · simp [hi']

theorem bit_setFld_in (w : Word) (hi lo v i : Nat) (hh : hi < 36) (h1 : lo ≤ i) (h2 : i ≤ hi) :
    bit (setFld w hi lo v) i = v.testBit (i - lo) := by
  rw [bit, toNat_setFld w hi lo v (by omega) hh, if_pos ⟨h1, h2⟩]
theorem bit_setFld_out (w : Word) (hi lo v i : Nat) (h : lo ≤ hi) (hh : hi < 36) (hd : i < lo ∨ hi < i) :
    bit (setFld w hi lo v) i = bit w i := by
  rw [bit, toNat_setFld w hi lo v h hh, if_neg (by omega), bit]

theorem getLsbD_eq_bit (w : Word) (i : Nat) : w.getLsbD i = bit w i := by simp [bit, BitVec.getLsbD]

/-- A bit that has been set. -/
theorem setBit_bit (w : Word) (i : Nat) (v : Bool) (h : i < 36) : (setBit w i v).getLsbD i = v := by
  rw [getLsbD_eq_bit, setBit, bit_setFld_in _ _ _ _ _ h (Nat.le_refl i) (Nat.le_refl i)]
  cases v <;> simp

/-- A field of a register after it is written. -/
theorem Dev.rf_wf_eq (d : Dev) (p off hi lo v : Nat) (h : lo ≤ hi) (hh : hi < 36) :
    (d.wf p off hi lo v).rf p off hi lo = v % 2 ^ (hi - lo + 1) := by
  unfold Dev.rf Dev.wf
  rw [Dev.rd_wr_eq, fld_setFld_eq _ _ _ _ h hh]
theorem Dev.rf_wf_other (d : Dev) (p off hi lo v a b : Nat) (h : lo ≤ hi) (hh : hi < 36) (ha : b ≤ a) (hd : a < lo ∨ hi < b) :
    (d.wf p off hi lo v).rf p off a b = d.rf p off a b := by
  unfold Dev.rf Dev.wf
  rw [Dev.rd_wr_eq, fld_setFld_ne _ _ _ _ _ _ h hh ha hd]

/-- One bit of a mask of pins. -/
theorem maskSet_testBit (m i j : Nat) (v : Bool) : (maskSet m i v).testBit j = if j = i then v else m.testBit j := by
  unfold maskSet
  cases v
  · simp only [Bool.false_eq_true, if_false]
    split
    · next h =>
      have hm := nfld_split m i i (Nat.le_refl i)
      have hb : nfld m i i = 1 := by
        rw [Nat.testBit_eq_decide_div_mod_eq, decide_eq_true_iff] at h
        rw [nfld, Nat.shiftRight_eq_div_pow, Nat.sub_self]
        exact h
      rw [hb, Nat.one_mul] at hm
      have hl : m % 2 ^ i < 2 ^ i := Nat.mod_lt _ (by positivity)
      have hx : m - 2 ^ i = 2 ^ (i + 1) * (m / 2 ^ (i + 1)) + m % 2 ^ i := by
        rw [Nat.mul_comm]; omega
      have hy : m = 2 ^ (i + 1) * (m / 2 ^ (i + 1)) + (2 ^ i * 1 + m % 2 ^ i) := by
        rw [Nat.mul_comm]; omega
      have hp : 2 ^ (i + 1) = 2 * 2 ^ i := by rw [Nat.pow_succ]; omega
      rw [hx, Nat.testBit_two_pow_mul_add _ (by omega)]
      by_cases hj : j = i
      · subst hj
        rw [if_pos (by omega), if_pos rfl, Nat.testBit_lt_two_pow hl]
      · rw [if_neg hj]
        conv => rhs; rw [hy]
        rw [Nat.testBit_two_pow_mul_add _ (by omega)]
        split
        · rw [Nat.testBit_two_pow_mul_add _ hl]
          have : j < i := by omega
          rw [if_pos this]
        · rfl
    · next h =>
      split
      · next e => rw [e]; simpa using h
      · rfl
  · simp only [if_true, Nat.testBit_or, Nat.testBit_two_pow]
    by_cases h : j = i
    · simp [h]
    · simp [h, Ne.symm h]

theorem fld_lt (w : Word) (hi lo : Nat) : fld w hi lo < 2 ^ (hi - lo + 1) := Nat.mod_lt _ (by positivity)

/-- A counter that saturates. -/
theorem Dev.rf_incSat_eq (d : Dev) (p off hi lo : Nat) (h : lo ≤ hi) (hh : hi < 36) :
    (d.incSat p off hi lo).rf p off hi lo = min (2 ^ (hi - lo + 1) - 1) (d.rf p off hi lo + 1) := by
  have hl : d.rf p off hi lo < 2 ^ (hi - lo + 1) := fld_lt _ _ _
  unfold Dev.rf
  rw [Dev.rd_incSat_eq]
  split
  · next hc =>
    rw [fld_setFld_eq _ _ _ _ h hh, Nat.mod_eq_of_lt hc]
    unfold Dev.rf at hc ⊢
    omega
  · next hc =>
    unfold Dev.rf at hc hl
    omega

end Sys2Proof.Machine
end

