-- ==== Sys2Proof/Laws/Stage.lean ====
section
/-!
SUPPORT. Laws/Stage: what the commands to the Nibs change: legs, the Nib page and the causes that an overlap makes due.
Coils, converters and everything else stay; so a coil that takes a new chopper state holds exactly that state.
-/
namespace Sys2Proof.Machine

/-- `d'` differs from `d` in the legs, the Nib page and the due causes of grove `g` only. -/
structure Dev.Stage (g : Nat) (d d' : Dev) : Prop where
  within : d.Within g d'
  coils : d'.coils = d.coils
  convs : d'.convs = d.convs
  cals : d'.cals = d.cals
  obs : d'.obs = d.obs
  gax : d'.gax = d.gax
  hist : d'.hist = d.hist
  draws : d'.draws = d.draws
  grove : ∃ u, d'.grove g = { d.grove g with due := u }
  rd : ∀ p off, off < 1024 → p ≠ pgNib g → d'.rd p off = d.rd p off

theorem Dev.Stage.refl (g : Nat) (d : Dev) : d.Stage g d :=
  ⟨.refl g d, rfl, rfl, rfl, rfl, rfl, rfl, rfl, ⟨_, rfl⟩, fun _ _ _ _ => rfl⟩

theorem Dev.Stage.trans {g : Nat} {a b c : Dev} (h : a.Stage g b) (k : b.Stage g c) : a.Stage g c := by
  refine ⟨h.within.trans k.within, k.coils.trans h.coils, k.convs.trans h.convs, k.cals.trans h.cals, k.obs.trans h.obs,
    k.gax.trans h.gax, k.hist.trans h.hist, k.draws.trans h.draws, ?_, fun p off ho hp => (k.rd p off ho hp).trans (h.rd p off ho hp)⟩
  obtain ⟨u, hu⟩ := h.grove
  obtain ⟨v, hv⟩ := k.grove
  exact ⟨v, by rw [hv, hu]⟩

theorem Dev.Stage.ite {g : Nat} {d a b : Dev} {c : Prop} [Decidable c] (h : d.Stage g a) (k : d.Stage g b) :
    d.Stage g (if c then a else b) := by
  split <;> assumption

theorem Dev.Stage.each {g : Nat} (d : Dev) (n : Nat) (f : Dev → Nat → Dev)
    (h : ∀ (d : Dev) x, x < n → d.Stage g (f d x)) : d.Stage g (d.each n f) := by
  unfold Dev.each
  have : ∀ (l : List Nat) (e : Dev), (∀ x ∈ l, x < n) → d.Stage g e → d.Stage g (l.foldl f e) := by
    intro l
    induction l with
    | nil => exact fun _ _ he => he
    | cons a t ih => exact fun e hl he => ih _ (fun x hx => hl x (by simp [hx])) (he.trans (h e a (hl a (by simp))))
  exact this _ d (fun x hx => List.mem_range.mp hx) (.refl g d)

section fields
variable {g : Nat} {d d' : Dev} (h : d.Stage g d')
include h

theorem Dev.Stage.coil (c : Nat) : d'.coil c = d.coil c := by simp only [Dev.coil, h.coils]
theorem Dev.Stage.conv (c : Nat) : d'.conv c = d.conv c := by simp only [Dev.conv, h.convs]
theorem Dev.Stage.calSt (c : Nat) : d'.calSt c = d.calSt c := by simp only [Dev.calSt, h.cals]
theorem Dev.Stage.ob (c : Nat) : d'.ob c = d.ob c := by simp only [Dev.ob, h.obs]
theorem Dev.Stage.ga (c : Nat) : d'.ga c = d.ga c := by simp only [Dev.ga, h.gax]
theorem Dev.Stage.tripped : (d'.grove g).tripped = (d.grove g).tripped := by
  obtain ⟨u, hu⟩ := h.grove; rw [hu]
theorem Dev.Stage.safe : (d'.grove g).safe = (d.grove g).safe := by
  obtain ⟨u, hu⟩ := h.grove; rw [hu]
theorem Dev.Stage.causes : (d'.grove g).causes = (d.grove g).causes := by
  obtain ⟨u, hu⟩ := h.grove; rw [hu]
theorem Dev.Stage.ramp : (d'.grove g).ramp = (d.grove g).ramp := by
  obtain ⟨u, hu⟩ := h.grove; rw [hu]
theorem Dev.Stage.held : (d'.grove g).held = (d.grove g).held := by
  obtain ⟨u, hu⟩ := h.grove; rw [hu]

end fields

theorem Dev.setLeg_stage (d : Dev) {g l : Nat} (x : Leg) (h : l / 64 = g) : d.Stage g (d.setLeg l x) :=
  ⟨d.setLeg_within x h, rfl, rfl, rfl, rfl, rfl, rfl, rfl, ⟨_, rfl⟩, fun _ _ _ _ => rfl⟩
theorem Dev.setDue_stage (d : Dev) (g u : Nat) : d.Stage g (d.setGrove g { d.grove g with due := u }) :=
  ⟨d.setGrove_within g _, rfl, rfl, rfl, rfl, rfl, rfl, rfl, ⟨u, d.grove_setGrove g _⟩, fun _ _ _ _ => rfl⟩
theorem Dev.nib_wr_stage (d : Dev) (g off : Nat) (w : Word) (ho : off < 1024) : d.Stage g (d.wr (pgNib g) off w) :=
  ⟨(pgNib_of g).wr d off w ho, rfl, rfl, rfl, rfl, rfl, rfl, rfl, ⟨_, rfl⟩,
    fun _ _ h hp => d.rd_wr_ne w (fun hk => hp ((key_inj ho h).mp hk).1.symm)⟩
theorem Dev.nib_ev_stage (d : Dev) (g i : Nat) : d.Stage g (d.ev (pgNib g) i) :=
  ⟨(pgNib_of g).ev d i, rfl, rfl, rfl, rfl, rfl, rfl, rfl, ⟨_, rfl⟩,
    fun _ _ h hp => d.rd_ev_ne i (fun hk => hp ((key_inj (by decide) h).mp hk).1.symm)⟩
theorem Dev.nib_incSat_stage (d : Dev) (g off hi lo : Nat) (ho : off < 1024) : d.Stage g (d.incSat (pgNib g) off hi lo) := by
  unfold Dev.incSat
  exact .ite (d.nib_wr_stage g off _ ho) (.refl g d)

theorem overlapEvent_stage (d : Dev) (g k : Nat) (hk : k < 64) : d.Stage g (overlapEvent d g k) := by
  have h2 : d.Stage g (((((d.setLeg (64 * g + k) { d.leg (64 * g + k) with events := (((d.grove g).carNo :: (d.leg (64 * g + k)).events).take 8) }).wr (pgNib g)
      (Reg.nib.SHOOT + k / 32) (setBit ((d.setLeg (64 * g + k) { d.leg (64 * g + k) with events := (((d.grove g).carNo :: (d.leg (64 * g + k)).events).take 8) }).rd (pgNib g)
      (Reg.nib.SHOOT + k / 32)) (k % 32) true))).ev (pgNib g) 0).incSat (pgNib g) Reg.nib.SHOOTCNT 23 0) :=
    (((d.setLeg_stage _ (by omega)).trans (Dev.nib_wr_stage _ g _ _ (by simp only [Reg.nib.SHOOT]; omega))).trans
      (Dev.nib_ev_stage _ g _)).trans (Dev.nib_incSat_stage _ g _ _ _ (by decide))
  unfold overlapEvent
  refine .ite ?_ h2
  exact ((h2.trans (Dev.nib_wr_stage _ g _ _ (by simp only [Reg.nib.LEGFLT]; omega))).trans (Dev.nib_ev_stage _ g _)).trans
    (Dev.setDue_stage _ _ _)

theorem legCommand_stage (d : Dev) (g k cmd tag mag at_ : Nat) (w : Bool) (hk : k < 64) :
    d.Stage g (legCommand d g k cmd tag mag at_ w) := by
  unfold legCommand
  refine .ite (.refl g d) (.ite ?_ (d.setLeg_stage _ (by omega)))
  exact (d.setLeg_stage _ (by omega)).trans (overlapEvent_stage _ g k hk)

/-- The commands of an axis reach its Nibs. -/
theorem emitAxis_stage (d : Dev) (g a : Nat) (tags : Nat → Coil) (at_ : Nat) (ha : a < 16) :
    d.Stage g (emitAxis d g a tags at_) :=
  .each d 4 _ (fun _ _ hp => legCommand_stage _ _ _ _ _ _ _ _ (by omega))

/-- A coil takes a new state: beside the stage's part only that coil changes. -/
theorem setChop_stage (d : Dev) (g j : Nat) (new : Coil) (at_ : Nat) (hj : j < 32) :
    (d.setCoil (32 * g + j) new).Stage g (setChop d g j new at_) := by
  unfold setChop
  exact emitAxis_stage _ _ _ _ _ (by omega)

@[simp] theorem setChop_coil (d : Dev) (g j : Nat) (new : Coil) (at_ : Nat) (hj : j < 32) :
    (setChop d g j new at_).coil (32 * g + j) = new := by
  rw [(setChop_stage d g j new at_ hj).coil, Dev.coil_setCoil]
theorem setChop_coil_ne (d : Dev) {g j x : Nat} (new : Coil) (at_ : Nat) (hj : j < 32) (h : 32 * g + j ≠ x) :
    (setChop d g j new at_).coil x = d.coil x := by
  rw [(setChop_stage d g j new at_ hj).coil, Dev.coil_setCoil_ne _ _ h]

/-! ### The ends of drive -/

/-- `d'` differs from `d` in the coils, legs, converters, the Nib page and the due causes of grove `g` only. -/
structure Dev.Chop (g : Nat) (d d' : Dev) : Prop where
  within : d.Within g d'
  cals : d'.cals = d.cals
  obs : d'.obs = d.obs
  gax : d'.gax = d.gax
  hist : d'.hist = d.hist
  draws : d'.draws = d.draws
  grove : ∃ u, d'.grove g = { d.grove g with due := u }
  rd : ∀ p off, off < 1024 → p ≠ pgNib g → d'.rd p off = d.rd p off

theorem Dev.Chop.refl (g : Nat) (d : Dev) : d.Chop g d :=
  ⟨.refl g d, rfl, rfl, rfl, rfl, rfl, ⟨_, rfl⟩, fun _ _ _ _ => rfl⟩
theorem Dev.Chop.trans {g : Nat} {a b c : Dev} (h : a.Chop g b) (k : b.Chop g c) : a.Chop g c := by
  refine ⟨h.within.trans k.within, k.cals.trans h.cals, k.obs.trans h.obs, k.gax.trans h.gax, k.hist.trans h.hist,
    k.draws.trans h.draws, ?_, fun p off ho hp => (k.rd p off ho hp).trans (h.rd p off ho hp)⟩
  obtain ⟨u, hu⟩ := h.grove
  obtain ⟨v, hv⟩ := k.grove
  exact ⟨v, by rw [hv, hu]⟩
theorem Dev.Chop.ite {g : Nat} {d a b : Dev} {c : Prop} [Decidable c] (h : d.Chop g a) (k : d.Chop g b) :
    d.Chop g (if c then a else b) := by
  split <;> assumption
theorem Dev.Stage.chop {g : Nat} {d d' : Dev} (h : d.Stage g d') : d.Chop g d' :=
  ⟨h.within, h.cals, h.obs, h.gax, h.hist, h.draws, h.grove, h.rd⟩
theorem Dev.Chop.foldl {g : Nat} {α : Type} (f : Dev → α → Dev) (l : List α)
    (h : ∀ (d : Dev) x, x ∈ l → d.Chop g (f d x)) (d : Dev) : d.Chop g (l.foldl f d) := by
  induction l generalizing d with
  | nil => exact .refl g d
  | cons a t ih => exact (h d a (by simp)).trans (ih (fun d x hx => h d x (by simp [hx])) (f d a))

section fields
variable {g : Nat} {d d' : Dev} (h : d.Chop g d')
include h
theorem Dev.Chop.ob (c : Nat) : d'.ob c = d.ob c := by simp only [Dev.ob, h.obs]
theorem Dev.Chop.ga (c : Nat) : d'.ga c = d.ga c := by simp only [Dev.ga, h.gax]
theorem Dev.Chop.calSt (c : Nat) : d'.calSt c = d.calSt c := by simp only [Dev.calSt, h.cals]
theorem Dev.Chop.causes : (d'.grove g).causes = (d.grove g).causes := by
  obtain ⟨u, hu⟩ := h.grove; rw [hu]
theorem Dev.Chop.tripped : (d'.grove g).tripped = (d.grove g).tripped := by
  obtain ⟨u, hu⟩ := h.grove; rw [hu]
theorem Dev.Chop.held : (d'.grove g).held = (d.grove g).held := by
  obtain ⟨u, hu⟩ := h.grove; rw [hu]
theorem Dev.Chop.ramp : (d'.grove g).ramp = (d.grove g).ramp := by
  obtain ⟨u, hu⟩ := h.grove; rw [hu]
end fields

theorem Dev.setCoil_chop (d : Dev) {g c : Nat} (x : Coil) (h : c / 32 = g) : d.Chop g (d.setCoil c x) :=
  ⟨d.setCoil_within x h, rfl, rfl, rfl, rfl, rfl, ⟨_, rfl⟩, fun _ _ _ _ => rfl⟩
theorem Dev.setConv_chop (d : Dev) {g c : Nat} (x : Conv) (h : c / 4 = g) : d.Chop g (d.setConv c x) :=
  ⟨d.setConv_within x h, rfl, rfl, rfl, rfl, rfl, ⟨_, rfl⟩, fun _ _ _ _ => rfl⟩

theorem setChop_chop (d : Dev) (g j : Nat) (new : Coil) (at_ : Nat) (hj : j < 32) : d.Chop g (setChop d g j new at_) :=
  (d.setCoil_chop new (by omega)).trans (setChop_stage d g j new at_ hj).chop

/-- `d'` differs from `d` in the converters only. -/
def Dev.ConvOnly (d d' : Dev) : Prop := ∃ C, d' = { d with convs := C }

theorem Dev.ConvOnly.refl (d : Dev) : d.ConvOnly d := ⟨d.convs, rfl⟩
theorem Dev.ConvOnly.trans {a b c : Dev} (h : a.ConvOnly b) (k : b.ConvOnly c) : a.ConvOnly c := by
  obtain ⟨C, rfl⟩ := h
  obtain ⟨C', rfl⟩ := k
  exact ⟨C', rfl⟩
theorem Dev.ConvOnly.ite {d a b : Dev} {c : Prop} [Decidable c] (h : d.ConvOnly a) (k : d.ConvOnly b) :
    d.ConvOnly (if c then a else b) := by
  split <;> assumption
theorem Dev.setConv_only (d : Dev) (c : Nat) (x : Conv) : d.ConvOnly (d.setConv c x) := ⟨_, rfl⟩

theorem startEntry_only (d : Dev) (c e : Nat) (r : Bool) (t : Nat) : d.ConvOnly (startEntry d c e r t) := d.setConv_only _ _

theorem convNext_only (d : Dev) (c t : Nat) : d.ConvOnly (convNext d c t) := by
  unfold convNext
  refine .ite (.refl d) ?_
  split
  · exact (d.setConv_only _ _).trans (Dev.setConv_only _ _ _)
  · refine .ite (.refl d) ?_
    split
    · exact startEntry_only _ _ _ _ _
    · exact .ite ((d.setConv_only _ _).trans (startEntry_only _ _ _ _ _)) (.refl d)

theorem removeRequest_only (d : Dev) (g j : Nat) : d.ConvOnly (removeRequest d g j).2 := by
  unfold removeRequest
  have : ∀ (l : List Nat) (f : Bool × Dev → Nat → Bool × Dev), (∀ (a : Bool × Dev) i, a.2.ConvOnly (f a i).2) →
      ∀ a : Bool × Dev, a.2.ConvOnly (l.foldl f a).2 := by
    intro l f h
    induction l with
    | nil => exact fun a => .refl a.2
    | cons x t ih => exact fun a => (h a x).trans (ih (f a x))
  refine this _ _ (fun a i => ?_) (false, d)
  dsimp only
  rw [apply_ite Prod.snd, apply_ite Prod.snd]
  exact .ite ((Dev.setConv_only _ _ _).trans (convNext_only _ _ _)) (.ite (Dev.setConv_only _ _ _) (.refl _))

theorem removeRequest_chop (d : Dev) (g j : Nat) : d.Chop g (removeRequest d g j).2 := by
  have hw := removeRequest_within d g j
  obtain ⟨C, hC⟩ := removeRequest_only d g j
  rw [hC] at hw ⊢
  exact ⟨hw, rfl, rfl, rfl, rfl, rfl, ⟨_, rfl⟩, fun _ _ _ _ => rfl⟩

@[simp] theorem removeRequest_coil (d : Dev) (g j x : Nat) : (removeRequest d g j).2.coil x = d.coil x := by
  obtain ⟨C, hC⟩ := removeRequest_only d g j
  rw [hC]; rfl

theorem coilOff_chop (d : Dev) (g j : Nat) (hj : j < 32) : d.Chop g (coilOff d g j) := by
  unfold coilOff
  exact (Dev.Chop.ite (removeRequest_chop d g j) (.refl g d)).trans (setChop_chop _ _ _ _ _ hj)

/-- A coil that goes OFF is OFF, and no other coil changes. -/
theorem coilOff_st (d : Dev) (g j : Nat) (hj : j < 32) : ((coilOff d g j).coil (32 * g + j)).st = .off := by
  unfold coilOff; rw [setChop_coil _ _ _ _ _ hj]
theorem coilOff_ne (d : Dev) {g j x : Nat} (hj : j < 32) (h : 32 * g + j ≠ x) : (coilOff d g j).coil x = d.coil x := by
  unfold coilOff; dsimp only; rw [setChop_coil_ne _ _ _ hj h]; split <;> simp

theorem axisOff_chop (d : Dev) (g a : Nat) (ha : a < 16) : d.Chop g (axisOff d g a) :=
  (coilOff_chop d g _ (by omega)).trans (coilOff_chop _ g _ (by omega))

theorem axisOff_off (d : Dev) (g a j : Nat) (ha : a < 16) (h : j / 2 = a ∨ (d.coil (32 * g + j)).st = .off) :
    ((axisOff d g a).coil (32 * g + j)).st = .off := by
  unfold axisOff
  by_cases h1 : j = 2 * a + 1
  · subst h1; exact coilOff_st _ g _ (by omega)
  · rw [coilOff_ne _ (by omega) (by omega)]
    by_cases h0 : j = 2 * a
    · subst h0; exact coilOff_st _ g _ (by omega)
    · rw [coilOff_ne _ (by omega) (by omega)]
      rcases h with h | h
      · omega
      · exact h

/-- Every axis of the grove goes OFF. -/
theorem allOff_off (g : Nat) : ∀ (l : List Nat) (d : Dev) (j : Nat), j < 32 →
    ((∃ n ∈ l, n % 16 = j / 2) ∨ (d.coil (32 * g + j)).st = .off) →
    ((l.foldl (fun d n => axisOff d g (n % 16)) d).coil (32 * g + j)).st = .off := by
  intro l
  induction l with
  | nil => intro d j _ h; simpa using h
  | cons a t ih =>
    intro d j hj h
    rw [List.foldl_cons]
    have k := ih (axisOff d g (a % 16)) j hj
    apply k
    rcases h with ⟨n, hn, hj'⟩ | h
    · rcases List.mem_cons.mp hn with rfl | hn
      · exact .inr (axisOff_off d g _ j (by omega) (.inl hj'.symm))
      · exact .inl ⟨n, hn, hj'⟩
    · exact .inr (axisOff_off d g _ j (by omega) (.inr h))

/-! ### Trips -/

/-- What a latched trip leaves (R202). -/
theorem latchTrip_chop (d : Dev) (g : Nat) :
    ((groveAxes g).foldl (fun d n => axisOff d g (n % 16)) d).Within g (latchTrip d g) :=
  (((pgFire_of g).incSat _ _ _ _ (by decide)).trans ((pgFire_of g).ev _ _)).trans (Dev.setGrove_within _ _ _)

theorem latchTrip_latched (d : Dev) (g : Nat) : (latchTrip d g).Latched g := by
  have hc : d.Chop g ((groveAxes g).foldl (fun d n => axisOff d g (n % 16)) d) :=
    .foldl _ _ (fun d n _ => axisOff_chop d g _ (by omega)) d
  have ho := fun j hj => allOff_off g (groveAxes g) d j hj (.inl ⟨16 * g + j / 2,
    List.mem_map.mpr ⟨j / 2, List.mem_range.mpr (by omega), rfl⟩, by omega⟩)
  have hw := (latchTrip_within d g).clk
  revert ho hw
  unfold latchTrip
  generalize (groveAxes g).foldl (fun d n => axisOff d g (n % 16)) d = e
  intro ho hw
  dsimp only at hw ⊢
  refine ⟨by rw [Dev.grove_setGrove], by rw [Dev.grove_setGrove], by rw [Dev.grove_setGrove, hw], fun j hj => ?_⟩
  have := ho j hj
  simpa [Dev.coil, Dev.setGrove] using this

@[simp] theorem endHold_tripped (d : Dev) (g : Nat) : ((endHold d g).grove g).tripped = (d.grove g).tripped := by
  unfold endHold; dsimp only; split
  · rfl
  · rw [Dev.grove_setGrove]
@[simp] theorem endHold_causes (d : Dev) (g : Nat) : ((endHold d g).grove g).causes = (d.grove g).causes := by
  unfold endHold; dsimp only; split
  · rfl
  · rw [Dev.grove_setGrove]
@[simp] theorem endHold_held (d : Dev) (g : Nat) : ((endHold d g).grove g).held = none := by
  unfold endHold; dsimp only; split
  · assumption
  · rw [Dev.grove_setGrove]

/-- A latched trip changes no cause and no hold. -/
theorem latchTrip_causes (d : Dev) (g : Nat) : ((latchTrip d g).grove g).causes = (d.grove g).causes := by
  have hc : d.Chop g ((groveAxes g).foldl (fun d n => axisOff d g (n % 16)) d) :=
    .foldl _ _ (fun d n _ => axisOff_chop d g _ (by omega)) d
  rw [← hc.causes]
  unfold latchTrip
  rw [Dev.grove_setGrove]
  simp [Dev.grove]
theorem latchTrip_held (d : Dev) (g : Nat) : ((latchTrip d g).grove g).held = (d.grove g).held := by
  have hc : d.Chop g ((groveAxes g).foldl (fun d n => axisOff d g (n % 16)) d) :=
    .foldl _ _ (fun d n _ => axisOff_chop d g _ (by omega)) d
  rw [← hc.held]
  unfold latchTrip
  rw [Dev.grove_setGrove]
  simp [Dev.grove]
theorem moveTrust_groves (d : Dev) (n c : Nat) : (moveTrust d n c).groves = d.groves := by
  unfold moveTrust Dev.loseTrust
  dsimp only
  split
  · split
    · simp
    · rfl
  · rfl
theorem moveTrusts_groves (c : Nat) (l : List Nat) (d : Dev) : (l.foldl (fun d n => moveTrust d n c) d).groves = d.groves := by
  induction l generalizing d with
  | nil => rfl
  | cons a t ih => rw [List.foldl_cons, ih, moveTrust_groves]

/-- The causes of a grove after an immediate source (R203): its own, beside those before, and DEBUG where it ends a HOLD
(R210). -/
theorem trip_causes (d : Dev) (g c : Nat) (h : d.hasGrove g = true) :
    ((trip d g c).grove g).causes = (d.grove g).causes ||| 2 ^ c ||| (if (d.grove g).held.isSome then 2 ^ 9 else 0) ∧
    ((trip d g c).grove g).held = none := by
  unfold trip
  rw [if_neg (by simp [h])]
  dsimp only
  rw [addCause_held]
  generalize he : (if (d.grove g).held.isSome = true then addCause (endHold (addCause d g c) g) g 9 else addCause d g c) = e
  have hp : (e.grove g).causes = (d.grove g).causes ||| 2 ^ c ||| (if (d.grove g).held.isSome then 2 ^ 9 else 0) ∧
      (e.grove g).held = none := by
    rw [← he]
    split
    · simp
    · next hn => simpa using hn
  split
  · exact hp
  · have hg : ((groveAxes g).foldl (fun d n => moveTrust d n 2) e).grove g = e.grove g := by
      simp only [Dev.grove, moveTrusts_groves]
    rw [latchTrip_causes, latchTrip_held, hg]
    exact hp

/-- A grove that trips on an immediate cause (R201 to R203): it is tripped, and it latches now unless it had. -/
theorem trip_trips (d : Dev) (g c : Nat) (h : d.hasGrove g = true) :
    ((trip d g c).grove g).tripped = true ∧ ((d.grove g).tripped = false → (trip d g c).Latched g) := by
  unfold trip
  rw [if_neg (by simp [h])]
  dsimp only
  generalize he : (if ((addCause d g c).grove g).held.isSome = true then addCause (endHold (addCause d g c) g) g 9 else addCause d g c) = e
  have hp : (e.grove g).tripped = (d.grove g).tripped := by
    rw [← he]
    split
    · rw [addCause_tripped, endHold_tripped, addCause_tripped]
    · exact addCause_tripped d g c
  by_cases hd : (e.grove g).tripped = true
  · rw [if_pos hd]
    exact ⟨hd, fun h0 => by rw [← hp, hd] at h0; cases h0⟩
  · rw [if_neg hd]
    have hl := latchTrip_latched ((groveAxes g).foldl (fun d n => moveTrust d n 2) e) g
    exact ⟨hl.tripped, fun _ => hl⟩

end Sys2Proof.Machine
end

