-- ==== Sys2Proof/Laws/Write.lean ====
section
/-!
SUPPORT. Laws/Write: a register write that is not refused, once for every register that is one word by itself, and the
bits of the word that it forms.
-/
namespace Sys2Proof.Machine

/-- What makes offset `off` of page `p` a register that is one word by itself and takes writes. -/
structure SingleReg (d : Dev) (k : PageKind) (p off : Nat) (fs : List RegField) : Prop where
  kind : pageKind p = some k
  here : pagePresent d.variant p = true
  awake : d.sup.inReset = false
  fields : fieldsAt k off = some fs
  unlock : off ≠ Reg.PAGE_LOCK
  writes : (!fs.isEmpty && fs.all (fun f => !f.writable)) = false
  heeded : ignoresWrites d k off = false
  single : pairPart k off = .single

/-- Such a write is a write of its page's register. -/
theorem writePage_single {d : Dev} {k : PageKind} {p off : Nat} {fs : List RegField} (h : SingleReg d k p off fs)
    (req : Nat) (win : Sys2Proof.Window) (data : Word) :
    writePage d p off req win data = writeSingle d k p off req fs win data := by
  simp only [writePage, Dev.regPlace, h.here, h.kind, if_true, writeReg, h.awake, h.fields, h.unlock, h.writes, h.heeded,
    h.single, Bool.false_eq_true, if_false]

/-- A write that is not refused stores its fields and acts, and leaves no record (R52 to R54, R467). -/
theorem writePage_accepted {d : Dev} {k : PageKind} {p off : Nat} {fs : List RegField} (h : SingleReg d k p off fs)
    (req : Nat) (win : Sys2Proof.Window) (data : Word) (ok : (writePage d p off req win data).st = stOk) :
    (writePage d p off req win data).notes = [] ∧
    (writePage d p off req win data).dev =
      actWrite (storeWrite (consume d req p (formWrite d p off fs win data).keyed) k p off (formWrite d p off fs win data))
        k p off req (win == .direct) (d.rd p off) (formWrite d p off fs win data).m (formWrite d p off fs win data).wo
        (formWrite d p off fs win data).clr := by
  rw [writePage_single h] at ok ⊢
  unfold writeSingle at ok ⊢
  dsimp only at ok ⊢
  split at ok
  · simp [refuse, stRefused, stOk] at ok
  · next hk =>
    split at ok
    · simp [refuse, stRefused, stOk] at ok
    · next hc => simp [hk, hc]

/-- The device after an accepted write that is a command of its own. -/
theorem writeCommand_accepted {d : Dev} {k : PageKind} {p off : Nat} {fs : List RegField} (h : SingleReg d k p off fs)
    (w : RegWrite) (ok : (writePage d p off w.req.id w.win w.data).st = stOk) (hp : p ≠ pgHostp ∨ off ≠ Reg.PAGE_CTRL) :
    writeCommand d p off w =
      actWrite (storeWrite (consume d w.req.id p (formWrite d p off fs w.win w.data).keyed) k p off
          (formWrite d p off fs w.win w.data))
        k p off w.req.id (w.win == .direct) (d.rd p off) (formWrite d p off fs w.win w.data).m
        (formWrite d p off fs w.win w.data).wo (formWrite d p off fs w.win w.data).clr := by
  have ⟨hn, hd⟩ := writePage_accepted h w.req.id w.win w.data ok
  unfold writeCommand
  dsimp only
  rw [hn, hd]
  have : ¬ (p = pgHostp ∧ off = Reg.PAGE_CTRL ∧ w.req.id = 0 ∧ w.win = .direct ∧ bit w.data 0 = true ∧
      (writePage d p off w.req.id w.win w.data).st = stOk) := by
    rintro ⟨a, b, _⟩
    rcases hp with hp | hp
    · exact hp a
    · exact hp b
  rw [if_neg this]
  rfl

/-! ### The bits of the word that a write forms -/

theorem bit_and (a b : Word) (i : Nat) : bit (a &&& b) i = (bit a i && bit b i) := by
  simp [bit, BitVec.toNat_and, Nat.testBit_and]

theorem bit_or (a b : Word) (i : Nat) : bit (a ||| b) i = (bit a i || bit b i) := by
  simp [bit, BitVec.toNat_or, Nat.testBit_or]

theorem bit_xor (a b : Word) (i : Nat) : bit (a ^^^ b) i = (bit a i ^^ bit b i) := by
  simp [bit, BitVec.toNat_xor, Nat.testBit_xor]

theorem bit_not (a : Word) (i : Nat) (h : i < 36) : bit (~~~a) i = !bit a i := by
  have e : ∀ w : Word, bit w i = w.getLsbD i := fun w => by simp [bit, BitVec.getLsbD]
  rw [e, e, BitVec.getLsbD_not]
  simp [h]

theorem bit_eq_getLsbD (w : Word) (i : Nat) : bit w i = w.getLsbD i := by simp [bit, BitVec.getLsbD]

/-- A WO bit acts through the direct window (R53). -/
theorem formWrite_wo (d : Dev) (p off : Nat) (fs : List RegField) (data : Word) (i : Nat)
    (h : bit (maskOf fs (fun f => f.ty == .wo)) i = true) :
    bit (formWrite d p off fs .direct data).wo i = bit data i := by
  simp only [formWrite, if_true, bit_and, h, Bool.and_true]

/-- Through the other windows no WO bit acts. -/
theorem formWrite_wo_alias (d : Dev) (p off : Nat) (fs : List RegField) (win : Sys2Proof.Window) (data : Word)
    (h : win ≠ .direct) : (formWrite d p off fs win data).wo = 0 := by
  simp [formWrite, h]

/-- A bit of an RW or keyed RW field as the window forms it (R53), unless the same bit is W1C. -/
theorem formWrite_m (d : Dev) (p off : Nat) (fs : List RegField) (win : Sys2Proof.Window) (data : Word) (i : Nat)
    (hi : i < 36) (h : bit (maskOf fs (fun f => f.ty == .rw || f.ty == .rwk)) i = true)
    (hb : bit (maskOf fs RegField.buffered) i = false) (ho : bit (maskOf fs (fun f => f.ty == .wo)) i = false)
    (hc : bit (maskOf fs (fun f => f.ty == .w1c)) i = false) :
    bit (formWrite d p off fs win data).m i =
      (match win with
        | .direct => bit data i
        | .setBits => bit (d.rd p off) i || bit data i
        | .clearBits => bit (d.rd p off) i && !bit data i
        | .toggleBits => bit (d.rd p off) i ^^ bit data i) := by
  have z : bit (68719476735#36) i = true := by
    rw [bit_eq_getLsbD, show (68719476735#36) = BitVec.allOnes 36 from rfl, BitVec.getLsbD_allOnes]
    simpa using hi
  cases win <;>
    simp [formWrite, aliasOp, bit_and, bit_or, bit_xor, bit_not _ _ hi, h, hb, ho, hc, z]

/-- The stored word takes the same bits. -/
theorem formWrite_now (d : Dev) (p off : Nat) (fs : List RegField) (win : Sys2Proof.Window) (data : Word) (i : Nat)
    (hi : i < 36) (h : bit (maskOf fs (fun f => f.ty == .rw || f.ty == .rwk)) i = true)
    (hc : bit (maskOf fs (fun f => f.ty == .w1c)) i = false) :
    bit (formWrite d p off fs win data).now i =
      (match win with
        | .direct => bit data i
        | .setBits => bit (d.rd p off) i || bit data i
        | .clearBits => bit (d.rd p off) i && !bit data i
        | .toggleBits => bit (d.rd p off) i ^^ bit data i) := by
  have z : bit (68719476735#36) i = true := by
    rw [bit_eq_getLsbD, show (68719476735#36) = BitVec.allOnes 36 from rfl, BitVec.getLsbD_allOnes]
    simpa using hi
  cases win <;>
    simp [formWrite, aliasOp, bit_and, bit_or, bit_xor, bit_not _ _ hi, h, hc, z]

/-! ### Storing -/

/-- What storing a write without buffered fields does below page 0x100: it writes the one register. -/
theorem storeWrite_low (d : Dev) (k : PageKind) (p off : Nat) (f : Formed) (hp : p < 0x100) (hs : f.shadow = none)
    (ha : actsOnly k off = false) : storeWrite d k p off f = d.wr p off f.now := by
  simp [storeWrite, Nat.not_le.mpr hp, hs, ha]

/-- No register with neither a buffered field nor a shadow reaches one. -/
theorem formWrite_shadow (d : Dev) (p off : Nat) (fs : List RegField) (win : Sys2Proof.Window) (data : Word)
    (h : maskOf fs RegField.buffered = 0) : (formWrite d p off fs win data).shadow = none := by
  simp [formWrite, h]

/-- The unlock that a keyed write takes changes the locks only (R63). -/
theorem consume_eq (d : Dev) (req p : Nat) (keyed : Bool) :
    ∃ ks, consume d req p keyed = { d with acc := { d.acc with unlocked := ks } } := by
  unfold consume lockPage
  split
  · exact ⟨_, rfl⟩
  · exact ⟨d.acc.unlocked, rfl⟩

end Sys2Proof.Machine
end

