-- ==== Sys2Proof/Tests/Slice0.lean ====
section
/-!
SUPPORT. Tests: spec figures as small steps, the refusal of ill-formed commands, and for every statement with hypotheses a
concrete state and operands that meet them, clause by clause (`test_wit_…`).
-/
namespace Sys2Proof.Tests
set_option Elab.async false
open Sys2Proof Sys2Proof.Machine

/-! ### Helpers -/

/-- The reset state with a changed device. -/
def on (f : Dev → Dev) : State := { State.reset with dev := f State.reset.dev }

def Dev0 : Dev := State.reset.dev

/-- A direct write of the host, now. -/
def hostW (x : Nat) : RegWrite := ⟨0, .host, .direct, BitVec.ofNat 36 x⟩

/-- The host holds the unlock of a page. -/
def key0 (p : Nat) (d : Dev) : Dev := { d with acc := { d.acc with unlocked := [accKey 0 p] } }

/-- A register word in effect. -/
def reg (p off v : Nat) (d : Dev) : Dev := d.wr p off (BitVec.ofNat 36 v)

/-- Grove `g` with its Firebreak cleared. -/
def clear0 (g : Nat) (d : Dev) : Dev := d.setGrove g { d.grove g with tripped := false, causes := 0 }

/-- A frame with its CRC. -/
def sealed (op : Nat) (f : Frame) : Frame := { f with trailer := trailerOf 0 (frameHeader op f :: f.data) }

/-- A frame with its operands; ALIVE 0, now. -/
def frame (op : Nat) (count : Fin 16) (addr : Nat) (data : List Word) : Frame :=
  sealed op ⟨0, 0, count, BitVec.ofNat 24 addr, data, 0, 0⟩

/-- The host port is up. -/
def up (d : Dev) : Dev := { d with hp := { d.hp with up := true } }

theorem accepts_of {s : State} {op : Nat} {f : Frame} (hr : s.dev.hp.reply = none) (hw : s.dev.hp.wdRun = false)
    (h : s.dev.hostUp = true ∧ f.data.length = reqWords op (frameN f) ∧ crcOk op f = true ∧ op < 9 ∧ formatOk op f = true ∧
      aliveStep s.dev.hp f.alive.val ≠ 0) : s.accepts op f := by
  obtain ⟨h1, h2, h3, h4, h5, h6⟩ := h
  refine ⟨h1, h2, h3, h4, h5, h6, ?_, ?_⟩
  · rw [hr]; intro r e; cases e
  · rw [hw]; intro e; cases e

/-- A write that nothing refuses, on the reset state with a change. -/
theorem takes_of {s : State} {w : RegWrite} {p off : Nat} (h : (s.dev.sup.inReset = false ∧ s.dev.sup.ps ≠ .retain) ∧
    (writePage (s.dev.advance w.dt) p off w.req.id w.win w.data).st = stOk) : s.takes w p off := h

/-! ### The machine as a whole -/

theorem test_wit_queue : ({ State.reset with pending := [.idcode 0] } : State).pending = [.idcode 0] ∧ State.reset.pending = [] ∧
    State.reset.dev.sup.inReset = false ∧ (on (fun d => { d with sup := { d.sup with inReset := true } })).dev.sup.inReset = true := by
  decide +kernel

theorem test_settled : State.reset.settled := by unfold State.settled Dev.settled; decide +kernel

theorem test_wit_step : ∃ t, step State.reset = .next t := ⟨_, rfl⟩

theorem test_wit_balls : State.reset.ballsFollow := by unfold State.ballsFollow; decide +kernel

/-- Both gate requests of leg 3 of grove 1 are active, its Firebreak clear. -/
theorem test_wit_overlap :
    (let d := (clear0 1 Dev0).setLeg 67 { (Dev0.leg 67) with gh := true, gl := true }
     d.tap.extest = false ∧ (d.grove 1).tripped = false ∧ (d.leg (64 * 1 + 3)).gh = true ∧ (d.leg (64 * 1 + 3)).gl = true) := by
  decide +kernel

theorem test_wit_reset_requests :
    (on (key0 pgSupv)).takes (hostW 1) pgSupv Reg.supv.RESET ∧ (hostW 1).win = .direct ∧ (hostW 1).data.getLsbD 0 = true ∧
      1000 ≤ 1000 ∧ 999 < 1000 := by
  refine ⟨takes_of (by decide +kernel), ?_⟩; decide +kernel

/-! ### Ticks, planners, pairing -/

/-- R12's examples. -/
theorem test_rounding : rhe 5 2 = 2 ∧ rhe 7 2 = 4 ∧ (-7 : Int).fdiv 2 = -4 ∧ rhe (-5) 2 = -2 ∧ (0 : Int) < 2 := by decide

/-- An axis at rest starts with VSTART, moves toward a target ahead and lands on a near one. -/
theorem test_wit_position :
    (let l : Lim := ⟨1000, 200, 100, 100, 5⟩
     let far := positionTick ⟨0, 0, 0⟩ l 100 3 true
     let near := positionTick ⟨2 ^ 32 - 50, 50, 0⟩ l 1 3 false
     let halt := positionTick ⟨0, 500, 0⟩ { l with vmax := 0 } 100 3 false
     far.landed = false ∧ near.landed = true ∧ near.m.p = 2 ^ 32 ∧ halt.landed = false ∧ halt.m.v = 400) := by decide +kernel

theorem test_wit_ticks : State.reset.runs ∧ State.reset.settled ∧ State.reset.dev.tw.ckFlag = false ∧
    ¬ (on (fun d => { d with sup := { d.sup with ps := .standby } })).runs :=
  ⟨by unfold State.runs; decide +kernel, test_settled, by decide +kernel, by unfold State.runs; decide +kernel⟩

theorem test_wit_rests :
    (let d (i : Nat) : Dev := Dev0.setRest 127 i true
     (d restQueue).restDue 127 restQueue = true ∧ (d restTurn).restDue 127 restTurn = true ∧ (d restStroke).restDue 127 restStroke = true ∧
     (d restRetry).restDue 127 restRetry = true ∧
     (let e := (d restStill).setGa 127 { Dev0.ga 127 with still := 65535 }
      e.restDue 127 restStill = true ∧ e.rf (pgAxis 127) Reg.axis.STILL 31 16 < (e.ga 127).still ∧ e.grovesRun = true)) := by
  decide +kernel

theorem test_wit_mlost :
    (let d := reg pgScribe Reg.scribe.MSRC 3 { Dev0 with scr := { Dev0.scr with broadcast := some ⟨0, 0, 0, 2 ^ 36 - 1⟩ } }
     d.variant.full = true ∧ d.rf pgScribe Reg.scribe.MSRC 2 0 = 3 ∧ d.scr.mlost = false ∧ d.grovesRun = true ∧
     d.rf pgScribe Reg.scribe.MSRC 27 24 < (d.cycleNow + 2 ^ 36 - (2 ^ 36 - 1)) % 2 ^ 36) := by decide +kernel

/-- A point of stroke 0 at 0 on axis 0, current generation, in a ring of one region unit. -/
theorem test_wit_scribe :
    (let d := reg pgScribe Reg.scribe.WR 1 { Dev0 with scr := { Dev0.scr with running := true } }
     let e := ({ d with mem := (d.mem.put (d.pointAddr 0) 1).put (d.pointAddr 0 + 1) (1 <<< 29) } : Dev)
     e.grovesRun = true ∧ e.variant.full = true ∧ e.scr.running = true ∧ e.scr.fetched < e.tb.tper / 200 ∧ e.scr.table.length < 512 ∧
     e.fetchPtr ≠ e.scrWR ∧ e.ringN ≠ 0 ∧ e.fetchPtr = 0 ∧ (e.mem.at (e.pointAddr 0)).ecc = .clean ∧
     (e.mem.at (e.pointAddr 0 + 1)).ecc = .clean ∧
     serial (((e.mem.at (e.pointAddr 0)).data.toNat : Int) - (e.scr.hwm : Int)) ≤ e.scr.ldmax + (e.rf pgScribe Reg.scribe.LOOKPAD 23 0 : Nat) ∧
     bit (e.mem.at (e.pointAddr 0 + 1)).data 8 = false ∧
     (fld (e.mem.at (e.pointAddr 0 + 1)).data 14 11 + 16 - e.rf pgScribe Reg.scribe.GEN 3 0) % 16 < 8 ∧ e.scr.xprev = none) := by
  decide +kernel

theorem test_wit_checkpoints :
    (let d : Dev := { Dev0 with tw := { Dev0.tw with writing := some ⟨5, 0, .split, true⟩ } }
     d.grovesRun = true ∧ d.tw.ckFlag = false ∧ d.tw.writing = some ⟨5, 0, .split, true⟩) ∧
    (let d : Dev := { Dev0 with tw := { Dev0.tw with ckFlag := true } }
     d.tw.ckFlag = true ∧ d.tw.mode ≠ .paired ∧ d.tw.pending = none) := by decide +kernel

/-- SPLIT: Quill B hands axis 127; PAIRED: Quill A's copy of axis 0 waits, and Quill B's agrees or differs. -/
theorem test_wit_words :
    (let d : Dev := { Dev0 with tb := { Dev0.tb with started := true } }
     let p : Dev := { d with tw := { d.tw with mode := .paired } }
     let c : Dev := p.setGa 0 { p.ga 0 with copyA := some (p.word108 0) }
     let x : Dev := p.setGa 0 { p.ga 0 with copyA := some (p.word108 0 ^^^ 1) }
     (d.gives 1 127 = true ∧ d.hands = true ∧ d.clk + 64 ≤ d.boundaryClk ∧ d.tw.mode ≠ .paired) ∧
     (p.gives 1 0 = true ∧ p.hands = true ∧ p.tw.mode = .paired ∧ (p.ga 0).copyA = none ∧ (p.ga 0).copyB = none) ∧
     (c.gives 1 0 = true ∧ (c.ga 0).copyA = some (c.word108 0)) ∧
     (x.gives 1 0 = true ∧ (x.ga 0).copyA ≠ some (x.word108 0) ∧ x.tw.dead = false ∧ x.tw.lastDis ≠ some x.tk)) := by
  decide +kernel

/-- SPLIT with a boundary placed; PAIRED with every copy there, and with that of axis 3 not. -/
theorem test_wit_verdicts :
    (let d : Dev := { Dev0 with tb := { Dev0.tb with started := true } }
     let p : Dev := { d with tw := { d.tw with mode := .paired },
                             gax := (List.range 128).map (fun n => (n, { d.ga n with copyA := some 7, copyB := some 7 })) }
     let m : Dev := p.setGa 3 { p.ga 3 with copyB := none }
     (d.grovesRun = true ∧ d.tw.ckFlag = false ∧ d.tb.started = true ∧ d.tw.mode ≠ .paired) ∧
     (p.tw.mode = .paired ∧ p.allAgreed = true ∧ p.tw.recov = none ∧ p.tw.lastDis ≠ some p.tk) ∧
     (m.tw.mode = .paired ∧ m.hands = true ∧ m.tw.recov = none ∧ m.tw.dead = false ∧ m.tw.lastDis ≠ some m.tk ∧ 3 < m.variant.axes ∧
       m.copyMissing 3 = true ∧ ∀ x, x < 3 → m.copyMissing x = false)) := by decide +kernel

theorem test_wit_split : State.reset.dev.tw.mode = .split ∧ State.reset.dev.variant.full = true ∧
    computes .fd9128 .split 0 3 = true ∧ computes .fd9128 .split 0 4 = false ∧ computes .fd9128 .split 1 4 = true ∧
    computes .fd9064 .split 1 2 = true ∧ computes .fd9064 .split 1 4 = false := by decide +kernel

/-! ### Groves, chopper, Nibs -/

theorem test_wit_tokens :
    (let a := Dev0.setGrove 7 { Dev0.grove 7 with ownStep := true }
     let b := Dev0.setGrove 7 { Dev0.grove 7 with missing := 8, tripped := false, causes := 0 }
     a.groveLive 7 = true ∧ (a.grove 7).ownStep = true ∧ b.groveLive 7 = true ∧ 8 ≤ (b.grove 7).missing ∧
     (b.grove 7).causes.testBit 7 = false ∧ (b.grove 7).tripped = false) := by decide +kernel

theorem test_wit_ramps :
    (let r : Ramp := ⟨65535, 0, true, true, false, false⟩
     let a := (clear0 0 Dev0).setGrove 0 { (clear0 0 Dev0).grove 0 with ramp := some { r with done := true } }
     let b := (clear0 0 Dev0).setGrove 0 { (clear0 0 Dev0).grove 0 with ramp := some r }
     a.groveLive 0 = true ∧ (a.grove 0).tripped = false ∧ (a.grove 0).ramp = some { r with done := true } ∧
     (b.grove 0).ramp = some r ∧ b.rf (pgFire 0) Reg.firebrk.RAMPMAX 15 0 ≤ r.ticks) := by decide +kernel

theorem test_wit_overrun :
    (let d := (clear0 2 Dev0).setGa 32 { Dev0.ga 32 with extraN := 8 }
     let p : Dev := { d with tw := { d.tw with mode := .paired } }
     d.groveLive 2 = true ∧ d.groveOverrun 2 = true ∧ d.tw.mode ≠ .paired ∧ p.groveOverrun 2 = true ∧ p.tw.mode = .paired) := by
  decide +kernel

/-- Axis 0 enabled, with and without a window to open; an axis whose enables are 0. -/
theorem test_wit_period :
    (let e := reg (pgAxis 0) Reg.PAGE_CTRL 256 (reg (pgGrove 0) Reg.PAGE_CTRL 1 (clear0 0 Dev0))
     let w := ((reg (pgAxis 0) Reg.axis.ZCW0 (2 ^ 35) e).setCoil 0 { e.coil 0 with started := true }).setGa 0
       { e.ga 0 with w1 := ⟨0, 0, 1048576, 4095⟩ }
     (Dev0.groveLive 0 = true ∧ (Dev0.coil 0).win = none ∧ Dev0.coilEnabled 0 0 64 = false) ∧ e.coilEnabled 0 0 64 = true ∧
     e.opensWindow 0 0 64 1 = false ∧ w.coilEnabled 0 0 64 = true ∧ w.opensWindow 0 0 64 1 = true) := by decide +kernel

theorem test_wit_event : (Dev0.grove 0).evOcc.length = 6 ∧ eventDue Dev0 0 0 (max Dev0.clk ((Dev0.grove 0).evNext.getD 0 0)) = some 0 ∧
    eventDue Dev0 0 1 0 = some 15999 := by decide +kernel

theorem test_wit_drive :
    (let c : Coil := { Dev0.coil 31 with st := .drive, blankEnd := some 0 }
     let d := reg (pgCarrier 0) Reg.carrier.TONMAX 1000 (Dev0.setCoil 31 c)
     let f := Dev0.setCoil 31 { c with st := .decay, fast := true, fastUsed := 5 }
     (d.coil 31).st = .drive ∧ (d.coil 31).blankEnd = some 0 ∧ 0 + d.tripRun 0 ≤ d.clk + 100 + 1 ∧ d.clk + 100 ≤ d.tonmaxAt 0 31 ∧
     d.beforeNext 0 31 (d.tonmaxAt 0 31) = true ∧ (f.coil 31).st = .decay ∧ (f.coil 31).fast = true ∧
     f.beforeNext 0 31 ((f.coil 31).decayAt + (f.coil 31).fastUsed) = true) := by decide +kernel

/-- A window of coil 0 before and after its zero current, and a coil that waits to resume. -/
theorem test_wit_window :
    (let w : Machine.Window := ⟨0, none, 0, false, 100, false, 0⟩
     let d := (reg (pgAxis 0) Reg.axis.ZCW0 (2 ^ 34) Dev0).setCoil 0 { Dev0.coil 0 with win := some w }
     let z : Machine.Window := { w with z := some 10 }
     (d.coil 0).win = some w ∧ w.z = none ∧ d.zblankEnd 0 0 w + d.tripRun 0 ≤ d.clk + 300 + 1 ∧ d.clk + 300 < d.zmaxAt 0 0 w ∧
     z.z = some 10 ∧ z.requested = false ∧ 10 + d.zdly 0 0 + 4 < d.zmaxAt 0 0 z ∧ (d.conv 0).free = true ∧
     ((Dev0.setCoil 0 { Dev0.coil 0 with resumeAt := some 64, mag := 1 }).coil 0).resumeAt = some 64) := by decide +kernel

theorem test_wit_nibs :
    (let l := Dev0.leg 63
     l.node ≠ 2 ∧ l.node ≠ 1 ∧ l.overlap = false ∧
     (let t : TurnOn := ⟨true, 1, 0, none⟩
      ((Dev0.setLeg 63 { l with turnOn := some t }).leg 63).turnOn = some t) ∧
     (let m : Measure := ⟨3, 0⟩
      let d := reg (pgFire 0) Reg.firebrk.SRCEN 16 (Dev0.setLeg 63 { l with meas := some m, dly := List.replicate 4 ⟨true, 2, false, 0⟩ })
      (d.leg 63).meas = some m ∧ m.ty < 4 ∧ (d.leg 63).dly.length = 4 ∧ 2 ≤ ((d.leg 63).rec_ m.ty).miss ∧
      d.rb (pgFire 0) Reg.firebrk.SRCEN 4 = true)) := by decide +kernel

/-! ### The Firebreak -/

theorem test_wit_trips :
    Dev0.hasGrove 7 = true ∧ Dev0.sup.inReset = false ∧ Dev0.pins.fault.testBit 7 = false ∧ Dev0.pins.estop = false ∧
    (reg (pgFire 7) Reg.firebrk.SRCEN 2 Dev0).rb (pgFire 7) Reg.firebrk.SRCEN 1 = true ∧
    ((clear0 7 Dev0).grove 7).tripped = false := by decide +kernel

theorem test_wit_safe :
    (let d := reg (pgFire 0) Reg.PAGE_CTRL 1 Dev0
     (d.grove 0).tripped = true ∧ (d.grove 0).safe = false ∧ d.tap.extest = false ∧ d.rb (pgFire 0) Reg.PAGE_CTRL 0 = true) := by
  decide +kernel

/-- TRIP, RSTOP, OUTEN 1 and 0, and CLEAR with no live source. -/
theorem test_wit_firebreak :
    (on id).takes (hostW 2) (pgFire 0) Reg.PAGE_CTRL ∧ (on id).takes (hostW 4) (pgFire 0) Reg.PAGE_CTRL ∧
    (on (key0 (pgFire 0))).takes (hostW 1) (pgFire 0) Reg.PAGE_CTRL ∧
    (on (fun d => reg (pgFire 0) Reg.PAGE_CTRL 1 (key0 (pgFire 0) (clear0 0 d)))).takes (hostW 0) (pgFire 0) Reg.PAGE_CTRL ∧
    (on (key0 (pgFire 0))).takes (hostW 1) (pgFire 0) Reg.firebrk.CLEAR :=
  ⟨takes_of (by decide +kernel), takes_of (by decide +kernel), takes_of (by decide +kernel), takes_of (by decide +kernel),
   takes_of (by decide +kernel)⟩

theorem test_wit_hold :
    (let d := reg (pgFire 0) Reg.firebrk.DBG (2 ^ 16 + 17) (clear0 0 Dev0)
     let h := d.setGrove 0 { d.grove 0 with held := some ⟨0, 1⟩ }
     (d.grove 0).tripped = false ∧ (d.grove 0).held = none ∧ (d.rd (pgFire 0) Reg.firebrk.DBG).getLsbD 0 = true ∧
     (d.rd (pgFire 0) Reg.firebrk.DBG).getLsbD 4 = true ∧
     ¬ (((clear0 0 Dev0).rd (pgFire 0) Reg.firebrk.DBG).getLsbD 0 = true ∧ ((clear0 0 Dev0).rd (pgFire 0) Reg.firebrk.DBG).getLsbD 4 = true) ∧
     (h.grove 0).held = some ⟨0, 1⟩ ∧ (⟨0, 1⟩ : Hold).holdmax ≠ 0) := by decide +kernel

/-! ### Time and the link -/

theorem test_wit_time :
    (on id).takes (hostW 1) pgTime Reg.time.SET_HI ∧ Dev0.tb.sel ≠ .pps ∧
    (let p : Dev := { Dev0 with tb := { Dev0.tb with sel := .pps } }
     let secs (w : RegWrite) : Int := (diff72 (((p.acc.writeShadow.get (accKey 0 pgTime) 0).toNat + w.data.toNat * 2 ^ 36) / 2 ^ 36 * 2 ^ 36)
       (p.tb.now / 2 ^ 36 * 2 ^ 36)).fdiv (2 ^ 36)
     p.tb.sel = .pps ∧ secs (hostW 0) = 0 ∧ secs (hostW 1) ≠ 0) ∧
    (Dev0.rd pgTime Reg.time.SRCCFG).getLsbD 1 = false ∧
    (let c := reg pgTime Reg.time.SRCCFG 2 Dev0
     let e : Dev := { c with tb := { c.tb with now := 2 ^ 36, pps := { c.tb.pps with valid := true, lastEdge := some 0, since := 0 } } }
     (c.rd pgTime Reg.time.SRCCFG).getLsbD 1 = true ∧ c.tb.pps.lastEdge = none ∧ e.tb.pps.lastEdge = some 0 ∧ e.tb.pps.valid = true ∧
     absI (diff72 e.tb.now 0 - 2 ^ 36) ≤ 200 * 2 ^ 36 / 1000000 ∧
     400 * 2 ^ 36 / 1000000 < absI (diff72 Dev0.tb.now 0 - 2 ^ 36) ∧ e.rb pgTime Reg.time.PPSCFG 1 = false ∧
     (e.tb.source .pps).valid = true ∧ (e.tb.source .pps).qualified = false ∧
     ppsLimit ≤ diff72 ({ e with tb := { e.tb with now := 2 ^ 37 } } : Dev).tb.now 0) ∧
    ({ Dev0.tb with slewing := true } : Timebase).slewing = true :=
  ⟨takes_of (by decide +kernel), by decide +kernel⟩

/-- Slot 7: a time ahead, one that has come, and one that is armed. -/
theorem test_wit_strobes :
    (on id).takes (hostW (2 ^ 35)) pgTime (tsOff 7 + 2) ∧ (on id).takes (hostW (2 ^ 34)) pgTime (tsOff 7 + 2) ∧
    0 < diff72 ((reg pgTime (tsOff 7) 1 Dev0).tsTime 7) Dev0.tb.now ∧ diff72 (Dev0.tsTime 7) Dev0.tb.now ≤ 0 ∧
    (reg pgTime (tsOff 7 + 2) (2 ^ 16) Dev0).tsState 7 = 1 :=
  ⟨takes_of (by decide +kernel), takes_of (by decide +kernel), by decide +kernel⟩

/-- The link enabled as node 3 on port A with one slot of node `m`; a cycle of 1 ms. -/
def linked (m : Nat) (d : Dev) : Dev :=
  let d1 := reg pgLink Reg.sxlink.CFG (3 * 2 ^ 30 + 15 * 2 ^ 24 + 2 ^ 20) (reg pgLink Reg.PAGE_CTRL 1 d)
  let d2 := reg pgSched Reg.sxsched.NSLOT 1 (reg pgSched Reg.sxsched.SLOT (m * 256 + 1) (reg pgSched Reg.sxsched.CYC 1000 d1))
  { d2 with lk := { d2.lk with on := true } }

/-- It is master and has sent a beacon at 0. -/
def master (d : Dev) : Dev := { d with lk := { d.lk with master := true, muted := false, sentAt := some 0 } }

/-- A link frame on port A. -/
def heardA (delay : Nat) (ws : List Word) : PortRx := ⟨delay, false, ws ++ [plainTrailer 0 ws]⟩

/-- A beacon of node 5 with MAJ 1, cycle 9. -/
def beacon : List Word := [mkw [(27, 5), (23, 1)], 9, 0, 0, 0, 0, 0, 0, 0, 0, 0]

theorem test_wit_link_frames :
    (let d := master (linked 3 Dev0)
     d.grovesRun = true ∧ d.linkOn = true ∧ d.lk.master = true ∧ d.lk.dupid = false ∧ d.lk.sphase = .awake ∧ d.lk.vote = none ∧
     d.lk.propose = false ∧ d.lk.late = none) ∧
    (let d := linkAfter (linked 3 Dev0) 0
     let x := heardA 0 beacon
     let w (i : Nat) : Word := x.words.getD i 0
     d.linkHears = true ∧ d.lk.master = false ∧ d.portOn 0 = true ∧ x.bad = false ∧ x.words.length = 12 ∧
     fld (w 11) 31 0 = crc32c (x.words.take 11) 0 0 ∧ hdrKind (w 0) = 0 ∧ hdrMaj (w 0) = 1 ∧ hdrNode (w 0) ≠ d.linkNode ∧
     d.linkCounts = false) ∧
    (let d := master (linked 3 Dev0)
     let dc := linkCatch d
     let at_ := linkSettle (muteCheck (linkCatch (dc.advanceTo (dc.slotStart 0).toNat)))
     dc.linkHears = true ∧ dc.linkCounts = true ∧ 0 < dc.nslot ∧ dc.slotOwner 0 = dc.linkNode ∧ (dc.clk : Int) ≤ dc.slotStart 0 ∧
     at_.mayTalk = true) ∧
    (let d := linkSettle (muteCheck (linkAfter (master (linked 5 Dev0)) 0))
     let x := heardA 10000 [mkw [(32, 1), (27, 5), (23, 1)], 0, 0]
     let w (i : Nat) : Word := x.words.getD i 0
     d.linkHears = true ∧ d.linkCounts = true ∧ 0 < d.nslot ∧ d.portOn 0 = true ∧
     absI (((d.clk + x.delay : Nat) : Int) - (d.linkAt (d.slotOff 0) + sfdGck + d.rxcompGck)) ≤ winGck ∧ x.bad = false ∧
     x.words.length = d.slotP 0 + 2 ∧ fld (w 3) 31 0 = crc32c (x.words.take 3) 0 0 ∧ hdrMaj (w 0) = 1 ∧ fld (w 1) 35 32 = 0 ∧
     hdrKind (w 0) = 1 ∧ hdrNode (w 0) = d.slotOwner 0 ∧ d.slotOwner 0 ≠ d.linkNode) := by decide +kernel

/-! ### Converters, calibration, observer, planners -/

/-- A sequence result of entry 15 and an urgent one of coil 31. -/
def conv0 (e : Nat) (u : Option Urgent) : Conversion := ⟨e, 0, false, u, 0, 0, 0, 0, 512⟩
def urg : Urgent := ⟨31, 0, 0, 0⟩

theorem test_wit_triggers :
    (let off := reg (pgCv 31) Reg.conv.TRIG 1 Dev0
     let d := reg (pgCv 31) Reg.conv.CTRL 65536 off
     Dev0.hasGrove (31 / 4) = true ∧ d.rf (pgCv 31) Reg.conv.TRIG 2 0 ≠ 0 ∧ off.rb (pgCv 31) Reg.conv.CTRL 16 = false ∧
     d.rb (pgCv 31) Reg.conv.CTRL 16 = true ∧ d.calSt 7 ≠ .running ∧ (d.conv 31).seqOn = false ∧ (d.conv 31).held = false ∧
     (d.conv 31).urgentRuns = false ∧ (d.conv 31).queue = [] ∧ ¬ (d.calSt 7 = .applying ∧ 31 % 4 = 0) ∧
     (d.setCal 7 .running).calSt 7 = .running ∧ ((d.setConv 31 { d.conv 31 with seqOn := true }).conv 31).seqOn = true ∧
     ((d.setConv 31 { d.conv 31 with run := some (conv0 0 (some urg)) }).conv 31).urgentRuns = true ∧
     ((d.setConv 31 { d.conv 31 with queue := [urg] }).conv 31).queue ≠ [] ∧ (d.setCal 0 .applying).calSt 0 = .applying) := by
  decide +kernel

theorem test_wit_conversions :
    (let d := reg (pgCv 0) Reg.conv.CTRL 15 (Dev0.setConv 0 { Dev0.conv 0 with run := some (conv0 14 none), seqOn := true })
     let z := reg (pgCv 0) Reg.conv.CTRL 31 (Dev0.setConv 0 { Dev0.conv 0 with run := some (conv0 15 none), seqOn := true })
     let u := Dev0.setConv 0 { Dev0.conv 0 with run := some (conv0 0 (some urg)), queue := [urg] }
     let a := Dev0.setConv 0 { Dev0.conv 0 with run := some (conv0 0 (some urg)), again := some 3 }
     (d.conv 0).run = some (conv0 14 none) ∧ (conv0 14 none).entry < d.rf (pgCv 0) Reg.conv.CTRL 3 0 ∧
     z.rf (pgCv 0) Reg.conv.CTRL 3 0 ≤ (conv0 15 none).entry ∧ z.rb (pgCv 0) Reg.conv.CTRL 4 = true ∧
     d.rb (pgCv 0) Reg.conv.CTRL 4 = false ∧ (u.conv 0).queue = urg :: [] ∧ (a.conv 0).queue = [] ∧ (a.conv 0).again = some 3 ∧
     ¬ (a.calSt 0 = .applying ∧ 0 % 4 = 0)) := by decide +kernel

theorem test_wit_results :
    (let d := Dev0.setConv 0 { Dev0.conv 0 with filter := [conv0 15 none, conv0 0 (some urg)] }
     (d.conv 0).filter = conv0 15 none :: [conv0 0 (some urg)] ∧ (conv0 15 none).entry < 16 ∧ urg.coil < 32) := by decide +kernel

theorem test_wit_conv_writes :
    (on id).takes (hostW (2 ^ 16 + 2 ^ 35)) (pgCv 5) Reg.conv.CTRL ∧ (on id).takes (hostW (2 ^ 16)) (pgCv 5) Reg.conv.CTRL ∧
    (on id).takes (hostW 0) (pgCv 5) Reg.conv.CTRL ∧
    (let v := (Dev0.conv 5)
     v.seqOn = false ∧ v.held = false ∧ v.urgentRuns = false ∧ v.queue = [] ∧ Dev0.calSt 1 ≠ .running ∧ Dev0.calSt 1 ≠ .applying ∧
     ({ v with run := some (conv0 0 (some urg)) } : Conv).urgentRuns = true ∧
     ({ v with queue := [urg] } : Conv).queue = urg :: []) :=
  ⟨takes_of (by decide +kernel), takes_of (by decide +kernel), takes_of (by decide +kernel), by decide +kernel⟩

theorem test_wit_calibration :
    (on (key0 (pgCal 7))).takes (hostW 1) (pgCal 7) Reg.convcal.CMD ∧ (on (key0 (pgCal 7))).takes (hostW 2) (pgCal 7) Reg.convcal.CMD ∧
    Dev0.calBusy 7 = false ∧ (Dev0.setCal 7 .running).calSt 7 = .running ∧ (Dev0.setCal 7 .applying).calSt 7 = .applying ∧
    Dev0.calSum 7 = (Dev0.rd (pgCal 7) Reg.convcal.CALSUM).toNat ∧
    (reg (pgCal 7) Reg.convcal.CALSUM 1 Dev0).calSum 7 ≠ ((reg (pgCal 7) Reg.convcal.CALSUM 1 Dev0).rd (pgCal 7) Reg.convcal.CALSUM).toNat :=
  ⟨takes_of (by decide +kernel), takes_of (by decide +kernel), by decide +kernel⟩

/-- OBSCAL with CUREN, ZCW0.EN and OBSCFG.EN at 1. -/
def calReady (d : Dev) : Dev :=
  reg (pgAxis 127) Reg.axis.OBSCFG (2 ^ 35) (reg (pgAxis 127) Reg.axis.ZCW0 (2 ^ 35) (reg (pgAxis 127) Reg.PAGE_CTRL 256 d))

theorem test_wit_axis :
    (on id).takes (hostW (256 * 2 ^ 16)) (pgAxis 127) Reg.axis.QPTR ∧ (on id).takes (hostW 1) (pgAxis 127) Reg.axis.QCTRL ∧
    (on id).takes (hostW 2) (pgAxis 127) Reg.axis.QCTRL ∧
    (on calReady).takes (hostW (2 ^ 35 + 2 ^ 16)) (pgAxis 127) Reg.axis.OBSCAL ∧ (on id).takes (hostW (2 ^ 34 + 2 ^ 16)) (pgAxis 127) Reg.axis.OBSCAL ∧
    (on (key0 (pgAxis 127))).takes (hostW 1) (pgAxis 127) Reg.axis.TRUSTSET :=
  ⟨takes_of (by decide +kernel), takes_of (by decide +kernel), takes_of (by decide +kernel), takes_of (by decide +kernel),
   takes_of (by decide +kernel), takes_of (by decide +kernel)⟩

/-- RD 1 over WR 1: FILL falls from 1, above LOWMARK 0, to 0. -/
theorem test_wit_scribe_writes :
    (on id).takes (hostW 1) pgScribe Reg.PAGE_CTRL ∧ (on id).takes (hostW 1) pgScribe Reg.scribe.WR ∧
    (on (reg pgScribe Reg.scribe.WR 1)).takes (hostW 1) pgScribe Reg.scribe.RD ∧
    (on id).takes (hostW (4 * 2 ^ 24 + 5 * 2 ^ 20)) pgScribe Reg.scribe.MSRC ∧ (on id).takes (hostW (4 * 2 ^ 24 + 5 * 2 ^ 20 + 1)) pgScribe Reg.scribe.MSRC ∧
    (on id).takes (hostW (2 ^ 35 + 16384 * 2 ^ 16 + 256)) pgStroke Reg.stroke.CHECK ∧
    (let d := reg pgScribe Reg.scribe.WR 1 Dev0
     d.rf pgScribe Reg.scribe.LOWMARK 21 0 < d.scrFill ∧ (reg pgScribe Reg.scribe.RD 1 d).scrFill = 0) ∧
    ({ Dev0.scr with chkBusy := some (256, 1) } : Scribe).chkBusy = some (256, 1) :=
  ⟨takes_of (by decide +kernel), takes_of (by decide +kernel), takes_of (by decide +kernel), takes_of (by decide +kernel),
   takes_of (by decide +kernel), takes_of (by decide +kernel), by decide +kernel⟩

/-! ### Registers and groups -/

theorem test_wit_groups :
    (on id).takes (hostW 2) pgCanopy Reg.canopy.UPDATE ∧ (on id).takes (hostW (2 ^ 35)) pgCanopy Reg.canopy.FENCE ∧
    (on (fun d => reg pgCanopy Reg.PAGE_UPD 0 (key0 pgCanopy d))).takes (hostW (Dev0.rd pgCanopy (Reg.canopy.PART + 5)).toNat)
      pgCanopy (Reg.canopy.PART + 5) ∧ (reg pgCanopy Reg.PAGE_UPD 0 Dev0).group pgCanopy = 0 ∧
    (on (fun d => reg pgCanopy Reg.PAGE_UPD 1 (key0 pgCanopy d))).takes (hostW 1) pgCanopy (Reg.canopy.PART + 5) ∧
    (reg pgCanopy Reg.PAGE_UPD 1 Dev0).group pgCanopy ≠ 0 ∧ Dev0.pins.upd ≠ true ∧ Dev0.pins.updAt + 4 ≤ Dev0.clk + 4 ∧
    edgeSel ((reg pgCanopy Reg.canopy.UPDIN_CFG (2 ^ 32) Dev0).rf pgCanopy Reg.canopy.UPDIN_CFG 33 32) true = true :=
  ⟨takes_of (by decide +kernel), takes_of (by decide +kernel), takes_of (by decide +kernel), by decide +kernel,
   takes_of (by decide +kernel), by decide +kernel⟩

/-- A word of WAVE stores; SRCEN is keyed; CONV.PCNT is read-only; offset 0x3FF of FIREBRK is empty. -/
theorem test_wit_registers :
    State.reset.pages ∧ pageKind (pgWave 0) = some .wave ∧ pagePresent .fd9128 (pgWave 0) = true ∧
    (on id).takes ⟨0, .host, .toggleBits, 1⟩ (pgWave 0) Reg.wave.TAB ∧
    (∃ fs, fieldsAt .wave Reg.wave.TAB = some fs ∧ fs ≠ [] ∧ (∀ f ∈ fs, f.ty = .rw) ∧ pairPart .wave Reg.wave.TAB = .single) ∧
    (∃ fs, fieldsAt .firebrk Reg.firebrk.SRCEN = some fs ∧ fs ≠ [] ∧ (∀ f ∈ fs, f.ty = .rwk ∨ f.ty = .rwbk) ∧
      pairPart .firebrk Reg.firebrk.SRCEN = .single) ∧ Dev0.unlocked 0 (pgFire 0) = false ∧
    (∃ fs, fieldsAt .conv Reg.conv.PCNT = some fs ∧ fs ≠ [] ∧ (∀ f ∈ fs, f.ty = .ro)) ∧ fieldsAt .firebrk 0x3FF = none ∧
    (hostW (0x6C5A93000 + pgFire 0)).data.toNat = 0x6C5A93000 + pgFire 0 ∧ (hostW 0).data.toNat ≠ 0x6C5A93000 + pgFire 0 :=
  ⟨by unfold State.pages; decide +kernel, by decide +kernel, by decide +kernel, takes_of (by decide +kernel), ⟨_, rfl, by decide +kernel⟩,
   ⟨_, rfl, by decide +kernel⟩, by decide +kernel, ⟨_, rfl, by decide +kernel⟩, by decide +kernel⟩

theorem test_wit_irq : Dev0.rb pgCanopy Reg.PAGE_CTRL 0 = false ∧
    (reg pgCanopy Reg.canopy.IRQMAP 11 (reg pgCanopy Reg.PAGE_EVTEN 32 (reg pgCanopy Reg.PAGE_EVT 32 Dev0))).irqLow 3 = true := by
  decide +kernel

/-! ### The host port -/

theorem test_wit_host_writes :
    (on up).accepts 0 (frame 0 0 0 []) ∧ (on up).accepts 1 (frame 1 1 0 [1, 2]) ∧ (on up).accepts 2 (frame 2 3 0 [5, 1, 5, 2]) ∧
    frameN (frame 1 1 0 [1, 2]) = 2 ∧ (∀ e ∈ scatterList [5, 1, 5, 2], e.1 < Dev0.variant.memWords) ∧
    (∃ k fs, (on up).accepts 2 (frame 2 3 0 [5, 1, BitVec.ofNat 36 (0x800000 + pgFire 0 * 1024 + Reg.firebrk.SRCEN), 2]) ∧
      scatterList [5#36, 1, BitVec.ofNat 36 (0x800000 + pgFire 0 * 1024 + Reg.firebrk.SRCEN), 2] =
        [(5, 1), (0x800000 + pgFire 0 * 1024 + Reg.firebrk.SRCEN, 2)] ∧ pageKind (pgFire 0) = some k ∧
      fieldsAt k Reg.firebrk.SRCEN = some fs ∧ fs ≠ [] ∧ (∀ x ∈ fs, x.ty = .rwk ∨ x.ty = .rwbk) ∧
      pairPart k Reg.firebrk.SRCEN = .single ∧ k ≠ .supv ∧ (on up).dev.unlocked 0 (pgFire 0) = false) :=
  ⟨accepts_of rfl rfl (by decide +kernel), accepts_of rfl rfl (by decide +kernel), accepts_of rfl rfl (by decide +kernel), by decide +kernel,
   by decide +kernel, .firebrk, _, accepts_of rfl rfl (by decide +kernel), by decide +kernel, by decide +kernel, rfl, by decide +kernel⟩

/-- Memory of the FD9128's last word, listed with good and with uncorrectable check bits. -/
def memAt (a : Nat) (e : Ecc) (d : Dev) : Dev := { d with mem := { d.mem with cells := [(a, ⟨7, e⟩)] } }

theorem test_wit_host_reads :
    (on (fun d => memAt 3 .clean (up d))).accepts 3 (frame 3 0 3 []) ∧ ((memAt 3 .clean Dev0).mem.at 3).ecc = .clean ∧
    3 < Dev0.variant.memWords ∧ ((memAt 3 .double Dev0).mem.at 3).ecc = .double ∧
    (on up).accepts 3 (frame 3 0 (0x800000 + pgWave 0 * 1024 + 0x100) []) ∧ (findReg .wave 0x100).isSome = true ∧
    (frame 3 0 (0x800000 + pgWave 0 * 1024 + 0x100) []).addr.toNat = 0x800000 + pgWave 0 * 1024 + 0x100 ∧
    (on up).accepts 4 (frame 4 0 0 [3]) ∧ (on up).accepts 5 (frame 5 0 0 [3]) ∧
    (let c : Capture := ⟨[3], 0, some [(0, 7)]⟩
     let r : Reply := ⟨0, 0, [], 0, [], some (.gatherT [3]), 0, false⟩
     c.taken = some [(0, 7)] ∧ r.wait.isSome = true ∧ r.early = 0) :=
  ⟨accepts_of rfl rfl (by decide +kernel), by decide +kernel, by decide +kernel, by decide +kernel, accepts_of rfl rfl (by decide +kernel),
   by decide +kernel, by decide +kernel, accepts_of rfl rfl (by decide +kernel), accepts_of rfl rfl (by decide +kernel), by decide +kernel⟩

/-- An entry for axis 127; a ring with 255 entries and with 256. -/
theorem test_wit_host_queue :
    (let f := frame 6 7 (0x800000 + pgAxis 127 * 1024 + Reg.axis.QPTR) (List.replicate 8 0)
     (on up).accepts 6 f ∧ f.addr.toNat = 0x800000 + pgAxis 127 * 1024 + Reg.axis.QPTR ∧ (on up).dev.sup.ps ≠ .standby ∧
     (on up).dev.hasAxis 127 = true ∧ (255 + 512 - 0) % 512 + frameN f / 8 ≤ 256 ∧ 256 < (256 + 512 - 0) % 512 + frameN f / 8) ∧
    (∀ i, Dev0.segAddr 127 i + 8 ≤ Dev0.variant.memWords) ∧
    (on up).accepts 7 (frame 7 0 0 []) ∧ (on up).accepts 8 (frame 8 0 0 [6]) ∧
    (let r : Reply := ⟨0, 0, [], 0, [], some .fence, 0, false⟩
     r.wait = some .fence ∧ r.early = 0 ∧ r.data = [] ∧ r.estat = 0 ∧ r.flags = 0) ∧
    ({ Dev0.acc with fencing := [0, 2] } : Access).fencing.contains 2 = true := by
  refine ⟨⟨accepts_of rfl rfl (by decide +kernel), by decide +kernel⟩, ?_, accepts_of rfl rfl (by decide +kernel),
    accepts_of rfl rfl (by decide +kernel), by decide +kernel, by decide +kernel⟩
  intro i
  have h : (Dev0.part 2).1 + 2048 * 127 + 8 * 255 + 8 ≤ Dev0.variant.memWords := by decide +kernel
  unfold Dev.segAddr
  generalize (Dev0.part 2).1 = b at *
  generalize Dev0.variant.memWords = m at *
  omega

/-- A frame with opcode 15, a wrong CRC, and the countdown of 10 us. -/
theorem test_wit_port :
    crcOk 15 (frame 15 0 0 []) = true ∧ (frame 15 0 0 []).data = [] ∧ crcOk 1 { frame 1 0 0 [1] with trailer := 0 } = false ∧
    (on up).dev.hostUp = true ∧ (on up).dev.hp.reply = none ∧ Dev0.hp.up = false ∧ (on id).takes (hostW 1) pgHostp Reg.PAGE_CTRL ∧
    (let r : Reply := ⟨0, 0, [], 0, [], none, 0, false⟩
     r.cut = false ∧ r.wait = none) ∧
    (let d := reg pgHostp Reg.hostp.WDOG (2 ^ 35 + 2 ^ 34 + 2 ^ 33 + 2 ^ 16 + 1) Dev0
     let w : Dev := { d with hp := { d.hp with wdRun := true } }
     w.hp.wdRun = true ∧ w.clk + 3999 < w.wdDue ∧ (w.rd pgHostp Reg.hostp.WDOG).getLsbD 33 = true ∧
     (w.rd pgHostp Reg.hostp.WDOG).getLsbD 16 = true ∧ (w.rd pgHostp Reg.hostp.WDOG).getLsbD 17 = false ∧
     d.rb pgHostp Reg.hostp.WDOG 34 = true ∧ d.rb pgHostp Reg.hostp.WDOG 35 = true) ∧
    (on (reg pgHostp Reg.hostp.WDOG (2 ^ 35 + 2 ^ 34 + 1))).takes (hostW 1) pgHostp Reg.hostp.WDKICK :=
  ⟨by decide +kernel, by decide +kernel, by decide +kernel, by decide +kernel, by decide +kernel, by decide +kernel,
   takes_of (by decide +kernel), by decide +kernel, by decide +kernel, takes_of (by decide +kernel)⟩

theorem test_wit_link_requests :
    (let u (m : Nat) (d : Dev) : Dev := { master (linked m d) with lk := { (master (linked m d)).lk with linkup := true, floor := 2 } }
     (on (u 3)).takes (hostW (2 ^ 35 + 5 * 2 ^ 24)) pgLink Reg.sxlink.RQ_CTL ∧
     (on (u 3)).takes (hostW (2 ^ 35)) pgSched Reg.sxsched.TSTR_CTL ∧
     (on (u 3)).takes (hostW (2 ^ 35)) pgLink Reg.sxlink.SLEEP ∧ (on (u 3)).takes (hostW (2 ^ 34)) pgLink Reg.sxlink.SLEEP) ∧
    (let r : RemoteReq := ⟨5, 0, [], true, 2 ^ 36 - 8⟩
     let d := linkAfter { master (linked 3 Dev0) with lk := { (master (linked 3 Dev0)).lk with rq := some r } } 0
     d.lk.rq = some r ∧ 8 ≤ (d.cycleNow + 2 ^ 36 - r.cycle) % 2 ^ 36) ∧
    (linkAfter { Dev0 with lk := { Dev0.lk with snap := some (255, [1, 2]) } } 0).lk.snap = some (255, [1, 2]) :=
  ⟨⟨takes_of (by decide +kernel), takes_of (by decide +kernel), takes_of (by decide +kernel), takes_of (by decide +kernel)⟩, by decide +kernel⟩

theorem test_wit_link_states :
    (let d := linkAfter (linked 3 Dev0) (5 * 400000 + 24000)
     d.linkOn = true ∧ d.lk.master = false ∧ d.lk.dupid = false ∧ d.rf pgLink Reg.sxlink.CFG 27 24 ≠ 0 ∧ d.lk.sphase = .awake ∧ d.sup.ps = .run ∧
     d.lk.waitFrom + d.masterWait ≤ d.clk ∧ 500 < d.terr ∧ d.linkupNow = false) ∧
    (let d := linkAfter (reg pgNode Reg.sxnode.PRESENT (2 ^ 31) { master (linked 3 Dev0) with
       lk := { (master (linked 3 Dev0)).lk with cycle := 17, lastFrame := [(31, 1)] } }) 0
     d.linkCounts = true ∧ d.present.testBit 31 = true ∧ 31 ≠ d.linkNode ∧
     16 < (d.lk.cycle + 1 + 2 ^ 36 - d.lk.lastFrame.get 31 0) % 2 ^ 36) ∧
    (let v : Vote := ⟨0, 8, 8, false, false, 0, 1, some 2, false⟩
     let d := { master (linked 3 Dev0) with lk := { (master (linked 3 Dev0)).lk with cycle := 8, vote := some v, sphase := .committed } }
     let dc := linkCatch d
     let t := (dc.sleepAt v).getD 0
     let d0 := linkCatch (dc.advanceTo t.toNat)
     dc.linkHears = true ∧ dc.linkCounts = true ∧ dc.lk.vote = some v ∧ dc.sleepAt v = some t ∧ d0.lk.vote = some v ∧
     d0.votesSleep v = true ∧ d0.rf pgLink Reg.sxlink.SLEEP 9 8 = 0) ∧
    (let d := { linked 3 Dev0 with lk := { (linked 3 Dev0).lk with wpend := true, sphase := .asleep } }
     d.linkOn = true ∧ d.lk.wpend = true ∧ d.lk.sphase = .asleep ∧ d.lk.patternAt = none ∧ d.lk.sleptAt + 400000 ≤ d.clk + 400000 ∧
     (let e : Dev := { reg pgSupv Reg.supv.WAKECFG 2 d with sup := { d.sup with ps := .retain } }
      e.rb pgSupv Reg.supv.WAKECFG 1 = true ∧ e.sup.ps = .retain ∧ e.linkOn = true)) := by decide +kernel

/-! ### Inputs -/

theorem test_wit_inputs :
    (let q := reg pgQdec (Reg.qdec.CFG + 15) 1 Dev0
     let turn (a b : Bool) : Nat := (quadPhase a b + 4 - quadPhase (q.inp.qa.testBit 15) (q.inp.qb.testBit 15)) % 4
     (q.rd pgQdec (Reg.qdec.CFG + 15)).getLsbD 0 = true ∧ (Dev0.rd pgQdec (Reg.qdec.CFG + 15)).getLsbD 0 = false ∧
     turn false false = 0 ∧ turn true true = 2 ∧ (turn true false = 1 ∧ turn false true = 3 ∨ turn true false = 3 ∧ turn false true = 1) ∧
     q.inp.dirDef.testBit 15 = false ∧ ({ q.inp with dirDef := 2 ^ 15 } : Inputs).dirDef.testBit 15 = true ∧
     (reg pgQdec (Reg.qdec.CFG + 15) 5 Dev0).rb pgQdec (Reg.qdec.CFG + 15) 2 = true) ∧
    (let i := reg pgQdec (Reg.qdec.ICFG + 15) (2 ^ 35 + 2 * 2 ^ 32 + 7 * 2 ^ 26) Dev0
     let ic := i.rd pgQdec (Reg.qdec.ICFG + 15)
     ic.getLsbD 35 = true ∧ ic.getLsbD 31 = false ∧ runAge (fld ic 28 26) 4 ≤ 508 ∧ fld ic 33 32 = 2) ∧
    (let c := reg pgStepin (Reg.stepin.CFG + 15) 1793 Dev0
     let cfg := c.rd pgStepin (Reg.stepin.CFG + 15)
     cfg.getLsbD 0 = true ∧ true ≠ cfg.getLsbD 2 ∧ runAge (fld cfg 10 8) 1 ≤ 127 ∧
     ({ c.inp with stpLast := [(15, 1)] } : Inputs).stpLast.get 15 0 = 0 + 1) := by decide +kernel

/-- Input 31 rises: it is recorded, starts unit 0 and stops unit 15, which waits. -/
theorem test_wit_capture :
    (let d := reg pgCapt (Reg.capt.UNIT + 15) (2 ^ 35 + 31 * 2 ^ 24 + 2 ^ 20) (reg pgCapt Reg.capt.UNIT (2 ^ 35 + 31 * 2 ^ 8 + 2 ^ 4)
       (reg pgCapt (Reg.capt.CFG + 31) 16 { Dev0 with inp := { Dev0.inp with starts := [(15, 0)] } }))
     let c0 := d.rd pgCapt Reg.capt.UNIT
     let c15 := d.rd pgCapt (Reg.capt.UNIT + 15)
     d.grovesRun = true ∧ capValid d ⟨31, true, 0⟩ = true ∧ d.inp.fifo.length + 17 ≤ 256 ∧
     edgeSel (d.rf pgCapt (Reg.capt.CFG + 31) 5 4) true = true ∧ c0.getLsbD 35 = true ∧ fld c0 12 8 = 31 ∧ edgeSel (fld c0 5 4) true = true ∧
     c15.getLsbD 35 = true ∧ fld c15 28 24 = 31 ∧ edgeSel (fld c15 21 20) true = true ∧ ¬ (fld c15 12 8 = 31 ∧ edgeSel (fld c15 5 4) true = true) ∧
     d.inp.starts.look 15 = some 0 ∧ 0 ≤ d.clk) ∧
    (let r : CapRecord := ⟨0, 0, 0, 0⟩
     ({ Dev0.inp with fifo := [r] } : Inputs).fifo = r :: [] ∧ Dev0.inp.fifo = []) ∧
    (on id).takes (hostW 2) pgCapt Reg.PAGE_CTRL := by
  refine ⟨by decide +kernel, by decide +kernel, takes_of (by decide +kernel)⟩

/-! ### Shedding and power states -/

theorem test_wit_shedding :
    (let l : Levels := ⟨3, 3, [(7, (4, 2))]⟩
     Dev0.sup.lev.s < 4 ∧ Dev0.sup.lev.t < 4 ∧ 0 < l.s ∧ 0 < l.t ∧ 0 < l.m 7 ∧ 0 < l.ov 7) ∧
    (let d := reg pgSupv (Reg.supv.MBTHR + 7) 1 (reg pgSupv (Reg.supv.MBOV + 7) 1 Dev0)
     d.hasGrove 7 = true ∧ d.busCode 7 4 ≠ 0 ∧ d.busCode 7 6 ≠ 0 ∧ d.sup.lev.m 7 < 4 ∧ d.sup.lev.ov 7 + 4 < 6) ∧
    (let d : Dev := { Dev0 with sup := { Dev0.sup with lev := ⟨0, 4, []⟩ } }
     d.sup.lev.t = 4 ∧ d.jr.writing = none ∧ d.jr.finalEnd = false ∧ d.sup.t4At + 4000000 ≤ (d.advance 4000000).clk) ∧
    Dev0.sup.pfail = false ∧ Dev0.sup.latch = false ∧
    (let d := reg pgXmem Reg.xmem.JSTAT (2 ^ 34) (reg pgXmem Reg.xmem.JCFG (2 ^ 35) { Dev0 with jr := { Dev0.jr with loading := false, pos := some (1, 3) } })
     d.jr.finalDone = false ∧ d.jr.loading = false ∧ d.jen = true ∧ d.jmode = 1 ∧ d.jr.writing = none ∧ d.jr.op = none ∧ d.jr.pos = some (1, 3)) := by
  decide +kernel

theorem test_wit_power :
    (let at_ (ps : PState) (d : Dev) : Dev := key0 pgSupv { d with sup := { d.sup with ps := ps } }
     let stopped (d : Dev) : Dev := reg pgSupv Reg.supv.WAKECFG 1 (at_ .run d)
     (on (at_ .run)).takes (hostW (2 ^ 35)) pgSupv Reg.supv.PSCTL ∧ (on (at_ .idle)).takes (hostW (2 ^ 35)) pgSupv Reg.supv.PSCTL ∧
     (on (fun d => reg pgSupv Reg.supv.WAKECFG 1 (at_ .standby d))).takes (hostW (2 ^ 35)) pgSupv Reg.supv.PSCTL ∧
     (stopped Dev0).rb pgSupv Reg.supv.WAKECFG 0 = true ∧
     (on (at_ .run)).takes (hostW (2 ^ 35 + 1)) pgSupv Reg.supv.PSCTL ∧ (on (at_ .run)).takes (hostW (2 ^ 35 + 2)) pgSupv Reg.supv.PSCTL ∧
     (on (at_ .run)).takes (hostW (2 ^ 35 + 3)) pgSupv Reg.supv.PSCTL) ∧
    (let p : Supv := { Dev0.sup with target := some .retain }
     p.inReset = false ∧ p.target = some .retain ∧ Dev0.jr.writing = none) ∧
    (let d : Dev := { reg pgSupv Reg.supv.WAKECFG 12 Dev0 with sup := { Dev0.sup with ps := .retain } }
     d.sup.inReset = false ∧ d.sup.target = none ∧ d.sup.ps = .retain ∧
     ((8#4).getLsbD 3 && d.rb pgSupv Reg.supv.WAKECFG 3 && (3 == 2 || 3 == 3 || (3 == 0 && d.sup.ps == .retain))) = true) := by
  refine ⟨⟨takes_of (by decide +kernel), takes_of (by decide +kernel), takes_of (by decide +kernel), by decide +kernel,
    takes_of (by decide +kernel), takes_of (by decide +kernel), takes_of (by decide +kernel)⟩, by decide +kernel, by decide +kernel⟩

/-! ### The external memory, the journal and the peripheral port -/

/-- A board of 16 MiB with the six sector words of a directory at sector 0. -/
def dirWords : List Word :=
  let ws : List Word := [0xFD9D, mkw [(16, 2), (0, 63)], mkw [(16, 61), (0, 124)], mkw [(24, 4), (16, 1), (0, 129)], 130, mkw [(0, 100)]]
  ws ++ [plainTrailer 0 ws]
def board : FlashBoard :=
  ⟨1, 24, 0, false, false, ((dirWords.map wordBytes).flatten.zipIdx).map (fun e => (e.2, BitVec.ofNat 8 e.1))⟩

theorem test_wit_memory :
    (Dev0.jr.loading = true ∧ Dev0.jr.loaded = false ∧ (discover Dev0 { board with bytes := [] }).directory = none ∧
     (∃ x, (discover Dev0 board).directory = some x ∧ slotCause (setLayout (discover Dev0 board) x) x.slotA x.slotSect ≠ 0 ∧
       slotCause (setLayout (discover Dev0 board) x) x.slotB x.slotSect ≠ 0)) ∧
    (let b : Dev → Dev := fun d => reg pgXmem Reg.xmem.CTL 1 (reg pgXmem Reg.xmem.FLASH (2 ^ 32 + 24 * 2 ^ 24) { d with jr := { d.jr with loading := false } })
     (on b).takes (hostW (2 ^ 35 + 2 ^ 32 + 1)) pgXmem Reg.xmem.XCMD ∧ (on b).takes (hostW (2 ^ 35 + 2 * 2 ^ 32 + 1)) pgXmem Reg.xmem.XCMD ∧
     (on b).takes (hostW (2 ^ 35 + 3 * 2 ^ 32 + 1)) pgXmem Reg.xmem.XCMD) := by
  refine ⟨⟨by decide +kernel, by decide +kernel, by decide +kernel, ?_⟩, ?_⟩
  · have h : (discover Dev0 board).directory.isSome = true ∧ ∀ x ∈ (discover Dev0 board).directory,
      slotCause (setLayout (discover Dev0 board) x) x.slotA x.slotSect ≠ 0 ∧ slotCause (setLayout (discover Dev0 board) x) x.slotB x.slotSect ≠ 0 := by
      decide +kernel
    obtain ⟨x, hx⟩ := Option.isSome_iff_exists.mp h.1
    exact ⟨x, hx, h.2 x hx⟩
  · exact ⟨takes_of (by decide +kernel), takes_of (by decide +kernel), takes_of (by decide +kernel)⟩

/-- A host operation on the erased sector 7, and the same on a place that is not erased. -/
theorem test_wit_flash_ops :
    (let o : FlashOp := ⟨2, 7, 0, 1, 0⟩
     let d : Dev := { memAt (Dev0.bufAddr 0) .clean Dev0 with jr := { Dev0.jr with op := some o } }
     let p : Dev := { d with fl := d.fl.putByte (flashAddr 7 0) 1 }
     d.jr.op = some o ∧ d.jr.writing = none ∧ d.bufAddr o.buf + o.count ≤ d.variant.memWords ∧
     (∀ i, i < o.count → d.fl.word (flashAddr o.sect (o.word + i)) = .erased ∧ (d.mem.at (d.bufAddr o.buf + i)).ecc = .clean) ∧
     p.fl.word (flashAddr 7 0) ≠ .erased) := by decide +kernel

/-- A final and a periodic record; a sector of the ring. -/
theorem test_wit_journal :
    (let r : JRecord := ⟨false, [1, 2], 124, 3⟩
     let d := reg pgXmem Reg.xmem.JSTAT (2 ^ 34) (reg pgXmem Reg.xmem.LAYOUT1 124 (reg pgXmem Reg.xmem.LAYOUT2 (4 * 2 ^ 24 + 2 ^ 16)
       { Dev0 with jr := { Dev0.jr with writing := some r, erasing := [128] } }))
     d.jr.writing = some r ∧ r.final = false ∧ d.jmode = 1 ∧ d.jbase ≤ r.sector ∧ r.sector < d.jbase + d.jsect + d.jspare ∧
     r.sector < d.jbase + 64 ∧ d.jr.waiting = none ∧ d.jr.erasing = 128 :: [] ∧ d.jbase ≤ 128 ∧ 128 < d.jbase + d.jsect + d.jspare ∧
     ({ r with final := true } : JRecord).final = true) := by decide +kernel

/-- The last pointer value, 63, of the queue; an entry with one TX word of 36 bits, framed, and one of 7 bits. -/
theorem test_wit_perip :
    (on id).takes (hostW (32 * 2 ^ 16)) pgPerip Reg.perip.QPTR ∧
    (let w0 : Nat := 36 * 2 ^ 24 + 2 ^ 16
     let cells (w : Nat) (d : Dev) : Dev := { d with mem := { d.mem with
       cells := (List.range 32).map (fun i => (d.pEntryAddr 63 + i, ⟨BitVec.ofNat 36 (if i = 0 then w else 1), .clean⟩)) } }
     let d (w : Nat) : Dev := cells w (reg pgPerip Reg.perip.QPTR 63 (reg pgPerip Reg.perip.CFG 1 Dev0))
     let a := (d w0).pEntryAddr 63
     (d w0).pHead = 63 ∧ a + 64 ≤ (d w0).variant.memWords ∧ (d w0).rb pgPerip Reg.perip.CFG 0 = true ∧ (d w0).pp.halted = false ∧
     (d w0).pp.run = none ∧ (d w0).pHead ≠ (d w0).pTail ∧ (∀ i, i < 32 → ((d w0).mem.at (a + i)).ecc = .clean) ∧
     ((d w0).mem.at a).data.getLsbD 3 = false ∧ badEntry ((d w0).mem.at a).data true = false ∧
     badEntry ((d (7 * 2 ^ 24 + 2 ^ 16)).mem.at a).data false = true) ∧
    (let e : PEntry := ⟨0, [], 0⟩
     let p : Periph := { Dev0.pp with run := some e }
     p.run = some e ∧ p.sent.length ≤ e.tx.length ∧ e.tx.length < ({ p with sent := [0] } : Periph).sent.length ∧
     ((reg pgPerip Reg.perip.SELCFG 16 Dev0).rd pgPerip Reg.perip.SELCFG).getLsbD 4 = true ∧
     ({ p with selHeld := some (7, 0) } : Periph).selHeld = some (7, 0)) := by
  refine ⟨takes_of (by decide +kernel), by decide +kernel, by decide +kernel⟩

/-! ### Modes, debug and the Blotter -/

theorem test_wit_modes :
    (on (fun d => key0 pgTwin { d with tw := { d.tw with stest := false } })).takes (hostW 2) pgTwin Reg.twin.MODE ∧
    (on (key0 pgTwin)).hasKey (hostW 2) pgTwin ∧
    (on id).takes (hostW (2 ^ 35 + 1024)) (ckPlace .twin).1 (ckPlace .twin).2 ∧ (on id).takes (hostW (2 ^ 35 + 16)) (ckPlace .planb).1 (ckPlace .planb).2 ∧
    (on id).takes (hostW (2 ^ 35 + 16)) pgPlanA Reg.plan.CKCFG ∧
    (on (fun d => key0 pgTwin { d with tw := { d.tw with stest := false } })).takes (hostW 1) pgTwin Reg.twin.STEST ∧
    Dev0.tw.stest = true :=
  ⟨takes_of (by decide +kernel), .inr (by decide +kernel), takes_of (by decide +kernel), takes_of (by decide +kernel),
   takes_of (by decide +kernel), takes_of (by decide +kernel), by decide +kernel⟩

/-- Two asks of different legs; the last word of memory. -/
theorem test_wit_tap :
    (∀ x ∈ [(⟨511, true, true⟩ : BallAsk), ⟨0, true, false⟩], ∀ y ∈ [(⟨511, true, true⟩ : BallAsk), ⟨0, true, false⟩], y.leg = x.leg → y = x) ∧
    Dev0.hasGrove (511 / 64) = true ∧ Dev0.tap.busy = false ∧ (0x1FFFFF#24).toNat < Dev0.variant.memWords ∧ Dev0.sup.inReset = false := by decide +kernel

theorem test_wit_blotter :
    (on (reg pgCanopy (Reg.canopy.PART + 4) (2 ^ 16))).takes (hostW (2 ^ 8 + 1)) pgBlot Reg.blot.CTRL ∧ (on id).takes (hostW (2 ^ 8)) pgBlot Reg.blot.CTRL ∧ (on id).takes (hostW 0) pgBlot Reg.blot.RD ∧
    Dev0.rb pgBlot Reg.blot.CTRL 0 = false :=
  ⟨takes_of (by decide +kernel), takes_of (by decide +kernel), takes_of (by decide +kernel), by decide +kernel⟩

/-! ### Figures of the spec -/

/-- R13's worked example. -/
theorem test_later : later 12 3 4090 = true ∧ later 12 2148 100 = false ∧ later 12 100 2148 = false := by decide

/-- Entries 0, 512 and 1,024 of the fixed table (R149). -/
theorem test_table : (fixedWave 0, fixedWave 512, fixedWave 1024) = (0, 46340, 65535) := by decide +kernel

/-- The limits of the tine swing: 48 counts per tk, 0.25 count per tk², 2 counts per tk. -/
def tine : Lim := ⟨0x3000000, 0x40000000, 0x40000000, 0x200000, 0x200000⟩

/-- The tine swing: the first tick moves 2 counts at 2 counts per tk, the next reaches 2.25; 48 holds with 4,625 counts left, the
braking begins with 4,623, and the landing tick moves nothing. -/
theorem test_tine_swing :
    (let c : Int := 2 ^ 32
     let at_ (left : Nat) (v : Int) : TickOut := positionTick ⟨(51200 - left) * 2 ^ 32, v, 0⟩ tine 51200 4 false
     (at_ 51200 0).m = ⟨2 * 2 ^ 32, 2 * c, 0⟩ ∧ (at_ 51198 (2 * c)).m.v = 9 * c / 4 ∧ (at_ 4625 (48 * c)).m.v = 48 * c ∧
     (at_ 4623 (48 * c)).m.v = 191 * c / 4 ∧ (at_ 0 (2 * c)).landed = true ∧ (at_ 0 (2 * c)).m = ⟨51200 * 2 ^ 32, 0, 0⟩) := by
  decide +kernel

/-- The reversal: at 34,577 with speed 2 and the target behind, the axis stops without moving and rests 4 ticks. -/
theorem test_reversal :
    (positionTick ⟨34577 * 2 ^ 32, 2 * 2 ^ 32, 0⟩ tine 0 4 false).m = ⟨34577 * 2 ^ 32, 0, 4⟩ := by decide +kernel

/-- Axis 37's page, and the word addresses of the retuning example: PAGE_UPD through the set alias, and PAGE_LOCK. -/
theorem test_places :
    pgAxis 37 = 0x1A5 ∧ Dev0.place 0x969407 = .reg .axis 0x1A5 Reg.PAGE_UPD .setBits ∧ Dev0.place 0x869406 = .reg .axis 0x1A5 Reg.PAGE_LOCK .direct ∧
    Dev0.place 0x840819 = .reg .firebrk (pgFire 0) Reg.firebrk.CLEAR .direct := by decide +kernel

/-- The lost reply: a repeat with the ALIVE of the last accepted frame is step 0, the next work step 1. -/
theorem test_alive : aliveStep { Dev0.hp with sync := false, last := 3 } 3 = 0 ∧ aliveStep { Dev0.hp with sync := false, last := 3 } 4 = 1 := by
  decide +kernel

/-- The offsets of coils 10 and 11 with AUTOILV and PERIOD 16,000 (the tine at cruise). -/
theorem test_offsets : (Dev0.grove 2).off 10 = 5000 ∧ (Dev0.grove 2).off 11 = 5500 := by decide +kernel

/-! ### Commands that no sender can form -/

def bad (w : RegWrite) : RegWrite := { w with req := .loader }
def rxNone : LinkRx := ⟨0, none, none⟩

/-- Units that an FD9032 lacks. -/
theorem test_ill_units :
    ([.tickBoundary [(1, 0)], .queueDwellEnd 32, .revdwellEnd 32, .mlost, .scribeFetch 0, .strokeDwellEnd 0, .retryDwellEnd 32,
      .stillDelayExpiry 32, .outputWord 0 1 0 0, .outputWord 0 0 32 0, .twinVerdict, .missingWord, .extrapolationOverrun 2, .tokenLate 2,
      .tokenLoss 2, .rampComplete 2, .rampmaxExpiry 2, .coilPeriodStart 2 0, .carrierEvent 2 0, .tripRecognised 0 2 0, .tonmax 2 0,
      .fastPhaseEnd 2 0, .zeroCurrentRecognised 0 2 0, .urgentRequest 2 0, .zmaxExpiry 2 0, .driveResume 2 0, .nodeRecognised 0 2 0 true,
      .incomingTurnOn 2 0, .edgeMiss 2 0, .overlapEvent 0 2 0, .faultNLow 0 2 40, .safeLevels 2, .trip 2 (hostW 2), .outen 2 (hostW 1),
      .rstop 2 (hostW 4), .clear 2 (hostW 1), .holdmaxExpiry 2, .sequenceTrigger 0 8, .convStart 8 (hostW (2 ^ 35)), .convEn 8 (hostW 0),
      .conversionEnd 8, .resultReady 0 8 0 false, .calGo 2 (hostW 1), .caldone 0 2 0 0 0, .calApply 2 (hostW 2), .calApplied 0 2 0,
      .obscalGo 32 (hostW (2 ^ 35)), .obscalAbort 32 (hostW (2 ^ 34)), .trustset 32 (hostW 1), .flush 32 (hostW 1), .resume 32 (hostW 2),
      .qptrTailWrite 32 (hostW 0), .scribeRun (hostW 1), .inkwellWrWrite (hostW 0), .inkwellRdWrite (hostW 0), .msrcWrite (hostW 0),
      .strokeCheck (hostW (2 ^ 35)), .chkdone 0, .motorBusLevelEnter 0 2 1, .motorBusLevelLeave 0 2 true, .modeReq (hostW 0),
      .cknow .twin (hostW (2 ^ 35)), .stestGo (hostW 1), .stestDone 0 0 false, .groveHalt 0 2, .groveResume 0 2, .quillHalt 0 1 false,
      .quillResume 0 1, .extest 0 [⟨128, true, false⟩], .samplePreload 0 [⟨128, true, false⟩], .faultNHigh 0 2] : List Instr).all
      (fun i => !i.wellFormed .fd9032) = true := by decide +kernel

/-- Operands that do not ask for the command. -/
theorem test_ill_operands :
    ([.resetNLow 0 0, .softReset (hostW 0), .faultNLow 0 0 0, .estopNLow 0 0, .trip 0 (hostW 0), .outen 0 (bad (hostW 1)), .rstop 0 (hostW 0),
      .clear 0 (hostW 0), .convStart 0 (hostW 0), .convEn 0 ⟨0, .host, .setBits, 0⟩, .calGo 0 (hostW 0), .calApply 0 (hostW 0),
      .obscalGo 0 (hostW 0), .obscalAbort 0 (hostW 0), .trustset 0 (hostW 0), .flush 0 (hostW 0), .resume 0 (hostW 0),
      .qptrTailWrite 0 (bad (hostW 0)), .scribeRun (bad (hostW 1)), .inkwellWrWrite (bad (hostW 0)), .inkwellRdWrite (bad (hostW 0)),
      .msrcWrite (bad (hostW 0)), .strokeCheck (hostW 0), .nop (frame 0 0 0 [0]), .write (frame 1 1 0 [0]), .scatter (frame 2 1 0 []),
      .read { frame 3 0 0 [] with early := 1 }, .gather (frame 4 1 0 []), .gatherT (frame 5 1 0 []), .queue (frame 6 7 0 []),
      .fence (frame 7 0 0 [0]), .discard (frame 8 0 0 []), .frameAborted 0 0, .prst (hostW 0), .kick (hostW 0),
      .update ⟨0, .host, .setBits, 2⟩, .fenceReq (hostW 0), .partWrite 0 (bad (hostW 0)), .pageLock 0 (bad (hostW 0)),
      .registerWrite 0 16 (bad (hostW 0)), .setTime (bad (hostW 0)), .sourceLost 0 .pps 1, .sourceLost 0 .sernyx 2, .arm 0 (hostW 0),
      .disarm 0 (hostW 0), .beaconReceived rxNone, .nodeFrameReceived 0 ⟨0, some ⟨1, false, [0, 0]⟩, none⟩, .rqGo (hostW 0), .tstrGo (hostW 0),
      .propose (hostW 0), .wakereq (hostW 0), .capEdge 0 [], .capEdge 0 [⟨1, true, 0⟩, ⟨1, false, 0⟩], .fifo0Read 0 .loader, .captFlush (hostW 0),
      .supplyLevelEnter 0 0, .pfail 0 0, .motorBusLevelEnter 0 0 0, .tempLevelEnter 0 0, .runRequest (hostW (2 ^ 35 + 1)),
      .idleRequest (hostW (2 ^ 35)), .standbyRequest (hostW 2), .retainRequest (hostW (2 ^ 35)), .wake 0 0 ⟨0, 0, 0⟩,
      .imageLoad 0 ⟨1, 15, 0, false, false, [(2 ^ 15, 0)]⟩, .xcmdRead (hostW (2 ^ 35)), .xcmdProgram (hostW (2 ^ 35)), .xcmdErase (hostW (2 ^ 35)),
      .peripTailWrite (bad (hostW 0)), .modeReq (bad (hostW 0)), .cknow .twin (hostW 0), .stestGo (hostW 0), .blotCtrl (bad (hostW 0)),
      .blotRdWrite (bad (hostW 0)), .undefinedOpcodeFrame 8 (frame 8 0 0 []), .undefinedOpcodeFrame 9 (frame 9 0 0 [0]),
      .undefinedOpcodeFrame 15 ⟨0, 15, 15, BitVec.allOnes 24, [], BitVec.allOnes 36, 0⟩] : List Instr).all
      (fun i => !i.wellFormed .fd9128) = true := by decide +kernel

theorem test_well_formed :
    ([.deviceReset 0 .por, .tickBoundary [(1, 127)], .outputWord 0 1 127 0, .trip 7 (hostW 2), .write (frame 1 0 0 [0]),
      .nodeFrameReceived 31 ⟨0, some ⟨0, false, [0, 0]⟩, none⟩, .capEdge 0 [⟨0, true, 0⟩, ⟨31, false, 0⟩], .retainRequest (hostW (2 ^ 35 + 3)),
      .imageLoad 0 ⟨1, 15, 0, false, false, [(2 ^ 15 - 1, 0)]⟩] : List Instr).all (fun i => i.wellFormed .fd9128) = true := by decide +kernel

/-! ### The host's words -/

theorem test_words : decodeTableWord 16 0 = none ∧ (State.reset.withFetchWord 16 0).pending = [] := by decide

end Sys2Proof.Tests
end

section
/-!
PROOF. The statements of the scope: what a step on an empty queue does, that every command answers, rounding, and the
release of reset.
-/
namespace Sys2Proof.Machine

/-! ### Rounding (R11) -/

theorem fdiv_mul_le {b : Int} (hb : 0 < b) (a : Int) : a.fdiv b * b ≤ a := by
  rw [mul_comm]
  exact Int.mul_fdiv_self_le hb

theorem le_fdiv_of_mul_le {b : Int} (hb : 0 < b) {a k : Int} (h : k * b ≤ a) : k ≤ a.fdiv b := by
  rw [Int.fdiv_eq_ediv_of_nonneg a hb.le]
  exact (Int.le_ediv_iff_mul_le hb).mpr h

theorem le_absI (x : Int) : x ≤ absI x := by
  unfold absI
  split <;> omega

theorem neg_le_absI (x : Int) : -x ≤ absI x := by
  unfold absI
  split <;> omega

theorem absI_of_nonneg {x : Int} (h : 0 ≤ x) : absI x = x := if_neg (not_lt.mpr h)

theorem absI_of_nonpos {x : Int} (h : x ≤ 0) : absI x = -x := by
  unfold absI
  split <;> omega

/-- `rhe` is the multiple below, where that is no further away, or the one above, where that is no further. -/
theorem rhe_below_or_above (a b : Int) :
    (rhe a b = a.fdiv b ∧ 2 * (a - a.fdiv b * b) ≤ b) ∨ (rhe a b = a.fdiv b + 1 ∧ b ≤ 2 * (a - a.fdiv b * b)) := by
  unfold rhe
  dsimp only
  split
  · next below => exact .inl ⟨rfl, below.le⟩
  next notBelow =>
    split
    · next above => exact .inr ⟨rfl, above.le⟩
    next notAbove =>
      split
      · exact .inl ⟨rfl, not_lt.mp notAbove⟩
      · exact .inr ⟨rfl, not_lt.mp notBelow⟩

/-- Exactly halfway it is the even one of the two. -/
theorem rhe_even_of_half {a b : Int} (h : 2 * (a - a.fdiv b * b) = b) : rhe a b % 2 = 0 := by
  unfold rhe
  dsimp only
  rw [if_neg h.not_lt, if_neg h.not_gt]
  split <;> omega

/-- The distance that `rhe` leaves is the smaller of those to the multiples of `b` below and above. -/
theorem absI_rhe {b : Int} (hb : 0 < b) (a : Int) :
    absI (rhe a b * b - a) = min (a - a.fdiv b * b) ((a.fdiv b + 1) * b - a) := by
  have below := fdiv_mul_le hb a
  have above := Int.lt_fdiv_add_one_mul_self a hb
  have hsucc := add_one_mul (a.fdiv b) b
  rcases rhe_below_or_above a b with ⟨hr, near⟩ | ⟨hr, near⟩
  · rw [hr, absI_of_nonpos (by omega)]
    omega
  · rw [hr, absI_of_nonneg (by omega)]
    omega

/-- No multiple of `b` is nearer to `a` than the two around it. -/
theorem min_le_absI {b : Int} (hb : 0 < b) (a k : Int) :
    min (a - a.fdiv b * b) ((a.fdiv b + 1) * b - a) ≤ absI (k * b - a) := by
  rcases le_or_gt k (a.fdiv b) with h | h
  · have below : k * b ≤ a.fdiv b * b := Int.mul_le_mul_of_nonneg_right h hb.le
    have := neg_le_absI (k * b - a)
    omega
  · have above : (a.fdiv b + 1) * b ≤ k * b := Int.mul_le_mul_of_nonneg_right h hb.le
    have := le_absI (k * b - a)
    omega

/-- Settles O7: the floor by the library's quotient, `rhe` by the two multiples of the divisor around its argument. -/
theorem rounding : Obligations.Rounding := by
  intro a b hb
  refine ⟨⟨fdiv_mul_le hb a, fun k => le_fdiv_of_mul_le hb⟩, fun k => ?_, fun half => ?_⟩
  · rw [absI_rhe hb]
    exact min_le_absI hb a k
  · rw [absI_rhe hb] at half
    have hsucc := add_one_mul (a.fdiv b) b
    exact rhe_even_of_half (by omega)

/-! ### What an empty queue does -/

theorem State.run_reset (s : State) (f : Dev → Dev) (h : s.dev.sup.inReset = true) : s.run f = s := by
  simp [State.run, h]

theorem State.run_eq (s : State) (f : Dev → Dev) (h : s.dev.sup.inReset = false) : s.run f = s.after (f s.dev) := by
  simp [State.run, h]

@[simp] theorem State.run_pending (s : State) (f : Dev → Dev) : (s.run f).pending = s.pending := by
  unfold State.run
  split <;> rfl

theorem step_of_empty (s : State) (h : s.pending = []) : step s = .next s.idle := by
  simp [step, h]

/-- Time that passes makes no trip cause due. -/
theorem Dev.advance_settled {d : Dev} (h : d.settled) (k : Nat) : (d.advance k).settled := by
  intro g hg
  rw [Dev.grove_advance]
  exact h g (by simpa using hg)

/-- Settles O2: an idle step is one gck of time, to which the end of a step adds nothing. -/
theorem emptyQueueIdles : Obligations.EmptyQueueIdles := by
  intro s hp
  refine ⟨s.idle, step_of_empty s hp, (s.run_pending _).trans hp, s.run_reset _, fun hr hs => ?_⟩
  rw [State.idle, State.run_eq _ _ hr, State.after_dev]
  exact settle_of_none _ (Dev.advance_settled hs 1)

/-! ### Every command answers -/

/-- The answer is a next state with the queue of `s`. -/
def Answer.KeepsQueue (o : Answer) (s : State) : Prop := ∃ t, o = .next t ∧ t.pending = s.pending

/-- What acts outside reset, register writes included. -/
theorem State.does_keepsQueue (s : State) (f : Dev → Dev) : Answer.KeepsQueue (s.does f) s :=
  ⟨_, rfl, s.run_pending f⟩

/-- What acts in reset as well: resets, pins and the TAP. -/
theorem State.after_keepsQueue (s : State) (d : Dev) : Answer.KeepsQueue (.next (s.after d)) s :=
  ⟨_, rfl, s.after_pending d⟩

theorem execTickBoundary_keepsQueue (ue : List (Fin 2 × Fin 128)) (s : State) :
    Answer.KeepsQueue (execTickBoundary ue s) s := by
  cases h : s.dev.grovesRun
  · exact ⟨_, execTickBoundary_stands ue s h, rfl⟩
  · exact ⟨_, execTickBoundary_runs ue s h, s.afterTick_pending _ _⟩

/-- Settles O4: by the command's shape, one case per constructor. -/
theorem everyCommandAnswers : Obligations.EveryCommandAnswers := by
  intro c s
  cases c with
  | tickBoundary ue => exact execTickBoundary_keepsQueue ue s
  | deviceReset | resetRelease | resetNLow => exact s.after_keepsQueue _
  | faultNLow | faultNHigh | estopNLow | estopNHigh | updInEdge | pfailNHigh => exact s.after_keepsQueue _
  | memacc | groveHalt | groveResume | quillHalt | quillResume | idcode | bypass | extest | samplePreload | tapReset =>
    exact s.after_keepsQueue _
  | _ => exact s.does_keepsQueue _

/-! ### The release of reset (R389) -/

@[simp] theorem Dev.pass_variant (d : Dev) (dt : Nat) : (d.pass dt).variant = d.variant := by
  unfold Dev.pass
  split <;> simp

@[simp] theorem resetDevice_inReset (d : Dev) (c : ResetCause) : (resetDevice d c).sup.inReset = true := rfl
@[simp] theorem resetDevice_grove (d : Dev) (c : ResetCause) (g : Nat) : (resetDevice d c).grove g = Grove.init := rfl

/-- A reset leaves every register but RCAUSE and PLL at its reset value (R7, R319, R389). -/
theorem resetDevice_rd (d : Dev) (c : ResetCause) {p off : Nat} (ho : off < 1024)
    (hrc : ¬ (p = pgSupv ∧ off = Reg.supv.RCAUSE)) (hpll : ¬ (p = pgTime ∧ off = Reg.time.PLL)) :
    (resetDevice d c).rd p off = resetWord d.variant (key p off) := by
  have krc : key pgSupv Reg.supv.RCAUSE ≠ key p off := fun h =>
    hrc ((key_inj ho (by decide)).mp h.symm)
  have kpll : key pgTime Reg.time.PLL ≠ key p off := fun h =>
    hpll ((key_inj ho (by decide)).mp h.symm)
  unfold resetDevice
  dsimp only
  rw [Dev.rd_wf_ne _ _ _ _ kpll, Dev.rd_wr_ne _ _ krc]
  rfl

/-- A device whose groves are all as reset leaves them has no trip cause due. -/
theorem Dev.settled_of_grove_init {d : Dev} (h : ∀ g, d.grove g = Grove.init) : d.settled := fun g _ => by
  rw [h g]
  rfl

/-- What the release changes: the input levels, and that reset and its causes are over. -/
theorem releaseReset_eq (d : Dev) (lv : InLevels) (h : d.sup.inReset = true) :
    releaseReset d lv = resample (d.setSup { d.sup with inReset := false, causes := 0 }) lv := by
  simp [releaseReset, h]

@[simp] theorem grove_resample (d : Dev) (lv : InLevels) (g : Nat) : (resample d lv).grove g = d.grove g := rfl

/-- The device that a reset and its release leave. -/
def Dev.restarted (d : Dev) (c : ResetCause) (lv : InLevels) : Dev :=
  resample ((resetDevice d c).setSup { (resetDevice d c).sup with inReset := false, causes := 0 }) lv

@[simp] theorem Dev.restarted_grove (d : Dev) (c : ResetCause) (lv : InLevels) (g : Nat) :
    (d.restarted c lv).grove g = Grove.init := by
  simp [Dev.restarted]

theorem Dev.restarted_variant (d : Dev) (c : ResetCause) (lv : InLevels) : (d.restarted c lv).variant = d.variant := rfl
theorem Dev.restarted_inReset (d : Dev) (c : ResetCause) (lv : InLevels) : (d.restarted c lv).sup.inReset = false := rfl
theorem Dev.restarted_ps (d : Dev) (c : ResetCause) (lv : InLevels) : (d.restarted c lv).sup.ps = .run := rfl
theorem Dev.restarted_mem (d : Dev) (c : ResetCause) (lv : InLevels) : (d.restarted c lv).mem = (resetDevice d c).mem := rfl
theorem Dev.restarted_regs (d : Dev) (c : ResetCause) (lv : InLevels) : (d.restarted c lv).regs = (resetDevice d c).regs := rfl
theorem Dev.rd_restarted (d : Dev) (c : ResetCause) (lv : InLevels) (p off : Nat) :
    (d.restarted c lv).rd p off = (resetDevice d c).rd p off := rfl

theorem releaseReset_resetDevice (d : Dev) (c : ResetCause) (lv : InLevels) :
    releaseReset (resetDevice d c) lv = d.restarted c lv :=
  releaseReset_eq _ lv (resetDevice_inReset d c)

theorem after_resetDevice_dev (s : State) (d : Dev) (c : ResetCause) :
    (s.after (resetDevice d c)).dev = resetDevice d c :=
  settle_of_none _ (Dev.settled_of_grove_init (resetDevice_grove d c))

theorem after_restarted_dev (s : State) (d : Dev) (c : ResetCause) (lv : InLevels) :
    (s.after (d.restarted c lv)).dev = d.restarted c lv :=
  settle_of_none _ (Dev.settled_of_grove_init (d.restarted_grove c lv))

theorem execResetRelease_after_reset (s : State) (d : Dev) (c : ResetCause) (dt : Nat) (lv : InLevels) :
    execResetRelease dt lv (s.after (resetDevice d c)) =
      .next ((s.after (resetDevice d c)).after (d.restarted c lv)) := by
  rw [execResetRelease, after_resetDevice_dev, releaseReset_resetDevice]

/-- Settles O9: reset builds the device anew, and neither the ends of the two steps nor the release touch a register. -/
theorem releaseIsDeviceReset : Obligations.ReleaseIsDeviceReset := by
  intro s dt dt' cause lv
  refine ⟨_, _, rfl, execResetRelease_after_reset s (s.dev.pass dt) cause dt' lv, ?_⟩
  rw [after_restarted_dev, after_resetDevice_dev]
  refine ⟨rfl, Dev.restarted_inReset .., Dev.restarted_ps .., ?_, Dev.restarted_grove _ cause lv,
    fun p off ho hrc hpll => ?_, Dev.restarted_mem .., Dev.restarted_regs ..⟩
  · rw [Dev.restarted_variant, Dev.pass_variant]
  · rw [Dev.rd_restarted, resetDevice_rd _ cause ho hrc hpll, Dev.pass_variant]

end Sys2Proof.Machine
end

section
/-!
SUPPORT. What the commands of the islands and of a running grove answer, when the end of a step changes nothing, and
what a walk over the groves keeps.
-/
namespace Sys2Proof.Machine

/-! ### Where a command of the islands or of a grove acts (R399, R209) -/

theorem Dev.awake_of_grovesRun {d : Dev} (h : d.grovesRun = true) : d.sup.inReset = false := by
  have ⟨awake, _⟩ : d.sup.inReset = false ∧ (d.sup.ps = .run ∨ d.sup.ps = .idle) := by
    simpa [Dev.grovesRun] using h
  exact awake

/-- A running grove: its islands run, it is present and not in HOLD. -/
theorem Dev.groveLive_iff (d : Dev) (g : Nat) :
    d.groveLive g = true ↔ d.grovesRun = true ∧ d.hasGrove g = true ∧ (d.grove g).held = none := by
  simp [Dev.groveLive, and_assoc]

/-- A command of the islands answers the state after its effect. -/
theorem State.does_inIslands (s : State) (dt : Nat) (f : Dev → Dev) (h : s.runs) :
    s.does (inIslands dt f) = .next (s.after (f (s.dev.advance dt))) := by
  rw [State.does_eq s _ (Dev.awake_of_grovesRun h), inIslands_eq dt f _ h]

/-- A command of a running grove that takes effect at once answers the state after its effect. -/
theorem State.does_inGrove (s : State) (g : Nat) (f : Dev → Dev) (h : s.live g) :
    s.does (inGrove g 0 f) = .next (s.after (f s.dev)) := by
  have ⟨runs, _, _⟩ := (s.dev.groveLive_iff g).mp h
  rw [State.does_eq s _ (Dev.awake_of_grovesRun runs), inGrove_eq g 0 f _ h, Dev.advance_zero]

/-- With no checkpoint boundary just placed there is nothing of one left to do. -/
theorem checkpointAct_of_noFlag {d : Dev} (h : d.tw.ckFlag = false) : checkpointAct d = d := by
  simp [checkpointAct, h]

theorem Dev.advanceTo_clk_eq_max (d : Dev) (t : Nat) : (d.advanceTo t).clk = max d.clk t := by
  rw [Dev.advanceTo, Dev.advance_clk]
  omega

/-! ### When the end of a step changes nothing -/

theorem State.after_dev_of_settled (s : State) {d : Dev} (h : d.settled) : (s.after d).dev = d :=
  settle_of_none d h

/-- A device with the due causes of a settled one is settled. -/
theorem Dev.settled_of_due {d d' : Dev} (h : d.settled) (hv : d'.variant = d.variant)
    (hd : ∀ g, (d'.grove g).due = (d.grove g).due) : d'.settled := fun g hg => by
  rw [hd g]
  exact h g (hv ▸ hg)

/-! ### A walk over the groves -/

theorem Dev.each_succ (d : Dev) (n : Nat) (f : Dev → Nat → Dev) : d.each (n + 1) f = f (d.each n f) n := by
  simp [Dev.each, List.range_succ]

/-- What no step of a walk changes, the walk does not change. -/
theorem Dev.each_keeps {α : Type} (π : Dev → α) (f : Dev → Nat → Dev) (h : ∀ e x, π (f e x) = π e) (d : Dev) (n : Nat) :
    π (d.each n f) = π d := by
  induction n with
  | zero => rfl
  | succ n ih => rw [Dev.each_succ, h, ih]

/-- The device but for the groves' own records. -/
def Dev.sansGroves (d : Dev) : Dev := { d with groves := [] }

theorem Dev.sansGroves_eq_iff (d e : Dev) : d.sansGroves = e.sansGroves ↔ { d with groves := e.groves } = e :=
  ⟨fun h => congrArg (fun x : Dev => { x with groves := e.groves }) h, fun h => (congrArg Dev.sansGroves h :)⟩

end Sys2Proof.Machine
end

section
/-!
PROOF. The tick's tokens and boundaries (R24, R25, R315), and what a grove without a token does (R201).
-/
namespace Sys2Proof.Machine

/-! ### The token of the next boundary -/

/-- The token of the next boundary counts for grove `g`: the grove does not lose it, is not in HOLD and counts the same
boundary next (R25, R210). -/
def Dev.tokenCounts (d : Dev) (lost g : Nat) : Bool :=
  !lost.testBit g && (d.grove g).held.isNone && decide (d.nextTick % 256 = d.groveTag g)

/-- A grove's part of `sendToken`. -/
def markToken (lost : Nat) (d : Dev) (g : Nat) : Dev :=
  if d.tokenCounts lost g then d.setGrove g { d.grove g with token := true } else d

theorem sendToken_eq (d : Dev) (lost : Nat) : sendToken d lost = d.eachGrove (markToken lost) := by
  unfold sendToken
  congr
  funext e g
  have counts : e.tokenCounts lost g = true ↔
      ¬ (lost.testBit g = true ∨ (e.grove g).held.isSome = true ∨ e.nextTick % 256 ≠ e.groveTag g) := by
    simp [Dev.tokenCounts, and_assoc]
  simp only [markToken, counts, ite_not]

theorem markToken_sansGroves (lost : Nat) (d : Dev) (g : Nat) : (markToken lost d g).sansGroves = d.sansGroves := by
  unfold markToken
  split <;> rfl

theorem markToken_grove_ne (lost : Nat) (d : Dev) {g x : Nat} (h : g ≠ x) :
    (markToken lost d g).grove x = d.grove x := by
  unfold markToken
  split
  · exact d.grove_setGrove_ne _ h
  · rfl

/-- A token is marked where it counts, and a mark stays. -/
theorem markToken_grove_eq (lost : Nat) (d : Dev) (g : Nat) : (markToken lost d g).grove g =
    { d.grove g with token := (d.grove g).token || d.tokenCounts lost g } := by
  unfold markToken
  split
  · next h => simp [h]
  · next h => simp [h]

/-- Whether a token counts depends on the number of the boundary and on the grove's own record. -/
theorem Dev.tokenCounts_congr {d e : Dev} (hd : e.sansGroves = d.sansGroves) {g : Nat} (hg : e.grove g = d.grove g)
    (lost : Nat) : e.tokenCounts lost g = d.tokenCounts lost g := by
  have htb : e.tb = d.tb := (congrArg Dev.tb hd :)
  have htk : e.tk = d.tk := (congrArg Dev.tk hd :)
  have next : e.nextTick = d.nextTick := by rw [Dev.nextTick, Dev.nextTick, htb, htk]
  have tag : e.groveTag g = d.groveTag g := by rw [Dev.groveTag, Dev.groveTag, htb, hg]
  rw [Dev.tokenCounts, Dev.tokenCounts, next, tag, hg]

theorem markTokens_sansGroves (lost : Nat) (d : Dev) (n : Nat) : (d.each n (markToken lost)).sansGroves = d.sansGroves :=
  Dev.each_keeps Dev.sansGroves _ (markToken_sansGroves lost) d n

/-- A walk over the first `n` groves marks each of them, and no other. -/
theorem markTokens_grove (lost : Nat) (d : Dev) (n g : Nat) : (d.each n (markToken lost)).grove g =
    if g < n then { d.grove g with token := (d.grove g).token || d.tokenCounts lost g } else d.grove g := by
  induction n with
  | zero => rfl
  | succ n ih =>
    rw [Dev.each_succ]
    by_cases h : n = g
    · subst h
      rw [if_neg (by omega)] at ih
      rw [markToken_grove_eq, Dev.tokenCounts_congr (markTokens_sansGroves lost d n) ih, ih, if_pos (by omega)]
    · rw [markToken_grove_ne lost _ h, ih]
      simp only [show g < n + 1 ↔ g < n by omega]

/-- A token marks the groves and does nothing else (R24). -/
theorem sendToken_sansGroves (d : Dev) (lost : Nat) : (sendToken d lost).sansGroves = d.sansGroves := by
  rw [sendToken_eq]
  exact markTokens_sansGroves lost d _

theorem sendToken_grove (d : Dev) (lost : Nat) {g : Nat} (h : g < d.variant.groves) : (sendToken d lost).grove g =
    { d.grove g with token := (d.grove g).token || d.tokenCounts lost g } := by
  rw [sendToken_eq, Dev.eachGrove, markTokens_grove, if_pos h]

theorem sendToken_settled {d : Dev} (h : d.settled) (lost : Nat) : (sendToken d lost).settled :=
  Dev.settled_of_due h (congrArg Dev.variant (sendToken_sansGroves d lost) :) fun g => by
    rw [sendToken_eq, Dev.eachGrove, markTokens_grove]
    split <;> rfl

theorem Dev.tokenCounts_advance (d : Dev) (k lost g : Nat) :
    (d.advance k).tokenCounts lost g = d.tokenCounts lost g := by
  have next : (d.advance k).nextTick = d.nextTick := by simp [Dev.nextTick]
  have tag : (d.advance k).groveTag g = d.groveTag g := by simp [Dev.groveTag]
  rw [Dev.tokenCounts, Dev.tokenCounts, next, tag, Dev.grove_advance]

/-- TICK_TOKEN with nothing of a checkpoint boundary left to do: the token leaves 160 gck before the boundary. -/
theorem execTickToken_eq (lost : BitVec 8) (s : State) (hr : s.runs) (hc : s.dev.tw.ckFlag = false) :
    execTickToken lost s = .next (s.after (sendToken (s.dev.advanceTo (s.dev.boundaryClk - 160)) lost.toNat)) := by
  rw [execTickToken, State.does_inIslands s _ _ hr, Dev.advance_zero, checkpointAct_of_noFlag hc]

/-- TICK_BOUNDARY where the islands run: the boundary's number, in the device and in its sample. -/
theorem execTickBoundary_numbers (ue : List (Fin 2 × Fin 128)) (s : State) (hr : s.runs) :
    ∃ t, execTickBoundary ue s = .next t ∧ t.pending = s.pending ∧ t.dev.tk = s.dev.nextTick ∧ t.tele1.tk = t.dev.tk ∧
      t.tele2 = s.tele1 := by
  refine ⟨_, execTickBoundary_runs ue s hr, State.afterTick_pending .., ?_, ?_, State.afterTick_tele2 ..⟩
  · rw [State.afterTick_dev, (settle_only _).tk, tickBoundary_tk]
  · rw [State.afterTick_dev, State.afterTick_tele1, (settle_only _).tk, tickBoundary_tk, tickBoundary_sample_tk]

/-- TICK_TOKEN: the marks that the token leaves, and that nothing else but the time changes. -/
theorem execTickToken_marks (lost : BitVec 8) (s : State) (hr : s.runs) (hs : s.settled) (hc : s.dev.tw.ckFlag = false) :
    ∃ t, execTickToken lost s = .next t ∧ t.pending = s.pending ∧
      t.dev = sendToken (s.dev.advanceTo (s.dev.boundaryClk - 160)) lost.toNat :=
  ⟨_, execTickToken_eq lost s hr hc, State.after_pending ..,
    s.after_dev_of_settled (sendToken_settled (Dev.advance_settled hs _) _)⟩

/-- Settles O12: the walk over the groves marks each on its own record; a boundary takes the number that was next, and no
end of a step changes it. -/
theorem tickEvents : Obligations.TickEvents := by
  refine ⟨fun s lost hr hs hc => ?_, fun s ue => ⟨execTickBoundary_numbers ue s, fun hr => ?_⟩⟩
  · obtain ⟨t, hex, hp, hdev⟩ := execTickToken_marks lost s hr hs hc
    have same := sendToken_sansGroves (s.dev.advanceTo (s.dev.boundaryClk - 160)) lost.toNat
    rw [← hdev] at same
    refine ⟨t, hex, hp, ?_, fun g hg => ?_, ?_⟩
    · rw [← Dev.advanceTo_clk_eq_max]
      exact (congrArg Dev.clk same :)
    · rw [hdev, Dev.advanceTo, sendToken_grove _ _ (by simpa using hg), Dev.grove_advance, Dev.tokenCounts_advance,
        Dev.tokenCounts]
    · rw [Dev.sansGroves_eq_iff, Dev.advanceTo, Dev.advance_groves] at same
      exact same
  · exact execTickBoundary_stands ue s (by simpa [State.runs] using hr)

/-! ### A grove without a token (R25) -/

/-- A grove that stepped on its own count raises TOKEN_LATE at the boundary that it counted. -/
theorem tokenLate_eq {d : Dev} {g : Nat} (h : (d.grove g).ownStep = true) : tokenLate d g =
    ((d.advanceTo (d.grove g).lastB).setGrove g { d.grove g with ownStep := false }).ev (pgFire g) 3 := by
  rw [tokenLate]
  simp [h, Dev.advanceTo]

theorem tokenLate_within {d : Dev} {g : Nat} (h : (d.grove g).ownStep = true) :
    (d.advanceTo (d.grove g).lastB).Within g (tokenLate d g) := by
  rw [tokenLate_eq h]
  exact (Dev.setGrove_within _ _ _).trans ((pgFire_of g).ev _ _)

/-- After 8 boundaries without a token a grove asks for the ramp engine, once. -/
theorem tokenLoss_eq {d : Dev} {g : Nat} (h : 8 ≤ (d.grove g).missing) (hc : (d.grove g).causes.testBit 7 = false) :
    tokenLoss d g = rampRequest d g 7 := by
  rw [tokenLoss, if_pos ⟨h, by simp [Dev.hasCause, hc]⟩]

/-- Settles O20: TOKEN_LATE by the event that it sets, the loss by what a ramp-first source asks of its grove. -/
theorem tokenEvents : Obligations.TokenEvents := by
  refine fun s g hl => ⟨fun own => ?_, fun lost new => ?_⟩
  · refine ⟨_, s.does_inGrove g _ hl, ?_, ?_, tokenLate_within own⟩
    · rw [tokenLate_eq own, Dev.grove_ev, Dev.grove_setGrove]
    · rw [tokenLate_eq own]
      exact Dev.ev_bit _ _ 3 (by decide)
  · have ⟨_, present, _⟩ := (s.dev.groveLive_iff g).mp hl
    have ⟨causes, _, tripped, ramp⟩ := rampRequest_grove s.dev g 7 present
    have ⟨G, hG⟩ := rampRequest_groves s.dev g 7
    refine ⟨_, s.does_inGrove g _ hl, ?_⟩
    rw [tokenLoss_eq lost new]
    exact ⟨causes, tripped, ramp, by rw [hG], rampRequest_within s.dev g 7⟩

end Sys2Proof.Machine
end

section
/-!
SUPPORT. What a disagreement leaves (R264), whatever recovery or escalation follows it (R274, R276).
-/
namespace Sys2Proof.Machine

/-- `d'` has the groves' sides of the axes, DISAG, the verdict and the due causes of `d`. -/
structure Dev.KeepsDisag (d d' : Dev) : Prop where
  variant : d'.variant = d.variant
  gax : d'.gax = d.gax
  disag : d'.rd pgTwin Reg.twin.DISAG = d.rd pgTwin Reg.twin.DISAG
  verdict : d'.tw.verdict = d.tw.verdict
  due : ∀ g, (d'.grove g).due = (d.grove g).due

theorem Dev.KeepsDisag.refl (d : Dev) : d.KeepsDisag d := ⟨rfl, rfl, rfl, rfl, fun _ => rfl⟩

theorem Dev.KeepsDisag.trans {a b c : Dev} (h : a.KeepsDisag b) (k : b.KeepsDisag c) : a.KeepsDisag c :=
  ⟨k.variant.trans h.variant, k.gax.trans h.gax, k.disag.trans h.disag, k.verdict.trans h.verdict,
    fun g => (k.due g).trans (h.due g)⟩

theorem Dev.KeepsDisag.each (d : Dev) (n : Nat) (f : Dev → Nat → Dev) (h : ∀ e x, Dev.KeepsDisag e (f e x)) :
    d.KeepsDisag (d.each n f) := by
  induction n with
  | zero => exact .refl d
  | succ n ih => rw [Dev.each_succ]; exact ih.trans (h _ n)

theorem Dev.setTw_keepsDisag (d : Dev) (t : Twin) (h : t.verdict = d.tw.verdict) : d.KeepsDisag (d.setTw t) :=
  ⟨rfl, rfl, rfl, h, fun _ => rfl⟩

theorem escalated_keepsDisag (d : Dev) (reason : Nat) : d.KeepsDisag (escalated d reason) := by
  refine ⟨?_, ?_, ?_, ?_, fun g => ?_⟩
  · simp [escalated]
  · simp [escalated]
  · rw [escalated, Dev.rd_ev_ne _ _ (by decide), Dev.rd_incSat_ne _ _ _ (by decide), Dev.rd_wf_ne _ _ _ _ (by decide)]
  · simp [escalated]
  · simp [escalated, Dev.grove]

/-- A ramp-first source makes no immediate cause due. -/
theorem rampRequest_due (d : Dev) (g c x : Nat) : ((rampRequest d g c).grove x).due = (d.grove x).due := by
  by_cases hx : x = g
  · subst hx
    cases present : d.hasGrove x
    · rw [rampRequest_absent d x c present]
    · have ⟨_, due, _⟩ := rampRequest_grove d x c present
      exact due
  · rw [(rampRequest_within d g c).grove x hx]

theorem rampRequest_keepsDisag (d : Dev) (g c : Nat) : d.KeepsDisag (rampRequest d g c) := by
  have due := rampRequest_due d g c
  obtain ⟨G, hG⟩ := rampRequest_groves d g c
  rw [hG] at due ⊢
  exact ⟨rfl, rfl, rfl, rfl, due⟩

theorem replayQuiet_keepsDisag (d : Dev) : d.KeepsDisag (replayQuiet d) := by
  unfold replayQuiet
  split
  · split <;> exact d.setTw_keepsDisag _ rfl
  · exact d.setTw_keepsDisag _ rfl

theorem escalate_keepsDisag (d : Dev) (reason : Nat) : d.KeepsDisag (escalate d reason) :=
  ((escalated_keepsDisag d reason).trans (.each _ _ _ (fun e g => rampRequest_keepsDisag e g 8))).trans
    (replayQuiet_keepsDisag _)

theorem recoverNow_keepsDisag (d : Dev) : d.KeepsDisag (recoverNow d) := by
  unfold recoverNow
  split
  · exact escalate_keepsDisag d 4
  · exact d.setTw_keepsDisag _ rfl

/-- Whatever follows a disagreement, recovery or escalation, keeps its record. -/
theorem disFollow_keepsDisag (before : Twin) (d : Dev) : d.KeepsDisag (disFollow before d) := by
  unfold disFollow
  split
  · exact escalate_keepsDisag d 2
  · split
    · exact escalate_keepsDisag d 1
    · split
      · exact escalate_keepsDisag d 3
      · exact recoverNow_keepsDisag d

/-- The record of a disagreement. -/
theorem disRecord_disag (d : Dev) (c info : Nat) :
    (disRecord d c info).rd pgTwin Reg.twin.DISAG = BitVec.ofNat 36 (c * 2 ^ 32 + info) := by
  rw [disRecord, Dev.rd_setTw, Dev.rd_incSat_ne _ _ _ (by decide), Dev.rd_ev_ne _ _ (by decide),
    Dev.rd_wr_ne _ _ (by decide), Dev.rd_wr_eq]

theorem disRecord_gax (d : Dev) (c info : Nat) : (disRecord d c info).gax = d.gax := by simp [disRecord]
theorem disRecord_variant (d : Dev) (c info : Nat) : (disRecord d c info).variant = d.variant := by simp [disRecord]
theorem disRecord_groves (d : Dev) (c info : Nat) : (disRecord d c info).groves = d.groves := by simp [disRecord]
theorem disRecord_verdict (d : Dev) (c info : Nat) : (disRecord d c info).tw.verdict = some false := rfl

/-- The first disagreement of a tick is recorded before anything follows from it. -/
theorem disagree_first {d : Dev} (c info : Nat) (hm : d.tw.mode = .paired) (hd : d.tw.dead = false)
    (hl : d.tw.lastDis ≠ some d.tk) : (disRecord d c info).KeepsDisag (disagree d c info) := by
  rw [disagree, if_neg (by simp [hm, hd]), if_neg hl]
  exact disFollow_keepsDisag _ _

theorem diffLane_le (a b : Nat) : diffLane a b ≤ 2 := by
  unfold diffLane
  split
  · omega
  · split <;> omega

/-- The cause and the axis that DISAG shows. -/
theorem fld_disag {n lane : Nat} (hn : n < 128) (hl : lane ≤ 2) (tag : Nat) :
    fld (BitVec.ofNat 36 (1 * 2 ^ 32 + disInfo n lane (tag % 256))) 35 32 = 1 ∧
    fld (BitVec.ofNat 36 (1 * 2 ^ 32 + disInfo n lane (tag % 256))) 30 24 = n := by
  have ht : tag % 256 < 256 := Nat.mod_lt _ (by decide)
  simp only [fld, nfld, disInfo, BitVec.toNat_ofNat, Nat.shiftRight_eq_div_pow]
  omega

/-- What the first disagreement of a tick leaves. -/
theorem disagree_word {d : Dev} {n : Nat} (hn : n < 128) (a b tag : Nat) (hm : d.tw.mode = .paired)
    (hd : d.tw.dead = false) (hl : d.tw.lastDis ≠ some d.tk) (hs : d.settled) :
    (let D := disagree d 1 (disInfo n (diffLane a b) (tag % 256))
     D.settled ∧ D.gax = d.gax ∧ D.rf pgTwin Reg.twin.DISAG 35 32 = 1 ∧ D.rf pgTwin Reg.twin.DISAG 30 24 = n ∧
       D.tw.verdict = some false) := by
  have ⟨variant, gax, disag, verdict, due⟩ := disagree_first 1 (disInfo n (diffLane a b) (tag % 256)) hm hd hl
  rw [disRecord_variant] at variant
  rw [disRecord_gax] at gax
  rw [disRecord_disag] at disag
  have ⟨cause, axis⟩ := fld_disag hn (diffLane_le a b) tag
  refine ⟨Dev.settled_of_due hs variant fun g => ?_, gax, ?_, ?_, verdict.trans (disRecord_verdict d 1 _)⟩
  · rw [due g, Dev.grove, Dev.grove, disRecord_groves]
  · rw [Dev.rf, disag, cause]
  · rw [Dev.rf, disag, axis]

end Sys2Proof.Machine
end

section
/-!
PROOF. Output words and the planner modes (R30, R32, R207, R262, R264): which Quill gives a word, and what becomes of it.
-/
namespace Sys2Proof.Machine

/-! ### Which Quill computes a grove (R32) -/

/-- Half of the groves of a variant. -/
def halfGroves : Variant → Nat
  | .fd9128 => 4
  | .fd9064 => 2
  | .fd9032 => 1

theorem groves_eq_two_mul_halfGroves (v : Variant) : v.groves = 2 * halfGroves v := by
  cases v <;> rfl

/-- In SPLIT mode Quill A has the lower half of the present groves and Quill B the upper half. -/
theorem computes_split (v : Variant) (q : Fin 2) (g : Nat) (full : v.full = true) :
    computes v .split q g = true ↔ if q = 0 then g < halfGroves v else halfGroves v ≤ g ∧ g < 2 * halfGroves v := by
  match q with
  | 0 =>
    simp [computes, full, groves_eq_two_mul_halfGroves]
    omega
  | 1 =>
    simp [computes, full, groves_eq_two_mul_halfGroves]
    omega

/-- A word of a Quill that does not compute the axis is none. -/
theorem wordArrives_of_gives_false {d : Dev} {q n : Nat} (h : d.gives q n = false) (diff : Nat) :
    wordArrives d q n diff = d := by
  simp [wordArrives, h]

theorem Dev.gives_of_not_computes {d : Dev} {q n : Nat} (h : ¬ computes d.variant d.tw.mode q (n / 16) = true) :
    d.gives q n = false := by
  simp [Dev.gives, h]

@[simp] theorem Dev.gives_advance (d : Dev) (k q n : Nat) : (d.advance k).gives q n = d.gives q n := by
  simp [Dev.gives, Dev.hasAxis, Dev.quillRuns]

@[simp] theorem Dev.hands_advance (d : Dev) (k : Nat) : (d.advance k).hands = d.hands := by
  simp [Dev.hands]

/-- OUTPUT_WORD with nothing of a checkpoint boundary left to do. -/
theorem execOutputWord_eq (dt : Nat) (q : Fin 2) (n : Fin 128) (diff : BitVec 108) (s : State) (hr : s.runs)
    (hc : s.dev.tw.ckFlag = false) :
    execOutputWord dt q n diff s = .next (s.after (wordArrives (s.dev.advance dt) q n diff.toNat)) := by
  rw [execOutputWord, State.does_inIslands s _ _ hr, checkpointAct_of_noFlag (by rwa [Dev.advance_tw])]

/-- Settles O19: the halves by the variant; a Quill gives words of the axes that it computes only. -/
theorem splitMode : Obligations.SplitMode := by
  refine fun s dt q n diff split => ⟨computes_split s.dev.variant q (n / 16), fun hr hs full hc foreign => ?_⟩
  have silent : (s.dev.advance dt).gives q n = false := by
    rw [Dev.gives_advance]
    refine Dev.gives_of_not_computes ?_
    rw [split]
    exact (computes_split s.dev.variant q (n / 16) full).not.mpr foreign
  refine ⟨_, execOutputWord_eq dt q n diff s hr hc, State.after_pending .., ?_⟩
  rw [wordArrives_of_gives_false silent]
  exact s.after_dev_of_settled (Dev.advance_settled hs dt)

/-! ### A word reaches its grove (R30, R207) -/

/-- The ramp engine holds the grove of axis `n` against every word (R207, R208). -/
def Dev.rampBars (d : Dev) (n : Nat) : Bool :=
  match (d.grove (n / 16)).ramp with
  | some r => r.took && !r.yields
  | none => false

/-- The grove's side `ga` of axis `n` after the word `w`: none but with the tag of the coming interval is accepted. -/
def Dev.judge (d : Dev) (n w : Nat) (ga : GAxis) : GAxis :=
  if d.rampBars n then ga
  else if wordTag w = (d.tk + 1) % 256 then { ga with accepted := some (gwordOf w) }
  else { ga with refused := true }

theorem acceptWord_eq (d : Dev) (n w : Nat) : acceptWord d n w =
    if d.rampBars n then d
    else if wordTag w ≠ (d.tk + 1) % 256 then d.setGa n { d.ga n with refused := true }
    else d.setGa n { d.ga n with accepted := some (gwordOf w) } := rfl

theorem acceptWord_ga (d : Dev) (n w : Nat) : (acceptWord d n w).ga n = d.judge n w (d.ga n) := by
  rw [acceptWord_eq, Dev.judge]
  by_cases bars : d.rampBars n = true
  · rw [if_pos bars, if_pos bars]
  · by_cases tag : wordTag w = (d.tk + 1) % 256
    · simp [bars, tag]
    · simp [bars, tag]

/-- The device but for the groves' sides of the axes. -/
def Dev.sansGax (d : Dev) : Dev := { d with gax := [] }

theorem Dev.eq_of_sansGax {d e : Dev} (h : d.sansGax = e.sansGax) : { d with gax := e.gax } = e :=
  (congrArg (fun x : Dev => { x with gax := e.gax }) h :)

theorem acceptWord_sansGax (d : Dev) (n w : Nat) : (acceptWord d n w).sansGax = d.sansGax := by
  rw [acceptWord_eq]
  split
  · rfl
  · split <;> rfl

/-- What reaches a grove's side of an axis leaves the causes that are due as they are. -/
theorem Dev.settled_of_sansGax {d d' : Dev} (h : d.settled) (same : d'.sansGax = d.sansGax) : d'.settled :=
  Dev.settled_of_due h (congrArg Dev.variant same :) fun g =>
    congrArg Grove.due (congrArg (fun e : Dev => e.grove g) same :)

/-! ### Two copies of a word (R262) -/

section copies
variable (d : Dev) (q : Fin 2) (n : Nat) (diff : BitVec 108)

/-- The word that a Quill gives, as a fault may have changed it. -/
def Dev.given : Nat := d.word108 n ^^^ diff.toNat

/-- The grove's side of axis `n` with Quill `q`'s copy `w` of the word. -/
def Dev.keepCopy (w : Nat) : GAxis :=
  if q = 0 then { d.ga n with copyA := some w } else { d.ga n with copyB := some w }

/-- The copy of the other Quill. -/
def Dev.otherCopy : Option Nat := if q = 0 then (d.ga n).copyB else (d.ga n).copyA

/-- The device with Quill `q`'s copy of the word that it gives. -/
def Dev.copied : Dev := d.setGa n (d.keepCopy q n (d.given n diff))

theorem Dev.copied_ga : (d.copied q n diff).ga n = d.keepCopy q n (d.given n diff) := Dev.ga_setGa ..

theorem Dev.copied_sansGax : (d.copied q n diff).sansGax = d.sansGax := rfl

/-- What a grove holds of its axis does not matter to whether a word is accepted. -/
theorem Dev.judge_copied (w : Nat) (ga : GAxis) : (d.copied q n diff).judge n w ga = d.judge n w ga := rfl

end copies

section handed
variable {d : Dev} {q : Fin 2} {n : Nat} {diff : BitVec 108}

theorem handWord_unpaired (h : d.tw.mode ≠ .paired) :
    handWord d q n diff.toNat = acceptWord d n (d.given n diff) := by
  simp [handWord, h, Dev.given, Nat.mod_eq_of_lt diff.isLt]

/-- In PAIRED mode the word is kept; what follows depends on the other copy. -/
theorem handWord_paired (h : d.tw.mode = .paired) :
    handWord d q n diff.toNat =
      match (d.keepCopy q n (d.given n diff)).copyA, (d.keepCopy q n (d.given n diff)).copyB with
      | some a, some b =>
        if a = b then acceptWord (d.copied q n diff) n a
        else disagree (d.copied q n diff) 1 (disInfo n (diffLane a b) ((d.tk + 1) % 256))
      | _, _ => d.copied q n diff := by
  have word : d.word108 n ^^^ diff.toNat % 2 ^ 108 = d.given n diff := by
    rw [Nat.mod_eq_of_lt diff.isLt, Dev.given]
  rw [handWord, if_pos h, word]
  match q with
  | 0 => rfl
  | 1 => rfl

theorem handWord_first (h : d.tw.mode = .paired) (other : d.otherCopy q n = none) :
    handWord d q n diff.toNat = d.copied q n diff := by
  rw [handWord_paired h]
  match q with
  | 0 => simp_all [Dev.keepCopy, Dev.otherCopy]
  | 1 => simp_all [Dev.keepCopy, Dev.otherCopy]

theorem handWord_agree (h : d.tw.mode = .paired) (other : d.otherCopy q n = some (d.given n diff)) :
    handWord d q n diff.toNat = acceptWord (d.copied q n diff) n (d.given n diff) := by
  rw [handWord_paired h]
  match q with
  | 0 => simp_all [Dev.keepCopy, Dev.otherCopy]
  | 1 => simp_all [Dev.keepCopy, Dev.otherCopy]

theorem handWord_differ {v : Nat} (h : d.tw.mode = .paired) (other : d.otherCopy q n = some v)
    (hv : v ≠ d.given n diff) :
    ∃ a b, handWord d q n diff.toNat =
      disagree (d.copied q n diff) 1 (disInfo n (diffLane a b) ((d.tk + 1) % 256)) := by
  rw [handWord_paired h]
  match q with
  | 0 => exact ⟨d.given n diff, v, by simp_all [Dev.keepCopy, Dev.otherCopy, hv.symm]⟩
  | 1 => exact ⟨v, d.given n diff, by simp_all [Dev.keepCopy, Dev.otherCopy]⟩

end handed

/-! ### The command -/

/-- A word in time of a Quill that gives it, while words are handed, is handed. -/
theorem wordArrives_hands {d : Dev} {q n : Nat} (given : d.gives q n = true) (hands : d.hands = true)
    (time : d.clk + 64 ≤ d.boundaryClk) (diff : Nat) : wordArrives d q n diff = handWord d q n diff := by
  simp [wordArrives, given, hands, wordInTime, time]

/-- A word that changes the grove's side of its axis and nothing else. -/
theorem State.after_word (s : State) {d d' : Dev} (hs : d.settled) (same : d'.sansGax = d.sansGax) (n : Nat) :
    (s.after d').dev.ga n = d'.ga n ∧ { (s.after d').dev with gax := d.gax } = d := by
  rw [s.after_dev_of_settled (Dev.settled_of_sansGax hs same)]
  exact ⟨rfl, Dev.eq_of_sansGax same⟩

/-- Settles O17: by the mode and the other Quill's copy. -/
theorem outputWordHandled : Obligations.OutputWordHandled := by
  intro s dt q n diff hr hs hc given hands time
  rw [← Dev.gives_advance _ dt] at given
  rw [← Dev.hands_advance _ dt] at hands
  have hex := execOutputWord_eq dt q n diff s hr hc
  have settled : (s.dev.advance dt).settled := Dev.advance_settled hs dt
  rw [wordArrives_hands given hands time] at hex
  generalize s.dev.advance dt = d at *
  refine ⟨_, hex, State.after_pending .., fun unpaired => ?_, fun paired other => ?_, fun paired other => ?_,
    fun v paired other differ alive first => ?_⟩
  · rw [handWord_unpaired unpaired]
    have ⟨side, rest⟩ := s.after_word settled (acceptWord_sansGax d n (d.given n diff)) n
    exact ⟨side.trans (acceptWord_ga d n _), rest⟩
  · rw [handWord_first paired other]
    have ⟨side, rest⟩ := s.after_word settled (d.copied_sansGax q n diff) n
    exact ⟨side.trans (d.copied_ga q n diff), rest⟩
  · rw [handWord_agree paired other]
    have ⟨side, rest⟩ := s.after_word settled
      ((acceptWord_sansGax (d.copied q n diff) n (d.given n diff)).trans (d.copied_sansGax q n diff)) n
    rw [acceptWord_ga, Dev.judge_copied, Dev.copied_ga] at side
    exact ⟨side, rest⟩
  · obtain ⟨a, b, hdis⟩ := handWord_differ paired other differ
    have kept : (d.copied q n diff).settled := Dev.settled_of_sansGax settled (d.copied_sansGax q n diff)
    have ⟨calm, gax, cause, axis, verdict⟩ :=
      disagree_word (d := d.copied q n diff) n.isLt a b (d.tk + 1) paired alive first kept
    rw [hdis, s.after_dev_of_settled calm]
    refine ⟨?_, cause, axis, verdict⟩
    rw [Dev.ga, gax]
    exact d.copied_ga q n diff

end Sys2Proof.Machine
end

section
/-!
PROOF. Interrupt sources and lines (R50, R68).
-/
namespace Sys2Proof.Machine

/-- Two words share a bit exactly where their common bits are not 0. -/
theorem and_ne_zero_iff_getLsbD (a b : Word) :
    a.toNat &&& b.toNat ≠ 0 ↔ ∃ i, i < 36 ∧ a.getLsbD i = true ∧ b.getLsbD i = true := by
  constructor
  · intro h
    obtain ⟨i, hi⟩ := Nat.exists_testBit_of_ne_zero h
    rw [Nat.testBit_and, Bool.and_eq_true] at hi
    obtain ⟨ha, hb⟩ := hi
    exact ⟨i, BitVec.lt_of_getLsbD ha, ha, hb⟩
  · rintro ⟨i, -, ha, hb⟩ h
    have := Nat.testBit_and a.toNat b.toNat i
    simp [h, show a.toNat.testBit i = true from ha, show b.toNat.testBit i = true from hb] at this

/-- A page raises its request while it is present and has an event with its enable at 1 (R50). -/
theorem Dev.pageIrq_iff (d : Dev) (p : Nat) :
    d.pageIrq p = true ↔ pagePresent d.variant p = true ∧
      ∃ i, i < 36 ∧ (d.rd p Reg.PAGE_EVT).getLsbD i = true ∧ (d.rd p Reg.PAGE_EVTEN).getLsbD i = true := by
  rw [Dev.pageIrq, Bool.and_eq_true, bne_iff_ne, and_ne_zero_iff_getLsbD]

/-- A source is pending while one of its pages raises its request (R68). -/
theorem Dev.sourceIrq_iff (d : Dev) (src : Nat) :
    d.sourceIrq src = true ↔ ∃ p ∈ sourcePages src, pagePresent d.variant p = true ∧
      ∃ i, i < 36 ∧ (d.rd p Reg.PAGE_EVT).getLsbD i = true ∧ (d.rd p Reg.PAGE_EVTEN).getLsbD i = true := by
  simp only [Dev.sourceIrq, List.any_eq_true, Dev.pageIrq_iff]

/-- With no test a line is low exactly while a source that is enabled and mapped to it is pending (R68). -/
theorem Dev.irqLow_iff (d : Dev) (m : Nat) (test : d.rb pgCanopy Reg.PAGE_CTRL 0 = false) :
    d.irqLow m = true ↔ ∃ src, src < 32 ∧ d.sourceIrq src = true ∧
      (d.rd pgCanopy (Reg.canopy.IRQMAP + src / 8)).getLsbD (4 * (src % 8) + 3) = true ∧
      fld (d.rd pgCanopy (Reg.canopy.IRQMAP + src / 8)) (4 * (src % 8) + 1) (4 * (src % 8)) = m := by
  rw [Dev.irqLow, test, Bool.false_or]
  simp only [List.any_eq_true, List.mem_range, Bool.and_eq_true, beq_iff_eq, bit_eq_getLsbD]
  exact exists_congr fun src => and_congr_right fun _ => and_comm

/-- Settles O41: a line from its sources, and a source from its pages. -/
theorem interruptLines : Obligations.InterruptLines := fun d m test =>
  ⟨by simp only [d.irqLow_iff m test, Dev.sourceIrq_iff], d.sourceIrq_iff⟩

end Sys2Proof.Machine
end

section
/-!
SUPPORT. Writes of CANOPY registers that nothing refuses: what they store, and the words that their buffered and WO fields
take through the direct window.
-/
namespace Sys2Proof.Machine

/-! ### Words within a mask -/

/-- A mask covers the field `hi` to `lo`. -/
def covers (mask : Word) (hi lo : Nat) : Prop := ∀ i, lo ≤ i → i ≤ hi → bit mask i = true

/-- A field within a mask reads as it did before the mask. -/
theorem fld_and_of_covers {mask : Word} {hi lo : Nat} (h : covers mask hi lo) (hl : lo ≤ hi) (w : Word) :
    fld (w &&& mask) hi lo = fld w hi lo := by
  apply Nat.eq_of_testBit_eq
  intro i
  rw [fld, fld, testBit_nfld, testBit_nfld]
  by_cases hi' : i < hi - lo + 1
  · have hm : mask.toNat.testBit (i + lo) = true := h _ (by omega) (by omega)
    simp [hm]
  · simp [hi']

/-- What the direct window writes within a mask, as seen through that mask. -/
theorem aliasOp_direct_and_mask (cur data mask : Word) : aliasOp .direct cur data mask &&& mask = data &&& mask := by
  ext i hi
  simp only [aliasOp, BitVec.getElem_and, BitVec.getElem_or, BitVec.getElem_not]
  cases mask[i] <;> simp

/-! ### The parts of a formed write -/

/-- Through the direct window a buffered register's shadow takes its bits of the written word (R58). -/
theorem formWrite_shadow_direct (d : Dev) (p off : Nat) {fs : List RegField} (data : Word)
    (h : maskOf fs RegField.buffered ≠ 0) :
    (formWrite d p off fs .direct data).shadow = some (data &&& maskOf fs RegField.buffered) := by
  have : (maskOf fs RegField.buffered != 0) = true := by simpa using h
  simp only [formWrite, this, aliasOp_direct_and_mask, beq_self_eq_true, Bool.true_or, Bool.and_self, if_true]

/-- A window that reaches no bit leaves the word. -/
theorem aliasOp_nothing (win : Sys2Proof.Window) (cur data : Word) : aliasOp win cur data 0#36 = cur := by
  cases win <;> simp only [aliasOp, BitVec.and_zero, BitVec.not_zero, BitVec.and_allOnes,
    BitVec.or_zero, BitVec.xor_zero]

/-- A register without RW, RWK and W1C fields keeps its stored word. -/
theorem formWrite_now_keeps (d : Dev) (p off : Nat) {fs : List RegField} (win : Sys2Proof.Window) (data : Word)
    (imm : maskOf fs (fun f => f.ty == .rw || f.ty == .rwk) = 0) (w1c : maskOf fs (fun f => f.ty == .w1c) = 0) :
    (formWrite d p off fs win data).now = d.rd p off := by
  simp only [formWrite, imm, w1c, aliasOp_nothing, BitVec.ofNat_eq_ofNat, BitVec.and_zero, ite_self, BitVec.not_zero,
    BitVec.and_allOnes]

/-- Its WO fields, through the direct window. -/
theorem formWrite_wo_direct (d : Dev) (p off : Nat) (fs : List RegField) (data : Word) :
    (formWrite d p off fs .direct data).wo = data &&& maskOf fs (fun f => f.ty == .wo) := by
  simp [formWrite]

/-! ### Storing -/

@[simp] theorem consume_rd (d : Dev) (req p : Nat) (keyed : Bool) (q o : Nat) :
    (consume d req p keyed).rd q o = d.rd q o := by
  obtain ⟨ks, h⟩ := consume_eq d req p keyed
  rw [h]
  rfl

/-- A register that keeps its word. -/
theorem Dev.rd_wr_self (d : Dev) (p off q o : Nat) : (d.wr p off (d.rd p off)).rd q o = d.rd q o := by
  by_cases h : key p off = key q o
  · have same : ∀ e : Dev, e.rd p off = e.rd q o := fun e => by rw [Dev.rd, Dev.rd, h]
    rw [← same, ← same, Dev.rd_wr_eq]
  · exact d.rd_wr_ne _ h

/-- Only the one register changes, and the locks. -/
theorem Dev.stores_wr (d : Dev) {p off : Nat} (req : Nat) (keyed : Bool) (v : Word) (ho : off < 1024) :
    d.Stores p off ((consume d req p keyed).wr p off v) := by
  obtain ⟨ks, h⟩ := consume_eq d req p keyed
  rw [h]
  refine ⟨rfl, ⟨ks, rfl⟩, fun q o hq other => Dev.rd_wr_ne _ _ fun same => other ?_, fun _ => rfl, fun _ => rfl⟩
  obtain ⟨rfl, rfl⟩ := (key_inj ho hq).mp same
  exact ⟨rfl, rfl⟩

/-- A write of a register below page 0x100 that has no buffered field: the store, and what the register does. -/
theorem writeCommand_stores {d : Dev} {k : PageKind} {p off : Nat} {fs : List RegField} (reg : SingleReg d k p off fs)
    {w : RegWrite} (ok : (writePage d p off w.req.id w.win w.data).st = stOk) (notPort : p ≠ pgHostp) (low : p < 0x100)
    (ho : off < 1024) (plain : maskOf fs RegField.buffered = 0) (keeps : actsOnly k off = false) :
    ∃ S, d.Stores p off S ∧ writeCommand d p off w =
      actWrite S k p off w.req.id (w.win == .direct) (d.rd p off) (formWrite d p off fs w.win w.data).m
        (formWrite d p off fs w.win w.data).wo (formWrite d p off fs w.win w.data).clr := by
  refine ⟨_, d.stores_wr w.req.id (formWrite d p off fs w.win w.data).keyed (formWrite d p off fs w.win w.data).now ho, ?_⟩
  rw [writeCommand_accepted reg w ok (.inl notPort),
    storeWrite_low _ _ _ _ _ low (formWrite_shadow _ _ _ _ _ _ plain) keeps]

/-- A store of a buffered word below page 0x100: at once in group 0, in the shadow otherwise (R58). -/
theorem storeWrite_buffered (d : Dev) {k : PageKind} {p off : Nat} {f : Formed} {v : Word} (low : p < 0x100)
    (shadow : f.shadow = some v) (keeps : actsOnly k off = false) :
    storeWrite d k p off f =
      if d.group p = 0 then takeAtOnce (d.wr p off f.now) p off v else (d.wr p off f.now).shadowPut p off v := by
  simp [storeWrite, Nat.not_le.mpr low, shadow, keeps]

/-! ### CANOPY -/

/-- A register of the CANOPY page that is one word by itself, outside reset. -/
theorem canopy_single {d : Dev} {off : Nat} {fs : List RegField} (awake : d.sup.inReset = false)
    (fields : fieldsAt .canopy off = some fs) (unlock : off ≠ Reg.PAGE_LOCK)
    (writes : (!fs.isEmpty && fs.all (fun f => !f.writable)) = false) (single : pairPart .canopy off = .single) :
    SingleReg d .canopy pgCanopy off fs where
  kind := rfl
  here := by cases h : d.variant.full <;> simp [pagePresent, pageKind, h]
  awake := awake
  fields := fields
  unlock := unlock
  writes := writes
  heeded := rfl
  single := single

/-- A write that nothing refuses is a command of its own. -/
theorem State.writes_of_takes {s : State} {w : RegWrite} {p off : Nat} (h : s.takes w p off) :
    s.writes w p off = .next (s.after (writeCommand (s.dev.advance w.dt) p off w)) := by
  obtain ⟨⟨awake, notRetain⟩, -⟩ := h
  rw [State.writes, State.does_eq s _ awake, regWrite_eq _ w p off notRetain]

theorem State.takes.awake {s : State} {w : RegWrite} {p off : Nat} (h : s.takes w p off) :
    (s.dev.advance w.dt).sup.inReset = false := (congrArg Supv.inReset (s.dev.advance_sup w.dt)).trans h.1.1

/-- What a CANOPY register does with a write, after it is stored: UPDATE and FENCE act. -/
theorem actWrite_update (d : Dev) (req : Nat) (old m wo clr : Word) :
    actWrite d .canopy pgCanopy Reg.canopy.UPDATE req true old m wo clr = d.strobe (fld wo 31 0) := rfl

theorem actWrite_fence (d : Dev) (req : Nat) (direct : Bool) (old m wo clr : Word) (go : bit wo 35 = true) :
    actWrite d .canopy pgCanopy Reg.canopy.FENCE req direct old m wo clr =
      { d with acc := { d.acc with fencing := nins d.acc.fencing req } } := by
  simp [actWrite, actCanopy, go]

theorem actWrite_part (d : Dev) (i : Fin 6) (req : Nat) (direct : Bool) (old m wo clr : Word) :
    actWrite d .canopy pgCanopy (Reg.canopy.PART + i) req direct old m wo clr = d := by
  fin_cases i <;> rfl

end Sys2Proof.Machine
end

section
/-!
PROOF. Update strobes, the fence request and the partition writes (R58 to R61, R65, R470).
-/
namespace Sys2Proof.Machine

/-! ### Strobes (R59, R60) -/

/-- What an update strobe includes: the shadows then present of the pages whose group, 1 to 30, is in the mask. -/
theorem Dev.strobe_includes (d : Dev) (mask : Nat) :
    ∃ x, (d.strobe mask).strobes = d.strobes ++ [x] ∧ x.mask = mask ∧ x.at_ = d.clk ∧ ∀ c, c ∈ x.captured ↔
      ∃ sh, (c.key, sh) ∈ d.shadow ∧ c.seq = sh.seq ∧ c.val = sh.val ∧
        0 < d.group (c.key / 1024) ∧ d.group (c.key / 1024) < 31 ∧ mask.testBit (d.group (c.key / 1024)) = true := by
  refine ⟨_, rfl, rfl, rfl, fun c => ?_⟩
  simp only [List.mem_map, List.mem_filter, Bool.and_eq_true, decide_eq_true_eq]
  constructor
  · rintro ⟨⟨k, sh⟩, ⟨mem, ⟨pos, lt⟩, sel⟩, rfl⟩
    exact ⟨sh, mem, rfl, rfl, pos, lt, sel⟩
  · rintro ⟨sh, mem, hseq, hval, pos, lt, sel⟩
    exact ⟨(c.key, sh), ⟨mem, ⟨pos, lt⟩, sel⟩, by rw [← hseq, ← hval]⟩

/-! ### UPDATE and FENCE -/

/-- A write of UPDATE: the store, and its strobe. -/
theorem exec_update {s : State} {w : RegWrite} (takes : s.takes w pgCanopy Reg.canopy.UPDATE) (direct : w.win = .direct) :
    ∃ S, (s.dev.advance w.dt).Stores pgCanopy Reg.canopy.UPDATE S ∧
      exec (.update w) s = .next (s.after (S.strobe (fld w.data 31 0))) := by
  have reg : SingleReg (s.dev.advance w.dt) .canopy pgCanopy Reg.canopy.UPDATE [bf 31 0 .wo 0] :=
    canopy_single takes.awake rfl (by decide) rfl rfl
  obtain ⟨S, stores, eq⟩ := writeCommand_stores reg takes.2 (by decide) (by decide) (by decide) rfl rfl
  have stored : exec (.update w) s = _ := State.writes_of_takes takes
  have isDirect : (Window.direct == Window.direct) = true := rfl
  refine ⟨S, stores, ?_⟩
  rw [stored, eq, direct, formWrite_wo_direct, isDirect, actWrite_update]
  rw [fld_and_of_covers (fun i _ hi => by interval_cases i <;> rfl) (by decide)]

/-- A write of FENCE.REQ: the store, and the requester that waits. -/
theorem exec_fenceReq {s : State} {w : RegWrite} (takes : s.takes w pgCanopy Reg.canopy.FENCE) (direct : w.win = .direct)
    (go : w.data.getLsbD 35 = true) :
    ∃ S, (s.dev.advance w.dt).Stores pgCanopy Reg.canopy.FENCE S ∧ exec (.fenceReq w) s =
      .next (s.after { S with acc := { S.acc with fencing := nins S.acc.fencing w.req.id } }) := by
  have reg : SingleReg (s.dev.advance w.dt) .canopy pgCanopy Reg.canopy.FENCE
      [bf 35 35 .wo 0, bf 34 34 .ro 1, bf 15 0 .ro 0] := canopy_single takes.awake rfl (by decide) rfl rfl
  obtain ⟨S, stores, eq⟩ := writeCommand_stores reg takes.2 (by decide) (by decide) (by decide) rfl rfl
  have stored : exec (.fenceReq w) s = _ := State.writes_of_takes takes
  refine ⟨S, stores, ?_⟩
  rw [stored, eq, actWrite_fence]
  rw [direct, formWrite_wo _ _ _ _ _ _ rfl, bit_eq_getLsbD, go]

/-! ### PART (R58, R470) -/

/-- The fields of a PART register: size and base, buffered and keyed. -/
def partFields : List RegField := [bf 24 16 .rwbk 0, bf 7 0 .rwbk 0]

theorem part_single {d : Dev} (awake : d.sup.inReset = false) (i : Fin 6) :
    SingleReg d .canopy pgCanopy (Reg.canopy.PART + i) partFields :=
  canopy_single awake (by fin_cases i <;> rfl) (by fin_cases i <;> decide) rfl (by fin_cases i <;> rfl)

/-- The word that a PART register's shadow takes. -/
def partWord (data : Word) : Word := data &&& maskOf partFields RegField.buffered

theorem partWord_size (data : Word) : fld (partWord data) 24 16 = fld data 24 16 :=
  fld_and_of_covers (fun i _ hi => by interval_cases i <;> rfl) (by decide) data

theorem partWord_base (data : Word) : fld (partWord data) 7 0 = fld data 7 0 :=
  fld_and_of_covers (fun i _ hi => by interval_cases i <;> rfl) (by decide) data

theorem part_offset : ∀ i : Fin 6, Reg.canopy.PART + i.val < 1024 ∧ Reg.canopy.PART + i.val ≠ Reg.canopy.PART_STAT ∧
    Reg.canopy.PART + i.val ≠ Reg.PAGE_EVT := by decide

/-- A write of a PART register: the value takes effect at once in group 0, and waits otherwise. -/
theorem exec_partWrite {s : State} {w : RegWrite} {i : Fin 6} (takes : s.takes w pgCanopy (Reg.canopy.PART + i))
    (direct : w.win = .direct) :
    ∃ S, (s.dev.advance w.dt).Stores pgCanopy (Reg.canopy.PART + i) S ∧ (∀ q o, S.rd q o = s.dev.rd q o) ∧
      exec (.partWrite i w) s = .next (s.after
        (if s.dev.group pgCanopy = 0 then partChanged (S.wr pgCanopy (Reg.canopy.PART + i) (partWord w.data))
        else S.shadowPut pgCanopy (Reg.canopy.PART + i) (partWord w.data))) := by
  have stored : exec (.partWrite i w) s = _ := State.writes_of_takes takes
  rw [stored, writeCommand_accepted (part_single takes.awake i) w takes.2 (.inl (by decide)), actWrite_part, direct,
    storeWrite_buffered _ (by decide) (formWrite_shadow_direct _ _ _ _ (by decide)) rfl,
    formWrite_now_keeps _ _ _ _ _ rfl rfl]
  generalize (formWrite (s.dev.advance w.dt) pgCanopy (Reg.canopy.PART + i) partFields .direct w.data).keyed = keyed
  refine ⟨_, (s.dev.advance w.dt).stores_wr w.req.id keyed ((s.dev.advance w.dt).rd pgCanopy (Reg.canopy.PART + i))
    (part_offset i).1, fun q o => ?_, ?_⟩
  · rw [← consume_rd (s.dev.advance w.dt) w.req.id pgCanopy keyed pgCanopy, Dev.rd_wr_self, consume_rd, Dev.rd_advance]
  · rw [Dev.group, Dev.rf, consume_rd, Dev.rd_advance]
    rfl

/-- Of the CANOPY registers a partition change writes its outcome only (R470). -/
theorem rd_partChanged_of_ne (d : Dev) {o : Nat} (ho : o < 1024) (stat : o ≠ Reg.canopy.PART_STAT) (evt : o ≠ Reg.PAGE_EVT) :
    (partChanged d).rd pgCanopy o = d.rd pgCanopy o := by
  have ne : ∀ q r, r < 1024 → ¬ (q = pgCanopy ∧ r = o) → key q r ≠ key pgCanopy o := fun q r hr hne e =>
    hne ((key_inj hr ho).mp e)
  simp only [partChanged, partDone, blotClear, clearTable]
  rw [Dev.rd_ev_ne _ _ (ne _ _ (by decide) fun h => evt h.2.symm), Dev.rd_wr_ne _ _ (ne _ _ (by decide) fun h => stat h.2.symm),
    Dev.rd_setBl, Dev.rd_wr_ne _ _ (ne _ _ (by decide) (by simp)), Dev.rd_wr_ne _ _ (ne _ _ (by decide) (by simp))]
  split
  · rw [Dev.rd_setScr, Dev.rd_wr_ne _ _ (ne _ _ (by decide) (by simp)), Dev.rd_wr_ne _ _ (ne _ _ (by decide) (by simp))]
  · rfl

@[simp] theorem partChanged_variant (d : Dev) : (partChanged d).variant = d.variant := by
  simp only [partChanged, partDone, blotClear, clearTable]
  split <;> simp

/-- What a partition change leaves: PART_STAT 0, PART_DONE, and the rings' pointers and the Scribe's table empty. -/
structure Dev.PartTaken (d : Dev) : Prop where
  stat : d.rd pgCanopy Reg.canopy.PART_STAT = 0
  done : (d.rd pgCanopy Reg.PAGE_EVT).getLsbD 1 = true
  blotRD : d.rd pgBlot Reg.blot.RD = 0
  blotWR : d.rd pgBlot Reg.blot.WR = 0
  scribe : d.variant.full = true → d.rd pgScribe Reg.scribe.RD = 0 ∧ d.rd pgScribe Reg.scribe.WR = 0 ∧ d.scr.table = []

theorem partChanged_taken (d : Dev) : (partChanged d).PartTaken where
  stat := by
    rw [partChanged, partDone, Dev.rd_ev_ne _ _ (by decide), Dev.rd_wr_eq]
    rfl
  done := Dev.ev_bit _ _ _ (by decide)
  blotRD := by
    simp only [partChanged, partDone, blotClear]
    rw [Dev.rd_ev_ne _ _ (by decide), Dev.rd_wr_ne _ _ (by decide), Dev.rd_setBl, Dev.rd_wr_ne _ _ (by decide), Dev.rd_wr_eq]
  blotWR := by
    simp only [partChanged, partDone, blotClear]
    rw [Dev.rd_ev_ne _ _ (by decide), Dev.rd_wr_ne _ _ (by decide), Dev.rd_setBl, Dev.rd_wr_eq]
  scribe := fun full => by
    rw [partChanged_variant] at full
    simp only [partChanged, partDone, blotClear, clearTable, full, if_true]
    refine ⟨?_, ?_, rfl⟩
    · rw [Dev.rd_ev_ne _ _ (by decide), Dev.rd_wr_ne _ _ (by decide), Dev.rd_setBl, Dev.rd_wr_ne _ _ (by decide),
        Dev.rd_wr_ne _ _ (by decide), Dev.rd_setScr, Dev.rd_wr_ne _ _ (by decide), Dev.rd_wr_eq]
    · rw [Dev.rd_ev_ne _ _ (by decide), Dev.rd_wr_ne _ _ (by decide), Dev.rd_setBl, Dev.rd_wr_ne _ _ (by decide),
        Dev.rd_wr_ne _ _ (by decide), Dev.rd_setScr, Dev.rd_wr_eq]

/-! ### UPD_IN (R61) -/

/-- The device after UPD_IN has changed to a level. -/
def Dev.updMoved (d : Dev) (rising : Bool) : Dev := { d with pins := { d.pins with upd := rising, updAt := d.clk } }

@[simp] theorem Dev.updMoved_clk (d : Dev) (b : Bool) : (d.updMoved b).clk = d.clk := rfl
@[simp] theorem Dev.updMoved_shadow (d : Dev) (b : Bool) : (d.updMoved b).shadow = d.shadow := rfl
@[simp] theorem Dev.rf_updMoved (d : Dev) (b : Bool) (p o hi lo : Nat) : (d.updMoved b).rf p o hi lo = d.rf p o hi lo := rfl
@[simp] theorem Dev.grovesRun_updMoved (d : Dev) (b : Bool) : (d.updMoved b).grovesRun = d.grovesRun := rfl

/-- A selected edge after a level of t_UPDPW is seen. -/
theorem updEdge_selected {d : Dev} {rising : Bool} (runs : d.grovesRun = true) (change : d.pins.upd ≠ rising)
    (long : d.pins.updAt + 4 ≤ d.clk) (sel : edgeSel (d.rf pgCanopy Reg.canopy.UPDIN_CFG 33 32) rising = true) :
    updEdge rising d = updSeen (d.updMoved rising) := by
  have seen : updEdge rising d =
      if !(d.updMoved rising).grovesRun ∨ !edgeSel ((d.updMoved rising).rf pgCanopy Reg.canopy.UPDIN_CFG 33 32) rising then
        d.updMoved rising
      else if decide (d.clk < d.pins.updAt + 4) then
        if Config.freeBool (d.updMoved rising).draw.1 then updSeen (d.updMoved rising).draw.2 else (d.updMoved rising).draw.2
      else updSeen (d.updMoved rising) := if_neg change
  rw [seen, if_neg (by simp [runs, sel]), if_neg (by simpa using long)]

/-- The device when the strobe of a selected edge arrives: the edge has counted, and 5 to 8 gck have passed. -/
def Dev.updArrival (d : Dev) : Dev :=
  let d1 := (d.incWrap pgCanopy Reg.canopy.UPDIN_CNT 35 0 1).ev pgCanopy 5
  d1.draw.2.advance (5 + Config.freeNat d1.draw.1 % 4)

theorem updSeen_eq (d : Dev) : updSeen d = d.updArrival.strobe (d.updArrival.rf pgCanopy Reg.canopy.UPDIN_CFG 31 0) := rfl

theorem Dev.updArrival_clk (d : Dev) : d.clk + 5 ≤ d.updArrival.clk ∧ d.updArrival.clk ≤ d.clk + 8 := by
  have h : d.updArrival.clk = d.clk + (5 + Config.freeNat d.draws % 4) := Dev.advance_clk _ _
  omega

theorem Dev.updArrival_shadow (d : Dev) : d.updArrival.shadow = d.shadow := Dev.advance_shadow _ _
theorem Dev.updArrival_pins (d : Dev) : d.updArrival.pins = d.pins := Dev.advance_pins _ _

theorem Dev.rd_updArrival (d : Dev) (p o : Nat) :
    d.updArrival.rd p o = ((d.incWrap pgCanopy Reg.canopy.UPDIN_CNT 35 0 1).ev pgCanopy 5).rd p o := Dev.rd_advance _ _ _ _

theorem Dev.updArrival_cfg (d : Dev) :
    d.updArrival.rf pgCanopy Reg.canopy.UPDIN_CFG 31 0 = d.rf pgCanopy Reg.canopy.UPDIN_CFG 31 0 := by
  rw [Dev.rf, Dev.rd_updArrival, Dev.rd_ev_ne _ _ (by decide), Dev.incWrap, Dev.rd_wf_ne _ _ _ _ (by decide), Dev.rf]

theorem Dev.updArrival_count (d : Dev) : d.updArrival.rf pgCanopy Reg.canopy.UPDIN_CNT 35 0 =
    (d.rf pgCanopy Reg.canopy.UPDIN_CNT 35 0 + 1) % 2 ^ 36 := by
  rw [Dev.rf, Dev.rd_updArrival, Dev.rd_ev_ne _ _ (by decide), Dev.incWrap]
  exact Dev.rf_wf_eq _ _ _ _ _ _ (by decide) (by decide)

theorem Dev.updArrival_event (d : Dev) : (d.updArrival.rd pgCanopy Reg.PAGE_EVT).getLsbD 5 = true := by
  rw [Dev.rd_updArrival]
  exact Dev.ev_bit _ _ _ (by decide)

/-- A selected edge of UPD_IN: its strobe at its arrival. -/
theorem exec_updInEdge {s : State} {dt : Nat} {rising : Bool} (runs : s.runs) (change : s.dev.pins.upd ≠ rising)
    (long : s.dev.pins.updAt + 4 ≤ s.dev.clk + dt)
    (sel : edgeSel (s.dev.rf pgCanopy Reg.canopy.UPDIN_CFG 33 32) rising = true) :
    exec (.updInEdge dt rising) s = .next (s.after
      (((s.dev.advance dt).updMoved rising).updArrival.strobe (s.dev.rf pgCanopy Reg.canopy.UPDIN_CFG 31 0))) := by
  have pass : s.dev.pass dt = s.dev.advance dt := if_neg (by simp [Dev.awake_of_grovesRun runs])
  have seen := updEdge_selected (d := s.dev.advance dt) (rising := rising) ((s.dev.grovesRun_advance dt).trans runs)
    (by simpa using change) (by simpa using long) (by simpa using sel)
  rw [updSeen_eq, Dev.updArrival_cfg, Dev.rf_updMoved, Dev.rf_advance] at seen
  rw [← seen, ← pass]
  rfl

/-! ### The statement -/

/-- Settles O39: each write by what it stores and then does; the pin by the device in which its strobe arrives. -/
theorem updateGroups : Obligations.UpdateGroups := by
  intro s
  refine ⟨fun w direct => ⟨fun takes => ?update, fun takes go => exec_fenceReq takes direct go,
    fun i takes => ⟨fun g0 => ?now, fun g1 => ?later⟩⟩, fun dt rising runs change long sel => ?pin⟩
  case update =>
    obtain ⟨S, stores, next⟩ := exec_update takes direct
    have clk : S.clk = s.dev.clk + w.dt := (congrArg Dev.clk stores.same).trans (s.dev.advance_clk w.dt)
    refine ⟨S, stores, S.strobe (fld w.data 31 0), next, rfl, ?_⟩
    rw [← clk]
    exact S.strobe_includes _
  case now =>
    obtain ⟨S, stores, -, next⟩ := exec_partWrite takes direct
    have ⟨lt, stat, evt⟩ := part_offset i
    have part : (partChanged (S.wr pgCanopy (Reg.canopy.PART + i) (partWord w.data))).rd pgCanopy (Reg.canopy.PART + i) =
        partWord w.data := by rw [rd_partChanged_of_ne _ lt stat evt, Dev.rd_wr_eq]
    have variant : S.variant = s.dev.variant := (congrArg Dev.variant stores.same).trans (s.dev.advance_variant w.dt)
    have taken := partChanged_taken (S.wr pgCanopy (Reg.canopy.PART + i) (partWord w.data))
    rw [if_pos g0] at next
    refine ⟨_, next, ?_, ?_, taken.stat, taken.done, taken.blotRD, taken.blotWR, fun full =>
      taken.scribe (by rw [partChanged_variant, Dev.wr_variant, variant, full])⟩
    · rw [Dev.rf, part, partWord_size]
    · rw [Dev.rf, part, partWord_base]
  case later =>
    obtain ⟨S, stores, same, next⟩ := exec_partWrite takes direct
    have shadow : S.shadow = s.dev.shadow := (congrArg Dev.shadow stores.same).trans (s.dev.advance_shadow w.dt)
    rw [if_neg g1] at next
    refine ⟨_, ⟨partWord w.data, S.clk, S.seq⟩, next, ?_, partWord_size _, partWord_base _, fun p o _ => ?_⟩
    · rw [← shadow]
      rfl
    · rw [Dev.rd_shadowPut, same]
  case pin =>
    have next := exec_updInEdge runs change long sel
    have ⟨lo, hi⟩ := ((s.dev.advance dt).updMoved rising).updArrival_clk
    rw [Dev.updMoved_clk, Dev.advance_clk] at lo hi
    have pins := ((s.dev.advance dt).updMoved rising).updArrival_pins
    have shadow := ((s.dev.advance dt).updMoved rising).updArrival_shadow
    have count := ((s.dev.advance dt).updMoved rising).updArrival_count
    have event := ((s.dev.advance dt).updMoved rising).updArrival_event
    rw [Dev.updMoved_shadow, Dev.advance_shadow] at shadow
    rw [Dev.rf_updMoved, Dev.rf_advance] at count
    generalize ((s.dev.advance dt).updMoved rising).updArrival = S at *
    exact ⟨_, S, next, rfl, by rw [pins]; rfl, lo, hi, shadow, count, event, S.strobe_includes _⟩

end Sys2Proof.Machine
end

section
/-!
SUPPORT. A frame that the port accepts: what it counts, what its act may leave alone, and its reply (R291 to R301).
-/
namespace Sys2Proof.Machine

/-! ### Differences in the host port and its page only -/

/-- The device but for the host port, the registers, the port's pin and the model's count of free values. -/
def Dev.sansPort (d : Dev) : Dev :=
  { d with hp := .init, regs := [], rose := [], draws := 0, pins := { d.pins with sel := false } }

theorem Dev.hostOnly_iff (d d' : Dev) :
    d.HostOnly d' ↔ d'.sansPort = d.sansPort ∧ ∀ p off, off < 1024 → p ≠ pgHostp → d'.rd p off = d.rd p off := by
  constructor
  · rintro ⟨same, pins, rd⟩
    refine ⟨?_, rd⟩
    have sel : { d'.pins with sel := false } = { d.pins with sel := false } :=
      congrArg (fun x : Pins => { x with sel := false }) pins
    have rest := congrArg Dev.sansPort same
    exact (congrArg (fun x : Pins => { d'.sansPort with pins := x }) sel).trans rest
  · rintro ⟨same, rd⟩
    exact ⟨congrArg (fun x : Dev =>
        { x with hp := d.hp, regs := d.regs, rose := d.rose, pins := d.pins, draws := d.draws }) same,
      congrArg (fun x : Dev => { x.pins with sel := d.pins.sel }) same, rd⟩

theorem Dev.HostOnly.sans {d d' : Dev} (h : d.HostOnly d') : d'.sansPort = d.sansPort := ((d.hostOnly_iff d').mp h).1

theorem Dev.HostOnly.variant {d d' : Dev} (h : d.HostOnly d') : d'.variant = d.variant := (congrArg Dev.variant h.sans :)
theorem Dev.HostOnly.clk {d d' : Dev} (h : d.HostOnly d') : d'.clk = d.clk := (congrArg Dev.clk h.sans :)
theorem Dev.HostOnly.shadow {d d' : Dev} (h : d.HostOnly d') : d'.shadow = d.shadow := (congrArg Dev.shadow h.sans :)
theorem Dev.HostOnly.strobes {d d' : Dev} (h : d.HostOnly d') : d'.strobes = d.strobes := (congrArg Dev.strobes h.sans :)
theorem Dev.HostOnly.mem {d d' : Dev} (h : d.HostOnly d') : d'.mem = d.mem := (congrArg Dev.mem h.sans :)
theorem Dev.HostOnly.acc {d d' : Dev} (h : d.HostOnly d') : d'.acc = d.acc := (congrArg Dev.acc h.sans :)
theorem Dev.HostOnly.queues {d d' : Dev} (h : d.HostOnly d') : d'.queues = d.queues := (congrArg Dev.queues h.sans :)
theorem Dev.HostOnly.sup {d d' : Dev} (h : d.HostOnly d') : d'.sup = d.sup := (congrArg Dev.sup h.sans :)
theorem Dev.HostOnly.tk {d d' : Dev} (h : d.HostOnly d') : d'.tk = d.tk := (congrArg Dev.tk h.sans :)

theorem Dev.HostOnly.refl (d : Dev) : d.HostOnly d := ⟨rfl, rfl, fun _ _ _ _ => rfl⟩

theorem Dev.HostOnly.trans {d e e' : Dev} (h : d.HostOnly e) (h' : e.HostOnly e') : d.HostOnly e' :=
  (d.hostOnly_iff e').mpr ⟨h'.sans.trans h.sans, fun p o ho hp => (h'.rd p o ho hp).trans (h.rd p o ho hp)⟩

/-- With what an act has changed outside the port set back, an accepted frame changes the port only: `start` is the device
before the act, `act` the one after it. -/
theorem Dev.HostOnly.setBack {d start act d' : Dev} (back : Dev → Dev) (sans : ∀ e, (back e).sansPort = back e.sansPort)
    (rd : ∀ e p o, (back e).rd p o = e.rd p o) (before : d.HostOnly start) (after : act.HostOnly d') (fixes : back d = d)
    (undoes : back act = back start) : d.HostOnly (back d') := by
  refine (d.hostOnly_iff _).mpr ⟨?_, fun p o ho hp => ?_⟩
  · rw [sans, after.sans, ← sans, undoes, sans, before.sans, ← sans, fixes]
  · rw [rd, after.rd p o ho hp, ← rd act, undoes, rd, before.rd p o ho hp]

theorem Dev.HostOnly.setHp {d d' : Dev} (h : d.HostOnly d') (x : HostPort) : d.HostOnly (d'.setHp x) :=
  h.trans ⟨rfl, rfl, fun _ _ _ _ => rfl⟩

theorem Dev.HostOnly.sel {d d' : Dev} (h : d.HostOnly d') (b : Bool) :
    d.HostOnly { d' with pins := { d'.pins with sel := b } } := h.trans ⟨rfl, rfl, fun _ _ _ _ => rfl⟩

theorem Dev.HostOnly.draw {d d' : Dev} (h : d.HostOnly d') : d.HostOnly d'.draw.2 := h.trans ⟨rfl, rfl, fun _ _ _ _ => rfl⟩

theorem Dev.HostOnly.wr {d d' : Dev} (h : d.HostOnly d') {o : Nat} (ho : o < 1024) (w : Word) :
    d.HostOnly (d'.wr pgHostp o w) :=
  h.trans ⟨rfl, rfl, fun _ _ hq hp => Dev.rd_wr_ne _ _ fun e => hp ((key_inj ho hq).mp e).1.symm⟩

theorem Dev.HostOnly.ev {d d' : Dev} (h : d.HostOnly d') (i : Nat) : d.HostOnly (d'.ev pgHostp i) :=
  (h.wr (o := Reg.PAGE_EVT) (by decide) _).trans ⟨rfl, rfl, fun _ _ _ _ => rfl⟩

theorem Dev.HostOnly.incSat {d d' : Dev} (h : d.HostOnly d') {o : Nat} (ho : o < 1024) (hi lo : Nat) :
    d.HostOnly (d'.incSat pgHostp o hi lo) := by
  unfold Dev.incSat
  dsimp only
  split
  · exact h.wr ho _
  · exact h

/-! ### Counting -/

/-- The device that has heard a whole frame: the trailer's REPLY_BAD has counted, and TA is the one that CFG names. -/
def Dev.frameHeard (d : Dev) (f : Frame) : Dev :=
  let d2 : Dev := { d with pins := { d.pins with sel := true } }
  let d3 := if bit f.trailer 35 then d2.incSat pgHostp Reg.hostp.ERRC 11 0 else d2
  d3.setHp { d3.hp with ta := d3.rf pgHostp Reg.hostp.CFG 1 0 }

/-- Whether frames are missing before this one (R295). -/
def Dev.frameGap (d : Dev) (f : Frame) : Bool := decide (2 ≤ aliveStep d.hp f.alive.val)

/-- The device once an accepted frame has counted, before its act. -/
def Dev.frameStart (d : Dev) (op : Nat) (f : Frame) : Dev := countAccepted (d.frameHeard f) op f (d.frameGap f)

/-- The device when an accepted frame's reply stands, after its act `a` (R297, R309). -/
def frameEnd (d : Dev) (op : Nat) (f : Frame) (a : FrameAct) : Dev :=
  replyAccepted (if a.dev.rb pgHostp Reg.hostp.WDOG 34 then a.dev else wdKick a.dev) d.hp (d.frameStart op f)
    (d.frameGap f) a f.early

theorem frameReason_of_accepts {s : State} {op : Nat} {f : Frame} (h : s.accepts op f) : frameReason s.dev.hp op f = 0 := by
  simp [frameReason, h.crc, h.form, h.alive, Nat.not_le.mpr h.opcode]

/-- An accepted frame whose act resets neither the device nor the port. -/
theorem hostFrame_accepted {s : State} {op : Nat} {f : Frame} (h : s.accepts op f) (tele1 tele2 : Dev) {a : FrameAct}
    (act : frameAct tele1 tele2 ((s.dev.advance f.dt).frameStart op f) op f = a) (awake : a.dev.sup.inReset = false)
    (noReset : frameAsksPrst ((s.dev.advance f.dt).frameHeard f) op f = false) :
    hostFrame tele1 tele2 s.dev op f = frameEnd (s.dev.advance f.dt) op f a := by
  have up : (s.dev.advance f.dt).hostUp = true := by
    have := h.up
    simpa [Dev.hostUp] using this
  have kicked : wdCatch (s.dev.advance f.dt) = s.dev.advance f.dt := by
    refine if_neg fun ⟨run, due⟩ => ?_
    have := h.kicked (by simpa using run)
    simp [Dev.wdDue] at due this
    omega
  have free : endReply (s.dev.advance f.dt) = s.dev.advance f.dt := by
    unfold endReply
    split
    · next r hr => simp [h.free r (by simpa using hr)]
    · rfl
  have why : frameReason (s.dev.advance f.dt).hp op f = 0 := by rw [Dev.advance_hp, frameReason_of_accepts h]
  have heard : hostFrame tele1 tele2 s.dev op f =
      acceptFrame tele1 tele2 ((s.dev.advance f.dt).frameHeard f) (s.dev.advance f.dt).hp op f := by
    unfold hostFrame
    generalize s.dev.advance f.dt = d at *
    rw [if_neg (by simp [up, h.data])]
    simp only [kicked, free, why, ne_eq, OfNat.zero_ne_ofNat, not_false_eq_true, true_and, not_true_eq_false, if_false]
    rfl
  rw [heard]
  generalize s.dev.advance f.dt = d at *
  unfold acceptFrame
  rw [Dev.frameStart, Dev.frameGap] at act
  simp only [act, awake, noReset, Bool.false_eq_true, if_false, false_and]
  rfl

/-! ### What counting changes -/

theorem Dev.frameHeard_hostOnly (d : Dev) (f : Frame) : d.HostOnly (d.frameHeard f) := by
  have sel := (HostOnly.refl d).sel true
  unfold Dev.frameHeard
  dsimp only
  split
  · exact (sel.incSat (by decide) _ _).setHp _
  · exact sel.setHp _

theorem countAccepted_hostOnly (d : Dev) (op : Nat) (f : Frame) (gap : Bool) : d.HostOnly (countAccepted d op f gap) := by
  have counted := (((Dev.HostOnly.refl d).wr (o := Reg.hostp.FRAMES) (by decide)
    (setFld (d.rd pgHostp Reg.hostp.FRAMES) 35 0 (d.rf pgHostp Reg.hostp.FRAMES 35 0 + 1))).wr
    (o := Reg.hostp.LASTHDR) (by decide) (frameHeader op f))
  unfold countAccepted
  dsimp only
  split
  · exact ((counted.setHp _).incSat (by decide) _ _).ev _
  · exact counted.setHp _

/-- Counting changes the port and its page only. -/
theorem Dev.frameStart_hostOnly (d : Dev) (op : Nat) (f : Frame) : d.HostOnly (d.frameStart op f) :=
  (d.frameHeard_hostOnly f).trans (countAccepted_hostOnly _ op f _)

/-- `d'` has the frame counters of `d` (R295, R313). -/
structure Dev.KeepsCounts (d d' : Dev) : Prop where
  frames : d'.rd pgHostp Reg.hostp.FRAMES = d.rd pgHostp Reg.hostp.FRAMES
  header : d'.rd pgHostp Reg.hostp.LASTHDR = d.rd pgHostp Reg.hostp.LASTHDR
  last : d'.hp.last = d.hp.last
  sync : d'.hp.sync = d.hp.sync

theorem Dev.KeepsCounts.trans {d e e' : Dev} (h : d.KeepsCounts e) (h' : e.KeepsCounts e') : d.KeepsCounts e' :=
  ⟨h'.frames.trans h.frames, h'.header.trans h.header, h'.last.trans h.last, h'.sync.trans h.sync⟩

/-- What leaves the port and its page alone leaves its counters alone. -/
theorem Dev.keepsCounts_of_rd {d d' : Dev} (hp : d'.hp = d.hp) (rd : ∀ o, o < 1024 → d'.rd pgHostp o = d.rd pgHostp o) :
    d.KeepsCounts d' :=
  ⟨rd _ (by decide), rd _ (by decide), by rw [hp], by rw [hp]⟩

theorem Dev.rd_frameHeard (d : Dev) (f : Frame) {o : Nat} (ho : o < 1024) (errc : o ≠ Reg.hostp.ERRC) :
    (d.frameHeard f).rd pgHostp o = d.rd pgHostp o := by
  unfold Dev.frameHeard
  dsimp only
  split
  · rw [Dev.rd_setHp, Dev.rd_incSat_ne _ _ _ fun e => errc ((key_inj (by decide) ho).mp e).2.symm]
    rfl
  · rfl

theorem rd_countAccepted (d : Dev) (op : Nat) (f : Frame) (gap : Bool) {o : Nat} (ho : o < 1024)
    (other : o ∉ [Reg.hostp.FRAMES, Reg.hostp.LASTHDR, Reg.hostp.ERRC, Reg.PAGE_EVT]) :
    (countAccepted d op f gap).rd pgHostp o = d.rd pgHostp o := by
  have ne : ∀ r, r < 1024 → r ∈ [Reg.hostp.FRAMES, Reg.hostp.LASTHDR, Reg.hostp.ERRC, Reg.PAGE_EVT] →
      key pgHostp r ≠ key pgHostp o :=
    fun r hr hmem e => other (((key_inj hr ho).mp e).2 ▸ hmem)
  unfold countAccepted
  dsimp only
  split
  · rw [Dev.rd_ev_ne _ _ (ne _ (by decide) (by decide)), Dev.rd_incSat_ne _ _ _ (ne _ (by decide) (by decide)), Dev.rd_setHp,
      Dev.rd_wr_ne _ _ (ne _ (by decide) (by decide)), Dev.incWrap, Dev.rd_wf_ne _ _ _ _ (ne _ (by decide) (by decide))]
  · rw [Dev.rd_setHp, Dev.rd_wr_ne _ _ (ne _ (by decide) (by decide)), Dev.incWrap,
      Dev.rd_wf_ne _ _ _ _ (ne _ (by decide) (by decide))]

/-- What counting leaves in FRAMES, LASTHDR and LAST. -/
theorem countAccepted_counts (d : Dev) (op : Nat) (f : Frame) (gap : Bool) :
    (countAccepted d op f gap).rf pgHostp Reg.hostp.FRAMES 35 0 = (d.rf pgHostp Reg.hostp.FRAMES 35 0 + 1) % 2 ^ 36 ∧
    (countAccepted d op f gap).rd pgHostp Reg.hostp.LASTHDR = frameHeader op f ∧
    (countAccepted d op f gap).hp.last = f.alive.val ∧ (countAccepted d op f gap).hp.sync = false := by
  have frames : ∀ w x, (((d.incWrap pgHostp Reg.hostp.FRAMES 35 0 1).wr pgHostp Reg.hostp.LASTHDR w).setHp x).rf pgHostp
      Reg.hostp.FRAMES 35 0 = (d.rf pgHostp Reg.hostp.FRAMES 35 0 + 1) % 2 ^ 36 := fun w x => by
    rw [Dev.rf_setHp, Dev.rf, Dev.rd_wr_ne _ _ (by decide)]
    exact Dev.rf_wf_eq _ _ _ _ _ _ (by decide) (by decide)
  unfold countAccepted
  dsimp only
  split
  · refine ⟨?_, ?_, by simp, by simp⟩
    · rw [Dev.rf, Dev.rd_ev_ne _ _ (by decide), Dev.rd_incSat_ne _ _ _ (by decide)]
      exact frames _ _
    · rw [Dev.rd_ev_ne _ _ (by decide), Dev.rd_incSat_ne _ _ _ (by decide), Dev.rd_setHp, Dev.rd_wr_eq]
  · exact ⟨frames _ _, by rw [Dev.rd_setHp, Dev.rd_wr_eq], rfl, rfl⟩

/-! ### The reply -/

/-- The device that drives the words `ws` for the reply `r`. -/
def Dev.replied (d : Dev) (r : Reply) (ws : List Word) : Dev :=
  { d with hp := { d.hp with reply := some { r with wait := none, driven := ws }, underrun := false },
           pins := { d.pins with sel := false } }

theorem Dev.replied_hostOnly (d : Dev) (r : Reply) (ws : List Word) : d.HostOnly (d.replied r ws) :=
  ⟨rfl, rfl, fun _ _ _ _ => rfl⟩

theorem Dev.replied_replies (d : Dev) (r : Reply) {flags estat : Nat} {data : List Word} {ws : List Word}
    (h : ws = (r.status :: BitVec.ofNat 36 estat :: data) ++ [trailerOf flags (r.status :: BitVec.ofNat 36 estat :: data)]) :
    (d.replied r ws).Replies flags estat data := ⟨{ r with wait := none, driven := ws }, rfl, rfl, h⟩

/-- A reply none of whose words was asked for too early is driven as it stands. -/
theorem replyReady_onTime (d : Dev) {r : Reply} (h : r.early = 0) : replyReady d r = d.replied r (drivenWords r) := by
  generalize hws : drivenWords r = ws
  simp [replyReady, h, hws, Dev.replied, Dev.setHp]

theorem drivenWords_onTime {r : Reply} (h : r.early = 0) :
    drivenWords r = (r.status :: r.estat :: r.data) ++ [trailerOf r.flags (r.status :: r.estat :: r.data)] := by
  simp [drivenWords, h, bnat]

theorem wdKick_hostOnly (d : Dev) : d.HostOnly (wdKick d) := by
  unfold wdKick wdRestart
  split
  · exact ((Dev.HostOnly.refl d).wr (o := Reg.hostp.WDSTAT) (by decide) _).setHp _
  · exact .refl d

theorem wdKick_keepsCounts (d : Dev) : d.KeepsCounts (wdKick d) := by
  unfold wdKick wdRestart
  split
  · refine ⟨?_, ?_, by rw [Dev.setHp_hp], by rw [Dev.setHp_hp]⟩ <;> rw [Dev.rd_setHp, Dev.rd_wf_ne _ _ _ _ (by decide)]
  · exact ⟨rfl, rfl, rfl, rfl⟩

theorem wdKick_capture (d : Dev) : (wdKick d).hp.capture = d.hp.capture := by
  unfold wdKick wdRestart
  split
  · rw [Dev.setHp_hp]
  · rfl

/-- `e` is `d` with the reply to an accepted frame whose act was `a`: the reply is driven, or it waits (R297 to R301). -/
structure Dev.Answered (d : Dev) (gap : Bool) (a : FrameAct) (e : Dev) : Prop where
  port : d.HostOnly e
  counts : d.KeepsCounts e
  good : e.hp.prevBad = 0
  gap : e.hp.gap = gap
  capture : e.hp.capture = d.hp.capture
  ready : a.wait = none → e.Replies (replyFlags false a.ref a.estat) a.estat a.data
  waits : ∀ x, a.wait = some x → ∃ r, e.hp.reply = some r ∧ r.wait = some x

theorem replyAccepted_eq (d : Dev) (hp0 : HostPort) (before : Dev) (gap : Bool) (a : FrameAct) (early : Nat) :
    ∃ st, replyAccepted d hp0 before gap a early =
      if a.wait.isSome then
        (framePrev d 0 gap a.ref).draw.2.setHp { (framePrev d 0 gap a.ref).hp with
          reply := some ⟨st, BitVec.ofNat 36 a.estat, a.data, replyFlags false a.ref a.estat, [], a.wait, early, false⟩ }
      else
        replyReady (framePrev d 0 gap a.ref).draw.2
          ⟨st, BitVec.ofNat 36 a.estat, a.data, replyFlags false a.ref a.estat, [], a.wait, 0, false⟩ := ⟨_, rfl⟩

theorem framePrev_hostOnly (d : Dev) (why : Nat) (gap ref : Bool) : d.HostOnly (framePrev d why gap ref) :=
  (Dev.HostOnly.refl d).setHp _

theorem replyAccepted_answered (d : Dev) (hp0 : HostPort) (before : Dev) (gap : Bool) (a : FrameAct) (early : Nat) :
    d.Answered gap a (replyAccepted d hp0 before gap a early) := by
  obtain ⟨st, eq⟩ := replyAccepted_eq d hp0 before gap a early
  have prev := (framePrev_hostOnly d 0 gap a.ref).draw
  rw [eq]
  cases hw : a.wait with
  | some x =>
    rw [if_pos (by simp)]
    exact ⟨prev.setHp _, ⟨rfl, rfl, rfl, rfl⟩, rfl, rfl, rfl, fun h => by simp [hw] at h,
      fun y h => ⟨_, rfl, by rw [← h, hw]⟩⟩
  | none =>
    rw [if_neg (by simp), replyReady_onTime _ rfl, drivenWords_onTime rfl]
    exact ⟨prev.trans (Dev.replied_hostOnly ..), ⟨rfl, rfl, rfl, rfl⟩, rfl, rfl, rfl, fun _ => Dev.replied_replies _ _ rfl,
      fun y h => by simp [hw] at h⟩

/-- The end of an accepted frame, after its act. -/
theorem frameEnd_answered (d : Dev) (op : Nat) (f : Frame) (a : FrameAct) :
    a.dev.Answered (d.frameGap f) a (frameEnd d op f a) := by
  have kick : a.dev.HostOnly (if a.dev.rb pgHostp Reg.hostp.WDOG 34 then a.dev else wdKick a.dev) ∧
      a.dev.KeepsCounts (if a.dev.rb pgHostp Reg.hostp.WDOG 34 then a.dev else wdKick a.dev) ∧
      (if a.dev.rb pgHostp Reg.hostp.WDOG 34 then a.dev else wdKick a.dev).hp.capture = a.dev.hp.capture := by
    split
    · exact ⟨.refl _, ⟨rfl, rfl, rfl, rfl⟩, rfl⟩
    · exact ⟨wdKick_hostOnly _, wdKick_keepsCounts _, wdKick_capture _⟩
  unfold frameEnd
  generalize (if a.dev.rb pgHostp Reg.hostp.WDOG 34 then a.dev else wdKick a.dev) = k at *
  obtain ⟨port, counts, capture⟩ := kick
  have r := replyAccepted_answered k d.hp (d.frameStart op f) (d.frameGap f) a f.early
  exact ⟨port.trans r.port, counts.trans r.counts, r.good, r.gap, r.capture.trans capture, r.ready, r.waits⟩

/-- A frame that leaves the counters of the frame's start alone has counted (R295, R313). -/
theorem Dev.Answered.counted {d e : Dev} {op : Nat} {f : Frame} {a : FrameAct} (h : a.dev.Answered (d.frameGap f) a e)
    (keeps : (d.frameStart op f).KeepsCounts a.dev) : d.Counted op f e := by
  obtain ⟨frames, header, last, sync⟩ := countAccepted_counts (d.frameHeard f) op f (d.frameGap f)
  obtain ⟨kframes, kheader, klast, ksync⟩ := keeps.trans h.counts
  refine ⟨?_, kheader.trans header, klast.trans last, ksync.trans sync, h.good, h.gap⟩
  rw [Dev.rf, kframes, ← Dev.rf]
  refine frames.trans ?_
  rw [Dev.rf, d.rd_frameHeard f (by decide) (by decide), Dev.rf]

theorem State.accepts.awake {s : State} {op : Nat} {f : Frame} (h : s.accepts op f) : s.dev.sup.inReset = false := by
  have := h.up
  simp only [Dev.hostUp, Bool.and_eq_true, Bool.not_eq_true'] at this
  exact this.1.2

/-- What a command answers that is an accepted frame: its act at the frame's start, and the reply. -/
theorem State.does_hostFrame {s : State} {op : Nat} {f : Frame} (h : s.accepts op f) {a : FrameAct}
    (act : frameAct s.tele1 s.tele2 ((s.dev.advance f.dt).frameStart op f) op f = a)
    (keeps : ((s.dev.advance f.dt).frameStart op f).KeepsCounts a.dev) (sup : a.dev.sup = s.dev.sup)
    (noReset : frameAsksPrst ((s.dev.advance f.dt).frameHeard f) op f = false) :
    ∃ d, s.does (fun d => hostFrame s.tele1 s.tele2 d op f) = .next (s.after d) ∧ (s.dev.advance f.dt).Counted op f d ∧
      a.dev.Answered ((s.dev.advance f.dt).frameGap f) a d := by
  have answered := frameEnd_answered (s.dev.advance f.dt) op f a
  refine ⟨_, State.does_eq s _ h.awake, ?_⟩
  rw [hostFrame_accepted h s.tele1 s.tele2 act (by rw [sup, h.awake]) noReset]
  exact ⟨answered.counted keeps, answered⟩

/-- A frame whose act changes nothing: it counts and replies. -/
theorem State.does_readFrame {s : State} {op : Nat} {f : Frame} (h : s.accepts op f) {estat : Nat} {data : List Word}
    (act : frameAct s.tele1 s.tele2 ((s.dev.advance f.dt).frameStart op f) op f =
      ⟨estat, data, false, none, (s.dev.advance f.dt).frameStart op f⟩)
    (noReset : frameAsksPrst ((s.dev.advance f.dt).frameHeard f) op f = false) :
    ∃ d, s.does (fun d => hostFrame s.tele1 s.tele2 d op f) = .next (s.after d) ∧ (s.dev.advance f.dt).Counted op f d ∧
      (s.dev.advance f.dt).HostOnly d ∧ d.Replies (replyFlags false false estat) estat data := by
  have start := (s.dev.advance f.dt).frameStart_hostOnly op f
  obtain ⟨d, next, counted, answered⟩ := State.does_hostFrame h act ⟨rfl, rfl, rfl, rfl⟩
    (start.sup.trans (s.dev.advance_sup f.dt)) noReset
  exact ⟨d, next, counted, start.trans answered.port, answered.ready rfl⟩

end Sys2Proof.Machine
end

section
/-!
PROOF. READ, GATHER and GATHER_T frames (R40, R298, R302, R303).
-/
namespace Sys2Proof.Machine

/-! ### Element statuses (R298) -/

/-- Elements without an error add nothing to ESTAT. -/
theorem estat_foldl_of_ok (ss : List Nat) (h : ∀ x ∈ ss, x = stOk) (k a : Nat) :
    (ss.zipIdx k).foldl (fun a e => a + (e.1 % 4) * 4 ^ e.2) a = a := by
  induction ss generalizing k with
  | nil => rfl
  | cons x xs ih =>
    rw [List.zipIdx_cons, List.foldl_cons, h x (by simp)]
    simpa [stOk] using ih (fun y hy => h y (by simp [hy])) (k + 1)

theorem estatOf_ok {ss : List Nat} (h : ∀ x ∈ ss, x = stOk) : estatOf ss = 0 := estat_foldl_of_ok ss h 0 0

/-! ### Reads of memory (R40) -/

theorem memWords_le (v : Variant) : v.memWords ≤ 0x400000 := by cases v <;> decide

/-- An address that the variant has is memory. -/
theorem Dev.place_mem {d : Dev} {a : Nat} (h : a < d.variant.memWords) : d.place a = .mem a := by
  have := memWords_le d.variant
  simp [Dev.place, Dev.hasMem, h, show a < 0x400000 by omega]

/-- A word of memory that reads with good check bits. -/
def Dev.clean (d : Dev) (a : Nat) : Prop := a < d.variant.memWords ∧ (d.mem.at a).ecc = .clean

/-- A clean word reads as it is and nothing changes. -/
theorem readAddr_clean {d : Dev} {a : Nat} (h : d.clean a) (tele1 tele2 : Dev) (req : Nat) :
    readAddr tele1 tele2 d req a = (stOk, (d.mem.at a).data, d) := by
  obtain ⟨here, ecc⟩ := h
  simp [readAddr, Dev.place_mem here, Dev.memGet, ecc]

theorem readAddrs_clean {d : Dev} {as : List Nat} (h : ∀ a ∈ as, d.clean a) (tele1 tele2 : Dev) (req : Nat) :
    readAddrs tele1 tele2 d req as = (as.map (fun a => (stOk, (d.mem.at a).data)), d) := by
  induction as with
  | nil => rfl
  | cons a t ih =>
    simp only [readAddrs, readAddr_clean (h a (by simp)), ih (fun b hb => h b (by simp [hb])), List.map_cons]

/-- Reads of clean words as the act of a frame. -/
theorem frameReads_clean {d : Dev} {as : List Nat} (h : ∀ a ∈ as, d.clean a) (tele1 tele2 : Dev) :
    frameReads tele1 tele2 d as = ⟨0, as.map (fun a => (d.mem.at a).data), false, none, d⟩ := by
  have ok : estatOf (List.map Prod.fst (as.map (fun a => (stOk, (d.mem.at a).data)))) = 0 := estatOf_ok (by simp)
  rw [frameReads, readAddrs_clean h]
  dsimp only
  rw [ok, List.map_map]
  rfl

/-- The device after a read has met an uncorrectable word: counted, its address latched, its event set. -/
def Dev.uncorrectable (d : Dev) (a : Nat) : Dev :=
  ((d.incSat pgCanopy Reg.canopy.ECC 11 0).wf pgCanopy Reg.canopy.ECC_ADDR 21 0 a).ev pgCanopy 4

theorem frameReads_uncorrectable {d : Dev} {a : Nat} (here : a < d.variant.memWords) (ecc : (d.mem.at a).ecc = .double)
    (tele1 tele2 : Dev) : frameReads tele1 tele2 d [a] = ⟨3, [0], false, none, d.uncorrectable a⟩ := by
  have read : readAddr tele1 tele2 d 0 a = (3, 0, d.uncorrectable a) := by
    simp [readAddr, Dev.place_mem here, Dev.memGet, ecc, Dev.uncorrectable]
  rw [frameReads, readAddrs, read]
  rfl

theorem Dev.rd_uncorrectable_port (d : Dev) (a : Nat) {o : Nat} (ho : o < 1024) :
    (d.uncorrectable a).rd pgHostp o = d.rd pgHostp o := by
  have ne : ∀ r, r < 1024 → key pgCanopy r ≠ key pgHostp o := fun r hr e => absurd ((key_inj hr ho).mp e).1 (by decide)
  rw [Dev.uncorrectable, Dev.rd_ev_ne _ _ (ne _ (by decide)), Dev.rd_wf_ne _ _ _ _ (ne _ (by decide)),
    Dev.rd_incSat_ne _ _ _ (ne _ (by decide))]

@[simp] theorem Dev.uncorrectable_mem (d : Dev) (a : Nat) : (d.uncorrectable a).mem = d.mem := by simp [Dev.uncorrectable]
@[simp] theorem Dev.uncorrectable_sup (d : Dev) (a : Nat) : (d.uncorrectable a).sup = d.sup := by simp [Dev.uncorrectable]
@[simp] theorem Dev.uncorrectable_hp (d : Dev) (a : Nat) : (d.uncorrectable a).hp = d.hp := by simp [Dev.uncorrectable]

theorem Dev.uncorrectable_keepsCounts (d : Dev) (a : Nat) : d.KeepsCounts (d.uncorrectable a) :=
  Dev.keepsCounts_of_rd (d.uncorrectable_hp a) fun _ ho => d.rd_uncorrectable_port a ho

/-- What the record of an uncorrectable word holds (R40). -/
theorem Dev.uncorrectable_record (d : Dev) {a : Nat} (h : a < d.variant.memWords) :
    (d.uncorrectable a).rf pgCanopy Reg.canopy.ECC 11 0 = min (2 ^ 12 - 1) (d.rf pgCanopy Reg.canopy.ECC 11 0 + 1) ∧
    (d.uncorrectable a).rf pgCanopy Reg.canopy.ECC_ADDR 21 0 = a ∧
    ((d.uncorrectable a).rd pgCanopy Reg.PAGE_EVT).getLsbD 4 = true := by
  refine ⟨?_, ?_, Dev.ev_bit _ _ _ (by decide)⟩
  · rw [Dev.rf, Dev.uncorrectable, Dev.rd_ev_ne _ _ (by decide), Dev.rd_wf_ne _ _ _ _ (by decide)]
    exact Dev.rf_incSat_eq _ _ _ _ _ (by decide) (by decide)
  · rw [Dev.rf, Dev.uncorrectable, Dev.rd_ev_ne _ _ (by decide)]
    refine (Dev.rf_wf_eq _ _ _ _ _ _ (by decide) (by decide)).trans (Nat.mod_eq_of_lt ?_)
    have := memWords_le d.variant
    omega

/-! ### Reads of WAVE (R148) -/

/-- A register of WAVE is one word by itself and no telemetry. -/
theorem wave_single {off : Nat} (h : (findReg .wave off).isSome = true) :
    pairPart .wave off = .single ∧ isTelemetry .wave off = false := by
  obtain ⟨r, hr⟩ := Option.isSome_iff_exists.mp h
  have plain : ∀ r ∈ waveRegs, r.pair = .single ∧ r.telemetry = false := by decide
  obtain ⟨pair, tele⟩ := plain r (List.mem_of_find?_eq_some hr)
  simp [pairPart, isTelemetry, hr, pair, tele]

/-- What a register above the common layout reads. -/
theorem pageWord_of_high (d : Dev) (k : PageKind) (req p : Nat) {off : Nat} (high : 16 ≤ off)
    (h : (findReg k off).isSome = true) : pageWord d k req p off = unitWord d k req p off := by
  obtain ⟨r, hr⟩ := Option.isSome_iff_exists.mp h
  obtain ⟨n, rfl⟩ := Nat.exists_eq_add_of_le' high
  have e : pageWord d k req p (n + 16) = if n + 16 < 16 then 0 else match findReg k (n + 16) with
    | none => 0
    | some _ => unitWord d k req p (n + 16) := rfl
  rw [e, if_neg (by omega), hr]

/-- The address of a register through the direct window (R38). -/
theorem Dev.place_reg {d : Dev} {k : PageKind} {p off : Nat} (hp : p < 1024) (ho : off < 1024) (kind : pageKind p = some k)
    (here : pagePresent d.variant p = true) : d.place (0x800000 + p * 1024 + off) = .reg k p off .direct := by
  have page : (0x800000 + p * 1024 + off) % 0x100000 / 1024 = p := by omega
  have offset : (0x800000 + p * 1024 + off) % 1024 = off := by omega
  have window : (0x800000 + p * 1024 + off) / 0x100000 - 8 = 0 := by omega
  rw [Dev.place, if_neg (by omega), if_pos (by omega), page, offset, window, Dev.regPlace, if_pos here, kind]
  rfl

theorem wave_page : ∀ g : Fin 8, pgWave g < 1024 ∧ pgWave g ≠ pgSupv ∧ pgWave g ≠ pgHostp ∧
    0x100 ≤ pgWave g ∧ pageKind (pgWave g) = some .wave ∧ groveOf (pgWave g) = g := by decide

theorem pagePresent_grove {v : Variant} {p : Nat} {k : PageKind} (kind : pageKind p = some k) (high : 0x100 ≤ p)
    (g : groveOf p < v.groves) : pagePresent v p = true := by
  simp [pagePresent, kind, high, g]

/-- A word of WAVE reads as it is and nothing changes. -/
theorem readAddr_wave {d : Dev} {g : Fin 8} {off : Nat} (here : d.hasGrove g = true) (ho : off < 1024) (high : 16 ≤ off)
    (reg : (findReg .wave off).isSome = true) (tele1 tele2 : Dev) (req : Nat) :
    readAddr tele1 tele2 d req (0x800000 + pgWave g * 1024 + off) = (stOk, d.rd (pgWave g) off, d) := by
  obtain ⟨lt, notSupv, -, grovePage, kind, grove⟩ := wave_page g
  have present : pagePresent d.variant (pgWave g) = true :=
    pagePresent_grove kind grovePage (by rw [grove]; simpa [Dev.hasGrove] using here)
  obtain ⟨single, noTele⟩ := wave_single reg
  have word : pageWord d .wave req (pgWave g) off = d.rd (pgWave g) off := pageWord_of_high d .wave req _ high reg
  have noReading : isReading (pgWave g) off = false := by simp [isReading, notSupv]
  simp only [readAddr, Dev.place_reg lt ho kind present, readReg, single, sampled, noTele, liveWord, noReading, word,
    Bool.false_eq_true, if_false, reduceCtorEq, false_and]

theorem frameReads_wave {d : Dev} {g : Fin 8} {off : Nat} (here : d.hasGrove g = true) (ho : off < 1024) (high : 16 ≤ off)
    (reg : (findReg .wave off).isSome = true) (tele1 tele2 : Dev) :
    frameReads tele1 tele2 d [0x800000 + pgWave g * 1024 + off] = ⟨0, [d.rd (pgWave g) off], false, none, d⟩ := by
  rw [frameReads, readAddrs, readAddr_wave here ho high reg]
  rfl

/-! ### GATHER_T (R303) -/

/-- With what its boundary gave, the reply of a GATHER_T is ready. -/
theorem gatherReady_replies {d : Dev} {c : Capture} {rs : List (Nat × Word)} {r : Reply} (capture : d.hp.capture = some c)
    (taken : c.taken = some rs) (reply : d.hp.reply = some r) (waits : r.wait.isSome = true) (early : r.early = 0) :
    (gatherReady d).hp.capture = none ∧ d.HostOnly (gatherReady d) ∧
      (gatherReady d).Replies (replyFlags false false (estatOf (rs.map Prod.fst))) (estatOf (rs.map Prod.fst))
        (rs.map Prod.snd) := by
  have eq : gatherReady d = replyReady (d.setHp { d.hp with capture := none }) { r with
      estat := BitVec.ofNat 36 (estatOf (rs.map Prod.fst)), data := rs.map Prod.snd,
      flags := replyFlags false false (estatOf (rs.map Prod.fst)) } := by
    simp [gatherReady, capture, taken, reply, waits]
  have onTime : ∀ e w fl, ({ r with estat := e, data := w, flags := fl } : Reply).early = 0 := fun _ _ _ => early
  rw [eq, replyReady_onTime _ (onTime _ _ _), drivenWords_onTime (onTime _ _ _)]
  exact ⟨rfl, ((Dev.HostOnly.refl d).setHp _).trans (Dev.replied_hostOnly ..), Dev.replied_replies _ _ rfl⟩

/-! ### The statement -/

theorem Dev.clean_frameStart {s : State} {op : Nat} {f : Frame} {a : Nat} (here : a < s.dev.variant.memWords)
    (ecc : (s.dev.mem.at a).ecc = .clean) : ((s.dev.advance f.dt).frameStart op f).clean a := by
  have start := (s.dev.advance f.dt).frameStart_hostOnly op f
  exact ⟨by rw [start.variant, Dev.advance_variant]; exact here, by rw [start.mem, Dev.advance_mem]; exact ecc⟩

/-- Settles O43: every act from the frame's start; only an uncorrectable word changes more than the port. -/
theorem hostReads : Obligations.HostReads := by
  intro s f dt
  refine ⟨fun h clean => ?read, fun h one here ecc => ?double, fun g off h one here reg high addr => ?wave,
    fun h clean => ?gather, fun h => ?gatherT, fun c rs r pages capture taken reply waits early => ?ready⟩
  case read =>
    have start := (s.dev.advance f.dt).frameStart_hostOnly 3 f
    refine State.does_readFrame h ((frameReads_clean ?_ _ _).trans ?_) rfl
    · intro a ha
      obtain ⟨i, hi, rfl⟩ := List.mem_map.mp ha
      have ⟨here, ecc⟩ := clean i (List.mem_range.mp hi)
      exact Dev.clean_frameStart here ecc
    · rw [start.mem, Dev.advance_mem, List.map_map]
      rfl
  case double =>
    have start := (s.dev.advance f.dt).frameStart_hostOnly 3 f
    have here' : f.addr.toNat < ((s.dev.advance f.dt).frameStart 3 f).variant.memWords := by
      rw [start.variant, Dev.advance_variant]; exact here
    have act : frameAct s.tele1 s.tele2 ((s.dev.advance f.dt).frameStart 3 f) 3 f =
        ⟨3, [0], false, none, ((s.dev.advance f.dt).frameStart 3 f).uncorrectable f.addr.toNat⟩ := by
      rw [frameAct, one]
      exact frameReads_uncorrectable here' (by rw [start.mem, Dev.advance_mem]; exact ecc) s.tele1 s.tele2
    obtain ⟨d, next, counted, answered⟩ := State.does_hostFrame h act (Dev.uncorrectable_keepsCounts _ _)
      ((Dev.uncorrectable_sup _ _).trans (start.sup.trans (s.dev.advance_sup f.dt))) rfl
    obtain ⟨errors, latched, event⟩ := Dev.uncorrectable_record _ here'
    have rd : ∀ o, o < 1024 → d.rd pgCanopy o = _ := fun o ho => answered.port.rd pgCanopy o ho (by decide)
    refine ⟨d, next, counted, answered.ready rfl, ?_, ?_, ?_, ?_⟩
    · rw [answered.port.mem, Dev.uncorrectable_mem, start.mem, Dev.advance_mem]
    · rw [Dev.rf, rd _ (by decide), ← Dev.rf, errors, Dev.rf, start.rd _ _ (by decide) (by decide), Dev.rd_advance]
      rfl
    · rw [Dev.rf, rd _ (by decide)]
      exact latched
    · rw [rd _ (by decide)]
      exact event
  case wave =>
    have start := (s.dev.advance f.dt).frameStart_hostOnly 3 f
    have g' : ((s.dev.advance f.dt).frameStart 3 f).hasGrove g = true := by
      rw [Dev.hasGrove, start.variant, Dev.advance_variant]; exact here
    obtain ⟨-, -, notPort, -⟩ := wave_page g
    refine State.does_readFrame h ?_ rfl
    rw [frameAct, one, addr]
    refine (frameReads_wave g' off.isLt high reg _ _).trans ?_
    rw [start.rd _ _ off.isLt notPort, Dev.rd_advance]
  case gather =>
    have start := (s.dev.advance f.dt).frameStart_hostOnly 4 f
    refine State.does_readFrame h ((frameReads_clean ?_ _ _).trans ?_) rfl
    · intro a ha
      obtain ⟨w, hw, rfl⟩ := List.mem_map.mp ha
      have ⟨here, ecc⟩ := clean w hw
      exact Dev.clean_frameStart here ecc
    · rw [start.mem, Dev.advance_mem, List.map_map]
      rfl
  case gatherT =>
    have start := (s.dev.advance f.dt).frameStart_hostOnly 5 f
    obtain ⟨d, next, counted, answered⟩ := State.does_hostFrame h rfl ⟨rfl, rfl, rfl, rfl⟩
      (start.sup.trans (s.dev.advance_sup f.dt)) rfl
    obtain ⟨r, reply, wait⟩ := answered.waits _ rfl
    refine ⟨d, r, next, counted, (start.setHp _).trans answered.port, ?_, reply, wait⟩
    rw [answered.capture, ← start.clk]
    rfl
  case ready =>
    obtain ⟨awake, ps⟩ := pages
    have ready := gatherReady_replies (d := s.dev.advance dt) (by simpa using capture) taken (by simpa using reply) waits early
    exact ⟨_, (State.does_eq s _ awake).trans (by rw [inPorts_eq _ _ _ ps]), ready⟩

end Sys2Proof.Machine
end

section
/-!
PROOF. QUEUE, FENCE and DISCARD frames (R60, R65, R304 to R306).
-/
namespace Sys2Proof.Machine

/-! ### Writes of consecutive words (R40) -/

theorem Dev.memPut_of_lt {d : Dev} {a : Nat} (h : a < d.variant.memWords) (w : Word) :
    d.memPut a w = { d with mem := d.mem.put a w } := by
  simp [Dev.memPut, Dev.hasMem, h]

/-- What consecutive words leave in memory that the variant has; nothing else changes. -/
theorem Dev.memPuts_of_le (ws : List Word) (d : Dev) (a : Nat) (h : a + ws.length ≤ d.variant.memWords) :
    ∃ m, d.memPuts a ws = { d with mem := m } ∧ (∀ i, i < ws.length → m.at (a + i) = ⟨ws.getD i 0, .clean⟩) ∧
      ∀ b, (b < a ∨ a + ws.length ≤ b) → m.at b = d.mem.at b := by
  induction ws generalizing d a with
  | nil => exact ⟨d.mem, rfl, fun i hi => absurd hi (by simp), fun _ _ => rfl⟩
  | cons w t ih =>
    rw [List.length_cons] at h
    have here : a < d.variant.memWords := by omega
    obtain ⟨m, eq, inside, outside⟩ := ih { d with mem := d.mem.put a w } (a + 1) (by dsimp only; omega)
    refine ⟨m, by rw [Dev.memPuts, Dev.memPut_of_lt here, eq], fun i hi => ?_, fun b hb => ?_⟩
    · cases i with
      | zero =>
        rw [outside (a + 0) (.inl (by omega))]
        exact Mem.at_put_eq _ _ _
      | succ i =>
        rw [show a + (i + 1) = a + 1 + i by omega, inside i (by simpa using hi)]
        rfl
    · rw [List.length_cons] at hb
      rw [outside b (by omega)]
      exact Mem.at_put_ne _ _ (by omega)

/-! ### Segment rings (R304) -/

/-- Where word `i` of what a frame appends at the tail lies. -/
def Dev.segSlot (d : Dev) (n tail i : Nat) : Nat := d.segAddr n (tail + i / 8) + i % 8

theorem Dev.segAddr_succ_ne (d : Dev) (n i : Nat) :
    d.segAddr n i + 8 ≤ d.segAddr n (i + 1) ∨ d.segAddr n (i + 1) + 8 ≤ d.segAddr n i := by
  unfold Dev.segAddr
  omega

theorem Dev.segSlot_first (d : Dev) (n tail : Nat) {i : Nat} (h : i < 8) : d.segSlot n tail i = d.segAddr n tail + i := by
  rw [Dev.segSlot, Nat.div_eq_of_lt h, Nat.mod_eq_of_lt h]
  rfl

theorem Dev.segSlot_second (d : Dev) (n tail : Nat) {i : Nat} (h : i < 8) :
    d.segSlot n tail (8 + i) = d.segAddr n (tail + 1) + i := by
  rw [Dev.segSlot, show (8 + i) / 8 = 1 by omega, show (8 + i) % 8 = i by omega]

/-- The words of a frame's entries go to their slots; nothing else changes. -/
def Dev.Appends (d : Dev) (n : Nat) (ws : List Word) (m : Mem) : Prop :=
  (∀ i, i < ws.length → m.at (d.segSlot n (d.queue n).tail i) = ⟨ws.getD i 0, .clean⟩) ∧
  ∀ a, (∀ i, i < ws.length → a ≠ d.segSlot n (d.queue n).tail i) → m.at a = d.mem.at a

/-- The device after its ring has taken entries: the memory, and the tail moved on. -/
def Dev.appended (d : Dev) (n : Nat) (m : Mem) (entries : Nat) : Dev :=
  ({ d with mem := m } : Dev).setQueue n { d.queue n with tail := ((d.queue n).tail + entries) % 512 }

theorem queueAppend_one {d : Dev} {n : Nat} {ws : List Word} (len : ws.length = 8)
    (here : ∀ i, d.segAddr n i + 8 ≤ d.variant.memWords) :
    ∃ m, queueAppend d n ws = d.appended n m (ws.length / 8) ∧ d.Appends n ws m := by
  obtain ⟨m, eq, inside, outside⟩ := d.memPuts_of_le ws (d.segAddr n (d.queue n).tail) (by rw [len]; exact here _)
  refine ⟨m, ?_, fun i hi => ?_, fun a ha => outside a ?_⟩
  · simp only [queueAppend, List.take_of_length_le (Nat.le_of_eq len), eq, len, Nat.reduceEqDiff, if_false]
    rfl
  · rw [d.segSlot_first _ _ (by omega), inside i hi]
  · by_contra inRing
    have := ha (a - d.segAddr n (d.queue n).tail) (by omega)
    rw [d.segSlot_first _ _ (by omega)] at this
    omega

theorem queueAppend_two {d : Dev} {n : Nat} {ws : List Word} (len : ws.length = 16)
    (here : ∀ i, d.segAddr n i + 8 ≤ d.variant.memWords) :
    ∃ m, queueAppend d n ws = d.appended n m (ws.length / 8) ∧ d.Appends n ws m := by
  have apart := d.segAddr_succ_ne n (d.queue n).tail
  have len1 : (ws.take 8).length = 8 := by simp [len]
  have len2 : (ws.drop 8).length = 8 := by simp [len]
  obtain ⟨m1, eq1, inside1, outside1⟩ := d.memPuts_of_le (ws.take 8) (d.segAddr n (d.queue n).tail)
    (by rw [len1]; exact here _)
  obtain ⟨m, eq2, inside2, outside2⟩ := Dev.memPuts_of_le (ws.drop 8) { d with mem := m1 }
    (d.segAddr n ((d.queue n).tail + 1)) (by rw [len2]; exact here _)
  rw [len1] at inside1 outside1
  rw [len2] at inside2 outside2
  refine ⟨m, ?_, fun i hi => ?_, fun a ha => ?_⟩
  · simp only [queueAppend, eq1, len, if_true, eq2]
    rfl
  · by_cases h : i < 8
    · rw [d.segSlot_first _ _ h, outside2 _ (by omega)]
      exact (inside1 i h).trans (by simp [List.getD, h])
    · obtain ⟨j, rfl⟩ := Nat.exists_eq_add_of_le (Nat.not_lt.mp h)
      rw [d.segSlot_second _ _ (by omega), inside2 j (by omega)]
      simp [List.getD]
  · have first : ∀ j, j < 8 → a ≠ d.segAddr n (d.queue n).tail + j := fun j hj => by
      rw [← d.segSlot_first _ _ hj]
      exact ha j (by omega)
    have second : ∀ j, j < 8 → a ≠ d.segAddr n ((d.queue n).tail + 1) + j := fun j hj => by
      rw [← d.segSlot_second _ _ hj]
      exact ha (8 + j) (by omega)
    have := first (a - d.segAddr n (d.queue n).tail)
    have := second (a - d.segAddr n ((d.queue n).tail + 1))
    rw [outside2 a (by omega)]
    exact outside1 a (by omega)

/-- One or two entries that a ring takes. -/
theorem queueAppend_appends {d : Dev} {n : Nat} {ws : List Word} (len : ws.length = 8 ∨ ws.length = 16)
    (here : ∀ i, d.segAddr n i + 8 ≤ d.variant.memWords) :
    ∃ m, queueAppend d n ws = d.appended n m (ws.length / 8) ∧ d.Appends n ws m :=
  len.elim (queueAppend_one · here) (queueAppend_two · here)

/-- The page of an axis that the variant has. -/
theorem axis_page : ∀ n : Fin 128, pgAxis n < 1024 ∧ 0x100 ≤ pgAxis n ∧ pgAxis n ≠ pgHostp ∧
    pageKind (pgAxis n) = some .axis ∧ groveOf (pgAxis n) = n / 16 ∧ axisOf (pgAxis n) = n := by decide

theorem Dev.place_qptr {d : Dev} {n : Fin 128} (here : d.hasAxis n = true) :
    d.place (0x800000 + pgAxis n * 1024 + Reg.axis.QPTR) = .reg .axis (pgAxis n) Reg.axis.QPTR .direct := by
  obtain ⟨lt, high, -, kind, grove, -⟩ := axis_page n
  have present : n / 16 < d.variant.groves := by
    have := of_decide_eq_true here
    unfold Variant.axes at this
    omega
  exact Dev.place_reg lt (by decide) kind (pagePresent_grove kind high (by rw [grove]; exact present))

/-- A QUEUE frame for an axis whose ring has room, and one whose ring has none. -/
theorem frameQueue_eq {d : Dev} {n : Fin 128} {f : Frame} (here : d.hasAxis n = true) (standby : d.sup.ps ≠ .standby)
    (retain : d.sup.ps ≠ .retain) (addr : f.addr.toNat = 0x800000 + pgAxis n * 1024 + Reg.axis.QPTR) :
    frameQueue d f =
      if 256 < ((d.queue n).tail + 512 - (d.queue n).head) % 512 + frameN f / 8 then
        queueRefused d (pgAxis n) Reg.axis.QPTR codeRange (frameN f)
      else ⟨0, [], false, none, queueAppend d n f.data⟩ := by
  obtain ⟨-, -, -, -, -, axis⟩ := axis_page n
  simp [frameQueue, addr, Dev.place_qptr here, standby, retain, axis]

/-! ### A ring with room -/

/-- The frame's start has the queues, the memory and the segment addresses of the state. -/
theorem frameStart_queue (s : State) (op : Nat) (f : Frame) (n : Nat) :
    ((s.dev.advance f.dt).frameStart op f).queue n = s.dev.queue n := by
  rw [Dev.queue, ((s.dev.advance f.dt).frameStart_hostOnly op f).queues, Dev.advance_queues, Dev.queue]

theorem frameStart_segAddr (s : State) (op : Nat) (f : Frame) (n i : Nat) :
    ((s.dev.advance f.dt).frameStart op f).segAddr n i = s.dev.segAddr n i := by
  rw [Dev.segAddr, Dev.part, ((s.dev.advance f.dt).frameStart_hostOnly op f).rd _ _ (by decide) (by decide), Dev.rd_advance]
  rfl

theorem frameStart_hasAxis (s : State) (op : Nat) (f : Frame) (n : Nat) :
    ((s.dev.advance f.dt).frameStart op f).hasAxis n = s.dev.hasAxis n := by
  rw [Dev.hasAxis, ((s.dev.advance f.dt).frameStart_hostOnly op f).variant, Dev.advance_variant, Dev.hasAxis]

theorem frameStart_sup (s : State) (op : Nat) (f : Frame) : ((s.dev.advance f.dt).frameStart op f).sup = s.dev.sup :=
  ((s.dev.advance f.dt).frameStart_hostOnly op f).sup.trans (s.dev.advance_sup f.dt)

/-- Counting moves no page to another update group. -/
theorem frameStart_group (s : State) (op : Nat) (f : Frame) (p : Nat) :
    ((s.dev.advance f.dt).frameStart op f).group p = s.dev.group p := by
  have rd : ((s.dev.advance f.dt).frameStart op f).rd p Reg.PAGE_UPD = s.dev.rd p Reg.PAGE_UPD := by
    rw [← s.dev.rd_advance f.dt]
    by_cases h : p = pgHostp
    · subst h
      rw [← (s.dev.advance f.dt).rd_frameHeard f (by decide) (by decide), Dev.frameStart]
      exact rd_countAccepted _ _ _ _ (by decide) (by decide)
    · exact ((s.dev.advance f.dt).frameStart_hostOnly op f).rd p _ (by decide) h
  rw [Dev.group, Dev.rf, rd]
  rfl

theorem State.accepts.notRetain {s : State} {op : Nat} {f : Frame} (h : s.accepts op f) : s.dev.sup.ps ≠ .retain := by
  have := h.up
  simp only [Dev.hostUp, Bool.and_eq_true, bne_iff_ne] at this
  exact this.2

/-- A QUEUE frame has the words of one entry or of two (R291). -/
theorem State.accepts.entries {s : State} {f : Frame} (h : s.accepts 6 f) :
    f.data.length = frameN f ∧ (frameN f = 8 ∨ frameN f = 16) := by
  refine ⟨h.data, ?_⟩
  have := of_decide_eq_true h.form
  unfold frameN
  omega

@[simp] theorem Dev.appended_hp (d : Dev) (n : Nat) (m : Mem) (k : Nat) : (d.appended n m k).hp = d.hp := rfl
@[simp] theorem Dev.appended_sup (d : Dev) (n : Nat) (m : Mem) (k : Nat) : (d.appended n m k).sup = d.sup := rfl
@[simp] theorem Dev.appended_mem (d : Dev) (n : Nat) (m : Mem) (k : Nat) : (d.appended n m k).mem = m := rfl
@[simp] theorem Dev.rd_appended (d : Dev) (n : Nat) (m : Mem) (k p o : Nat) : (d.appended n m k).rd p o = d.rd p o := rfl
theorem Dev.queue_appended (d : Dev) (n : Nat) (m : Mem) (k : Nat) :
    (d.appended n m k).queue n = { d.queue n with tail := ((d.queue n).tail + k) % 512 } := Dev.queue_setQueue _ _ _
theorem Dev.queue_appended_ne (d : Dev) {n x : Nat} (m : Mem) (k : Nat) (h : x ≠ n) :
    (d.appended n m k).queue x = d.queue x := Dev.queue_setQueue_ne _ _ h.symm

/-- The queues of a device whose table of them is another's. -/
theorem Dev.HostOnly.queue {d d' : Dev} (h : d.HostOnly d') (n : Nat) : d'.queue n = d.queue n := by
  rw [Dev.queue, h.queues, Dev.queue]

/-- An accepted QUEUE frame whose entries the ring takes. -/
theorem execQueue_room {s : State} {n : Fin 128} {f : Frame} (h : s.accepts 6 f) (standby : s.dev.sup.ps ≠ .standby)
    (axis : s.dev.hasAxis n = true) (addr : f.addr.toNat = 0x800000 + pgAxis n * 1024 + Reg.axis.QPTR)
    (room : ((s.dev.queue n).tail + 512 - (s.dev.queue n).head) % 512 + frameN f / 8 ≤ 256)
    (here : ∀ i, s.dev.segAddr n i + 8 ≤ s.dev.variant.memWords) :
    ∃ d m, exec (.queue f) s = .next (s.after d) ∧ (s.dev.advance f.dt).Counted 6 f d ∧ d.Replies 0 0 [] ∧
      ((s.dev.advance f.dt).frameStart 6 f).Appends n f.data m ∧
      (((s.dev.advance f.dt).frameStart 6 f).appended n m (frameN f / 8)).HostOnly d := by
  obtain ⟨len, one⟩ := h.entries
  have start := (s.dev.advance f.dt).frameStart_hostOnly 6 f
  have sup := frameStart_sup s 6 f
  obtain ⟨m, eq, appends⟩ := queueAppend_appends (d := (s.dev.advance f.dt).frameStart 6 f) (n := n) (ws := f.data)
    (by rw [len]; exact one) (fun i => by rw [frameStart_segAddr, start.variant, Dev.advance_variant]; exact here i)
  have act : frameAct s.tele1 s.tele2 ((s.dev.advance f.dt).frameStart 6 f) 6 f =
      ⟨0, [], false, none, ((s.dev.advance f.dt).frameStart 6 f).appended n m (frameN f / 8)⟩ := by
    refine (frameQueue_eq ((frameStart_hasAxis s 6 f n).trans axis) (by rw [sup]; exact standby)
      (by rw [sup]; exact h.notRetain) addr).trans ?_
    rw [frameStart_queue, if_neg (by omega), eq, len]
  obtain ⟨d, next, counted, answered⟩ := State.does_hostFrame h act
    (Dev.keepsCounts_of_rd (Dev.appended_hp ..) fun _ _ => Dev.rd_appended ..) ((Dev.appended_sup ..).trans sup) rfl
  exact ⟨d, m, next, counted, answered.ready rfl, appends, answered.port⟩

/-! ### A ring without room -/

/-- The device after a QUEUE frame that its ring refuses. -/
def Dev.ringFull (d : Dev) (p : Nat) : Dev :=
  ((pageErr d 0 p Reg.axis.QPTR codeRange).incSat pgHostp Reg.hostp.ERRC 23 12).ev pgHostp 3

@[simp] theorem Dev.ringFull_hp (d : Dev) (p : Nat) : (d.ringFull p).hp = d.hp := by simp [Dev.ringFull, pageErr]
@[simp] theorem Dev.ringFull_sup (d : Dev) (p : Nat) : (d.ringFull p).sup = d.sup := by simp [Dev.ringFull, pageErr]
@[simp] theorem Dev.ringFull_mem (d : Dev) (p : Nat) : (d.ringFull p).mem = d.mem := by simp [Dev.ringFull, pageErr]
@[simp] theorem Dev.ringFull_queues (d : Dev) (p : Nat) : (d.ringFull p).queues = d.queues := by simp [Dev.ringFull, pageErr]

theorem Dev.ringFull_keepsCounts (d : Dev) {p : Nat} (other : p ≠ pgHostp) : d.KeepsCounts (d.ringFull p) := by
  have ne : ∀ o, o < 1024 → key p Reg.PAGE_ERR ≠ key pgHostp o := fun o ho e => other ((key_inj (by decide) ho).mp e).1
  refine ⟨?_, ?_, by rw [d.ringFull_hp], by rw [d.ringFull_hp]⟩ <;>
    rw [Dev.ringFull, Dev.rd_ev_ne _ _ (by decide), Dev.rd_incSat_ne _ _ _ (by decide), pageErr,
      Dev.rd_wr_ne _ _ (ne _ (by decide))]

theorem Dev.ringFull_record (d : Dev) {p : Nat} (other : p ≠ pgHostp) :
    (d.ringFull p).rd p Reg.PAGE_ERR = mkw [(33, 0), (29, codeRange), (19, Reg.axis.QPTR),
      (8, min 2047 (d.rf p Reg.PAGE_ERR 18 8 + 1)), (0, d.tk % 256)] := by
  have ne : ∀ o, o < 1024 → key pgHostp o ≠ key p Reg.PAGE_ERR := fun o ho e => other ((key_inj ho (by decide)).mp e).1.symm
  rw [Dev.ringFull, Dev.rd_ev_ne _ _ (ne _ (by decide)), Dev.rd_incSat_ne _ _ _ (ne _ (by decide)), pageErr, Dev.rd_wr_eq]

/-- Refused elements show in ESTAT. -/
theorem estatOf_refused {n : Nat} (h : n = 8 ∨ n = 16) : replyFlags false true (estatOf (List.replicate n 2)) = 6 := by
  rcases h with rfl | rfl <;> decide

/-- An accepted QUEUE frame for whose entries the ring has no room. -/
theorem execQueue_full {s : State} {n : Fin 128} {f : Frame} (h : s.accepts 6 f) (standby : s.dev.sup.ps ≠ .standby)
    (axis : s.dev.hasAxis n = true) (addr : f.addr.toNat = 0x800000 + pgAxis n * 1024 + Reg.axis.QPTR)
    (full : 256 < ((s.dev.queue n).tail + 512 - (s.dev.queue n).head) % 512 + frameN f / 8) :
    ∃ d, exec (.queue f) s = .next (s.after d) ∧ (s.dev.advance f.dt).Counted 6 f d ∧
      d.Replies 6 (estatOf (List.replicate (frameN f) 2)) [] ∧
      (((s.dev.advance f.dt).frameStart 6 f).ringFull (pgAxis n)).HostOnly d := by
  obtain ⟨-, one⟩ := h.entries
  obtain ⟨-, -, other, -⟩ := axis_page n
  have sup := frameStart_sup s 6 f
  have act : frameAct s.tele1 s.tele2 ((s.dev.advance f.dt).frameStart 6 f) 6 f =
      ⟨estatOf (List.replicate (frameN f) 2), [], true, none, ((s.dev.advance f.dt).frameStart 6 f).ringFull (pgAxis n)⟩ := by
    refine (frameQueue_eq ((frameStart_hasAxis s 6 f n).trans axis) (by rw [sup]; exact standby)
      (by rw [sup]; exact h.notRetain) addr).trans ?_
    rw [frameStart_queue, if_pos full]
    rfl
  obtain ⟨d, next, counted, answered⟩ := State.does_hostFrame h act (Dev.ringFull_keepsCounts _ other)
    ((Dev.ringFull_sup ..).trans sup) rfl
  have replies := answered.ready rfl
  rw [estatOf_refused one] at replies
  exact ⟨d, next, counted, replies, answered.port⟩

/-! ### FENCE (R65, R305) -/

theorem mem_nins (l : List Nat) (k : Nat) : k ∈ nins l k := by
  induction l with
  | nil => simp [nins]
  | cons x t ih =>
    unfold nins
    split
    · next h => simp [h]
    · split
      · simp
      · simp [ih]

/-- The requester waits for a fence. -/
def Dev.fenced (d : Dev) (req : Nat) : Dev := { d with acc := { d.acc with fencing := nins d.acc.fencing req } }

/-- The requester waits for no fence any more. -/
def Dev.unfenced (d : Dev) (req : Nat) : Dev :=
  { d with acc := { d.acc with fencing := d.acc.fencing.filter (fun r => r != req) } }

theorem Dev.mem_unfenced (d : Dev) (req x : Nat) : x ∈ (d.unfenced req).acc.fencing ↔ x ∈ d.acc.fencing ∧ x ≠ req := by
  simp [Dev.unfenced]

/-- But for the fence, the end of one changes the port only. -/
theorem Dev.unfenced_replied_hostOnly (d : Dev) (req : Nat) (r : Reply) (ws : List Word) :
    d.HostOnly { (d.unfenced req).replied r ws with acc := d.acc } := ⟨rfl, rfl, fun _ _ _ _ => rfl⟩

/-- The end of a fence for which a reply waits. -/
theorem fenceComplete_reply {d : Dev} {r : Reply} (fencing : d.acc.fencing.contains 0 = true) (reply : d.hp.reply = some r)
    (wait : r.wait = some .fence) (early : r.early = 0) : fenceComplete d 0 = (d.unfenced 0).replied r (drivenWords r) := by
  have mem : 0 ∈ d.acc.fencing := by simpa using fencing
  rw [← replyReady_onTime _ early]
  simp [fenceComplete, mem, reply, wait, Dev.unfenced]

/-- The end of a fence for which none waits. -/
theorem fenceComplete_silent {d : Dev} {req : Nat} (fencing : d.acc.fencing.contains req = true)
    (free : ∀ r, d.hp.reply = some r → r.wait = none) : fenceComplete d req = d.unfenced req := by
  have mem : req ∈ d.acc.fencing := by simpa using fencing
  cases hr : d.hp.reply with
  | none => simp [fenceComplete, mem, hr, Dev.unfenced]
  | some r => simp [fenceComplete, mem, hr, free r hr, Dev.unfenced]

/-- A command of the ports answers the state after its effect (R399). -/
theorem State.does_inPorts {s : State} (pages : s.pages) (dt : Nat) (f : Dev → Dev) :
    s.does (inPorts dt f) = .next (s.after (f (s.dev.advance dt))) := by
  obtain ⟨awake, ps⟩ := pages
  rw [State.does_eq s _ awake, inPorts_eq dt f _ ps]

/-! ### DISCARD (R61, R306) -/

/-- Whether a DISCARD with the word `w` drops the shadows of a register. -/
def Dev.discards (d : Dev) (w : Word) (key : Nat) : Prop :=
  0 < d.group (key / 1024) ∧ d.group (key / 1024) < 31 ∧ w.getLsbD (d.group (key / 1024)) = true

/-- A DISCARD drops the pending shadows of its groups, in the registers and in the strobes, and no other. -/
theorem discardGroups_drops (d : Dev) (w : Word) :
    (∀ e, e ∈ (discardGroups d (fld w 31 0)).shadow ↔ e ∈ d.shadow ∧ ¬ d.discards w e.1) ∧
    (discardGroups d (fld w 31 0)).strobes.length = d.strobes.length ∧
    ∀ x ∈ (discardGroups d (fld w 31 0)).strobes, ∀ c ∈ x.captured, ¬ d.discards w c.key := by
  have hit : ∀ k, (decide (0 < d.group (k / 1024) ∧ d.group (k / 1024) < 31) &&
      (fld w 31 0).testBit (d.group (k / 1024))) = true ↔ d.discards w k := fun k => by
    simp only [Bool.and_eq_true, decide_eq_true_eq, Dev.discards, and_assoc]
    refine and_congr_right fun _ => and_congr_right fun lt => ?_
    rw [fld, testBit_nfld]
    simp [show d.group (k / 1024) < 32 by omega, BitVec.getLsbD]
  refine ⟨fun e => ?_, by simp [discardGroups], fun x hx c hc => ?_⟩
  · simp only [discardGroups, List.mem_filter, Bool.not_eq_true', ← Bool.not_eq_true, hit]
  · simp only [discardGroups, List.mem_map] at hx
    obtain ⟨y, -, rfl⟩ := hx
    simp only [List.mem_filter, Bool.not_eq_true', ← Bool.not_eq_true, hit] at hc
    exact hc.2

/-! ### The statement -/

/-- Settles O44: each frame's act from its start, and what the port adds to it set apart. -/
theorem hostQueue : Obligations.HostQueue := by
  intro s f dt
  refine ⟨fun n h standby axis addr => ⟨fun room here => ?room, fun full => ?full⟩, fun h => ?fence,
    fun r pages fencing reply wait early noData noErrors noFlags => ?fenceReply, fun q pages fencing free => ?fenceEnd,
    fun h => ?discard⟩
  case room =>
    have start := (s.dev.advance f.dt).frameStart_hostOnly 6 f
    obtain ⟨d, m, next, counted, replies, ⟨inside, outside⟩, port⟩ := execQueue_room h standby axis addr room here
    obtain ⟨len, -⟩ := h.entries
    have queue : ∀ x, ((s.dev.advance f.dt).frameStart 6 f).queue x = s.dev.queue x := frameStart_queue s 6 f
    have slot : ∀ t i, ((s.dev.advance f.dt).frameStart 6 f).segSlot n t i = s.dev.segAddr n (t + i / 8) + i % 8 := by
      intro t i
      rw [Dev.segSlot, frameStart_segAddr]
    simp only [queue, slot, len] at inside outside
    refine ⟨d, next, counted, replies, ?_, ?_, fun x hx => ?_, fun i hi => ?_, fun a ha => ?_, ?_⟩
    · rw [port.queue, Dev.queue_appended, queue]
    · rw [port.queue, Dev.queue_appended, queue]
    · rw [port.queue, Dev.queue_appended_ne _ _ _ hx, queue]
    · rw [port.mem, Dev.appended_mem, inside i hi]
    · rw [port.mem, Dev.appended_mem, outside a ha, start.mem, Dev.advance_mem]
    · have back := Dev.HostOnly.setBack
        (fun e => { e with mem := (s.dev.advance f.dt).mem, queues := (s.dev.advance f.dt).queues })
        (fun _ => rfl) (fun _ _ _ => rfl) start port rfl rfl
      simpa only [Dev.advance_mem, Dev.advance_queues] using back
  case full =>
    have start := (s.dev.advance f.dt).frameStart_hostOnly 6 f
    obtain ⟨d, next, counted, replies, port⟩ := execQueue_full h standby axis addr full
    obtain ⟨-, -, other, -⟩ := axis_page n
    refine ⟨d, next, counted, ?_, ?_, replies, ?_⟩
    · rw [port.mem, Dev.ringFull_mem, start.mem, Dev.advance_mem]
    · rw [port.queues, Dev.ringFull_queues, start.queues, Dev.advance_queues]
    · rw [port.rd _ _ (by decide) other, Dev.ringFull_record _ other, Dev.rf, start.rd _ _ (by decide) other, Dev.rd_advance,
        start.tk, Dev.advance_tk]
      rfl
  case fence =>
    have start := (s.dev.advance f.dt).frameStart_hostOnly 7 f
    obtain ⟨d, next, counted, answered⟩ := State.does_hostFrame h
      (a := ⟨0, [], false, some .fence, ((s.dev.advance f.dt).frameStart 7 f).fenced 0⟩) rfl ⟨rfl, rfl, rfl, rfl⟩
      (frameStart_sup s 7 f) rfl
    obtain ⟨r, reply, wait⟩ := answered.waits _ rfl
    have acc : d.acc = { s.dev.acc with fencing := nins s.dev.acc.fencing 0 } := by
      rw [answered.port.acc, ← s.dev.advance_acc f.dt, ← start.acc]
      rfl
    have back := Dev.HostOnly.setBack (fun e => { e with acc := (s.dev.advance f.dt).acc })
      (fun _ => rfl) (fun _ _ _ => rfl) start answered.port rfl rfl
    rw [Dev.advance_acc] at back
    refine ⟨d, r, next, counted, back, ?_, ?_, reply, wait⟩
    · rw [acc]
    · rw [acc]
      simp [mem_nins]
  case fenceReply =>
    have eq := fenceComplete_reply (d := s.dev.advance dt) (r := r) (by simpa using fencing) (by simpa using reply) wait early
    rw [drivenWords_onTime early, noData, noErrors, noFlags] at eq
    refine ⟨_, State.does_inPorts pages dt _, ?_⟩
    rw [show Requester.host.id = 0 from rfl, eq]
    refine ⟨?_, Dev.replied_replies _ _ rfl, ?_⟩
    · simp [Dev.replied, Dev.unfenced]
    · rw [← s.dev.advance_acc dt]
      exact Dev.unfenced_replied_hostOnly ..
  case fenceEnd =>
    have eq := fenceComplete_silent (d := s.dev.advance dt) (req := q.id) (by simpa using fencing) (by simpa using free)
    refine ⟨_, State.does_inPorts pages dt _, ?_⟩
    rw [eq]
    exact ⟨by rw [← s.dev.advance_acc dt]; rfl, fun x => by rw [Dev.mem_unfenced, Dev.advance_acc]⟩
  case discard =>
    have start := (s.dev.advance f.dt).frameStart_hostOnly 8 f
    have group := frameStart_group s 8 f
    obtain ⟨d, next, counted, answered⟩ := State.does_hostFrame h
      (a := plainAct (discardGroups ((s.dev.advance f.dt).frameStart 8 f) (fld (f.data.headD 0) 31 0))) rfl
      ⟨rfl, rfl, rfl, rfl⟩ (frameStart_sup s 8 f) rfl
    obtain ⟨shadow, length, captured⟩ := discardGroups_drops ((s.dev.advance f.dt).frameStart 8 f) (f.data.headD 0)
    have back := Dev.HostOnly.setBack
      (fun e => { e with shadow := (s.dev.advance f.dt).shadow, strobes := (s.dev.advance f.dt).strobes })
      (fun _ => rfl) (fun _ _ _ => rfl) start answered.port rfl rfl
    rw [Dev.advance_shadow, Dev.advance_strobes] at back
    simp only [Dev.discards, group, start.shadow, start.strobes, Dev.advance_shadow,
      Dev.advance_strobes] at shadow length captured
    refine ⟨d, next, counted, answered.ready rfl, ?_, ?_, ?_, back⟩
    · rw [answered.port.shadow]
      exact shadow
    · rw [answered.port.strobes]
      exact length
    · rw [answered.port.strobes]
      exact captured

end Sys2Proof.Machine
end

section
/-!
PROOF. Rests that run out, and the standstill current (R78, R90, R131, R151, R250).
-/
namespace Sys2Proof.Machine

/-! ### Commands of the islands that leave the groves alone -/

/-- What changes no grove makes no trip cause due. -/
theorem Dev.settled_of_groves {d d' : Dev} (h : d.settled) (hv : d'.variant = d.variant) (hg : d'.groves = d.groves) :
    d'.settled :=
  Dev.settled_of_due h hv fun g => by rw [Dev.grove, Dev.grove, hg]

/-- Such a command answers the state with its effect on the device, to which the end of the step adds nothing. -/
theorem State.does_besideGroves {s : State} (runs : s.runs) (settled : s.settled) (f : Dev → Dev) {d : Dev}
    (effect : f s.dev = d) (variant : d.variant = s.dev.variant) (groves : d.groves = s.dev.groves) :
    ∃ t, s.does (inIslands 0 f) = .next t ∧ t.pending = s.pending ∧ t.dev = d := by
  refine ⟨_, s.does_inIslands 0 f runs, State.after_pending .., ?_⟩
  rw [Dev.advance_zero, effect]
  exact s.after_dev_of_settled (Dev.settled_of_groves settled variant groves)

/-! ### The ends of the rests that are due -/

theorem queueDwellOver_of_due {d : Dev} {n : Nat} (due : d.restDue n restQueue = true) :
    queueDwellOver d n = (d.setQueue n { d.queue n with dwell := some 0 }).setRest n restQueue false := if_pos due

theorem turnOver_of_due {d : Dev} {n : Nat} (due : d.restDue n restTurn = true) : turnOver d n =
    (d.setPlan n { d.plan n with mot := { (d.plan n).mot with rwait := 0 } }).setRest n restTurn false := if_pos due

theorem strokeDwellOver_of_due {d : Dev} {n : Nat} (due : d.restDue n restStroke = true) : strokeDwellOver d n =
    (d.setQueue n { d.queue n with stroke := (d.queue n).stroke.map (fun x => { x with dwell := some 0 }) }).setRest n
      restStroke false := if_pos due

theorem retryOver_of_due {d : Dev} {n : Nat} (due : d.restDue n restRetry = true) :
    retryOver d n = (d.setOb n { d.ob n with rdwell := none, slow := true }).setRest n restRetry false := if_pos due

/-! ### Standstill current (R151) -/

/-- The base amplitude of axis `n` after one update beyond its still delay. -/
def Dev.stillBase (d : Dev) (n : Nat) : Nat :=
  baseStep (d.ga n).base (d.ga n).still (d.rf (pgAxis n) Reg.axis.STILL 31 16) (d.rf (pgAxis n) Reg.axis.STILL 11 0)
    (d.rf (pgAxis n) Reg.axis.IHOLD 11 0)

/-- Beyond the delay the base amplitude goes to IHOLD: at once without a ramp, else by the ramp and never past it. -/
theorem baseStep_past {still delay : Nat} (past : delay < still) (base ramp ihold : Nat) :
    (ramp = 0 → baseStep base still delay ramp ihold = ihold) ∧
    (0 < ramp → ihold < base → baseStep base still delay ramp ihold = max (base - ramp) ihold) ∧
    (0 < ramp → base ≤ ihold → baseStep base still delay ramp ihold = min (base + ramp) ihold) := by
  unfold baseStep
  rw [if_neg (Nat.not_le.mpr past)]
  refine ⟨fun atOnce => if_pos atOnce, fun slow above => ?_, fun slow below => ?_⟩
  · rw [if_neg slow.ne', if_pos above]
  · rw [if_neg slow.ne', if_neg (Nat.not_lt.mpr below)]

/-- The source of that amplitude: 2 at IHOLD, 1 on the way there. -/
def Dev.stillSource (d : Dev) (n : Nat) : Nat := if d.stillBase n = d.rf (pgAxis n) Reg.axis.IHOLD 11 0 then 2 else 1

theorem stillOver_of_due {d : Dev} {n : Nat} (due : d.restDue n restStill = true) : stillOver d n =
    (d.setGa n { d.ga n with base := d.stillBase n, ampSrc := d.stillSource n }).setRest n restStill false := if_pos due

/-- STILL_DELAY_EXPIRY: the base amplitude of its axis, and nothing else of the device but the mark of the rest. -/
theorem exec_stillDelayExpiry {s : State} {n : Fin 128} (runs : s.runs) (settled : s.settled)
    (due : s.dev.restDue n restStill = true) :
    ∃ t, exec (.stillDelayExpiry n) s = .next t ∧ t.pending = s.pending ∧ (t.dev.ga n).base = s.dev.stillBase n ∧
      { t.dev with gax := s.dev.gax, due := s.dev.due } = s.dev ∧ (∀ m, m ≠ n.val → t.dev.ga m = s.dev.ga m) := by
  obtain ⟨t, next, pending, dev⟩ :=
    State.does_besideGroves runs settled (stillOver · n) (stillOver_of_due due) rfl rfl
  refine ⟨t, next, pending, ?_, ?_, fun m other => ?_⟩
  · rw [dev, Dev.ga_setRest, Dev.ga_setGa]
  · rw [dev]
    rfl
  · rw [dev, Dev.ga_setRest, Dev.ga_setGa_ne _ _ other.symm]

/-- Settles O13: each rest by its effect where it is due; the amplitude by one step of the base beyond the delay. -/
theorem restsEnd : Obligations.RestsEnd := by
  refine ⟨fun s n runs settled => ⟨fun due => ?queue, fun due => ?turn, fun due => ?stroke, fun due => ?retry⟩,
    fun s n runs settled due past => ?still⟩
  case queue => exact State.does_besideGroves runs settled (queueDwellOver · n) (queueDwellOver_of_due due) rfl rfl
  case turn => exact State.does_besideGroves runs settled (turnOver · n) (turnOver_of_due due) rfl rfl
  case stroke => exact State.does_besideGroves runs settled (strokeDwellOver · n) (strokeDwellOver_of_due due) rfl rfl
  case retry => exact State.does_besideGroves runs settled (retryOver · n) (retryOver_of_due due) rfl rfl
  case still =>
    obtain ⟨t, next, pending, base, rest, others⟩ := exec_stillDelayExpiry runs settled due
    exact ⟨t, _, next, pending, base, baseStep_past past .., rest, others⟩

end Sys2Proof.Machine
end

section
/-!
SUPPORT. Register writes of a grove page that nothing refuses: what they store, with the carrier counter of the grove brought
to the write's instant, and the fields that they form.
-/
namespace Sys2Proof.Machine

/-! ### The carrier counter (R154, R155) -/

/-- A grove's record with the carrier counter of another. -/
def Grove.carrierOf (b a : Grove) : Grove :=
  { b with carStart := a.carStart, carPeriod := a.carPeriod, carIlv := a.carIlv, carOff := a.carOff, carNo := a.carNo }

/-- Bringing a carrier to an instant changes the groves' records only. -/
theorem carTo_groves (d : Dev) (g t : Nat) : ∃ G, carTo d g t = { d with groves := G } := by
  unfold carTo
  dsimp only
  split
  · exact ⟨d.groves, rfl⟩
  · exact ⟨_, rfl⟩

/-- Of those it changes the one carrier counter only. -/
theorem carTo_grove (d : Dev) (g t x : Nat) : ((carTo d g t).grove x).carrierOf (d.grove x) = d.grove x := by
  unfold carTo
  dsimp only
  split
  · rfl
  · by_cases h : g = x
    · subst h
      simp only [carTake, Dev.grove_setGrove]
      rfl
    · simp only [carTake, Dev.grove_setGrove_ne _ _ h]
      rfl

/-! ### Storing -/

theorem Dev.Stores.queue {d S : Dev} {p off : Nat} (h : d.Stores p off S) (n : Nat) : S.queue n = d.queue n :=
  (congrArg (fun e : Dev => e.queue n) h.same :)
theorem Dev.Stores.plan {d S : Dev} {p off : Nat} (h : d.Stores p off S) (n : Nat) : S.plan n = d.plan n :=
  (congrArg (fun e : Dev => e.plan n) h.same :)
theorem Dev.Stores.ob {d S : Dev} {p off : Nat} (h : d.Stores p off S) (n : Nat) : S.ob n = d.ob n :=
  (congrArg (fun e : Dev => e.ob n) h.same :)

/-- The unlock that a keyed write takes, before anything is stored. -/
theorem Dev.stores_consume (d : Dev) (p off req : Nat) (keyed : Bool) : d.Stores p off (consume d req p keyed) := by
  obtain ⟨ks, h⟩ := consume_eq d req p keyed
  rw [h]
  exact ⟨rfl, ⟨ks, rfl⟩, fun _ _ _ _ => rfl, fun _ => rfl, fun _ => rfl⟩

/-- On a grove page the carrier comes to the write's instant, and the registers before it are kept for a while (R144). -/
theorem Dev.Stores.carrier {d S : Dev} {p off : Nat} (h : d.Stores p off S) (high : 0x100 ≤ p) (g t : Nat) :
    d.Stores p off (carTo S.note g t) := by
  have car := carTo_grove S.note g t
  obtain ⟨G, eq⟩ := carTo_groves S.note g t
  rw [eq] at car ⊢
  refine ⟨h.same, h.locks, h.rd, fun x => ?_, fun low => absurd low (Nat.not_lt.mpr high)⟩
  rw [← h.grove x]
  exact (congrArg (·.carrierOf (d.grove x)) (car x) :)

theorem Dev.Stores.wr {d S : Dev} {p off : Nat} (h : d.Stores p off S) (ho : off < 1024) (w : Word) :
    d.Stores p off (S.wr p off w) := by
  refine ⟨h.same, h.locks, fun q o hq other => ?_, h.grove, h.low⟩
  rw [Dev.rd_wr_ne _ _ fun same => other ?_, h.rd q o hq other]
  obtain ⟨rfl, rfl⟩ := (key_inj ho hq).mp same
  exact ⟨rfl, rfl⟩

/-- A store without buffered fields on a grove page: the locks, the carrier counter and the one register. -/
theorem Dev.stores_storeWrite (d : Dev) {k : PageKind} {p off : Nat} (req : Nat) (f : Formed) (high : 0x100 ≤ p)
    (ho : off < 1024) (plain : f.shadow = none) : d.Stores p off (storeWrite (consume d req p f.keyed) k p off f) := by
  have car := (d.stores_consume p off req f.keyed).carrier high (groveOf p) (consume d req p f.keyed).clk
  unfold storeWrite
  rw [plain, if_pos high]
  dsimp only
  split
  · exact car
  · exact car.wr ho f.now

/-- A write of a register of a grove page that has no buffered field: the store, and what the register does. -/
theorem writeCommand_storesGrove {d : Dev} {k : PageKind} {p off : Nat} {fs : List RegField} (reg : SingleReg d k p off fs)
    {w : RegWrite} (ok : (writePage d p off w.req.id w.win w.data).st = stOk) (high : 0x100 ≤ p) (ho : off < 1024)
    (plain : maskOf fs RegField.buffered = 0) :
    ∃ S, d.Stores p off S ∧ writeCommand d p off w =
      actWrite S k p off w.req.id (w.win == .direct) (d.rd p off) (formWrite d p off fs w.win w.data).m
        (formWrite d p off fs w.win w.data).wo (formWrite d p off fs w.win w.data).clr := by
  have notPort : p ≠ pgHostp := fun h => absurd (h ▸ high) (by decide)
  exact ⟨_, d.stores_storeWrite w.req.id _ high ho (formWrite_shadow _ _ _ _ _ _ plain),
    writeCommand_accepted reg w ok (.inl notPort)⟩

/-! ### Fields of a written word -/

/-- Words with the same bits have the same field. -/
theorem fld_congr {a b : Word} {hi lo : Nat} (hl : lo ≤ hi) (h : ∀ i, lo ≤ i → i ≤ hi → bit a i = bit b i) :
    fld a hi lo = fld b hi lo := by
  apply Nat.eq_of_testBit_eq
  intro i
  rw [fld, fld, testBit_nfld, testBit_nfld]
  by_cases hi' : i < hi - lo + 1
  · have same : a.toNat.testBit (i + lo) = b.toNat.testBit (i + lo) := h _ (by omega) (by omega)
    rw [same]
  · simp [hi']

/-- A WO field acts with its bits as written, through the direct window (R53). -/
theorem fld_formWrite_wo (d : Dev) (p off : Nat) {fs : List RegField} (data : Word) {hi lo : Nat} (hl : lo ≤ hi)
    (wo : covers (maskOf fs (fun f => f.ty == .wo)) hi lo) :
    fld (formWrite d p off fs .direct data).wo hi lo = fld data hi lo :=
  fld_congr hl fun i hlo hhi => formWrite_wo d p off fs data i (wo i hlo hhi)

/-- An RW field is formed as written, through the direct window, where no field is buffered, WO or W1C. -/
theorem fld_formWrite_m (d : Dev) (p off : Nat) {fs : List RegField} (data : Word) {hi lo : Nat} (hl : lo ≤ hi) (hh : hi < 36)
    (rw : covers (maskOf fs (fun f => f.ty == .rw || f.ty == .rwk)) hi lo) (plain : maskOf fs RegField.buffered = 0)
    (wo : maskOf fs (fun f => f.ty == .wo) = 0) (w1c : maskOf fs (fun f => f.ty == .w1c) = 0) :
    fld (formWrite d p off fs .direct data).m hi lo = fld data hi lo :=
  fld_congr hl fun i hlo hhi => formWrite_m d p off fs .direct data i (by omega) (rw i hlo hhi) (by simp [plain, bit])
    (by simp [wo, bit]) (by simp [w1c, bit])

end Sys2Proof.Machine
end

section
/-!
PROOF. Writes of an AXIS page that act (R89, R92, R93, R252, R255, R256).
-/
namespace Sys2Proof.Machine

/-! ### Registers of an AXIS page -/

/-- Offset `off` of an AXIS page is a register with the fields `fs` that is one word by itself, takes writes, has no buffered
field and lies beside the common layout's own writes. -/
structure AxisReg (off : Nat) (fs : List RegField) : Prop where
  fields : fieldsAt .axis off = some fs
  small : off < 1024
  unlock : off ≠ Reg.PAGE_LOCK
  err : off ≠ Reg.PAGE_ERR
  writes : (!fs.isEmpty && fs.all (fun f => !f.writable)) = false
  single : pairPart .axis off = .single
  plain : maskOf fs RegField.buffered = 0

def qptrFields : List RegField := [bf 24 16 .rw 0, bf 8 0 .ro 0]
def qctrlFields : List RegField := [bf 1 1 .wo 0, bf 0 0 .wo 0]
def obscalFields : List RegField := [bf 35 35 .wo 0, bf 34 34 .wo 0, bf 25 16 .wo 0, bf 3 0 .wo 0]
def trustsetFields : List RegField := [bf 0 0 .rwk 0]

theorem qptr_reg : AxisReg Reg.axis.QPTR qptrFields := ⟨rfl, by decide, by decide, by decide, rfl, rfl, rfl⟩
theorem qctrl_reg : AxisReg Reg.axis.QCTRL qctrlFields := ⟨rfl, by decide, by decide, by decide, rfl, rfl, rfl⟩
theorem obscal_reg : AxisReg Reg.axis.OBSCAL obscalFields := ⟨rfl, by decide, by decide, by decide, rfl, rfl, rfl⟩
theorem trustset_reg : AxisReg Reg.axis.TRUSTSET trustsetFields := ⟨rfl, by decide, by decide, by decide, rfl, rfl, rfl⟩

theorem AxisReg.singleReg {off : Nat} {fs : List RegField} (reg : AxisReg off fs) {d : Dev} {n : Fin 128}
    (here : d.hasGrove (n / 16) = true) (awake : d.sup.inReset = false) : SingleReg d .axis (pgAxis n) off fs := by
  obtain ⟨-, high, -, kind, grove, -⟩ := axis_page n
  exact ⟨kind, pagePresent_grove kind high (by rw [grove]; simpa [Dev.hasGrove] using here), awake, reg.fields, reg.unlock,
    reg.writes, rfl, reg.single⟩

/-- The word that a write of AXIS register `off` of axis `n` forms at its instant. -/
def State.axisForms (s : State) (n off : Nat) (fs : List RegField) (w : RegWrite) : Formed :=
  formWrite (s.dev.advance w.dt) (pgAxis n) off fs .direct w.data

/-! ### What the registers do -/

section acts
variable (d : Dev) (n : Nat) (old m wo : Word)

theorem actAxis_qptr : actAxis d n Reg.axis.QPTR old m wo = d.setQueue n { d.queue n with tail := fld m 24 16 } := rfl

theorem actAxis_flush {wo : Word} (flush : bit wo 0 = true) (resume : bit wo 1 = false) :
    actAxis d n Reg.axis.QCTRL old m wo = flushQueue d n := by
  simp [actAxis, flush, resume]

theorem actAxis_resume {wo : Word} (flush : bit wo 0 = false) (resume : bit wo 1 = true) :
    actAxis d n Reg.axis.QCTRL old m wo = resumeQueue d n := by
  simp [actAxis, flush, resume]

theorem actAxis_obscalGo {wo : Word} (abort : bit wo 34 = false) (go : bit wo 35 = true) :
    actAxis d n Reg.axis.OBSCAL old m wo = obscalGo d n wo := by
  simp [actAxis, abort, go]

theorem actAxis_obscalAbort {wo : Word} (abort : bit wo 34 = true) (go : bit wo 35 = false) :
    actAxis d n Reg.axis.OBSCAL old m wo = calAbort d n := by
  simp [actAxis, abort, go]

theorem actAxis_trustset {m : Word} (set : bit m 0 = true) :
    actAxis d n Reg.axis.TRUSTSET old m wo = trustSet d n := by
  simp [actAxis, set]

end acts

/-- Of the written word a calibration takes NCAL and REFM (R255). -/
theorem obscalGo_congr (d : Dev) (n : Nat) {a b : Word} (ncal : fld a 3 0 = fld b 3 0) (refm : fld a 25 16 = fld b 25 16) :
    obscalGo d n a = obscalGo d n b := by
  rw [obscalGo, obscalGo, ncal, refm]

/-- An abort ends a calibration that runs, with its event (R256). -/
theorem calAbort_running {d : Dev} {n : Nat} (cal : (d.ob n).cal.isSome = true) : calAbort d n =
    (d.setOb n { d.ob n with cal := none, calState := 4, calFail := 0 }).ev (pgAxis n) 18 := by
  obtain ⟨c, hc⟩ := Option.isSome_iff_exists.mp cal
  simp only [calAbort, calEnd, hc]

theorem calAbort_none {d : Dev} {n : Nat} (cal : (d.ob n).cal = none) : calAbort d n = d := by
  simp only [calAbort, calEnd, cal]

/-! ### The commands -/

section commands
variable {s : State} {w : RegWrite} {n : Fin 128} (here : s.dev.hasGrove (n / 16) = true) (direct : w.win = .direct)
include here direct

/-- A write of such a register that nothing refuses: the store, and what the register does. -/
theorem AxisReg.accepted {off : Nat} {fs : List RegField} (reg : AxisReg off fs) (takes : s.takes w (pgAxis n) off) :
    ∃ S, (s.dev.advance w.dt).Stores (pgAxis n) off S ∧ s.writes w (pgAxis n) off = .next (s.after
      (actAxis S n off (s.dev.rd (pgAxis n) off) (s.axisForms n off fs w).m (s.axisForms n off fs w).wo)) := by
  obtain ⟨-, high, -, -, -, axis⟩ := axis_page n
  obtain ⟨S, stores, eq⟩ :=
    writeCommand_storesGrove (reg.singleReg (by simpa using here) takes.awake) takes.2 high reg.small reg.plain
  refine ⟨S, stores, ?_⟩
  rw [State.writes_of_takes takes, eq, direct, Dev.rd_advance, actWrite, if_neg reg.err, axis]
  rfl

/-- A write of QPTR: the store, and the tail that appends entries (R89). -/
theorem exec_qptrTailWrite (takes : s.takes w (pgAxis n) Reg.axis.QPTR) :
    ∃ S, (s.dev.advance w.dt).Stores (pgAxis n) Reg.axis.QPTR S ∧ exec (.qptrTailWrite n w) s =
      .next (s.after (S.setQueue n { s.dev.queue n with tail := fld w.data 24 16 })) := by
  obtain ⟨S, stores, next⟩ := qptr_reg.accepted here direct takes
  have tail : fld (s.axisForms n Reg.axis.QPTR qptrFields w).m 24 16 = fld w.data 24 16 :=
    fld_formWrite_m _ _ _ _ (by decide) (by decide) (fun i _ hi => by interval_cases i <;> rfl) rfl rfl rfl
  rw [actAxis_qptr, tail, stores.queue, Dev.queue_advance] at next
  exact ⟨S, stores, next⟩

/-- A write of QCTRL: the store, and the flush (R93) or the end of a fault (R92). -/
theorem exec_qctrl (takes : s.takes w (pgAxis n) Reg.axis.QCTRL) :
    ∃ S, (s.dev.advance w.dt).Stores (pgAxis n) Reg.axis.QCTRL S ∧
      (w.data.getLsbD 0 = true → w.data.getLsbD 1 = false → exec (.flush n w) s = .next (s.after (flushQueue S n))) ∧
      (w.data.getLsbD 0 = false → w.data.getLsbD 1 = true → exec (.resume n w) s = .next (s.after (resumeQueue S n))) := by
  obtain ⟨S, stores, next⟩ := qctrl_reg.accepted here direct takes
  have flush : bit (s.axisForms n Reg.axis.QCTRL qctrlFields w).wo 0 = w.data.getLsbD 0 :=
    (formWrite_wo _ _ _ _ _ _ rfl).trans (bit_eq_getLsbD _ _)
  have resume : bit (s.axisForms n Reg.axis.QCTRL qctrlFields w).wo 1 = w.data.getLsbD 1 :=
    (formWrite_wo _ _ _ _ _ _ rfl).trans (bit_eq_getLsbD _ _)
  refine ⟨S, stores, fun f r => ?_, fun f r => ?_⟩
  · rwa [actAxis_flush _ _ _ _ (flush.trans f) (resume.trans r)] at next
  · rwa [actAxis_resume _ _ _ _ (flush.trans f) (resume.trans r)] at next

/-- A write of OBSCAL: the store, and the start (R255) or the end (R256) of a calibration. -/
theorem exec_obscal (takes : s.takes w (pgAxis n) Reg.axis.OBSCAL) :
    ∃ S, (s.dev.advance w.dt).Stores (pgAxis n) Reg.axis.OBSCAL S ∧
      (w.data.getLsbD 34 = false → w.data.getLsbD 35 = true →
        exec (.obscalGo n w) s = .next (s.after (obscalGo S n w.data))) ∧
      (w.data.getLsbD 34 = true → w.data.getLsbD 35 = false →
        exec (.obscalAbort n w) s = .next (s.after (calAbort S n))) := by
  obtain ⟨S, stores, next⟩ := obscal_reg.accepted here direct takes
  have abort : bit (s.axisForms n Reg.axis.OBSCAL obscalFields w).wo 34 = w.data.getLsbD 34 :=
    (formWrite_wo _ _ _ _ _ _ rfl).trans (bit_eq_getLsbD _ _)
  have go : bit (s.axisForms n Reg.axis.OBSCAL obscalFields w).wo 35 = w.data.getLsbD 35 :=
    (formWrite_wo _ _ _ _ _ _ rfl).trans (bit_eq_getLsbD _ _)
  have ncal : fld (s.axisForms n Reg.axis.OBSCAL obscalFields w).wo 3 0 = fld w.data 3 0 :=
    fld_formWrite_wo _ _ _ _ (by decide) fun i _ hi => by interval_cases i <;> rfl
  have refm : fld (s.axisForms n Reg.axis.OBSCAL obscalFields w).wo 25 16 = fld w.data 25 16 :=
    fld_formWrite_wo _ _ _ _ (by decide) fun i _ hi => by interval_cases i <;> rfl
  refine ⟨S, stores, fun a g => ?_, fun a g => ?_⟩
  · rwa [actAxis_obscalGo _ _ _ _ (abort.trans a) (go.trans g), obscalGo_congr S n ncal refm] at next
  · rwa [actAxis_obscalAbort _ _ _ _ (abort.trans a) (go.trans g)] at next

/-- A write of TRUSTSET.SET: the store, which keeps the register, and TRUST (R252). -/
theorem exec_trustset (takes : s.takes w (pgAxis n) Reg.axis.TRUSTSET) (set : w.data.getLsbD 0 = true) :
    ∃ S, (s.dev.advance w.dt).Stores (pgAxis n) Reg.axis.TRUSTSET S ∧
      exec (.trustset n w) s = .next (s.after (trustSet S n)) := by
  obtain ⟨S, stores, next⟩ := trustset_reg.accepted here direct takes
  have written : bit (s.axisForms n Reg.axis.TRUSTSET trustsetFields w).m 0 = true :=
    (formWrite_m _ _ _ _ .direct _ 0 (by decide) rfl rfl rfl rfl).trans ((bit_eq_getLsbD _ _).trans set)
  rw [actAxis_trustset _ _ _ _ written] at next
  exact ⟨S, stores, next⟩

end commands

/-- Settles O37: each register by what its write stores and then does to the queue, the plan or the observer, which the
store leaves as they were. -/
theorem axisWrites : Obligations.AxisWrites := by
  intro s n w here direct
  refine ⟨exec_qptrTailWrite here direct, fun takes => ?qctrl, fun takes => ?obscal, fun takes set => ?trust⟩
  case qctrl =>
    obtain ⟨S, stores, flush, resume⟩ := exec_qctrl here direct takes
    have queue : S.queue n = s.dev.queue n := (stores.queue n).trans (s.dev.queue_advance w.dt n)
    have plan : S.plan n = s.dev.plan n := (stores.plan n).trans (s.dev.plan_advance w.dt n)
    rw [← queue, ← plan]
    exact ⟨S, stores, flush, resume⟩
  case obscal =>
    obtain ⟨S, stores, go, abort⟩ := exec_obscal here direct takes
    have ob : S.ob n = s.dev.ob n := (stores.ob n).trans (s.dev.ob_advance w.dt n)
    rw [← ob]
    refine ⟨S, stores, go, fun a g => ⟨fun running => ?_, fun idle => ?_⟩⟩
    · rw [abort a g, calAbort_running running]
    · rw [abort a g, calAbort_none idle]
  case trust =>
    obtain ⟨S, stores, next⟩ := exec_trustset here direct takes set
    have ob : S.ob n = s.dev.ob n := (stores.ob n).trans (s.dev.ob_advance w.dt n)
    rw [← ob]
    exact ⟨S, stores, next⟩

end Sys2Proof.Machine
end

section
/-!
PROOF. The Sernyx master that is lost (R110), and the points that the Scribe fetches (R118 to R120, R123).
-/
namespace Sys2Proof.Machine

/-! ### A lost master (R110) -/

/-- With SRC NODE a broadcast older than HOLD cycles is a lost master. -/
theorem Dev.coordLost_of_stale {d : Dev} {b : Broadcast} (full : d.variant.full = true)
    (node : d.rf pgScribe Reg.scribe.MSRC 2 0 = 3) (heard : d.scr.mlost = false) (last : d.scr.broadcast = some b)
    (stale : d.rf pgScribe Reg.scribe.MSRC 27 24 < (d.cycleNow + 2 ^ 36 - b.cycle) % 2 ^ 36) : d.coordLost = true := by
  simp only [Dev.coordLost, full, node, heard, last, stale, decide_true, beq_self_eq_true, Bool.not_false, Bool.and_self]

/-- Settles O14: such a master is lost, and the loss changes the Scribe and its event only. -/
theorem masterLost : Obligations.MasterLost := by
  intro s b runs settled full node heard last stale
  exact State.does_besideGroves runs settled coordLoss (if_pos (Dev.coordLost_of_stale full node heard last stale)) rfl rfl

/-! ### The Inkwell's ring and its pointers -/

@[simp] theorem Dev.part_advance (d : Dev) (k i : Nat) : (d.advance k).part i = d.part i := by simp [Dev.part]
@[simp] theorem Dev.ringN_advance (d : Dev) (k : Nat) : (d.advance k).ringN = d.ringN := by simp [Dev.ringN]
@[simp] theorem Dev.scrRD_advance (d : Dev) (k : Nat) : (d.advance k).scrRD = d.scrRD := by simp [Dev.scrRD]
@[simp] theorem Dev.scrWR_advance (d : Dev) (k : Nat) : (d.advance k).scrWR = d.scrWR := by simp [Dev.scrWR]
@[simp] theorem Dev.fetchPtr_advance (d : Dev) (k : Nat) : (d.advance k).fetchPtr = d.fetchPtr := by simp [Dev.fetchPtr]
@[simp] theorem Dev.pointAddr_advance (d : Dev) (k i : Nat) : (d.advance k).pointAddr i = d.pointAddr i := by
  simp [Dev.pointAddr]

/-! ### Fetching a point (R118, R119) -/

/-- A word without an error in its check bits is read as it is (R40). -/
theorem Dev.memGet_clean {d : Dev} {a : Nat} (clean : (d.mem.at a).ecc = .clean) : d.memGet a = (.ok (d.mem.at a).data, d) := by
  simp [Dev.memGet, clean]

/-- The point at the fetch pointer may be fetched: the budget of the tick, the table and the ring allow it (R118). -/
structure Dev.MayFetch (d : Dev) : Prop where
  full : d.variant.full = true
  running : d.scr.running = true
  budget : d.scr.fetched < d.tb.tper / 200
  room : d.scr.table.length < 512
  more : d.fetchPtr ≠ d.scrWR
  ring : d.ringN ≠ 0

theorem Dev.MayFetch.advance {d : Dev} (h : d.MayFetch) (k : Nat) : (d.advance k).MayFetch where
  full := by simpa using h.full
  running := by simpa using h.running
  budget := by simpa using h.budget
  room := by simpa using h.room
  more := by simpa using h.more
  ring := by simpa using h.ring

/-- The point that lies at the fetch pointer in the words `w0` and `w1`, both read without error. -/
structure Dev.PointAt (d : Dev) (w0 w1 : Word) : Prop where
  clean0 : (d.mem.at (d.pointAddr d.fetchPtr)).ecc = .clean
  clean1 : (d.mem.at (d.pointAddr d.fetchPtr + 1)).ecc = .clean
  word0 : (d.mem.at (d.pointAddr d.fetchPtr)).data = w0
  word1 : (d.mem.at (d.pointAddr d.fetchPtr + 1)).data = w1

theorem Dev.PointAt.advance {d : Dev} {w0 w1 : Word} (h : d.PointAt w0 w1) (k : Nat) : (d.advance k).PointAt w0 w1 where
  clean0 := by simpa using h.clean0
  clean1 := by simpa using h.clean1
  word0 := by simpa using h.word0
  word1 := by simpa using h.word1

/-- A point passes the checks of its fetch: it lies within the lookahead (R118), and is neither done (R120), nor of an old
generation, nor out of order (R119). -/
structure Dev.Passes (d : Dev) (w0 w1 : Word) : Prop where
  near : serial ((w0.toNat : Int) - (d.scr.hwm : Int)) ≤ d.scr.ldmax + (d.rf pgScribe Reg.scribe.LOOKPAD 23 0 : Nat)
  undone : bit w1 8 = false
  current : (fld w1 14 11 + 16 - d.rf pgScribe Reg.scribe.GEN 3 0) % 16 < 8
  ordered : ∀ x, d.scr.xprev = some x → 0 ≤ serial ((w0.toNat : Int) - (x : Int))

theorem Dev.Passes.advance {d : Dev} {w0 w1 : Word} (h : d.Passes w0 w1) (k : Nat) : (d.advance k).Passes w0 w1 where
  near := by simpa using h.near
  undone := h.undone
  current := by simpa using h.current
  ordered := by simpa using h.ordered

/-- The Scribe with a fetched point in its table. -/
def Scribe.fetchedWith (x : Scribe) (p : Point) : Scribe :=
  { x with table := x.table ++ [p], fetched := x.fetched + 1, xprev := some p.x }

/-- A point that may be fetched and passes goes into the table as pending (R123), and nothing else changes. -/
theorem fetchPoint_passes {d : Dev} {w0 w1 : Word} (may : d.MayFetch) (point : d.PointAt w0 w1) (passes : d.Passes w0 w1) :
    fetchPoint d d.tb.tper = d.setScr (d.scr.fetchedWith (pointOf d.fetchPtr w0 w1)) := by
  obtain ⟨full, running, budget, room, more, ring⟩ := may
  obtain ⟨clean0, clean1, word0, word1⟩ := point
  obtain ⟨near, undone, current, ordered⟩ := passes
  have allowed : ¬ ((!(d.scr.running && d.variant.full)) = true ∨ fetchBudget d.tb.tper ≤ d.scr.fetched ∨
      512 ≤ d.scr.table.length ∨ d.fetchPtr = d.scrWR ∨ d.ringN = 0) := by
    simp [running, full, more, ring, fetchBudget, budget, room]
  have current' : ¬ 8 ≤ (fld w1 14 11 + 16 - d.rf pgScribe Reg.scribe.GEN 3 0) % 16 := Nat.not_le.mpr current
  simp only [fetchPoint, if_neg allowed, Dev.memGet_clean clean0, Dev.memGet_clean clean1, word0, word1, near, undone,
    if_neg current', decide_true, Bool.not_true, Bool.false_eq_true, if_false]
  cases prev : d.scr.xprev with
  | none => rfl
  | some x =>
    have inOrder : ¬ serial (((pointOf d.fetchPtr w0 w1).x : Int) - (x : Int)) < 0 := Int.not_lt.mpr (ordered x prev)
    simp only [if_neg inOrder]
    rfl

/-- Settles O15: the time up to the fetch changes none of what it looks at, and then the point is fetched. -/
theorem scribeFetches : Obligations.ScribeFetches := by
  intro s dt runs settled full running budget room more ring a w0 w1 clean0 clean1 near undone current ordered
  have may : s.dev.MayFetch := ⟨full, running, budget, room, more, ring⟩
  have point : s.dev.PointAt w0 w1 := ⟨clean0, clean1, rfl, rfl⟩
  have passes : s.dev.Passes w0 w1 := ⟨near, undone, current, ordered⟩
  have fetched := fetchPoint_passes (may.advance dt) (point.advance dt) (passes.advance dt)
  rw [Dev.advance_scr, Dev.fetchPtr_advance] at fetched
  have dev : (s.after (fetchPoint (s.dev.advance dt) (s.dev.advance dt).tb.tper)).dev = _ :=
    (s.after_dev_of_settled (by
      rw [fetched]
      exact Dev.settled_of_groves settled (s.dev.advance_variant dt) (s.dev.advance_groves dt))).trans fetched
  refine ⟨_, pointOf s.dev.fetchPtr w0 w1, s.does_inIslands dt (fun d => fetchPoint d d.tb.tper) runs, State.after_pending ..,
    ?_, rfl, rfl, rfl, rfl, rfl, ?_⟩
  · rw [dev]
    rfl
  · rw [dev, ← s.dev.advance_scr dt]
    rfl

end Sys2Proof.Machine
end

section
/-!
SUPPORT. Writes that nothing refuses of registers below page 0x100 that have no buffered field: the word that they store.
-/
namespace Sys2Proof.Machine

/-- Offset `off` of page `p`, a page below 0x100 of a full variant, is a register with the fields `fs` that is one word by
itself, stores it, takes writes, has no buffered field and lies beside the common layout's own writes. -/
structure LowReg (k : PageKind) (p off : Nat) (fs : List RegField) : Prop where
  kind : pageKind p = some k
  low : p < 0x100
  notPort : p ≠ pgHostp
  notSupv : (k == .supv) = false
  fields : fieldsAt k off = some fs
  small : off < 1024
  unlock : off ≠ Reg.PAGE_LOCK
  err : off ≠ Reg.PAGE_ERR
  writes : (!fs.isEmpty && fs.all (fun f => !f.writable)) = false
  single : pairPart k off = .single
  plain : maskOf fs RegField.buffered = 0
  keeps : actsOnly k off = false

theorem LowReg.singleReg {k : PageKind} {p off : Nat} {fs : List RegField} (reg : LowReg k p off fs) {d : Dev}
    (full : d.variant.full = true) (awake : d.sup.inReset = false) : SingleReg d k p off fs where
  kind := reg.kind
  here := by simp [pagePresent, reg.kind, full, Nat.not_le.mpr reg.low]
  awake := awake
  fields := reg.fields
  unlock := reg.unlock
  writes := reg.writes
  heeded := by simp only [ignoresWrites, reg.notSupv, Bool.false_and]
  single := reg.single

/-- The word that a write of register `off` of page `p` forms at its instant through the direct window. -/
def State.forms (s : State) (p off : Nat) (fs : List RegField) (w : RegWrite) : Formed :=
  formWrite (s.dev.advance w.dt) p off fs .direct w.data

section forms
variable (s : State) (p off : Nat) (w : RegWrite) {fs : List RegField}

/-- A WO bit acts as written (R53). -/
theorem State.bit_forms_wo {i : Nat} (wo : bit (maskOf fs (fun f => f.ty == .wo)) i = true) :
    bit (s.forms p off fs w).wo i = w.data.getLsbD i :=
  (formWrite_wo _ p off fs w.data i wo).trans (bit_eq_getLsbD ..)

/-- A WO field acts as written. -/
theorem State.fld_forms_wo {hi lo : Nat} (hl : lo ≤ hi) (wo : covers (maskOf fs (fun f => f.ty == .wo)) hi lo) :
    fld (s.forms p off fs w).wo hi lo = fld w.data hi lo := fld_formWrite_wo _ p off w.data hl wo

/-- An RW bit is stored as written, where no field is W1C. -/
theorem State.bit_forms_now {i : Nat} (hi : i < 36)
    (rw : bit (maskOf fs (fun f => f.ty == .rw || f.ty == .rwk)) i = true) (w1c : maskOf fs (fun f => f.ty == .w1c) = 0) :
    bit (s.forms p off fs w).now i = bit w.data i :=
  formWrite_now _ p off fs .direct w.data i hi rw (by simp [w1c, bit])

/-- An RW field is stored as written. -/
theorem State.fld_forms_now {hi lo : Nat} (hl : lo ≤ hi) (hh : hi < 36)
    (rw : covers (maskOf fs (fun f => f.ty == .rw || f.ty == .rwk)) hi lo) (w1c : maskOf fs (fun f => f.ty == .w1c) = 0) :
    fld (s.forms p off fs w).now hi lo = fld w.data hi lo :=
  fld_congr hl fun i hlo hhi => s.bit_forms_now p off w (by omega) (rw i hlo hhi) w1c

end forms

/-- A write of such a register that nothing refuses: the store, the word stored, and what the register does. -/
theorem LowReg.accepted {k : PageKind} {p off : Nat} {fs : List RegField} (reg : LowReg k p off fs) {s : State} {w : RegWrite}
    (full : s.dev.variant.full = true) (direct : w.win = .direct) (takes : s.takes w p off) :
    ∃ S, (s.dev.advance w.dt).Stores p off S ∧ S.rd p off = (s.forms p off fs w).now ∧
      s.writes w p off = .next (s.after (actWrite S k p off w.req.id true (s.dev.rd p off) (s.forms p off fs w).m
        (s.forms p off fs w).wo (s.forms p off fs w).clr)) := by
  have single : SingleReg (s.dev.advance w.dt) k p off fs := reg.singleReg (by simpa using full) takes.awake
  refine ⟨_, (s.dev.advance w.dt).stores_wr w.req.id (s.forms p off fs w).keyed (s.forms p off fs w).now reg.small,
    Dev.rd_wr_eq .., ?_⟩
  rw [State.writes_of_takes takes, writeCommand_accepted single w takes.2 (.inl reg.notPort),
    storeWrite_low _ _ _ _ _ reg.low (formWrite_shadow _ _ _ _ _ _ reg.plain) reg.keeps, direct, Dev.rd_advance]
  rfl

theorem Dev.Stores.scr {d S : Dev} {p off : Nat} (h : d.Stores p off S) : S.scr = d.scr := (congrArg Dev.scr h.same :)

end Sys2Proof.Machine
end

section
/-!
PROOF. Writes of the Scribe and of the stroke library, and the end of a check (R111, R115, R117, R120, R142).
-/
namespace Sys2Proof.Machine

/-! ### Registers of the SCRIBE and STROKE pages -/

def scribeCtrlFields : List RegField := [bf 0 0 .rw 0, bf 1 1 .wo 0]
def ringPtrFields : List RegField := [bf 21 0 .rw 0]
def msrcFields : List RegField :=
  [bf 34 30 .rw 0, bf 28 28 .rw 0, bf 27 24 .rw 4, bf 23 20 .rw 5, bf 18 12 .rw 0, bf 11 8 .rw 0, bf 2 0 .rw 0]
def checkFields : List RegField := [bf 35 35 .wo 0, bf 30 16 .wo 0, bf 13 0 .wo 0]

theorem scribeCtrl_reg : LowReg .scribe pgScribe Reg.PAGE_CTRL scribeCtrlFields :=
  ⟨rfl, by decide, by decide, rfl, rfl, by decide, by decide, by decide, rfl, rfl, rfl, rfl⟩
theorem scribeWR_reg : LowReg .scribe pgScribe Reg.scribe.WR ringPtrFields :=
  ⟨rfl, by decide, by decide, rfl, rfl, by decide, by decide, by decide, rfl, rfl, rfl, rfl⟩
theorem scribeRD_reg : LowReg .scribe pgScribe Reg.scribe.RD ringPtrFields :=
  ⟨rfl, by decide, by decide, rfl, rfl, by decide, by decide, by decide, rfl, rfl, rfl, rfl⟩
theorem msrc_reg : LowReg .scribe pgScribe Reg.scribe.MSRC msrcFields :=
  ⟨rfl, by decide, by decide, rfl, rfl, by decide, by decide, by decide, rfl, rfl, rfl, rfl⟩
theorem strokeCheck_reg : LowReg .stroke pgStroke Reg.stroke.CHECK checkFields :=
  ⟨rfl, by decide, by decide, rfl, rfl, by decide, by decide, by decide, rfl, rfl, rfl, rfl⟩

/-! ### What the registers do -/

section acts
variable (d : Dev) (req : Nat) (direct : Bool) (old m clr : Word)

/-- A write of PAGE_CTRL without its WO bit 1, which clears counters, does nothing beside its store. -/
theorem actWrite_scribeCtrl {wo : Word} (keep : bit wo 1 = false) :
    actWrite d .scribe pgScribe Reg.PAGE_CTRL req direct old m wo clr = d := by
  simp [actWrite, actScribe, keep]

theorem actWrite_scribeWR (wo : Word) : actWrite d .scribe pgScribe Reg.scribe.WR req direct old m wo clr = d := rfl

theorem actWrite_scribeRD (wo : Word) : actWrite d .scribe pgScribe Reg.scribe.RD req direct old m wo clr =
    fillEvents (clearTable d) (ringFill d.ringN (fld old 21 0) d.scrWR) := rfl

theorem actWrite_msrc (wo : Word) :
    actWrite d .scribe pgScribe Reg.scribe.MSRC req direct old m wo clr = msrcWritten d old := rfl

theorem actWrite_strokeCheck {wo : Word} (go : bit wo 35 = true) :
    actWrite d .stroke pgStroke Reg.stroke.CHECK req direct old m wo clr = checkGo d wo := by
  simp [actWrite, actStroke, go]

end acts

/-- The fields of MSRC by which it names its source (R111). -/
def sameSource (a b : Word) : Prop :=
  fld a 2 0 = fld b 2 0 ∧ fld a 11 8 = fld b 11 8 ∧ fld a 18 12 = fld b 18 12 ∧ fld a 34 30 = fld b 34 30

theorem msrcWritten_same {d : Dev} {old : Word} (same : sameSource old (d.rd pgScribe Reg.scribe.MSRC)) :
    msrcWritten d old = d := if_pos same

theorem msrcWritten_other {d : Dev} {old : Word} (other : ¬ sameSource old (d.rd pgScribe Reg.scribe.MSRC)) :
    msrcWritten d old = d.setScr { d.scr with reanchor := true } := if_neg other

/-! ### The events of a falling FILL (R117) -/

/-- An event bit that reads 1 stays so when the device sets another. -/
theorem Dev.ev_keeps (d : Dev) (p i : Nat) {j : Nat} (h : (d.rd p Reg.PAGE_EVT).getLsbD j = true) :
    ((d.ev p i).rd p Reg.PAGE_EVT).getLsbD j = true := by
  have small : j < 36 := BitVec.lt_of_getLsbD h
  have set : (d.rd p Reg.PAGE_EVT).toNat.testBit j = true := h
  show (((d.wr p Reg.PAGE_EVT (BitVec.ofNat 36 ((d.rd p Reg.PAGE_EVT).toNat ||| 2 ^ i))).rd p Reg.PAGE_EVT)).getLsbD j = true
  rw [Dev.rd_wr_eq, BitVec.getLsbD_ofNat, Nat.testBit_or, set]
  simp [small]

section fill
variable {d : Dev} {was : Nat}

theorem fillEvents_scr (d : Dev) (was : Nat) : (fillEvents d was).scr = d.scr := by
  unfold fillEvents
  dsimp only
  split <;> split <;> rfl

/-- They change the Scribe's events only. -/
theorem rd_fillEvents_of_ne (d : Dev) (was q : Nat) {o : Nat} (ho : o < 1024) (other : o ≠ Reg.PAGE_EVT) :
    (fillEvents d was).rd q o = d.rd q o := by
  have beside : ∀ (e : Dev) (i : Nat), (e.ev pgScribe i).rd q o = e.rd q o := fun e i =>
    e.rd_ev_ne i fun same => other ((key_inj (by decide) ho).mp same).2.symm
  unfold fillEvents
  dsimp only
  split <;> split <;> simp only [beside]

theorem fillEvents_low (above : d.rf pgScribe Reg.scribe.LOWMARK 21 0 < was)
    (reached : d.scrFill ≤ d.rf pgScribe Reg.scribe.LOWMARK 21 0) :
    ((fillEvents d was).rd pgScribe Reg.PAGE_EVT).getLsbD 0 = true := by
  have low := d.ev_bit pgScribe 0 (by decide)
  unfold fillEvents
  simp only [if_pos (And.intro above reached)]
  split
  · exact Dev.ev_keeps _ _ _ low
  · exact low

theorem fillEvents_empty (filled : 0 < was) (empty : d.scrFill = 0) :
    ((fillEvents d was).rd pgScribe Reg.PAGE_EVT).getLsbD 1 = true := by
  unfold fillEvents
  simp only [if_pos (And.intro filled empty)]
  exact Dev.ev_bit _ _ _ (by decide)

end fill

/-! ### The commands -/

section commands
variable {s : State} {w : RegWrite} (full : s.dev.variant.full = true) (direct : w.win = .direct)
include full direct

/-- A write of SCRIBE.PAGE_CTRL that leaves the counters: RUN is stored (R120). -/
theorem exec_scribeRun (takes : s.takes w pgScribe Reg.PAGE_CTRL) (keep : w.data.getLsbD 1 = false) :
    ∃ S, (s.dev.advance w.dt).Stores pgScribe Reg.PAGE_CTRL S ∧ S.rb pgScribe Reg.PAGE_CTRL 0 = w.data.getLsbD 0 ∧
      exec (.scribeRun w) s = .next (s.after S) := by
  obtain ⟨S, stores, word, next⟩ := scribeCtrl_reg.accepted full direct takes
  have unset := (s.bit_forms_wo pgScribe Reg.PAGE_CTRL w (fs := scribeCtrlFields) (i := 1) rfl).trans keep
  rw [actWrite_scribeCtrl _ _ _ _ _ _ unset] at next
  refine ⟨S, stores, ?_, next⟩
  rw [Dev.rb, word, State.bit_forms_now _ _ _ _ (by decide) rfl rfl, bit_eq_getLsbD]

/-- A write of SCRIBE.WR: the write pointer (R115). -/
theorem exec_inkwellWrWrite (takes : s.takes w pgScribe Reg.scribe.WR) :
    ∃ S, (s.dev.advance w.dt).Stores pgScribe Reg.scribe.WR S ∧ S.scrWR = fld w.data 21 0 ∧
      exec (.inkwellWrWrite w) s = .next (s.after S) := by
  obtain ⟨S, stores, word, next⟩ := scribeWR_reg.accepted full direct takes
  rw [actWrite_scribeWR] at next
  refine ⟨S, stores, ?_, next⟩
  rw [Dev.scrWR, Dev.rf, word]
  exact s.fld_forms_now _ _ _ (by decide) (by decide) (fun i _ hi => by interval_cases i <;> rfl) rfl

/-- A write of SCRIBE.RD: the read pointer, an empty table, and the events of the fall from the FILL before (R115, R117). -/
theorem exec_inkwellRdWrite (takes : s.takes w pgScribe Reg.scribe.RD) :
    ∃ S, (s.dev.advance w.dt).Stores pgScribe Reg.scribe.RD S ∧ S.scrRD = fld w.data 21 0 ∧
      exec (.inkwellRdWrite w) s = .next (s.after (fillEvents (clearTable S) s.dev.scrFill)) := by
  obtain ⟨S, stores, word, next⟩ := scribeRD_reg.accepted full direct takes
  have others : ∀ p o, o < 1024 → ¬ (p = pgScribe ∧ o = Reg.scribe.RD) → S.rd p o = s.dev.rd p o := fun p o ho other =>
    (stores.rd p o ho other).trans (s.dev.rd_advance ..)
  have size : S.ringN = s.dev.ringN := by
    rw [Dev.ringN, Dev.ringN, Dev.part, Dev.part, others _ _ (by decide) (by decide)]
  have wr : S.scrWR = s.dev.scrWR := by
    rw [Dev.scrWR, Dev.scrWR, Dev.rf, Dev.rf, others _ _ (by decide) (by decide)]
  rw [actWrite_scribeRD, size, wr] at next
  refine ⟨S, stores, ?_, next⟩
  rw [Dev.scrRD, Dev.rf, word]
  exact s.fld_forms_now _ _ _ (by decide) (by decide) (fun i _ hi => by interval_cases i <;> rfl) rfl

/-- A write of MSRC: its fields, and a new anchor where it names another source (R111). -/
theorem exec_msrcWrite (takes : s.takes w pgScribe Reg.scribe.MSRC) :
    ∃ S, (s.dev.advance w.dt).Stores pgScribe Reg.scribe.MSRC S ∧ S.rf pgScribe Reg.scribe.MSRC 2 0 = fld w.data 2 0 ∧
      (sameSource (s.dev.rd pgScribe Reg.scribe.MSRC) w.data → exec (.msrcWrite w) s = .next (s.after S)) ∧
      (¬ sameSource (s.dev.rd pgScribe Reg.scribe.MSRC) w.data →
        exec (.msrcWrite w) s = .next (s.after (S.setScr { S.scr with reanchor := true }))) := by
  obtain ⟨S, stores, word, next⟩ := msrc_reg.accepted full direct takes
  have stored : ∀ {hi lo : Nat}, lo ≤ hi → hi < 36 →
      covers (maskOf msrcFields (fun f => f.ty == .rw || f.ty == .rwk)) hi lo →
      fld (S.rd pgScribe Reg.scribe.MSRC) hi lo = fld w.data hi lo := fun hl hh rw => by
    rw [word]
    exact s.fld_forms_now _ _ _ hl hh rw rfl
  have src := stored (hi := 2) (lo := 0) (by decide) (by decide) fun i _ hi => by interval_cases i <;> rfl
  have qchan := stored (hi := 11) (lo := 8) (by decide) (by decide) fun i _ hi => by interval_cases i <;> rfl
  have axis := stored (hi := 18) (lo := 12) (by decide) (by decide) fun i _ hi => by interval_cases i <;> rfl
  have node := stored (hi := 34) (lo := 30) (by decide) (by decide) fun i _ hi => by interval_cases i <;> rfl
  have written : ∀ old, sameSource old (S.rd pgScribe Reg.scribe.MSRC) ↔ sameSource old w.data := fun old => by
    rw [sameSource, src, qchan, axis, node, sameSource]
  rw [actWrite_msrc] at next
  refine ⟨S, stores, src, fun same => ?_, fun other => ?_⟩
  · rwa [msrcWritten_same ((written _).mpr same)] at next
  · rwa [msrcWritten_other fun h => other ((written _).mp h)] at next

/-- A write of STROKE.CHECK with GO: the check begins with START and COUNT (R142). -/
theorem exec_strokeCheck (takes : s.takes w pgStroke Reg.stroke.CHECK) (go : w.data.getLsbD 35 = true) :
    ∃ S, (s.dev.advance w.dt).Stores pgStroke Reg.stroke.CHECK S ∧ exec (.strokeCheck w) s = .next (s.after
      (S.setScr { S.scr with chkBusy := some (fld w.data 13 0, fld w.data 30 16) })) := by
  obtain ⟨S, stores, -, next⟩ := strokeCheck_reg.accepted full direct takes
  have set := (s.bit_forms_wo pgStroke Reg.stroke.CHECK w (fs := checkFields) (i := 35) rfl).trans go
  have start := s.fld_forms_wo pgStroke Reg.stroke.CHECK w (fs := checkFields) (hi := 13) (lo := 0) (by decide)
    fun i _ hi => by interval_cases i <;> rfl
  have count := s.fld_forms_wo pgStroke Reg.stroke.CHECK w (fs := checkFields) (hi := 30) (lo := 16) (by decide)
    fun i _ hi => by interval_cases i <;> rfl
  rw [actWrite_strokeCheck _ _ _ _ _ _ set, checkGo, start, count] at next
  exact ⟨S, stores, next⟩

end commands

/-! ### The end of a check (R142) -/

/-- The word of CHKSTAT for the outcome of a check. -/
def chkstatWord : Option (Nat × Nat) → Word
  | some (stroke, cause) => mkw [(33, 1), (16, stroke), (0, cause)]
  | none => 0

/-- The end of a check that runs: its outcome and CHKDONE. -/
theorem checkDone_of_busy {d : Dev} {start count : Nat} (busy : d.scr.chkBusy = some (start, count)) :
    checkDone d = ((d.setScr { d.scr with chkBusy := none }).wr pgStroke Reg.stroke.CHKSTAT
      (chkstatWord (checkStrokes d start count))).ev pgStroke 0 := by
  simp only [checkDone, busy]
  cases checkStrokes d start count <;> rfl

/-- Settles O38: each write by what it stores and then does to the Scribe, and the end of a check by its outcome. -/
theorem scribeWrites : Obligations.ScribeWrites := by
  intro s w full
  refine ⟨fun direct => ⟨exec_scribeRun full direct, exec_inkwellWrWrite full direct, fun takes => ?rd, fun takes => ?msrc,
    fun takes go => ?check⟩, fun dt start count runs busy => ?done⟩
  case rd =>
    obtain ⟨S, stores, ptr, next⟩ := exec_inkwellRdWrite full direct takes
    have scr : S.scr = s.dev.scr := stores.scr.trans (s.dev.advance_scr w.dt)
    refine ⟨S, stores, ptr, _, next, ?_, fun q o ho other => rd_fillEvents_of_ne _ _ q ho other,
      fillEvents_low (d := clearTable S), fillEvents_empty (d := clearTable S)⟩
    rw [fillEvents_scr, ← scr]
    rfl
  case msrc =>
    obtain ⟨S, stores, src, same, other⟩ := exec_msrcWrite full direct takes
    rw [← s.dev.advance_scr w.dt, ← stores.scr]
    exact ⟨S, stores, src, same, other⟩
  case check =>
    obtain ⟨S, stores, next⟩ := exec_strokeCheck full direct takes go
    rw [← s.dev.advance_scr w.dt, ← stores.scr]
    exact ⟨S, stores, next⟩
  case done =>
    have ended := checkDone_of_busy ((congrArg Scribe.chkBusy (s.dev.advance_scr dt)).trans busy)
    refine ⟨_, s.does_inIslands dt checkDone runs, ?_⟩
    rw [ended]
    refine ⟨?_, Dev.ev_bit _ _ _ (by decide), ?_⟩
    · rw [← s.dev.advance_scr dt]
      rfl
    · rw [Dev.rd_ev_ne _ _ (by decide), Dev.rd_wr_eq]
      cases checkStrokes (s.dev.advance dt) start count <;> rfl

end Sys2Proof.Machine
end

section
/-!
SUPPORT. What a running grove answers after a time, and what its carrier counter and its converters can change: the counter's
own fields, and the grove's converters and their pages.
-/
namespace Sys2Proof.Machine

/-! ### A running grove -/

/-- A command of a running grove answers the state after its effect, `dt` gck from now. -/
theorem State.does_inGroveAfter (s : State) (g dt : Nat) (f : Dev → Dev) (live : s.live g) :
    s.does (inGrove g dt f) = .next (s.after (f (s.dev.advance dt))) := by
  have ⟨runs, _, _⟩ := (s.dev.groveLive_iff g).mp live
  rw [State.does_eq s _ (Dev.awake_of_grovesRun runs), inGrove_eq g dt f _ live]

@[simp] theorem Dev.coil_advanceTo (d : Dev) (t c : Nat) : (d.advanceTo t).coil c = d.coil c := Dev.coil_advance ..
@[simp] theorem Dev.grove_advanceTo (d : Dev) (t g : Nat) : (d.advanceTo t).grove g = d.grove g := Dev.grove_advance ..
@[simp] theorem Dev.conv_advanceTo (d : Dev) (t c : Nat) : (d.advanceTo t).conv c = d.conv c := Dev.conv_advance ..
@[simp] theorem Dev.ob_advanceTo (d : Dev) (t n : Nat) : (d.advanceTo t).ob n = d.ob n := Dev.ob_advance ..
@[simp] theorem Dev.rf_advanceTo (d : Dev) (t p off hi lo : Nat) : (d.advanceTo t).rf p off hi lo = d.rf p off hi lo :=
  Dev.rf_advance ..

/-! ### The carrier counter (R154, R155) -/

theorem carTo_within (d : Dev) (g t : Nat) : d.Within g (carTo d g t) := by
  unfold carTo carTake
  exact .ite (.refl g d) (((d.setGrove_within g _).trans (Dev.setGrove_within _ g _)).trans (Dev.setGrove_within _ g _))

@[simp] theorem carTo_clk (d : Dev) (g t : Nat) : (carTo d g t).clk = d.clk := (carTo_within d g t).clk
@[simp] theorem carTo_coil (d : Dev) (g t c : Nat) : (carTo d g t).coil c = d.coil c := by
  obtain ⟨G, eq⟩ := carTo_groves d g t
  rw [eq]
  rfl
@[simp] theorem carTo_rf (d : Dev) (g t p off hi lo : Nat) : (carTo d g t).rf p off hi lo = d.rf p off hi lo := by
  obtain ⟨G, eq⟩ := carTo_groves d g t
  rw [eq]
  rfl

/-- The counts of the carrier's events do not follow its counter. -/
@[simp] theorem carTo_evOcc (d : Dev) (g t x : Nat) : ((carTo d g t).grove x).evOcc = (d.grove x).evOcc :=
  (congrArg Grove.evOcc (carTo_grove d g t x) :)

/-! ### The converters of a grove (R222 to R230) -/

/-- `d'` differs from `d` in the converters of grove `g` and in their pages only. -/
structure Dev.Converts (g : Nat) (d d' : Dev) : Prop where
  within : d.Within g d'
  same : { d' with convs := d.convs, regs := d.regs, rose := d.rose } = d
  rd : ∀ p off, off < 1024 → (∀ c, c / 4 = g → p ≠ pgCv c) → d'.rd p off = d.rd p off

theorem Dev.Converts.refl (g : Nat) (d : Dev) : d.Converts g d := ⟨.refl g d, rfl, fun _ _ _ _ => rfl⟩

theorem Dev.Converts.trans {g : Nat} {a b c : Dev} (h : a.Converts g b) (k : b.Converts g c) : a.Converts g c :=
  ⟨h.within.trans k.within,
    (congrArg (fun e : Dev => { e with convs := a.convs, regs := a.regs, rose := a.rose }) k.same :).trans h.same,
    fun p off ho hp => (k.rd p off ho hp).trans (h.rd p off ho hp)⟩

theorem Dev.Converts.ite {g : Nat} {d a b : Dev} {c : Prop} [Decidable c] (h : d.Converts g a) (k : d.Converts g b) :
    d.Converts g (if c then a else b) := by
  split <;> assumption

theorem Dev.Converts.each {g : Nat} (n : Nat) (f : Dev → Nat → Dev) (step : ∀ (d : Dev) i, i < n → d.Converts g (f d i))
    (d : Dev) : d.Converts g (d.each n f) := by
  induction n with
  | zero => exact .refl g d
  | succ n ih =>
    rw [Dev.each_succ]
    exact (ih fun d i hi => step d i (by omega)).trans (step _ n (by omega))

section fields
variable {g : Nat} {d d' : Dev} (h : d.Converts g d')
include h
theorem Dev.Converts.coil (c : Nat) : d'.coil c = d.coil c := (congrArg (fun e : Dev => e.coil c) h.same :)
theorem Dev.Converts.grove (x : Nat) : d'.grove x = d.grove x := (congrArg (fun e : Dev => e.grove x) h.same :)
theorem Dev.Converts.ob (n : Nat) : d'.ob n = d.ob n := (congrArg (fun e : Dev => e.ob n) h.same :)
end fields

theorem pgCarrier_ne_pgCv (g c : Nat) : pgCarrier g ≠ pgCv c := by
  simp only [pgCarrier, pgCv, pgConv, pgGrove]
  omega

theorem Dev.ConvOnly.converts {g : Nat} {d d' : Dev} (h : d.ConvOnly d') (within : d.Within g d') : d.Converts g d' := by
  obtain ⟨C, rfl⟩ := h
  exact ⟨within, rfl, fun _ _ _ _ => rfl⟩

theorem Dev.setConv_converts (d : Dev) {g c : Nat} (x : Conv) (h : c / 4 = g) : d.Converts g (d.setConv c x) :=
  (d.setConv_only c x).converts (d.setConv_within x h)

theorem Dev.cv_wr_converts (d : Dev) {g c off : Nat} (w : Word) (h : c / 4 = g) (ho : off < 1024) :
    d.Converts g (d.wr (pgCv c) off w) :=
  ⟨(pgCv_of h).wr d off w ho, rfl, fun _ _ hq other => d.rd_wr_ne w fun same => other c h ((key_inj ho hq).mp same).1.symm⟩

theorem Dev.cv_ev_converts (d : Dev) {g c : Nat} (i : Nat) (h : c / 4 = g) : d.Converts g (d.ev (pgCv c) i) :=
  ⟨(pgCv_of h).ev d i, rfl,
    fun _ _ hq other => d.rd_ev_ne i fun same => other c h ((key_inj (by decide) hq).mp same).1.symm⟩

theorem Dev.cv_incSat_converts (d : Dev) {g c off : Nat} (hi lo : Nat) (h : c / 4 = g) (ho : off < 1024) :
    d.Converts g (d.incSat (pgCv c) off hi lo) :=
  .ite (d.cv_wr_converts _ h ho) (.refl g d)

section converter
variable {g c : Nat} (d : Dev) (h : c / 4 = g)
include h

theorem startEntry_converts (e : Nat) (rerun : Bool) (t : Nat) : d.Converts g (startEntry d c e rerun t) :=
  d.setConv_converts _ h

theorem ignoreTrigger_converts : d.Converts g (ignoreTrigger d c) :=
  (d.cv_incSat_converts 23 0 h (by decide)).trans (Dev.cv_ev_converts _ 2 h)

theorem convTrigger_converts : d.Converts g (convTrigger d c) := by
  unfold convTrigger
  exact .ite (.refl g d) (.ite (ignoreTrigger_converts d h) (.ite (d.setConv_converts _ h) (startEntry_converts d h ..)))

theorem abortEntry_converts : d.Converts g (abortEntry d c) := by
  unfold abortEntry
  dsimp only
  split
  · refine .ite (.refl g d) (.ite (.ite (d.setConv_converts _ h) (d.setConv_converts _ h)) ?_)
    exact ((d.setConv_converts _ h).trans (Dev.cv_incSat_converts _ 23 0 h (by decide))).trans (Dev.cv_ev_converts _ 3 h)
  · exact .refl g d

theorem runUrgent_converts (u : Urgent) : d.Converts g (runUrgent d c u) :=
  (abortEntry_converts d h).trans (Dev.setConv_converts _ _ h)

end converter

/-- A trigger that a grove offers reaches its sequences only (R222). -/
theorem offerTrigger_converts (d : Dev) (g src sel : Nat) : d.Converts g (offerTrigger d g src sel) :=
  .each 4 _ (fun d i hi => .ite (convTrigger_converts d (by omega)) (.refl g d)) d

theorem removeRequest_converts (d : Dev) (g j : Nat) : d.Converts g (removeRequest d g j).2 :=
  (removeRequest_only d g j).converts (removeRequest_within d g j)

/-- A request is placed on converters of its own grove (R228). -/
theorem placeRequest_converts (d : Dev) (g : Nat) {u : Urgent} (named : u.named < 4) :
    d.Converts g (placeRequest d g u).2 := by
  have own : (4 * g + u.named) / 4 = g := by omega
  unfold placeRequest
  dsimp only
  split
  · exact runUrgent_converts d own u
  · split
    next i found =>
      have hi : i < 4 := List.mem_range.mp (List.mem_of_find?_eq_some found)
      have same : pgConv g i = pgCv (4 * g + i) := by
        rw [pgCv, show (4 * g + i) / 4 = g by omega, show (4 * g + i) % 4 = i by omega]
      rw [same]
      exact (runUrgent_converts d (by omega) u).trans (Dev.cv_incSat_converts _ 23 0 (by omega) (by decide))
    next =>
      split
      · exact d.setConv_converts _ own
      · exact (d.cv_incSat_converts 23 0 own (by decide)).trans (Dev.cv_ev_converts _ 4 own)

/-- The named converter takes the request at once where its urgent side is free (R228). -/
theorem placeRequest_of_free {d : Dev} {g : Nat} {u : Urgent} (free : (d.conv (4 * g + u.named)).free = true) :
    placeRequest d g u = (true, runUrgent d (4 * g + u.named) u) := if_pos free

/-- A converter that runs a request samples for it. -/
theorem runUrgent_run (d : Dev) (c : Nat) (u : Urgent) :
    ∃ r, ((runUrgent d c u).conv c).run = some r ∧ r.urgent = some u := by
  rw [runUrgent, startUrgent, Dev.conv_setConv]
  exact ⟨_, rfl, rfl⟩

end Sys2Proof.Machine
end

section
/-!
PROOF. Carrier events and their prescalers (R157).
-/
namespace Sys2Proof.Machine

theorem listSet_eq_set {α : Type} (l : List α) (i : Nat) (v : α) : listSet l i v = l.set i v := by
  induction l generalizing i with
  | nil => rfl
  | cons x t ih =>
    cases i with
    | zero => rfl
    | succ i => rw [listSet, ih, List.set_cons_succ]

theorem getD_listSet_self {α : Type} {l : List α} {i : Nat} (inside : i < l.length) (v dflt : α) :
    (listSet l i v).getD i dflt = v := by
  simp [listSet_eq_set, List.getD, inside]

/-- What carrier event `e` counts at its next occurrence, and its prescaler. -/
def Dev.nextCount (d : Dev) (g e : Nat) : Nat := (d.grove g).evOcc.getD e 0 + 1
def Dev.prescale (d : Dev) (g e : Nat) : Nat := d.rf (pgCarrier g) (Reg.carrier.EVPRE + e) 7 0

/-- Event `e` has been counted: anew where the count is beyond the prescaler (R157). -/
def Dev.counted (d : Dev) (g e : Nat) : Dev :=
  d.setGrove g { d.grove g with
    evOcc := listSet (d.grove g).evOcc e (if d.prescale g e < d.nextCount g e then 0 else d.nextCount g e),
    evNext := listSet (d.grove g).evNext e (d.clk + 1) }

theorem carrierEvent_eq (d : Dev) (g e : Nat) : carrierEvent d g e =
    if d.prescale g e < d.nextCount g e then offerTrigger ((d.counted g e).ev (pgCarrier g) e) g 2 e else d.counted g e :=
  rfl

theorem Dev.counted_within (d : Dev) (g e : Nat) : d.Within g (d.counted g e) := d.setGrove_within g _

theorem Dev.counted_evOcc {d : Dev} {g e : Nat} (inside : e < (d.grove g).evOcc.length) :
    ((d.counted g e).grove g).evOcc.getD e 0 = if d.prescale g e < d.nextCount g e then 0 else d.nextCount g e := by
  rw [Dev.counted, Dev.grove_setGrove, getD_listSet_self inside]

/-- A carrier event stays within its grove. -/
theorem carrierEvent_within (d : Dev) (g e : Nat) : d.Within g (carrierEvent d g e) := by
  rw [carrierEvent_eq]
  exact .ite (((d.counted_within g e).trans ((pgCarrier_of g).ev _ e)).trans (offerTrigger_converts _ g 2 e).within)
    (d.counted_within g e)

/-- Beside the count itself it changes nothing of the grove's own record. -/
theorem carrierEvent_grove (d : Dev) (g e : Nat) : (carrierEvent d g e).grove g = (d.counted g e).grove g := by
  rw [carrierEvent_eq]
  split
  · rw [(offerTrigger_converts _ g 2 e).grove, Dev.grove_ev]
  · rfl

/-- Each time it has counted beyond its prescaler its bit of PAGE_EVT sets; the trigger changes no register of CARRIER. -/
theorem carrierEvent_event {d : Dev} {g e : Nat} (he : e < 6) (full : d.prescale g e < d.nextCount g e) :
    ((carrierEvent d g e).rd (pgCarrier g) Reg.PAGE_EVT).getLsbD e = true := by
  rw [carrierEvent_eq, if_pos full, (offerTrigger_converts _ g 2 e).rd _ _ (by decide) fun c _ => pgCarrier_ne_pgCv g c]
  exact Dev.ev_bit _ _ e (by omega)

/-- CARRIER_EVENT at the instant at which the counter reaches the event's value. -/
theorem exec_carrierEvent {s : State} {g : Fin 8} {e : Fin 6} {t : Nat} (live : s.live g)
    (due : eventDue s.dev g e (max s.dev.clk ((s.dev.grove g).evNext.getD e 0)) = some t) :
    exec (.carrierEvent g e) s =
      .next (s.after (carrierEvent (carTo (s.dev.advanceTo t) g (s.dev.advanceTo t).clk) g e)) := by
  have occurs : eventOccurs s.dev g e = carrierEvent (carTo (s.dev.advanceTo t) g (s.dev.advanceTo t).clk) g e := by
    rw [eventOccurs, due]
    rfl
  rw [← occurs]
  exact s.does_inGrove g (eventOccurs · g e) live

/-- Settles O24: the occurrence at its instant, by what it counts, and what the carrier brought to that instant leaves. -/
theorem carrierEventOccurs : Obligations.CarrierEventOccurs := by
  intro s g e t live six due
  have within := (carTo_within (s.dev.advanceTo t) g (s.dev.advanceTo t).clk).trans (carrierEvent_within _ g e)
  refine ⟨_, exec_carrierEvent live due, ?_, within, ?_, fun full => carrierEvent_event e.isLt ?_⟩
  · rw [within.clk, Dev.advanceTo_clk_eq_max]
  · rw [carrierEvent_grove, Dev.counted_evOcc (by simp [six])]
    simp [Dev.nextCount, Dev.prescale]
  · simpa [Dev.nextCount, Dev.prescale] using full

end Sys2Proof.Machine
end

section
/-!
PROOF. The ends of DRIVE and of the fast phase of DECAY (R160, R161, R163).
-/
namespace Sys2Proof.Machine

/-- A coil that enters DECAY at instant `at_` (R160, R163). -/
def Coil.decayed (c : Coil) (at_ : Nat) : Coil :=
  { c with st := .decay, decayAt := at_, blankEnd := none, fast := decide ((c.dmode = 2 ∨ c.dmode = 3) ∧ 0 < c.fastUsed) }

theorem tripRecognised_eq (d : Dev) (g j b : Nat) : tripRecognised d g j b =
    setChop d g j (({ d.coil (32 * g + j) with tripped := true, ton := d.clk - b } : Coil).decayed (d.clk + 1)) (d.clk + 1) :=
  rfl

theorem tonmaxEnd_eq (d : Dev) (g j : Nat) : tonmaxEnd d g j =
    (setChop d g j ((d.coil (32 * g + j)).decayed d.clk) d.clk).ev (pgAxis (16 * g + j / 2)) 12 := rfl

theorem tonmaxEnd_within (d : Dev) (g j : Nat) (hj : j < 32) : d.Within g (tonmaxEnd d g j) :=
  (setChop_within d g j _ _ hj).trans ((pgAxis_of (by omega)).ev _ 12)

section commands
variable {s : State} {g : Fin 8} {j : Fin 32}

/-- TRIP_RECOGNISED where DRIVE runs, blanking has ended and the filter's run can be complete (R160, R161). -/
theorem exec_tripRecognised {dt b : Nat} (live : s.live g) (drive : (s.dev.coil (32 * g + j)).st = .drive)
    (blank : (s.dev.coil (32 * g + j)).blankEnd = some b) (run : b + s.dev.tripRun g ≤ s.dev.clk + dt + 1)
    (inTime : s.dev.clk + dt ≤ s.dev.tonmaxAt g j) :
    exec (.tripRecognised dt g j) s = .next (s.after (tripRecognised (s.dev.advance dt) g j b)) := by
  have seen : tripSeen (s.dev.advance dt) g j = tripRecognised (s.dev.advance dt) g j b := by
    have may : (s.dev.coil (32 * g + j)).st = .drive ∧
        b + (s.dev.advance dt).tripRun g ≤ (s.dev.advance dt).clk + 1 ∧
        (s.dev.advance dt).clk ≤ (s.dev.advance dt).tonmaxAt g j := by
      simpa [Dev.tripRun, Dev.tonmaxAt] using And.intro drive (And.intro run inTime)
    simp only [tripSeen, Dev.coil_advance, blank]
    exact if_pos may
  rw [← seen]
  exact s.does_inGroveAfter g dt (tripSeen · g j) live

/-- TONMAX in DRIVE where it comes before the next period start (R160). -/
theorem exec_tonmax (live : s.live g) (drive : (s.dev.coil (32 * g + j)).st = .drive)
    (first : s.dev.beforeNext g j (s.dev.tonmaxAt g j) = true) :
    exec (.tonmax g j) s = .next (s.after (tonmaxEnd (s.dev.advanceTo (s.dev.tonmaxAt g j)) g j)) := by
  have reached : tonmaxReached s.dev g j = tonmaxEnd (s.dev.advanceTo (s.dev.tonmaxAt g j)) g j := if_pos ⟨drive, first⟩
  rw [← reached]
  exact s.does_inGrove g (tonmaxReached · g j) live

/-- FAST_PHASE_END of a fast DECAY, its time before the next period start (R163): the coil is in the slow phase. -/
theorem exec_fastPhaseEnd {c : Coil} (live : s.live g) (coil : s.dev.coil (32 * g + j) = c) (decay : c.st = .decay)
    (fast : c.fast = true) (first : s.dev.beforeNext g j (c.decayAt + c.fastUsed) = true) :
    exec (.fastPhaseEnd g j) s =
      .next (s.after (setChop (s.dev.advanceTo (c.decayAt + c.fastUsed)) g j { c with fast := false }
        (s.dev.advanceTo (c.decayAt + c.fastUsed)).clk)) := by
  subst coil
  have slow : fastOver s.dev g j = setChop _ g j _ _ := if_pos ⟨decay, fast, first⟩
  rw [← slow]
  exact s.does_inGrove g (fastOver · g j) live

end commands

/-- Settles O25: each end by the chopper state that the coil takes then. -/
theorem driveEnds : Obligations.DriveEnds := by
  intro s g j dt live
  refine ⟨fun b drive blank run inTime => ?trip, fun drive first => ?tonmax, fun decay fast first => ?slow⟩
  case trip =>
    refine ⟨_, exec_tripRecognised live drive blank run inTime, ?_, ?_⟩
    · rw [tripRecognised_eq]
      exact setChop_within _ g j _ _ j.isLt
    · rw [tripRecognised_eq, setChop_coil _ _ _ _ _ j.isLt, Dev.coil_advance, Dev.advance_clk]
      rfl
  case tonmax =>
    refine ⟨_, exec_tonmax live drive first, tonmaxEnd_within _ g j j.isLt, ?_, Dev.ev_bit _ _ 12 (by decide)⟩
    rw [tonmaxEnd_eq, Dev.coil_ev, setChop_coil _ _ _ _ _ j.isLt, Dev.coil_advanceTo, Dev.advanceTo_clk_eq_max]
    rfl
  case slow =>
    exact ⟨_, exec_fastPhaseEnd live rfl decay fast first, setChop_within _ g j _ _ j.isLt, setChop_coil _ _ _ _ _ j.isLt⟩

end Sys2Proof.Machine
end

section
/-!
SUPPORT. How the chopper begins a period of a coil (R159, R160, R162): what the coil holds then, and that nothing beyond its
grove changes.
-/
namespace Sys2Proof.Machine

/-- Coil `c` with what the chopper decides of a period as `a` has it. -/
def Coil.chopperOf (c a : Coil) : Coil :=
  { c with st := a.st, srcNeg := a.srcNeg, blankEnd := a.blankEnd, tripped := a.tripped, driveIn := a.driveIn,
           hadDrive := a.hadDrive, zeroSeen := a.zeroSeen, driveMag := a.driveMag, decayAt := a.decayAt, fast := a.fast,
           full := a.full }

/-- A coil that has entered DRIVE with its setpoint (R159, R188). -/
def Coil.driving (c : Coil) (blank : Option Nat) : Coil :=
  { c with st := .drive, srcNeg := c.neg, blankEnd := blank, tripped := false, driveIn := true, fast := false,
           hadDrive := true, zeroSeen := false, driveMag := c.mag }

/-- The coil as `setChop` takes it into DRIVE: its tags are still those of the state before (R188). -/
def Coil.entering (c : Coil) : Coil :=
  { c with st := .drive, srcNeg := c.neg, blankEnd := none, tripped := false, driveIn := true, fast := false }

section coil
variable (d : Dev) {g j : Nat} (hj : j < 32)
include hj

theorem driveMarker_within (at_ : Nat) (entry : Bool) : d.Within g (driveMarker d g j at_ entry) := by
  unfold driveMarker
  exact .ite (.refl g d) (.ite (d.setCoil_within _ (by omega)) (.refl g d))

theorem enterDrive_eq (c : Coil) : enterDrive d g j c =
    driveMarker ((setChop d g j c.entering d.clk).setCoil (32 * g + j) (c.driving none)) g j d.clk true := by
  have coil := setChop_coil d g j c.entering d.clk hj
  unfold Coil.entering at coil ⊢
  rw [enterDrive, coil]
  rfl

theorem enterDrive_within (c : Coil) : d.Within g (enterDrive d g j c) := by
  rw [enterDrive_eq d hj]
  exact ((setChop_within d g j _ _ hj).trans (Dev.setCoil_within _ _ (by omega))).trans (driveMarker_within _ hj ..)

theorem enterDecay_within (at_ : Nat) (c : Coil) : d.Within g (enterDecay d g j at_ c) := setChop_within d g j _ _ hj

theorem beginPeriod_within (c : Coil) : d.Within g (beginPeriod d g j c) := by
  unfold beginPeriod
  exact .ite (.ite (d.setCoil_within _ (by omega)) (enterDrive_within d hj c))
    (.ite (setChop_within d g j _ _ hj) (.ite (enterDecay_within d hj ..) (setChop_within d g j _ _ hj)))

omit hj in
/-- The drive-start marker sets the end of blanking only. -/
theorem driveMarker_coil (at_ : Nat) (entry : Bool) :
    ∃ b, (driveMarker d g j at_ entry).coil (32 * g + j) = { d.coil (32 * g + j) with blankEnd := b } := by
  unfold driveMarker
  dsimp only
  split
  · exact ⟨_, rfl⟩
  · split
    · exact ⟨_, Dev.coil_setCoil ..⟩
    · exact ⟨_, rfl⟩

theorem enterDrive_coil (c : Coil) : ∃ b, (enterDrive d g j c).coil (32 * g + j) = c.driving b := by
  obtain ⟨b, marked⟩ :=
    driveMarker_coil ((setChop d g j c.entering d.clk).setCoil (32 * g + j) (c.driving none)) (g := g) (j := j) d.clk true
  rw [Dev.coil_setCoil] at marked
  exact ⟨b, by rw [enterDrive_eq d hj, marked]; rfl⟩

/-- A period with a setpoint above 0 drives its coil in the setpoint's direction (R159, R162). -/
theorem beginPeriod_drives {c : Coil} (pos : 0 < c.mag) :
    ((beginPeriod d g j c).coil (32 * g + j)).st = .drive ∧ ((beginPeriod d g j c).coil (32 * g + j)).srcNeg = c.neg ∧
    ((beginPeriod d g j c).coil (32 * g + j)).chopperOf c = c := by
  rw [beginPeriod, if_pos pos]
  split
  case isTrue goesOn =>
    rw [Dev.coil_setCoil]
    exact ⟨goesOn.1, goesOn.2, rfl⟩
  case isFalse =>
    obtain ⟨b, coil⟩ := enterDrive_coil d (g := g) hj c
    rw [coil]
    exact ⟨rfl, rfl, rfl⟩

/-- A period with setpoint 0 lets the coil decay, or leaves it OFF where it has not driven since CUREN rose (R159). -/
theorem beginPeriod_rests {c : Coil} (zero : c.mag = 0) :
    ((beginPeriod d g j c).coil (32 * g + j)).st = (if c.hadDrive then .decay else .off) ∧
    ((beginPeriod d g j c).coil (32 * g + j)).chopperOf c = c := by
  rw [beginPeriod, if_neg (by omega)]
  by_cases had : c.hadDrive = true
  · rw [if_neg (by simp [had]), if_pos had]
    split
    · rw [enterDecay, setChop_coil _ _ _ _ _ hj]
      exact ⟨rfl, rfl⟩
    · rw [setChop_coil _ _ _ _ _ hj]
      exact ⟨rfl, rfl⟩
  · rw [if_pos (by simp [had]), if_neg had, setChop_coil _ _ _ _ _ hj]
    exact ⟨rfl, rfl⟩

end coil

/-- What the chopper begins with is not its own to change. -/
theorem beginPeriod_keeps (d : Dev) {g j : Nat} (hj : j < 32) (c : Coil) :
    ((beginPeriod d g j c).coil (32 * g + j)).chopperOf c = c := by
  rcases Nat.eq_zero_or_pos c.mag with zero | pos
  · exact (beginPeriod_rests d hj zero).2
  · exact (beginPeriod_drives d hj pos).2.2

end Sys2Proof.Machine
end

section
/-!
PROOF. Zero-current windows: their zero current, their request, their end at ZMAX, and the DRIVE that resumes after one (R166 to
R168, R228).
-/
namespace Sys2Proof.Machine

/-! ### A window that closes without a completed conversion (R167, R168, R242) -/

/-- The window closes now, and its sample is empty. -/
def windowLost (d : Dev) (g j : Nat) (w : Window) : Dev := emptySample (closeWindow d g j w) g j w

section lost
variable (d : Dev) (g j : Nat) (w : Window)

theorem windowLost_within (hj : j < 32) : d.Within g (windowLost d g j w) :=
  (d.setCoil_within _ (by omega)).trans (Dev.setOb_within _ _ (by omega))

theorem windowLost_win : ((windowLost d g j w).coil (32 * g + j)).win = none := by
  rw [windowLost, emptySample, Dev.coil_setOb, closeWindow, Dev.coil_setCoil]

theorem windowLost_samples : ∃ x,
    ((windowLost d g j w).ob (16 * g + j / 2)).samples = (d.ob (16 * g + j / 2)).samples ++ [x] ∧
    x.empty = true ∧ x.coil = j % 2 ∧ x.half = w.half :=
  ⟨_, congrArg Observer.samples (Dev.ob_setOb ..), rfl, rfl, rfl⟩

theorem rd_windowLost (p off : Nat) : (windowLost d g j w).rd p off = d.rd p off := rfl

end lost

theorem zcount_within (d : Dev) {g n : Nat} (i : Nat) (h : n / 16 = g) : d.Within g (zcount d n i) :=
  ((pgAxis_of h).incSat d _ _ _ (by decide)).trans ((pgAxis_of h).ev _ _)
@[simp] theorem ob_zcount (d : Dev) (n i m : Nat) : (zcount d n i).ob m = d.ob m := by simp [zcount]
theorem zcount_event (d : Dev) (n i : Nat) (hi : i < 3) : ((zcount d n i).rd (pgAxis n) Reg.PAGE_EVT).getLsbD (8 + i) = true :=
  Dev.ev_bit _ _ _ (by omega)

/-! ### ZMAX (R167, R230) -/

/-- What ZMAX counts: ZTIMEOUT where no zero current was recognised, else ZCUT, with the request withdrawn. -/
def zmaxCounted (d : Dev) (g j : Nat) (w : Window) : Dev :=
  if w.z.isNone then zcount d (16 * g + j / 2) 0 else zcount (removeRequest d g j).2 (16 * g + j / 2) 1

theorem windowMax_eq (d : Dev) (g j : Nat) (w : Window) : windowMax d g j w = windowLost (zmaxCounted d g j w) g j w := rfl

section zmax
variable (d : Dev) (g j : Nat) (w : Window)

theorem zmaxCounted_within (hj : j < 32) : d.Within g (zmaxCounted d g j w) := by
  have axis : (16 * g + j / 2) / 16 = g := by omega
  exact .ite (zcount_within d 0 axis) ((removeRequest_within d g j).trans (zcount_within _ 1 axis))

theorem ob_zmaxCounted (n : Nat) : (zmaxCounted d g j w).ob n = d.ob n := by
  unfold zmaxCounted
  split
  · exact ob_zcount ..
  · rw [ob_zcount, (removeRequest_converts d g j).ob]

theorem zmaxCounted_event :
    ((zmaxCounted d g j w).rd (pgAxis (16 * g + j / 2)) Reg.PAGE_EVT).getLsbD (if w.z = none then 8 else 9) = true := by
  unfold zmaxCounted
  by_cases unseen : w.z = none
  · rw [if_pos (by simp [unseen]), if_pos unseen]
    exact zcount_event d _ 0 (by decide)
  · rw [if_neg (by simp [unseen]), if_neg unseen]
    exact zcount_event _ _ 1 (by decide)

end zmax

/-! ### The urgent request (R166, R167, R228) -/

/-- The request of a window of coil `j`, as ZCW2 forms it. -/
def Dev.windowRequest (d : Dev) (g j : Nat) : Urgent :=
  ⟨j, d.rf (pgAxis (16 * g + j / 2)) Reg.axis.ZCW2 21 20, d.rf (pgAxis (16 * g + j / 2)) Reg.axis.ZCW2 18 16,
    d.rf (pgAxis (16 * g + j / 2)) Reg.axis.ZCW2 11 8⟩

theorem Dev.windowRequest_named (d : Dev) (g j : Nat) : (d.windowRequest g j).named < 4 := fld_lt _ 21 20

/-- The window of coil `j` has its request placed. -/
def windowAsked (d : Dev) (g j : Nat) (w : Window) : Dev :=
  d.setCoil (32 * g + j) { d.coil (32 * g + j) with win := some { w with requested := true } }

theorem windowAsked_win (d : Dev) (g j : Nat) (w : Window) :
    ((windowAsked d g j w).coil (32 * g + j)).win = some { w with requested := true } := by
  rw [windowAsked, Dev.coil_setCoil]

theorem urgentRequest_eq (d : Dev) (g j : Nat) (w : Window) : urgentRequest d g j w =
    if (placeRequest d g (d.windowRequest g j)).1 then windowAsked (placeRequest d g (d.windowRequest g j)).2 g j w
    else windowLost (zcount (placeRequest d g (d.windowRequest g j)).2 (16 * g + j / 2) 2) g j w := rfl

section request
variable (d : Dev) (g j : Nat) (w : Window)

theorem urgentRequest_within (hj : j < 32) : d.Within g (urgentRequest d g j w) := by
  have placed := (placeRequest_converts d g (d.windowRequest_named g j)).within
  rw [urgentRequest_eq]
  exact .ite (placed.trans (Dev.setCoil_within _ _ (by omega)))
    ((placed.trans (zcount_within _ 2 (by omega))).trans (windowLost_within _ g j w hj))

/-- A request is placed, or the window closes with ZSKIP (R167). -/
theorem urgentRequest_outcome :
    ((urgentRequest d g j w).coil (32 * g + j)).win = some { w with requested := true } ∨
    ((urgentRequest d g j w).coil (32 * g + j)).win = none ∧
      ((urgentRequest d g j w).rd (pgAxis (16 * g + j / 2)) Reg.PAGE_EVT).getLsbD 10 = true := by
  rw [urgentRequest_eq]
  split
  · exact .inl (windowAsked_win ..)
  · exact .inr ⟨windowLost_win .., by rw [rd_windowLost]; exact zcount_event _ _ 2 (by decide)⟩

/-- The named converter samples for the window at once where it is free (R228). -/
theorem urgentRequest_of_free (free : (d.conv (4 * g + (d.windowRequest g j).named)).free = true) :
    ((urgentRequest d g j w).coil (32 * g + j)).win = some { w with requested := true } ∧
    ∃ r u, ((urgentRequest d g j w).conv (4 * g + (d.windowRequest g j).named)).run = some r ∧
      r.urgent = some u ∧ u.coil = j := by
  obtain ⟨r, run, urgent⟩ := runUrgent_run d (4 * g + (d.windowRequest g j).named) (d.windowRequest g j)
  rw [urgentRequest_eq, placeRequest_of_free free]
  exact ⟨windowAsked_win .., r, _, run, urgent, rfl⟩

end request

/-- The instant at which a window asks: 2 to 4 gck, a free choice, after its zero current and ZDLY (R175). -/
def Dev.launchAt (d : Dev) (g j z : Nat) : Nat := z + d.zdly g j + 2 + Config.freeNat d.draws % 3

/-! ### The commands -/

section commands
variable {s : State} {g : Fin 8} {j : Fin 32} {w : Window}

/-- ZERO_CURRENT_RECOGNISED in a window without one, before ZMAX, where the filter's run can be complete (R166, R167). -/
theorem exec_zeroCurrentRecognised {dt : Nat} (live : s.live g) (win : (s.dev.coil (32 * g + j)).win = some w)
    (unseen : w.z = none) (run : s.dev.zblankEnd g j w + s.dev.tripRun g ≤ s.dev.clk + dt + 1)
    (inTime : s.dev.clk + dt < s.dev.zmaxAt g j w) :
    exec (.zeroCurrentRecognised dt g j) s = .next (s.after (zeroSeen (s.dev.advance dt) g j w)) := by
  have seen : zeroRecognised (s.dev.advance dt) g j = zeroSeen (s.dev.advance dt) g j w := by
    have may : w.z.isNone = true ∧
        (s.dev.advance dt).zblankEnd g j w + (s.dev.advance dt).tripRun g ≤ (s.dev.advance dt).clk + 1 ∧
        (s.dev.advance dt).clk < (s.dev.advance dt).zmaxAt g j w := by
      simpa [Dev.zblankEnd, Dev.tripRun, Dev.zmaxAt] using And.intro unseen (And.intro run inTime)
    simp only [zeroRecognised, Dev.coil_advance, win]
    exact if_pos may
  rw [← seen]
  exact s.does_inGroveAfter g dt (zeroRecognised · g j) live

/-- URGENT_REQUEST of a window with a zero current and no request yet, before ZMAX (R166, R167). -/
theorem exec_urgentRequest {z : Nat} (live : s.live g) (win : (s.dev.coil (32 * g + j)).win = some w) (seen : w.z = some z)
    (unasked : w.requested = false) (inTime : s.dev.launchAt g j z < s.dev.zmaxAt g j w) :
    exec (.urgentRequest g j) s =
      .next (s.after (urgentRequest (s.dev.draw.2.advanceTo (s.dev.launchAt g j z)) g j w)) := by
  have due : urgentDue s.dev g j = urgentRequest (s.dev.draw.2.advanceTo (s.dev.launchAt g j z)) g j w := by
    simp only [urgentDue, win, seen]
    exact if_pos ⟨by simp [unasked], inTime⟩
  rw [← due]
  exact s.does_inGrove g (urgentDue · g j) live

/-- ZMAX_EXPIRY of a window (R167). -/
theorem exec_zmaxExpiry (live : s.live g) (win : (s.dev.coil (32 * g + j)).win = some w) :
    exec (.zmaxExpiry g j) s = .next (s.after (windowMax (s.dev.advanceTo (s.dev.zmaxAt g j w)) g j w)) := by
  have reached : zmaxReached s.dev g j = windowMax (s.dev.advanceTo (s.dev.zmaxAt g j w)) g j w := by
    simp only [zmaxReached, win]
    rfl
  rw [← reached]
  exact s.does_inGrove g (zmaxReached · g j) live

/-- DRIVE_RESUME where a window has left an instant for it (R168). -/
theorem exec_driveResume {t : Nat} (live : s.live g) (resume : (s.dev.coil (32 * g + j)).resumeAt = some t) :
    exec (.driveResume g j) s = .next (s.after (driveResume (s.dev.advanceTo t) g j)) := by
  have reached : resumeReached s.dev g j = driveResume (s.dev.advanceTo t) g j := by
    simp only [resumeReached, resume]
    rfl
  rw [← reached]
  exact s.does_inGrove g (resumeReached · g j) live

end commands

/-! ### Zero current, and DRIVE resumed -/

theorem zeroSeen_within (d : Dev) (g j : Nat) (w : Window) (hj : j < 32) : d.Within g (zeroSeen d g j w) :=
  (d.setCoil_within _ (by omega)).trans (offerTrigger_converts _ g 4 j).within

/-- Zero current is kept with its instant and tick; the trigger changes no coil. -/
theorem zeroSeen_coil (d : Dev) (g j : Nat) (w : Window) : (zeroSeen d g j w).coil (32 * g + j) =
    { d.coil (32 * g + j) with zeroSeen := true, win := some { w with z := some d.clk, zTick := (d.grove g).tick } } := by
  rw [zeroSeen, (offerTrigger_converts _ g 4 j).coil, Dev.coil_setCoil]

/-- The coil that resumes, its instant taken. -/
def Coil.resumed (c : Coil) : Coil := { c with resumeAt := none }

theorem driveResume_eq (d : Dev) (g j : Nat) : driveResume d g j =
    beginPeriod (d.setCoil (32 * g + j) (d.coil (32 * g + j)).resumed) g j (d.coil (32 * g + j)).resumed := rfl

theorem driveResume_within (d : Dev) (g j : Nat) (hj : j < 32) : d.Within g (driveResume d g j) := by
  rw [driveResume_eq]
  exact (d.setCoil_within _ (by omega)).trans (beginPeriod_within _ hj _)

/-- Settles O26: zero current and the resumption by what the coil holds then, the request by where it is placed, ZMAX by what it
counts and the sample of the window lost. -/
theorem zeroCurrentWindow : Obligations.ZeroCurrentWindow := by
  refine ⟨fun s g j dt w live win => ⟨fun unseen run inTime => ?zero, fun z seen unasked inTime => ?request, ?zmax⟩,
    fun s g j t live resume => ?resume⟩
  case zero =>
    refine ⟨_, exec_zeroCurrentRecognised live win unseen run inTime, zeroSeen_within _ g j w j.isLt, ?_, ?_⟩
    · rw [zeroSeen_coil, Dev.advance_clk, Dev.grove_advance]
    · rw [zeroSeen_coil]
  case request =>
    have bound : Config.freeNat s.dev.draws % 3 < 3 := Nat.mod_lt _ (by decide)
    have launch : s.dev.launchAt g j z = z + s.dev.zdly g j + 2 + Config.freeNat s.dev.draws % 3 := rfl
    have asked : (s.dev.draw.2.advanceTo (s.dev.launchAt g j z)).windowRequest g j = s.dev.windowRequest g j := by
      simp only [Dev.windowRequest, Dev.rf_advanceTo]
      rfl
    refine ⟨_, s.dev.launchAt g j z, exec_urgentRequest live win seen unasked (by omega), by omega, by omega, ?_,
      fun free => ?_, urgentRequest_outcome ..⟩
    · rw [(urgentRequest_within _ g j w j.isLt).clk, Dev.advanceTo_clk_eq_max]
      rfl
    · have now := urgentRequest_of_free (s.dev.draw.2.advanceTo (s.dev.launchAt g j z)) g j w
      rw [asked, Dev.conv_advanceTo] at now
      exact now free
  case zmax =>
    refine ⟨_, exec_zmaxExpiry live win, ?_, ?_⟩
    all_goals rw [windowMax_eq]
    · exact (zmaxCounted_within _ g j w j.isLt).trans (windowLost_within _ g j w j.isLt)
    · have samples := windowLost_samples (zmaxCounted (s.dev.advanceTo (s.dev.zmaxAt g j w)) g j w) g j w
      rw [ob_zmaxCounted, Dev.ob_advanceTo] at samples
      exact ⟨windowLost_win .., samples, by rw [rd_windowLost]; exact zmaxCounted_event ..⟩
  case resume =>
    have within := driveResume_within (s.dev.advanceTo t) g j j.isLt
    refine ⟨_, exec_driveResume live resume, within, by rw [within.clk, Dev.advanceTo_clk_eq_max], ?_⟩
    rw [driveResume_eq, Dev.coil_advanceTo]
    refine ⟨congrArg Coil.resumeAt (beginPeriod_keeps _ j.isLt _), fun pos => ?_, fun zero => ?_⟩
    · have ⟨drive, source, _⟩ := beginPeriod_drives ((s.dev.advanceTo t).setCoil (32 * g + j)
        (s.dev.coil (32 * g + j)).resumed) (g := g) j.isLt (c := (s.dev.coil (32 * g + j)).resumed) pos
      exact ⟨drive, source⟩
    · exact (beginPeriod_rests _ j.isLt (c := (s.dev.coil (32 * g + j)).resumed) zero).1

end Sys2Proof.Machine
end

section
/-!
PROOF. The start of a coil's period (R144 to R152, R156, R159, R165, R170, R172 to R174).
-/
namespace Sys2Proof.Machine

/-! ### What the period start takes down for its axis (R197, R424) -/

/-- A step of the mask pointer sends the axis' commands to its Nibs anew and changes no coil. -/
theorem ptrStep_within (d : Dev) {g a : Nat} (k : Int) (ha : a < 16) : d.Within g (ptrStep d g a k) := by
  unfold ptrStep
  exact .ite (.refl g d)
    (((pgOvrd_of g).wf d _ _ _ _ (by simp only [Reg.ovrd.PTR]; omega)).trans (emitAxis_within _ g a _ _ ha))

theorem ptrStep_coil (d : Dev) {g a : Nat} (k : Int) (ha : a < 16) (c : Nat) : (ptrStep d g a k).coil c = d.coil c := by
  unfold ptrStep
  dsimp only
  split
  · rfl
  · rw [refreshAxis, (emitAxis_stage _ g a _ _ ha).coil, Dev.coil_wf]

theorem periodAxis_within (d : Dev) {g j : Nat} (th : Nat) (hj : j < 32) : d.Within g (periodAxis d g j th) :=
  (d.setGa_within _ (by omega)).trans (ptrStep_within _ _ (by omega))

theorem periodAxis_coil (d : Dev) {g j : Nat} (th : Nat) (hj : j < 32) (c : Nat) :
    (periodAxis d g j th).coil c = d.coil c := by
  rw [periodAxis, ptrStep_coil _ _ (by omega), Dev.coil_setGa]

/-! ### What the chopper makes of the period -/

/-- A coil that begins its period outside a window. -/
def Coil.begun (c : Coil) : Coil := { c with driveIn := false, winIn := false, resumeAt := none, tonS := c.s }

/-- The setpoint that a coil holds, and its period: the start and that setpoint. -/
def Coil.setpoint (c : Coil) : Setpoint := ⟨c.th, c.half, c.amp, c.mag, c.neg⟩
def Coil.period (c : Coil) : Nat × Bool × Setpoint := (c.s, c.ran, c.setpoint)

section chop
variable (d : Dev) {g j : Nat} (c : Coil) (on opens : Bool) (hj : j < 32)
include hj

theorem periodChop_within : d.Within g (periodChop d g j c on opens) := by
  unfold periodChop
  exact .ite (d.setCoil_within c (by omega)) (.ite (setChop_within d g j _ _ hj)
    (.ite ((setChop_within d g j _ _ hj).trans ((pgGrove_of g).wf _ _ _ _ _ (by decide))) (beginPeriod_within d hj _)))

variable {c} (closed : c.win = none)
include closed

/-- A coil without its enables is OFF (R172 to R174). -/
theorem periodChop_off : (periodChop d g j c false opens).coil (32 * g + j) =
    { c with st := .off, driveIn := false, winIn := false, resumeAt := none } := by
  rw [periodChop, if_neg (by simp [closed]), if_pos (by rfl), setChop_coil _ _ _ _ _ hj]

/-- A window opens where R165 says so, and keeps the setpoint. -/
theorem periodChop_opens : (periodChop d g j c true true).coil (32 * g + j) =
    { c with st := .zwin, win := some ⟨c.s, none, 0, false, c.mag, c.neg, c.half⟩, driveIn := false, winIn := true,
             resumeAt := none, blankEnd := none, tonS := c.s } := by
  rw [periodChop, if_neg (by simp [closed]), if_neg (by decide), if_pos rfl, Dev.coil_incWrap, setChop_coil _ _ _ _ _ hj]

omit hj in
/-- Else the period begins with its setpoint. -/
theorem periodChop_begins : periodChop d g j c true false = beginPeriod d g j c.begun := by
  rw [periodChop, if_neg (by simp [closed]), if_neg (by decide), if_neg (by decide)]
  rfl

/-- Whatever the chopper does, the period keeps its start and its setpoint. -/
theorem periodChop_period : ((periodChop d g j c on opens).coil (32 * g + j)).period = c.period := by
  match on, opens with
  | false, _ => rw [periodChop_off d _ hj closed]; rfl
  | true, true => rw [periodChop_opens d hj closed]; rfl
  | true, false =>
    rw [periodChop_begins d closed]
    exact (congrArg Coil.period (beginPeriod_keeps d hj c.begun) :)

end chop

/-! ### The period start -/

/-- The coil takes its period, and the axis of a coil A what the start tells of it. -/
theorem periodStart_within (d : Dev) {g j : Nat} (hj : j < 32) : d.Within g (periodStart d g j) := by
  have axis := pgAxis_of (n := 16 * g + j / 2) (g := g) (by omega)
  have sat (b : Bool) : d.Within g (if b then d.ev (pgAxis (16 * g + j / 2)) 11 else d) := .ite (axis.ev d 11) (.refl g d)
  unfold periodStart
  exact .ite (((sat _).trans (periodChop_within _ _ _ _ hj)).trans (periodAxis_within _ _ hj))
    ((sat _).trans (periodChop_within _ _ _ _ hj))

/-- What the coil holds then is what the chopper makes of the period, with its setpoint and the fast time that R164 gives. -/
theorem periodStart_coil (d : Dev) {g j : Nat} (hj : j < 32) : ∃ e fastt, (periodStart d g j).coil (32 * g + j) =
    (periodChop e g j (coilStart d g j (setpoint d g j d.clk) fastt) (d.coilEnabled g j d.clk)
      (d.coilEnabled g j d.clk && d.opensWindow g j d.clk (setpoint d g j d.clk).half)).coil (32 * g + j) := by
  unfold periodStart
  dsimp only
  split
  · exact ⟨_, _, periodAxis_coil _ _ hj _⟩
  · exact ⟨_, _, rfl⟩

theorem coilStart_win (d : Dev) (g j : Nat) (sp : Setpoint) (fastt : Nat) :
    (coilStart d g j sp fastt).win = (d.coil (32 * g + j)).win := rfl

section start
variable {d : Dev} {g j : Nat} (hj : j < 32) (closed : (d.coil (32 * g + j)).win = none)
include hj closed

theorem periodStart_period :
    ((periodStart d g j).coil (32 * g + j)).period = (d.clk, true, setpoint d g j d.clk) := by
  obtain ⟨e, fastt, coil⟩ := periodStart_coil d hj
  rw [coil]
  exact periodChop_period e _ _ hj ((coilStart_win ..).trans closed)

theorem periodStart_off (off : d.coilEnabled g j d.clk = false) : ((periodStart d g j).coil (32 * g + j)).st = .off := by
  obtain ⟨e, fastt, coil⟩ := periodStart_coil d hj
  rw [coil, off, periodChop_off e _ hj ((coilStart_win ..).trans closed)]

theorem periodStart_opens (on : d.coilEnabled g j d.clk = true)
    (opens : d.opensWindow g j d.clk (setpoint d g j d.clk).half = true) :
    ((periodStart d g j).coil (32 * g + j)).st = .zwin ∧ ((periodStart d g j).coil (32 * g + j)).win =
      some ⟨d.clk, none, 0, false, (setpoint d g j d.clk).mag, (setpoint d g j d.clk).neg,
        (setpoint d g j d.clk).half⟩ := by
  obtain ⟨e, fastt, coil⟩ := periodStart_coil d hj
  rw [coil, on, opens, Bool.true_and, periodChop_opens e hj ((coilStart_win ..).trans closed)]
  exact ⟨rfl, rfl⟩

/-- Without a window the coil begins the period that it takes. -/
theorem periodStart_begins (on : d.coilEnabled g j d.clk = true)
    (shut : d.opensWindow g j d.clk (setpoint d g j d.clk).half = false) :
    ∃ e fastt, (periodStart d g j).coil (32 * g + j) =
      (beginPeriod e g j (coilStart d g j (setpoint d g j d.clk) fastt).begun).coil (32 * g + j) := by
  obtain ⟨e, fastt, coil⟩ := periodStart_coil d hj
  rw [on, shut, Bool.true_and, periodChop_begins e ((coilStart_win ..).trans closed)] at coil
  exact ⟨e, fastt, coil⟩

theorem periodStart_drives (on : d.coilEnabled g j d.clk = true)
    (shut : d.opensWindow g j d.clk (setpoint d g j d.clk).half = false) (pos : 0 < (setpoint d g j d.clk).mag) :
    ((periodStart d g j).coil (32 * g + j)).st = .drive ∧
    ((periodStart d g j).coil (32 * g + j)).srcNeg = (setpoint d g j d.clk).neg ∧
    ((periodStart d g j).coil (32 * g + j)).win = none := by
  obtain ⟨e, fastt, coil⟩ := periodStart_begins hj closed on shut
  obtain ⟨drive, source, keeps⟩ :=
    beginPeriod_drives e (g := g) hj (c := (coilStart d g j (setpoint d g j d.clk) fastt).begun) pos
  rw [coil]
  exact ⟨drive, source, (congrArg Coil.win keeps).trans closed⟩

theorem periodStart_rests (on : d.coilEnabled g j d.clk = true)
    (shut : d.opensWindow g j d.clk (setpoint d g j d.clk).half = false) (zero : (setpoint d g j d.clk).mag = 0) :
    ((periodStart d g j).coil (32 * g + j)).st = (if (d.coil (32 * g + j)).hadDrive then .decay else .off) ∧
    ((periodStart d g j).coil (32 * g + j)).win = none := by
  obtain ⟨e, fastt, coil⟩ := periodStart_begins hj closed on shut
  obtain ⟨rests, keeps⟩ :=
    beginPeriod_rests e (g := g) hj (c := (coilStart d g j (setpoint d g j d.clk) fastt).begun) zero
  rw [coil]
  exact ⟨rests, (congrArg Coil.win keeps).trans closed⟩

end start

/-- Settles O23: a case each for R172, R165 and R159, in the device whose carrier has come to the start. -/
theorem coilPeriodStarts : Obligations.CoilPeriodStarts := by
  intro s g j live closed at_ d0 sp on
  have clk : d0.clk = at_.clk := carTo_clk ..
  have same : d0.coil (32 * g + j) = s.dev.coil (32 * g + j) := (carTo_coil ..).trans (Dev.coil_advanceTo ..)
  have shut : (d0.coil (32 * g + j)).win = none := same ▸ closed
  obtain ⟨start, taken⟩ := Prod.mk.inj (periodStart_period j.isLt shut)
  obtain ⟨ran, taken⟩ := Prod.mk.inj taken
  refine ⟨periodStart d0 g j, s.does_inGrove g (coilStarts · g j) live,
    (carTo_within at_ g at_.clk).trans (periodStart_within d0 j.isLt), start.trans clk, ran,
    (congrArg Setpoint.th taken :), (congrArg Setpoint.half taken :), (congrArg Setpoint.amp taken :),
    (congrArg Setpoint.mag taken :), (congrArg Setpoint.neg taken :), periodStart_off j.isLt shut, ?_, fun enabled stays =>
      ⟨periodStart_drives j.isLt shut enabled stays, ?_⟩⟩
  · rw [← clk]
    exact periodStart_opens j.isLt shut
  · rw [← same]
    exact periodStart_rests j.isLt shut enabled stays

end Sys2Proof.Machine
end

section
/-!
PROOF. What every step leaves at the gate balls and of the trips that the device finds by itself (R182 to R185, R194, R202,
R388), and what reset leaves.
-/
namespace Sys2Proof.Machine

/-! ### What a step can leave -/

/-- The device and the balls of `t` are those of `s`, or those of the end of a step. -/
def State.Rests (s t : State) : Prop :=
  (t.dev = s.dev ∧ t.balls = s.balls) ∨ ∃ d, t.dev = settle d ∧ t.balls = ballsOf t.dev

theorem State.rests_self (s : State) : s.Rests s := .inl ⟨rfl, rfl⟩
theorem State.rests_after (s : State) (d : Dev) : s.Rests (s.after d) := .inr ⟨d, rfl, rfl⟩
theorem State.rests_afterTick (s : State) (d x : Dev) : s.Rests (s.afterTick d x) := .inr ⟨d, rfl, rfl⟩

theorem State.rests_run (s : State) (f : Dev → Dev) : s.Rests (s.run f) := by
  cases h : s.dev.sup.inReset
  · rw [s.run_eq f h]
    exact s.rests_after _
  · rw [s.run_reset f h]
    exact s.rests_self

/-- The answer is a next state that `s` can leave. -/
def Answer.RestsOf (o : Answer) (s : State) : Prop := ∃ t, o = .next t ∧ s.Rests t

theorem State.does_restsOf (s : State) (f : Dev → Dev) : Answer.RestsOf (s.does f) s := ⟨_, rfl, s.rests_run f⟩
theorem State.after_restsOf (s : State) (d : Dev) : Answer.RestsOf (.next (s.after d)) s := ⟨_, rfl, s.rests_after d⟩

theorem execTickBoundary_restsOf (ue : List (Fin 2 × Fin 128)) (s : State) : Answer.RestsOf (execTickBoundary ue s) s := by
  cases h : s.dev.grovesRun
  · exact ⟨_, execTickBoundary_stands ue s h, s.rests_self⟩
  · exact ⟨_, execTickBoundary_runs ue s h, s.rests_afterTick _ _⟩

/-- By the command's shape: a boundary, what acts in reset as well, and what acts outside it. -/
theorem exec_restsOf (c : Instr) (s : State) : Answer.RestsOf (exec c s) s := by
  cases c with
  | tickBoundary ue => exact execTickBoundary_restsOf ue s
  | deviceReset | resetRelease | resetNLow => exact s.after_restsOf _
  | faultNLow | faultNHigh | estopNLow | estopNHigh | updInEdge | pfailNHigh => exact s.after_restsOf _
  | memacc | groveHalt | groveResume | quillHalt | quillResume | idcode | bypass | extest | samplePreload | tapReset =>
    exact s.after_restsOf _
  | _ => exact s.does_restsOf _

/-- A step, with a command or without one, leaves the state as it was or settles and sets the balls. -/
theorem step_rests {s t : State} (h : step s = .next t) : s.Rests t := by
  cases hp : s.pending with
  | nil =>
    rw [step_of_empty s hp] at h
    cases h
    exact s.rests_run _
  | cons c rest =>
    obtain ⟨u, answer, rests⟩ := exec_restsOf c { s with pending := rest }
    have next : step s = .next u := by simp only [step, hp, answer]
    rw [next] at h
    cases h
    exact rests

theorem State.Rests.follows {s t : State} (h : s.Rests t) (follows : s.ballsFollow) : t.ballsFollow := by
  rcases h with ⟨dev, balls⟩ | ⟨_, _, balls⟩
  · rw [State.ballsFollow, balls, dev]
    exact follows
  · exact balls

theorem State.Rests.settled {s t : State} (h : s.Rests t) (settled : s.settled) : t.settled := by
  rcases h with ⟨dev, _⟩ | ⟨d, dev, _⟩
  · rw [State.settled, dev]
    exact settled
  · rw [State.settled, dev]
    exact settle_settled d

/-- Settles O3: reset leaves no cause due, and a step changes nothing or settles. -/
theorem stepSettles : Obligations.StepSettles :=
  ⟨Dev.settled_of_grove_init fun _ => rfl, fun _ _ settled next => (step_rests next).settled settled⟩

/-! ### What the output stage drives (R182, R183, R202, R388) -/

theorem stageOf_of_outen {d : Dev} {g : Nat} (outen : d.rb (pgFire g) Reg.PAGE_CTRL 0 = false) (k : Nat) :
    stageOf d g k = 0 := by
  simp [stageOf, outen]

theorem stageOf_of_tripped {d : Dev} {g : Nat} (tripped : (d.grove g).tripped = true) (safe : (d.grove g).safe = false)
    (k : Nat) : stageOf d g k = 0 := by
  simp [stageOf, tripped, safe]

/-- Both gate requests of a leg that has not tripped: it drives neither ball. -/
theorem stageOf_of_overlap {d : Dev} {g k : Nat} (tripped : (d.grove g).tripped = false)
    (gh : (d.leg (64 * g + k)).gh = true) (gl : (d.leg (64 * g + k)).gl = true) : stageOf d g k = 0 := by
  simp [stageOf, tripped, gh, gl]

theorem ballOf_of_inReset {d : Dev} (reset : d.sup.inReset = true) (g k : Nat) : ballOf d g k = 0 := by
  simp [ballOf, reset]

/-- With no boundary scan in force a ball is harmless where its stage is. -/
theorem ballOf_of_stage {d : Dev} {g k : Nat} (scan : d.tap.extest = false) (stage : stageOf d g k = 0) :
    ballOf d g k = 0 := by
  simp [ballOf, scan, stage]

section
variable {t : State} (follows : t.ballsFollow)
include follows

theorem State.ballsFollow.tripSafe : t.tripSafe := fun g hg tripped safe scan k hk => by
  rw [t.ball_eq follows g k hg hk]
  exact ballOf_of_stage scan (stageOf_of_tripped tripped safe k)

theorem State.ballsFollow.resetSafe : t.resetSafe := fun reset g hg k hk => by
  rw [t.ball_eq follows g k hg hk]
  exact ballOf_of_inReset reset g k

theorem State.ballsFollow.outenSafe : t.outenSafe := fun g hg outen scan k hk => by
  rw [t.ball_eq follows g k hg hk]
  exact ballOf_of_stage scan (stageOf_of_outen outen k)

end

/-- Settles O5: the balls follow the device after every step, and the device drives none of these. -/
theorem gateBallsSafe : Obligations.GateBallsSafe := by
  intro s t before next
  have follows := (step_rests next).follows before
  refine ⟨follows, follows.tripSafe, follows.resetSafe, follows.outenSafe, fun g k hg hk scan tripped gh gl => ?_⟩
  rw [t.ball_eq follows g k hg hk]
  exact ballOf_of_stage scan (stageOf_of_overlap tripped gh gl)

/-! ### Reset -/

/-- Where no leg drives a ball the table of balls is empty. -/
theorem ballsOf_eq_nil {d : Dev} (h : ∀ g k, ballOf d g k = 0) : ballsOf d = [] := by
  simp [ballsOf, groveBalls, h]

/-- Every grove leaves reset tripped, short of its safe levels (R201, R202). -/
theorem ballOf_init (v : Variant) (g k : Nat) : ballOf (.init v) g k = 0 :=
  ballOf_of_stage rfl (stageOf_of_tripped rfl rfl k)

/-- Settles O6: no ball is driven since every grove has tripped; the rest is what the units' reset values hold. -/
theorem resetState : Obligations.ResetState :=
  ⟨⟨(ballsOf_eq_nil (ballOf_init .fd9128)).symm, fun _ _ _ _ => rfl⟩, fun _ _ => ⟨rfl, rfl⟩,
    rfl, rfl, rfl, rfl, rfl, rfl, rfl⟩

end Sys2Proof.Machine
end

section
/-!
SUPPORT. What an immediate trip leaves of the FIREBRK page and of its cause, and what the causes that a step itself found bring
about at its end (R201 to R203).
-/
namespace Sys2Proof.Machine

/-! ### The FIREBRK page -/

/-- Beside TRIPCNT and PAGE_EVT the registers of FIREBRK `g` are as before, and no event bit has cleared. -/
structure Dev.FireKept (g : Nat) (d d' : Dev) : Prop where
  rd : ∀ off, off < 1024 → off ≠ Reg.firebrk.TRIPCNT → off ≠ Reg.PAGE_EVT → d'.rd (pgFire g) off = d.rd (pgFire g) off
  event : ∀ i, (d.rd (pgFire g) Reg.PAGE_EVT).getLsbD i = true → (d'.rd (pgFire g) Reg.PAGE_EVT).getLsbD i = true

theorem Dev.FireKept.trans {g : Nat} {a b c : Dev} (h : a.FireKept g b) (k : b.FireKept g c) : a.FireKept g c :=
  ⟨fun off ho cnt evt => (k.rd off ho cnt evt).trans (h.rd off ho cnt evt), fun i set => k.event i (h.event i set)⟩

theorem Dev.fireKept_of_rd {g : Nat} {d d' : Dev} (h : ∀ off, off < 1024 → d'.rd (pgFire g) off = d.rd (pgFire g) off) :
    d.FireKept g d' :=
  ⟨fun off ho _ _ => h off ho, fun i set => by rwa [h _ (by decide)]⟩

theorem Dev.FireKept.refl (g : Nat) (d : Dev) : d.FireKept g d := Dev.fireKept_of_rd fun _ _ => rfl

theorem Dev.FireKept.ite {g : Nat} {d a b : Dev} {c : Prop} [Decidable c] (h : d.FireKept g a) (k : d.FireKept g b) :
    d.FireKept g (if c then a else b) := by
  split <;> assumption

theorem Dev.fireKept_setGrove (d : Dev) (g : Nat) (x : Grove) : d.FireKept g (d.setGrove g x) :=
  Dev.fireKept_of_rd fun _ _ => rfl

theorem Dev.fireKept_ev (d : Dev) (g i : Nat) : d.FireKept g (d.ev (pgFire g) i) where
  rd _ ho _ evt := d.rd_ev_ne i fun same => evt ((key_inj (by decide) ho).mp same).2.symm
  event _ set := d.ev_keeps (pgFire g) i set

theorem Dev.fireKept_tripcnt (d : Dev) (g : Nat) : d.FireKept g (d.incSat (pgFire g) Reg.firebrk.TRIPCNT 23 0) where
  rd _ ho cnt _ := d.rd_incSat_ne 23 0 fun same => cnt ((key_inj (by decide) ho).mp same).2.symm
  event i set := by
    rwa [d.rd_incSat_ne 23 0 fun same => absurd ((key_inj (by decide) (by decide)).mp same).2 (by decide)]

theorem pgFire_ne_pgNib (g : Nat) : pgFire g ≠ pgNib g := by
  simp only [pgFire, pgNib, pgGrove]
  omega

theorem pgFire_ne_pgAxis (g n : Nat) : pgFire g ≠ pgAxis n := by
  simp only [pgFire, pgAxis, pgGrove]
  omega

theorem Dev.Chop.fireKept {g : Nat} {d d' : Dev} (h : d.Chop g d') : d.FireKept g d' :=
  Dev.fireKept_of_rd fun off ho => h.rd (pgFire g) off ho (pgFire_ne_pgNib g)

/-- The loss of TRUST sets an event of its axis only (R252). -/
theorem moveTrust_fireKept (d : Dev) (g n c : Nat) : d.FireKept g (moveTrust d n c) := by
  have lost : d.FireKept g (d.loseTrust n c) := .ite
    (Dev.fireKept_of_rd fun off ho =>
      Dev.rd_ev_ne (d.setOb n _) 17 fun same => pgFire_ne_pgAxis g n ((key_inj (by decide) ho).mp same).1.symm)
    (.refl g d)
  exact .ite lost (.refl g d)

theorem Dev.FireKept.foldl {g : Nat} {α : Type} (f : Dev → α → Dev) (l : List α) (h : ∀ d x, Dev.FireKept g d (f d x))
    (d : Dev) : d.FireKept g (l.foldl f d) := by
  induction l generalizing d with
  | nil => exact .refl g d
  | cons a t ih => exact (h d a).trans (ih (f d a))

/-- Every axis of the grove goes OFF. -/
theorem axesOff_chop (d : Dev) (g : Nat) : d.Chop g ((groveAxes g).foldl (fun d n => axisOff d g (n % 16)) d) :=
  .foldl _ _ (fun d n _ => axisOff_chop d g _ (by omega)) d

theorem latchTrip_fireKept (d : Dev) (g : Nat) : d.FireKept g (latchTrip d g) :=
  (((axesOff_chop d g).fireKept.trans (Dev.fireKept_tripcnt _ g)).trans (Dev.fireKept_ev _ g 0)).trans
    (Dev.fireKept_setGrove _ g _)

/-- A latched trip sets TRIPPED. -/
theorem latchTrip_event (d : Dev) (g : Nat) : ((latchTrip d g).rd (pgFire g) Reg.PAGE_EVT).getLsbD 0 = true := by
  rw [latchTrip, Dev.rd_setGrove]
  exact Dev.ev_bit _ _ 0 (by decide)

theorem addCause_fireKept (d : Dev) (g c : Nat) : d.FireKept g (addCause d g c) := d.fireKept_setGrove g _

theorem endHold_fireKept (d : Dev) (g : Nat) : d.FireKept g (endHold d g) := by
  unfold endHold
  dsimp only
  split
  · exact .refl g d
  · exact d.fireKept_setGrove g _

theorem trip_fireKept (d : Dev) (g c : Nat) : d.FireKept g (trip d g c) := by
  unfold trip
  refine .ite (.refl g d) ?_
  have caused := addCause_fireKept d g c
  have released : d.FireKept g (if ((addCause d g c).grove g).held.isSome then addCause (endHold (addCause d g c) g) g 9
      else addCause d g c) :=
    .ite ((caused.trans (endHold_fireKept _ g)).trans (addCause_fireKept _ g 9)) caused
  exact .ite released ((released.trans (.foldl _ _ (fun d n => moveTrust_fireKept d g n 2) _)).trans (latchTrip_fireKept _ g))

theorem rampRequest_fireKept (d : Dev) (g c : Nat) : d.FireKept g (rampRequest d g c) := by
  obtain ⟨G, eq⟩ := rampRequest_groves d g c
  rw [eq]
  exact Dev.fireKept_of_rd fun _ _ => rfl

/-! ### Causes -/

/-- A grove that has tripped, with cause `c` among its causes. -/
def Grove.TrippedBy (x : Grove) (c : Nat) : Prop := x.tripped = true ∧ x.causes.testBit c = true

theorem trip_trippedBy {d : Dev} {g : Nat} (here : d.hasGrove g = true) (c : Nat) : ((trip d g c).grove g).TrippedBy c :=
  ⟨(trip_trips d g c here).1, by simp [(trip_causes d g c here).1, Nat.testBit_or, Nat.testBit_two_pow_self]⟩

/-- A further immediate source leaves the grove tripped, with the causes before it. -/
theorem Grove.TrippedBy.trip {d : Dev} {g b : Nat} (h : (d.grove g).TrippedBy b) (here : d.hasGrove g = true) (c : Nat) :
    ((Machine.trip d g c).grove g).TrippedBy b :=
  ⟨(trip_trips d g c here).1, by simp [(trip_causes d g c here).1, Nat.testBit_or, h.2]⟩

theorem Dev.Within.hasGrove {g : Nat} {d d' : Dev} (h : d.Within g d') (x : Nat) : d'.hasGrove x = d.hasGrove x := by
  rw [Dev.hasGrove, Dev.hasGrove, h.variant]

/-- Several immediate sources in turn: a cause that stood or is among them stands. -/
theorem trips_trippedBy (l : List Nat) {d : Dev} {g b : Nat} (here : d.hasGrove g = true)
    (h : (d.grove g).TrippedBy b ∨ b ∈ l) : ((l.foldl (fun d c => trip d g c) d).grove g).TrippedBy b := by
  induction l generalizing d with
  | nil => simpa using h
  | cons c t ih =>
    refine ih (((trip_within d g c).hasGrove g).trans here) ?_
    rcases h with h | h
    · exact .inl (h.trip here c)
    · rcases List.mem_cons.mp h with rfl | h
      · exact .inl (trip_trippedBy here b)
      · exact .inr h

/-- A cause that the step itself found trips its grove (R185, R194). -/
theorem fireDue_trippedBy {d : Dev} {g c : Nat} (here : d.hasGrove g = true) (hc : c < 12)
    (due : (d.grove g).due.testBit c = true) : ((fireDue d g).grove g).TrippedBy c := by
  have some : (d.grove g).due ≠ 0 := fun none => by simp [none] at due
  have fired := trips_trippedBy (maskBits 12 (d.grove g).due) (d := d.setGrove g { d.grove g with due := 0 }) (b := c)
    (by simpa [Dev.hasGrove] using here) (.inr (by simp [maskBits, hc, due]))
  rw [fireDue, if_neg some, Dev.grove_setGrove]
  exact fired

/-! ### A walk over the groves whose steps stay within their groves -/

/-- What the walk makes of a grove is what that grove's own step makes of it. -/
theorem Dev.each_own {f : Dev → Nat → Dev} (own : ∀ e x, Dev.Within x e (f e x)) {d : Dev} {g : Nat} (P : Grove → Prop)
    (step : ∀ e : Dev, e.variant = d.variant → e.grove g = d.grove g → P ((f e g).grove g)) (n : Nat) :
    (n ≤ g → (d.each n f).grove g = d.grove g) ∧ (g < n → P ((d.each n f).grove g)) := by
  induction n with
  | zero => exact ⟨fun _ => rfl, fun h => absurd h (Nat.not_lt_zero g)⟩
  | succ n ih =>
    obtain ⟨before, done⟩ := ih
    rw [Dev.each_succ]
    by_cases here : g = n
    · subst here
      have variant : (d.each g f).variant = d.variant := d.each_keeps Dev.variant f (fun e x => (own e x).variant) g
      exact ⟨fun h => absurd h (Nat.not_succ_le_self g), fun _ => step _ variant (before le_rfl)⟩
    · rw [(own _ n).grove g here]
      exact ⟨fun h => before (by omega), fun h => done (by omega)⟩

/-- A cause that a step found has tripped its grove at the step's end. -/
theorem settle_trippedBy {d : Dev} {g c : Nat} (here : d.hasGrove g = true) (hc : c < 12)
    (due : (d.grove g).due.testBit c = true) : ((settle d).grove g).TrippedBy c := by
  refine (Dev.each_own fireDue_within (·.TrippedBy c) (fun e variant same => fireDue_trippedBy ?_ hc (by rw [same, due])) _).2
    (by simpa [Dev.hasGrove] using here)
  rw [Dev.hasGrove, variant]
  exact here

end Sys2Proof.Machine
end

section
/-!
PROOF. The end of a ramp-first trip (R201, R202).
-/
namespace Sys2Proof.Machine

/-- An event beside it leaves a grove latched. -/
theorem Dev.Latched.ev {d : Dev} {g : Nat} (h : d.Latched g) (p i : Nat) : (d.ev p i).Latched g :=
  ⟨h.tripped, h.safe, h.at_, h.off⟩

/-- The ramp engine has brought every axis to rest: the trip latches. -/
theorem rampComplete_of_done {d : Dev} {g : Nat} {r : Ramp} (tripped : (d.grove g).tripped = false)
    (ramp : (d.grove g).ramp = some r) (took : r.took = true) (trips : r.trips = true) (done : r.done = true) :
    rampComplete d g = latchTrip d g := by
  simp [rampComplete, rampTrip, ramp, took, trips, done, tripped]

/-- RAMPMAX ticks have passed before that: the trip latches with RAMPTO. -/
theorem rampExpire_of_late {d : Dev} {g : Nat} {r : Ramp} (tripped : (d.grove g).tripped = false)
    (ramp : (d.grove g).ramp = some r) (took : r.took = true) (trips : r.trips = true) (done : r.done = false)
    (late : d.rf (pgFire g) Reg.firebrk.RAMPMAX 15 0 ≤ r.ticks) : rampExpire d g = (latchTrip d g).ev (pgFire g) 2 := by
  simp [rampExpire, rampTrip, ramp, took, trips, done, tripped, late]

/-- Settles O21: either end latches the trip, the second with its event beside it. -/
theorem rampEnds : Obligations.RampEnds := by
  intro s g r live tripped ramp took trips
  refine ⟨fun done => ?rest, fun done late => ?late⟩
  case rest =>
    have next := s.does_inGrove g (rampComplete · g) live
    rw [rampComplete_of_done tripped ramp took trips done] at next
    exact ⟨_, next, latchTrip_latched s.dev g, latchTrip_event s.dev g, latchTrip_causes s.dev g, latchTrip_within s.dev g⟩
  case late =>
    have next := s.does_inGrove g (rampExpire · g) live
    rw [rampExpire_of_late tripped ramp took trips done late] at next
    exact ⟨_, next, (latchTrip_latched s.dev g).ev _ _, Dev.ev_bit (latchTrip s.dev g) _ 2 (by decide),
      by rw [Dev.grove_ev, latchTrip_causes], (latchTrip_within s.dev g).trans ((pgFire_of g).ev _ 2)⟩

end Sys2Proof.Machine
end

section
/-!
PROOF. FAULT_N and ESTOP_N (R201, R203, R204).
-/
namespace Sys2Proof.Machine

theorem Dev.pass_of_awake {d : Dev} (awake : d.sup.inReset = false) (dt : Nat) : d.pass dt = d.advance dt := by
  simp [Dev.pass, awake]

/-- A change of a pin outside reset, `dt` gck from now. -/
theorem State.pin_of_awake {s : State} (awake : s.dev.sup.inReset = false) (dt : Nat) (f : Dev → Dev) :
    s.pin dt f = .next (s.after (f (s.dev.advance dt))) := by
  rw [State.pin, Dev.pass_of_awake awake]

/-- A device but for its pins. -/
theorem Dev.pins_back (d : Dev) {p : Pins} (h : d.pins = p) (x : Pins) : { { d with pins := x } with pins := p } = d := by
  subst h
  rfl

/-! ### Pulses -/

theorem pulseSeen_of_short (d : Dev) {ns : Nat} (short : ns < 10) : pulseSeen d ns = (false, d) := if_pos short

theorem pulseSeen_of_long (d : Dev) {ns : Nat} (long : 40 ≤ ns) : pulseSeen d ns = (true, d) := by
  rw [pulseSeen, if_neg (by omega), if_pos long]

section fault
variable {d : Dev} {g ns : Nat} (high : d.pins.fault.testBit g = false) (here : d.hasGrove g = true)
include high here

theorem faultFalls_of_short (short : ns < 10) : faultFalls g ns d = faultLevel g false d := by
  simp [faultFalls, high, here, pulseSeen_of_short d short]

theorem faultFalls_of_long (awake : d.sup.inReset = false) (long : 40 ≤ ns)
    (enabled : d.rb (pgFire g) Reg.firebrk.SRCEN 1 = true) : faultFalls g ns d = trip (faultLevel g true d) g 1 := by
  have enabled' : (faultLevel g true d).rb (pgFire g) Reg.firebrk.SRCEN 1 = true := enabled
  have awake' : (faultLevel g true d).sup.inReset = false := awake
  simp [faultFalls, high, here, pulseSeen_of_long d long, enabled', awake']

end fault

theorem estopFalls_of_short {d : Dev} {ns : Nat} (high : d.pins.estop = false) (short : ns < 10) :
    estopFalls ns d = estopLevel false d := by
  simp [estopFalls, high, pulseSeen_of_short d short]

theorem estopFalls_of_long {d : Dev} {ns : Nat} (high : d.pins.estop = false) (awake : d.sup.inReset = false)
    (long : 40 ≤ ns) : estopFalls ns d = (estopLevel true d).eachGrove (fun d g => trip d g 2) := by
  have awake' : (estopLevel true d).sup.inReset = false := awake
  simp [estopFalls, high, pulseSeen_of_long d long, awake']

/-! ### The commands -/

section commands
variable {s : State} {dt ns : Nat} (awake : s.dev.sup.inReset = false)
include awake

/-- FAULT_N low for t_FPW or longer, its source enabled: the grove trips, whatever the power state. -/
theorem exec_faultNLow_trips {g : Fin 8} (here : s.dev.hasGrove g = true) (high : s.dev.pins.fault.testBit g = false)
    (long : 40 ≤ ns) (enabled : s.dev.rb (pgFire g) Reg.firebrk.SRCEN 1 = true) :
    exec (.faultNLow dt g ns) s = .next (s.after (trip (faultLevel g true (s.dev.advance dt)) g 1)) := by
  rw [← faultFalls_of_long (by simpa using high) (by simpa using here) (by simpa using awake) long (by simpa using enabled)]
  exact State.pin_of_awake awake dt _

theorem exec_faultNLow_ignored {g : Fin 8} (here : s.dev.hasGrove g = true) (high : s.dev.pins.fault.testBit g = false)
    (short : ns < 10) : exec (.faultNLow dt g ns) s = .next (s.after (faultLevel g false (s.dev.advance dt))) := by
  rw [← faultFalls_of_short (by simpa using high) (by simpa using here) short]
  exact State.pin_of_awake awake dt _

/-- ESTOP_N low for t_FPW or longer: every present grove trips. -/
theorem exec_estopNLow_trips (high : s.dev.pins.estop = false) (long : 40 ≤ ns) :
    exec (.estopNLow dt ns) s =
      .next (s.after ((estopLevel true (s.dev.advance dt)).eachGrove (fun d g => trip d g 2))) := by
  rw [← estopFalls_of_long (by simpa using high) (by simpa using awake) long]
  exact State.pin_of_awake awake dt _

theorem exec_estopNLow_ignored (high : s.dev.pins.estop = false) (short : ns < 10) :
    exec (.estopNLow dt ns) s = .next (s.after (estopLevel false (s.dev.advance dt))) := by
  rw [← estopFalls_of_short (by simpa using high) short]
  exact State.pin_of_awake awake dt _

end commands

/-- Every present grove trips on a source that reaches them all. -/
theorem eachGrove_trippedBy (d : Dev) (c : Nat) {g : Nat} (present : g < d.variant.groves) :
    ((d.eachGrove (fun d g => trip d g c)).grove g).TrippedBy c :=
  (Dev.each_own (fun e x => trip_within e x c) (·.TrippedBy c)
    (fun _ variant _ => trip_trippedBy (by simpa [Dev.hasGrove, variant] using present) c) _).2 present

theorem eachGrove_trip_apart (d : Dev) (c : Nat) : (d.eachGrove (fun d g => trip d g c)).apart = d.apart :=
  d.each_keeps Dev.apart _ (fun e x => (trip_within e x c).apart) _

/-- Settles O28: the pulse by its length; a trip stays within its grove, and the emergency stop's walk reaches each. -/
theorem tripInputs : Obligations.TripInputs := by
  refine ⟨fun s g dt ns here awake => ⟨fun high => ⟨fun long enabled => ?fault, fun short => ?faultShort⟩, ?faultHigh⟩,
    fun s dt ns awake => ⟨fun high => ⟨fun long => ?estop, fun short => ?estopShort⟩, ?estopHigh⟩⟩
  case fault =>
    have here' : (faultLevel g true (s.dev.advance dt)).hasGrove g = true := (Dev.hasGrove_advance ..).trans here
    obtain ⟨tripped, cause⟩ := trip_trippedBy here' 1
    have within := trip_within (faultLevel g true (s.dev.advance dt)) g 1
    have same : ∀ x, (faultLevel g true (s.dev.advance dt)).grove x = s.dev.grove x := Dev.grove_advance s.dev dt
    refine ⟨_, exec_faultNLow_trips awake here high long enabled, tripped, cause, ?_, within.clk.trans (Dev.advance_clk ..),
      fun before => (trip_trips _ g 1 here').2 (by rw [same, before]), fun x other => (within.grove x other).trans (same x)⟩
    rw [within.pins]
    simp [faultLevel, maskSet_testBit]
  case faultShort =>
    exact ⟨_, exec_faultNLow_ignored awake here high short, by simp [faultLevel, maskSet_testBit],
      Dev.pins_back _ (Dev.advance_pins ..) _⟩
  case faultHigh =>
    exact ⟨_, State.pin_of_awake awake dt (faultHigh g), by simp [faultHigh, maskSet_testBit],
      by simp [faultHigh, maskSet_testBit], Dev.pins_back _ (Dev.advance_pins ..) _⟩
  case estop =>
    have apart := eachGrove_trip_apart (estopLevel true (s.dev.advance dt)) 2
    have pins : _ = (estopLevel true (s.dev.advance dt)).pins := (congrArg Dev.pins apart :)
    have clk : _ = (s.dev.advance dt).clk := (congrArg Dev.clk apart :)
    refine ⟨_, exec_estopNLow_trips awake high long, (congrArg Pins.estopSeen pins :), clk.trans (Dev.advance_clk ..),
      fun g present => eachGrove_trippedBy _ 2 ?_⟩
    exact (congrArg Variant.groves (Dev.advance_variant ..)).symm ▸ present
  case estopShort =>
    exact ⟨_, exec_estopNLow_ignored awake high short, rfl, Dev.pins_back _ (Dev.advance_pins ..) _⟩
  case estopHigh =>
    exact ⟨_, State.pin_of_awake awake dt estopHigh, rfl, rfl, Dev.pins_back _ (Dev.advance_pins ..) _⟩

end Sys2Proof.Machine
end

section
/-!
PROOF. The events of a Nib: node recognition, turn-on, misses and overlaps (R183 to R194).
-/
namespace Sys2Proof.Machine

/-- Two registers of one page. -/
theorem key_ne_of_offset (p : Nat) {a b : Nat} (h : a ≠ b) : key p a ≠ key p b := fun same => h (Nat.add_left_cancel same)

/-! ### Node recognition (R186, R192) -/

/-- What a leg shows of its node and of its gate requests. -/
def Leg.face (l : Leg) : Nat × Nat × Bool × Bool := (l.node, l.nodeAt, l.gh, l.gl)

theorem measureEnd_face (d : Dev) (g k : Nat) (m : Measure) :
    ((measureEnd d g k m).leg (64 * g + k)).face = (d.leg (64 * g + k)).face := by
  rw [measureEnd, Dev.leg_setLeg]
  rfl

theorem measureEnd_within (d : Dev) {g k : Nat} (m : Measure) (hk : k < 64) : d.Within g (measureEnd d g k m) :=
  d.setLeg_within _ (by omega)

/-- A recognition keeps the side and its instant, whatever measurement it ends. -/
theorem nodeSeen_face (d : Dev) (g k side : Nat) : ((nodeSeen d g k side).leg (64 * g + k)).face =
    (side, d.clk, (d.leg (64 * g + k)).gh, (d.leg (64 * g + k)).gl) := by
  unfold nodeSeen
  dsimp only
  split
  · split
    · rw [measureEnd_face, Dev.leg_setLeg]
      rfl
    · rw [Dev.leg_setLeg]
      rfl
  · rw [Dev.leg_setLeg]
    rfl

theorem nodeSeen_within (d : Dev) {g k : Nat} (side : Nat) (hk : k < 64) : d.Within g (nodeSeen d g k side) := by
  have kept : ∀ x, d.Within g (d.setLeg (64 * g + k) x) := fun x => d.setLeg_within x (by omega)
  unfold nodeSeen
  dsimp only
  split
  · exact .ite ((kept _).trans (measureEnd_within _ _ hk)) (kept _)
  · exact kept _

/-! ### Turn-ons (R190 to R192) -/

/-- A leg whose waiting turn-on takes place at instant `at_`. -/
def Leg.turnedOn (l : Leg) (t : TurnOn) (at_ : Nat) : Leg :=
  { l with
    turnOn := none, gh := l.gh || t.hi, gl := l.gl || !t.hi
    meas := if t.cls = 2 ∧ l.node ≠ (if t.hi then 2 else 1) then some ⟨if t.hi then 2 else 3, at_⟩
      else if t.cls = 1 then l.meas else none
    dtlast := if t.cls = 0 then l.dtlast else min (at_ - t.t0) 2047 }

/-- The coil whose command reaches leg `k` (R198). -/
def Dev.legCoil (d : Dev) (g k : Nat) : Nat := 2 * (k / 4) + (d.legSource g (k / 4) (k % 4 / 2) (k % 2)).1

theorem Dev.legCoil_lt (d : Dev) (g : Nat) {k : Nat} (hk : k < 64) : d.legCoil g k < 32 := by
  have source : (d.legSource g (k / 4) (k % 4 / 2) (k % 2)).1 ≤ 1 := by
    unfold Dev.legSource
    dsimp only
    split
    · split <;> dsimp only <;> omega
    · dsimp only
      omega
  unfold Dev.legCoil
  omega

/-- A turn-on: the leg, and the drive-start marker where it completes the start of a DRIVE (R191). -/
theorem switchOn_eq (d : Dev) (g k : Nat) (t : TurnOn) :
    let d1 := d.setLeg (64 * g + k) ((d.leg (64 * g + k)).turnedOn t d.clk)
    switchOn d g k t = driveMarker d1 g (d.legCoil g k) d.clk false ∨ switchOn d g k t = d1 := ite_eq_or_eq ..

theorem driveMarker_leg (d : Dev) (g j at_ : Nat) (entry : Bool) (l : Nat) :
    (driveMarker d g j at_ entry).leg l = d.leg l := by
  unfold driveMarker
  dsimp only
  split
  · rfl
  · split <;> rfl

theorem switchOn_leg (d : Dev) (g k : Nat) (t : TurnOn) :
    (switchOn d g k t).leg (64 * g + k) = (d.leg (64 * g + k)).turnedOn t d.clk := by
  rcases switchOn_eq d g k t with eq | eq
  · rw [eq, driveMarker_leg, Dev.leg_setLeg]
  · rw [eq, Dev.leg_setLeg]

theorem switchOn_within (d : Dev) {g k : Nat} (t : TurnOn) (hk : k < 64) : d.Within g (switchOn d g k t) := by
  have leg : d.Within g (d.setLeg (64 * g + k) ((d.leg (64 * g + k)).turnedOn t d.clk)) := d.setLeg_within _ (by omega)
  rcases switchOn_eq d g k t with eq | eq
  · rw [eq]
    exact leg.trans (driveMarker_within _ (d.legCoil_lt g hk) ..)
  · rw [eq]
    exact leg

/-! ### Misses (R194) -/

/-- The record of a type after a miss. -/
def Delay.missed (r : Delay) : Delay := { r with miss := min 3 (r.miss + 1), stuck := r.stuck || min 3 (r.miss + 1) == 3 }

/-- The third miss in a row is kept as STUCK. -/
theorem Delay.missed_third {r : Delay} (third : 2 ≤ r.miss) : r.missed.stuck = true := by
  rw [Delay.missed, Nat.min_eq_left (by omega)]
  simp

/-- The leg whose measurement has ended in a miss. -/
def Leg.missed (l : Leg) (m : Measure) : Leg := { l.setRec m.ty (l.rec_ m.ty).missed with meas := none }

theorem Leg.missed_rec {l : Leg} {m : Measure} (type : m.ty < 4) (types : l.dly.length = 4) :
    (l.missed m).rec_ m.ty = (l.rec_ m.ty).missed := getD_listSet_self (types ▸ type) _ _

/-- The stage of leg `k` is declared failed. -/
def Dev.stageFailed (d : Dev) (g k : Nat) : Dev :=
  (d.wr (pgNib g) (Reg.nib.STUCK + k / 32) (setBit (d.rd (pgNib g) (Reg.nib.STUCK + k / 32)) (k % 32) true)).ev (pgNib g) 2

/-- Immediate causes of grove `g`, by bit, fall due. -/
def Dev.fallDue (d : Dev) (g causes : Nat) : Dev := d.setGrove g { d.grove g with due := (d.grove g).due ||| causes }

/-- A miss: the third in a row declares the stage failed, which trips where source 4 is enabled. -/
theorem edgeMiss_eq (d : Dev) (g k : Nat) (m : Measure) :
    let d1 := d.setLeg (64 * g + k) ((d.leg (64 * g + k)).missed m)
    edgeMiss d g k m =
      if min 3 (((d.leg (64 * g + k)).rec_ m.ty).miss + 1) < 3 then d1
      else if (d1.stageFailed g k).rb (pgFire g) Reg.firebrk.SRCEN 4 then (d1.stageFailed g k).fallDue g 16
      else d1.stageFailed g k := rfl

theorem Dev.stageFailed_stage (d : Dev) (g : Nat) {k : Nat} (hk : k < 64) : d.Stage g (d.stageFailed g k) :=
  (d.nib_wr_stage g _ _ (by simp only [Reg.nib.STUCK]; omega)).trans (Dev.nib_ev_stage _ g 2)

theorem edgeMiss_stage (d : Dev) (g : Nat) {k : Nat} (m : Measure) (hk : k < 64) : d.Stage g (edgeMiss d g k m) := by
  have leg : d.Stage g (d.setLeg (64 * g + k) ((d.leg (64 * g + k)).missed m)) := d.setLeg_stage _ (by omega)
  have failed := leg.trans (Dev.stageFailed_stage _ g hk)
  rw [edgeMiss_eq]
  exact .ite leg (.ite (failed.trans (Dev.setDue_stage _ g _)) failed)

theorem edgeMiss_leg (d : Dev) (g k : Nat) (m : Measure) :
    (edgeMiss d g k m).leg (64 * g + k) = (d.leg (64 * g + k)).missed m := by
  have leg := d.leg_setLeg (64 * g + k) ((d.leg (64 * g + k)).missed m)
  rw [edgeMiss_eq]
  split
  · exact leg
  · split <;> exact leg

/-- What a failed stage leaves on the Nib page. -/
theorem Dev.stageFailed_page (d : Dev) (g k : Nat) :
    ((d.stageFailed g k).rd (pgNib g) (Reg.nib.STUCK + k / 32)).getLsbD (k % 32) = true ∧
    ((d.stageFailed g k).rd (pgNib g) Reg.PAGE_EVT).getLsbD 2 = true := by
  refine ⟨?_, Dev.ev_bit _ _ 2 (by decide)⟩
  have other : key (pgNib g) Reg.PAGE_EVT ≠ key (pgNib g) (Reg.nib.STUCK + k / 32) :=
    key_ne_of_offset _ (by simp only [Reg.PAGE_EVT, Reg.nib.STUCK]; omega)
  rw [Dev.stageFailed, Dev.rd_ev_ne _ _ other, Dev.rd_wr_eq]
  exact setBit_bit _ _ _ (by omega)

/-- The third miss in a row. -/
theorem edgeMiss_third {d : Dev} {g k : Nat} {m : Measure} (hk : k < 64)
    (third : 2 ≤ ((d.leg (64 * g + k)).rec_ m.ty).miss) :
    ((edgeMiss d g k m).rd (pgNib g) (Reg.nib.STUCK + k / 32)).getLsbD (k % 32) = true ∧
    ((edgeMiss d g k m).rd (pgNib g) Reg.PAGE_EVT).getLsbD 2 = true ∧
    (d.rb (pgFire g) Reg.firebrk.SRCEN 4 = true → ((edgeMiss d g k m).grove g).due.testBit 4 = true) := by
  have page := Dev.stageFailed_page (d.setLeg (64 * g + k) ((d.leg (64 * g + k)).missed m)) g k
  have source : ((d.setLeg (64 * g + k) ((d.leg (64 * g + k)).missed m)).stageFailed g k).rb (pgFire g)
      Reg.firebrk.SRCEN 4 = d.rb (pgFire g) Reg.firebrk.SRCEN 4 :=
    congrArg (bit · 4) ((Dev.stageFailed_stage _ g hk).rd _ _ (by decide) (pgFire_ne_pgNib g))
  rw [edgeMiss_eq, if_neg (by omega), source]
  split
  · next enabled =>
    refine ⟨page.1, page.2, fun _ => ?_⟩
    rw [Dev.fallDue, Dev.grove_setGrove, Nat.testBit_or, show Nat.testBit 16 4 = true from rfl, Bool.or_true]
  · next disabled => exact ⟨page.1, page.2, fun enabled => absurd enabled disabled⟩

/-! ### Overlaps (R183 to R185) -/

/-- An overlap of leg `k` as it is counted. -/
def Dev.overlapCounted (d : Dev) (g k : Nat) : Dev :=
  let l := d.leg (64 * g + k)
  let d1 := d.setLeg (64 * g + k) { l with events := ((d.grove g).carNo :: l.events).take 8 }
  ((d1.wr (pgNib g) (Reg.nib.SHOOT + k / 32) (setBit (d1.rd (pgNib g) (Reg.nib.SHOOT + k / 32)) (k % 32) true)).ev
    (pgNib g) 0).incSat (pgNib g) Reg.nib.SHOOTCNT 23 0

/-- Leg `k` is declared faulty. -/
def Dev.legDeclared (d : Dev) (g k : Nat) : Dev :=
  ((d.wr (pgNib g) (Reg.nib.LEGFLT + k / 32) (setBit (d.rd (pgNib g) (Reg.nib.LEGFLT + k / 32)) (k % 32) true)).ev
    (pgNib g) 1).fallDue g 8

theorem overlapEvent_eq (d : Dev) (g k : Nat) :
    overlapEvent d g k = d.overlapCounted g k ∨ overlapEvent d g k = (d.overlapCounted g k).legDeclared g k := by
  unfold overlapEvent
  dsimp only
  split
  · exact .inr rfl
  · exact .inl rfl

/-- What an overlap leaves: SHOOT and its event, SHOOTCNT, and the carrier period in the leg's history. -/
structure Dev.Overlapped (d : Dev) (g k : Nat) (d' : Dev) : Prop where
  shoot : (d'.rd (pgNib g) (Reg.nib.SHOOT + k / 32)).getLsbD (k % 32) = true
  event : (d'.rd (pgNib g) Reg.PAGE_EVT).getLsbD 0 = true
  count : d'.rf (pgNib g) Reg.nib.SHOOTCNT 23 0 = min (2 ^ 24 - 1) (d.rf (pgNib g) Reg.nib.SHOOTCNT 23 0 + 1)
  latest : (d'.leg (64 * g + k)).events.head? = some (d.grove g).carNo

theorem Dev.overlapCounted_overlapped (d : Dev) (g : Nat) {k : Nat} (hk : k < 64) :
    d.Overlapped g k (d.overlapCounted g k) := by
  have evtShoot : key (pgNib g) Reg.PAGE_EVT ≠ key (pgNib g) (Reg.nib.SHOOT + k / 32) :=
    key_ne_of_offset _ (by simp only [Reg.PAGE_EVT, Reg.nib.SHOOT]; omega)
  have cntShoot : key (pgNib g) Reg.nib.SHOOTCNT ≠ key (pgNib g) (Reg.nib.SHOOT + k / 32) :=
    key_ne_of_offset _ (by simp only [Reg.nib.SHOOTCNT, Reg.nib.SHOOT]; omega)
  have cntEvt : key (pgNib g) Reg.nib.SHOOTCNT ≠ key (pgNib g) Reg.PAGE_EVT := key_ne_of_offset _ (by decide)
  unfold Dev.overlapCounted
  refine ⟨?_, ?_, ?_, ?_⟩
  · rw [Dev.rd_incSat_ne _ _ _ cntShoot, Dev.rd_ev_ne _ _ evtShoot, Dev.rd_wr_eq]
    exact setBit_bit _ _ _ (by omega)
  · rw [Dev.rd_incSat_ne _ _ _ cntEvt]
    exact Dev.ev_bit _ _ 0 (by decide)
  · rw [Dev.rf_incSat_eq _ _ _ _ _ (by decide) (by decide), Dev.rf, Dev.rd_ev_ne _ _ cntEvt.symm,
      Dev.rd_wr_ne _ _ cntShoot.symm, Dev.rd_setLeg, Dev.rf]
  · simp

/-- A declaration takes none of it back. -/
theorem Dev.Overlapped.declared {d d' : Dev} {g k : Nat} (h : d.Overlapped g k d') (hk : k < 64) :
    d.Overlapped g k (d'.legDeclared g k) := by
  have fltShoot : key (pgNib g) (Reg.nib.LEGFLT + k / 32) ≠ key (pgNib g) (Reg.nib.SHOOT + k / 32) :=
    key_ne_of_offset _ (by simp only [Reg.nib.LEGFLT, Reg.nib.SHOOT]; omega)
  have fltCnt : key (pgNib g) (Reg.nib.LEGFLT + k / 32) ≠ key (pgNib g) Reg.nib.SHOOTCNT :=
    key_ne_of_offset _ (by simp only [Reg.nib.LEGFLT, Reg.nib.SHOOTCNT]; omega)
  have fltEvt : key (pgNib g) (Reg.nib.LEGFLT + k / 32) ≠ key (pgNib g) Reg.PAGE_EVT :=
    key_ne_of_offset _ (by simp only [Reg.nib.LEGFLT, Reg.PAGE_EVT]; omega)
  have evtShoot : key (pgNib g) Reg.PAGE_EVT ≠ key (pgNib g) (Reg.nib.SHOOT + k / 32) :=
    key_ne_of_offset _ (by simp only [Reg.PAGE_EVT, Reg.nib.SHOOT]; omega)
  have evtCnt : key (pgNib g) Reg.PAGE_EVT ≠ key (pgNib g) Reg.nib.SHOOTCNT := key_ne_of_offset _ (by decide)
  obtain ⟨shoot, event, count, latest⟩ := h
  refine ⟨?_, ?_, ?_, latest⟩
  · rwa [Dev.legDeclared, Dev.fallDue, Dev.rd_setGrove, Dev.rd_ev_ne _ _ evtShoot, Dev.rd_wr_ne _ _ fltShoot]
  · rw [Dev.legDeclared, Dev.fallDue, Dev.rd_setGrove]
    exact Dev.ev_keeps _ _ _ (by rwa [Dev.rd_wr_ne _ _ fltEvt])
  · rwa [Dev.legDeclared, Dev.fallDue, Dev.rf_setGrove, Dev.rf, Dev.rd_ev_ne _ _ evtCnt, Dev.rd_wr_ne _ _ fltCnt]

theorem overlapEvent_overlapped (d : Dev) (g : Nat) {k : Nat} (hk : k < 64) : d.Overlapped g k (overlapEvent d g k) := by
  have counted := d.overlapCounted_overlapped g hk
  rcases overlapEvent_eq d g k with eq | eq
  · rwa [eq]
  · rw [eq]
    exact counted.declared hk

/-! ### The commands -/

section commands
variable {s : State} {g : Fin 8} {k : Fin 64} (live : s.live g)
include live

/-- NODE_RECOGNISED on the other side than the last recognition. -/
theorem exec_nodeRecognised (dt : Nat) {high : Bool} (other : (s.dev.leg (64 * g + k)).node ≠ (if high then 2 else 1)) :
    exec (.nodeRecognised dt g k high) s =
      .next (s.after (nodeSeen (s.dev.advance dt) g k (if high then 2 else 1))) := by
  refine (s.does_inGroveAfter g dt _ live).trans ?_
  rw [Dev.leg_advance, if_neg other]

/-- INCOMING_TURN_ON of a turn-on that waits, at the instant at which it is due. -/
theorem exec_incomingTurnOn {t : TurnOn} (waits : (s.dev.leg (64 * g + k)).turnOn = some t) :
    exec (.incomingTurnOn g k) s =
      .next (s.after (switchOn (s.dev.advanceTo (turnOnDue s.dev g (s.dev.leg (64 * g + k)) t)) g k t)) := by
  have reached : turnOnReached s.dev g k =
      switchOn (s.dev.advanceTo (turnOnDue s.dev g (s.dev.leg (64 * g + k)) t)) g k t := by
    rw [turnOnReached, waits]
    rfl
  rw [← reached]
  exact s.does_inGrove g (turnOnReached · g k) live

/-- EDGE_MISS of a measurement in progress, DT_MAX after its start. -/
theorem exec_edgeMiss {m : Measure} (runs : (s.dev.leg (64 * g + k)).meas = some m) :
    exec (.edgeMiss g k) s = .next (s.after (edgeMiss (s.dev.advanceTo (m.start + s.dev.dtMax g)) g k m)) := by
  have reached : missReached s.dev g k = edgeMiss (s.dev.advanceTo (m.start + s.dev.dtMax g)) g k m := by
    rw [missReached, runs]
    rfl
  rw [← reached]
  exact s.does_inGrove g (missReached · g k) live

/-- OVERLAP_EVENT while no overlap lasts. -/
theorem exec_overlapEvent (dt : Nat) (none : (s.dev.leg (64 * g + k)).overlap = false) :
    exec (.overlapEvent dt g k) s = .next (s.after (overlapEvent (s.dev.advance dt) g k)) := by
  refine (s.does_inGroveAfter g dt _ live).trans ?_
  rw [Dev.leg_advance, if_neg (by simp [none])]

end commands

@[simp] theorem Dev.leg_advanceTo (d : Dev) (t l : Nat) : (d.advanceTo t).leg l = d.leg l := Dev.leg_advance ..
@[simp] theorem Dev.rb_advanceTo (d : Dev) (t p off i : Nat) : (d.advanceTo t).rb p off i = d.rb p off i := Dev.rb_advance ..

theorem Dev.hasGrove_of_live {d : Dev} {g : Nat} (live : d.groveLive g = true) : d.hasGrove g = true :=
  ((d.groveLive_iff g).mp live).2.1

/-- Settles O27: each event by what its leg holds then; a failed stage by the cause that it makes due. -/
theorem nibEvents : Obligations.NibEvents := by
  intro s g k dt live
  refine ⟨fun high other => ?node, fun t waits => ?turnOn, fun m runs type types => ?miss, fun none => ?overlap⟩
  case node =>
    have face := nodeSeen_face (s.dev.advance dt) g k (if high then 2 else 1)
    simp only [Leg.face, Dev.advance_clk, Dev.leg_advance, Prod.mk.injEq] at face
    exact ⟨_, exec_nodeRecognised live dt other, nodeSeen_within _ _ k.isLt, face⟩
  case turnOn =>
    have within := switchOn_within (s.dev.advanceTo (turnOnDue s.dev g (s.dev.leg (64 * g + k)) t)) t k.isLt (g := g)
    refine ⟨_, exec_incomingTurnOn live waits, within.clk.trans (Dev.advanceTo_clk_eq_max ..), within, ?_⟩
    rw [switchOn_leg, Dev.leg_advanceTo]
    exact ⟨rfl, rfl, rfl⟩
  case miss =>
    have stage := edgeMiss_stage (s.dev.advanceTo (m.start + s.dev.dtMax g)) g m k.isLt
    refine ⟨_, exec_edgeMiss live runs, stage.within, ?_⟩
    rw [edgeMiss_leg, Dev.leg_advanceTo, Leg.missed_rec type types]
    refine ⟨rfl, rfl, fun third => ?_⟩
    obtain ⟨stuck, event, due⟩ := edgeMiss_third (d := s.dev.advanceTo (m.start + s.dev.dtMax g)) (m := m) k.isLt
      (g := g) (by simpa using third)
    refine ⟨Delay.missed_third third, stuck, event, fun enabled => ?_⟩
    refine settle_trippedBy ?_ (by decide) (due (by simpa using enabled))
    rw [stage.within.hasGrove, Dev.advanceTo, Dev.hasGrove_advance]
    exact Dev.hasGrove_of_live live
  case overlap =>
    obtain ⟨shoot, event, count, latest⟩ := overlapEvent_overlapped (s.dev.advance dt) g k.isLt
    exact ⟨_, exec_overlapEvent live dt none, overlapEvent_within _ g k k.isLt, shoot, event, by simpa using count,
      by simpa using latest⟩

end Sys2Proof.Machine
end

section
/-!
PROOF. The safe levels of a tripped grove (R202, R205, R212).
-/
namespace Sys2Proof.Machine

/-! ### Their instant -/

/-- The least time to the safe levels, in gck. -/
def Dev.safeTime (d : Dev) (g : Nat) : Nat := 400 * 2 ^ d.rf (pgFire g) Reg.firebrk.SAFEDT 1 0

/-- The instant at which they are reached, a free value within the bounds. -/
def Dev.safeAt (d : Dev) (g : Nat) : Nat :=
  (d.grove g).tripAt + d.safeTime g + Config.freeNat d.draws % (d.safeTime g + 1)

theorem Dev.safeAt_bounds (d : Dev) (g : Nat) :
    (d.grove g).tripAt + d.safeTime g ≤ d.safeAt g ∧ d.safeAt g ≤ (d.grove g).tripAt + 2 * d.safeTime g := by
  have free : Config.freeNat d.draws % (d.safeTime g + 1) < d.safeTime g + 1 := Nat.mod_lt _ (Nat.succ_pos _)
  unfold Dev.safeAt
  omega

/-- The number of free values drawn has no part in the passing of time. -/
theorem Dev.advance_setDraws (d : Dev) (n k : Nat) :
    ({ d with draws := n } : Dev).advance k = { d.advance k with draws := n } := by
  unfold Dev.advance
  split
  · rfl
  · dsimp only
    split <;> rfl

/-- The device in which grove `g` has reached its safe levels. -/
def Dev.safed (d : Dev) (g : Nat) : Dev :=
  { (d.advanceTo (d.safeAt g)).setGrove g { d.grove g with safe := true } with draws := d.draws + 1 }

theorem safeReached_eq {d : Dev} {g : Nat} (here : d.hasGrove g = true) (tripped : (d.grove g).tripped = true)
    (safe : (d.grove g).safe = false) : safeReached d g = d.safed g := by
  have ahead : ¬ ((!d.hasGrove g) = true ∨ (!(d.grove g).tripped) = true ∨ (d.grove g).safe = true) := by
    simp [here, tripped, safe]
  have later : ({ d with draws := d.draws + 1 } : Dev).advanceTo (d.safeAt g) =
      { d.advanceTo (d.safeAt g) with draws := d.draws + 1 } := Dev.advance_setDraws ..
  have same : ({ d.advanceTo (d.safeAt g) with draws := d.draws + 1 } : Dev).grove g = d.grove g := Dev.grove_advanceTo ..
  have reached : safeReached d g =
      (({ d with draws := d.draws + 1 } : Dev).advanceTo (d.safeAt g)).setGrove g
        { (({ d with draws := d.draws + 1 } : Dev).advanceTo (d.safeAt g)).grove g with safe := true } := if_neg ahead
  rw [reached, later, same]
  rfl

/-- Nothing but the time, the one mark and the count of free values has changed. -/
theorem Dev.safed_frame (d : Dev) (g : Nat) :
    { d.safed g with groves := d.groves, draws := d.draws } = d.advanceTo (d.safeAt g) :=
  calc { d.safed g with groves := d.groves, draws := d.draws }
    _ = { d.advanceTo (d.safeAt g) with groves := d.groves, draws := d.draws } := rfl
    _ = { d.advanceTo (d.safeAt g) with
          groves := (d.advanceTo (d.safeAt g)).groves, draws := (d.advanceTo (d.safeAt g)).draws } := by
        rw [Dev.advanceTo, Dev.advance_groves, Dev.advance_draws]
    _ = d.advanceTo (d.safeAt g) := rfl

theorem Dev.safed_grove (d : Dev) (g : Nat) : (d.safed g).grove g = { d.grove g with safe := true } :=
  Dev.grove_setGrove ..

theorem Dev.safed_clk (d : Dev) (g : Nat) : (d.safed g).clk = max d.clk (d.safeAt g) := Dev.advanceTo_clk_eq_max ..

theorem Dev.rd_safed (d : Dev) (g p off : Nat) : (d.safed g).rd p off = d.rd p off := Dev.rd_advance ..
theorem Dev.sup_safed (d : Dev) (g : Nat) : (d.safed g).sup = d.sup := Dev.advance_sup ..
theorem Dev.tap_safed (d : Dev) (g : Nat) : (d.safed g).tap = d.tap := Dev.advance_tap ..
theorem Dev.variant_safed (d : Dev) (g : Nat) : (d.safed g).variant = d.variant := Dev.advance_variant ..

/-- It makes no trip cause due. -/
theorem Dev.safed_settled {d : Dev} (settled : d.settled) (g : Nat) : (d.safed g).settled := by
  refine Dev.settled_of_due settled (d.variant_safed g) fun x => ?_
  by_cases own : g = x
  · subst own
    rw [Dev.safed_grove]
  · have same : (d.safed g).grove x = (d.advanceTo (d.safeAt g)).grove x := Dev.grove_setGrove_ne _ _ own
    rw [same, Dev.grove_advanceTo]

/-! ### What the stages drive then -/

/-- At its safe levels a grove with OUTEN at 1 drives each leg by its code (R202). -/
theorem stageOf_of_safe {d : Dev} {g : Nat} (outen : d.rb (pgFire g) Reg.PAGE_CTRL 0 = true)
    (tripped : (d.grove g).tripped = true) (safe : (d.grove g).safe = true) (k : Nat) :
    stageOf d g k = if d.safeCode g k = 1 then 1 else if d.safeCode g k = 2 then 2 else 0 := by
  simp only [stageOf, outen, tripped, safe, Bool.not_true, Bool.false_eq_true, if_false, if_true]
  split
  · next code => rw [if_pos code]
  · next code => rw [code, if_neg (by decide), if_pos rfl]
  · next one two => rw [if_neg one, if_neg two]

/-- The balls of a present grove are its stages', with no reset and no boundary scan in force. -/
theorem ballOf_eq_stageOf {d : Dev} {g : Nat} (here : d.hasGrove g = true) (awake : d.sup.inReset = false)
    (scan : d.tap.extest = false) (k : Nat) : ballOf d g k = stageOf d g k := by
  simp [ballOf, here, awake, scan]

theorem Dev.safed_ball {d : Dev} {g : Nat} (here : d.hasGrove g = true) (awake : d.sup.inReset = false)
    (tripped : (d.grove g).tripped = true) (scan : d.tap.extest = false)
    (outen : d.rb (pgFire g) Reg.PAGE_CTRL 0 = true) (k : Nat) :
    ballOf (d.safed g) g k = if d.safeCode g k = 1 then 1 else if d.safeCode g k = 2 then 2 else 0 := by
  have code : (d.safed g).safeCode g k = d.safeCode g k := by rw [Dev.safeCode, Dev.rd_safed, Dev.safeCode]
  rw [ballOf_eq_stageOf (by rw [Dev.hasGrove, Dev.variant_safed]; exact here) (by rw [Dev.sup_safed]; exact awake)
    (by rw [Dev.tap_safed]; exact scan), stageOf_of_safe (by rw [Dev.rb, Dev.rd_safed]; exact outen)
    (by rw [Dev.safed_grove]; exact tripped) (by rw [Dev.safed_grove]), code]

/-- SAFE_LEVELS of a tripped grove short of them: the device takes the one mark and settles nothing. -/
theorem exec_safeLevels {s : State} {g : Fin 8} (settled : s.settled) (here : s.dev.hasGrove g = true)
    (awake : s.dev.sup.inReset = false) (tripped : (s.dev.grove g).tripped = true) (safe : (s.dev.grove g).safe = false) :
    ∃ t, exec (.safeLevels g) s = .next t ∧ t.pending = s.pending ∧ t.dev = s.dev.safed g ∧ t.ballsFollow := by
  have next := s.does_eq (safeReached · g) awake
  rw [safeReached_eq here tripped safe] at next
  exact ⟨_, next, rfl, s.after_dev_of_settled (Dev.safed_settled settled g), s.after_follows _⟩

/-- Settles O29: the instant by its bounds, and the balls by what the stages drive in a grove at its safe levels. -/
theorem safeLevelsReached : Obligations.SafeLevelsReached := by
  intro s g settled here awake tripped safe
  obtain ⟨t, next, pending, dev, follows⟩ := exec_safeLevels settled here awake tripped safe
  obtain ⟨early, late⟩ := s.dev.safeAt_bounds g
  unfold Dev.safeTime at early late
  refine ⟨t, next, pending, ?_, ?_, ?_, fun k hk scan outen => ?_, ?_⟩
  · rw [dev, Dev.safed_grove]
  · rw [dev, Dev.safed_clk]
    omega
  · rw [dev, Dev.safed_clk]
    omega
  · rw [t.ball_eq follows g k g.isLt hk, dev, Dev.safed_ball here awake tripped scan outen]
  · rw [dev, Dev.safed_frame, Dev.safed_clk, Dev.advanceTo]
    congr 1
    omega

end Sys2Proof.Machine
end

section
/-!
PROOF. Writes of a FIREBRK page: TRIP, RSTOP, OUTEN and CLEAR (R182, R201, R204, R205).
-/
namespace Sys2Proof.Machine

/-! ### A store on a page of a grove -/

theorem storeWrite_within (d : Dev) {k : PageKind} {g p off : Nat} {f : Formed} (page : PageOf g p) (ho : off < 1024)
    (plain : f.shadow = none) : d.Within g (storeWrite d k p off f) := by
  have noted : d.Within g d.note := { Dev.Within.refl g d with apart := rfl }
  have car := noted.trans (carTo_within d.note g d.clk)
  unfold storeWrite
  rw [plain, if_pos page.high, page.of]
  exact .ite car (car.trans (page.wr _ off f.now ho))

/-- What is stored is read back, unless the register only acts. -/
theorem rd_storeWrite_self (d : Dev) {k : PageKind} (p off : Nat) {f : Formed} (plain : f.shadow = none)
    (keeps : actsOnly k off = false) : (storeWrite d k p off f).rd p off = f.now := by
  unfold storeWrite
  rw [plain, keeps]
  exact Dev.rd_wr_eq ..

/-- The accesses' side, the same for both devices. -/
theorem Dev.Within.withAcc {g : Nat} {d d' : Dev} (h : d.Within g d') (a : Access) :
    ({ d with acc := a } : Dev).Within g { d' with acc := a } :=
  ⟨(congrArg (fun e : Dev => { e with acc := a }) h.apart :), h.rd, h.grove, h.coil, h.leg, h.conv, h.cal, h.ob, h.ga⟩

/-! ### A write of the page -/

/-- Offset `off` of a FIREBRK page is a register that is one word by itself, without buffered fields. -/
structure FireReg (off : Nat) (fs : List RegField) : Prop where
  fields : fieldsAt .firebrk off = some fs
  small : off < 1024
  unlock : off ≠ Reg.PAGE_LOCK
  err : off ≠ Reg.PAGE_ERR
  writes : (!fs.isEmpty && fs.all (fun f => !f.writable)) = false
  single : pairPart .firebrk off = .single
  plain : maskOf fs RegField.buffered = 0

def fireCtrlFields : List RegField := [bf 0 0 .rwk 0, bf 1 1 .wo 0, bf 2 2 .wo 0]
def fireClearFields : List RegField := [bf 0 0 .rwk 0]

theorem fireCtrl_reg : FireReg Reg.PAGE_CTRL fireCtrlFields := ⟨rfl, by decide, by decide, by decide, rfl, rfl, rfl⟩
theorem fireClear_reg : FireReg Reg.firebrk.CLEAR fireClearFields := ⟨rfl, by decide, by decide, by decide, rfl, rfl, rfl⟩

theorem fire_page : ∀ g : Fin 8, pageKind (pgFire g) = some .firebrk ∧ pgFire g ≠ pgHostp := by decide

/-- `S` is `d` after a store in register `off` of FIREBRK `g`, where the carrier came to the write's instant. -/
structure Dev.FireStores (g off : Nat) (d S : Dev) : Prop where
  stores : d.Stores (pgFire g) off S
  within : d.Within g { S with acc := d.acc }

theorem Dev.FireStores.hasGrove {g off : Nat} {d S : Dev} (h : d.FireStores g off S) (x : Nat) :
    S.hasGrove x = d.hasGrove x := h.within.hasGrove x

theorem Dev.FireStores.tripped {g off : Nat} {d S : Dev} (h : d.FireStores g off S) :
    (S.grove g).tripped = (d.grove g).tripped := (congrArg Grove.tripped (h.stores.grove g) :)

/-- What the register then does in its grove stays within it. -/
theorem Dev.FireStores.then {g off : Nat} {d S d' : Dev} (h : d.FireStores g off S) (k : S.Within g d') :
    d.Within g { d' with acc := d.acc } := h.within.trans (k.withAcc d.acc)

theorem Dev.fireStores_storeWrite (d : Dev) (g req : Nat) {off : Nat} {f : Formed} (ho : off < 1024)
    (plain : f.shadow = none) :
    d.FireStores g off (storeWrite (consume d req (pgFire g) f.keyed) .firebrk (pgFire g) off f) where
  stores := d.stores_storeWrite req f (pgFire_of g).high ho plain
  within := by
    obtain ⟨ks, eq⟩ := consume_eq d req (pgFire g) f.keyed
    have unlocked : ({ consume d req (pgFire g) f.keyed with acc := d.acc } : Dev) = d := by rw [eq]
    have stored := (storeWrite_within (consume d req (pgFire g) f.keyed) (k := .firebrk) (pgFire_of g) ho plain).withAcc d.acc
    rwa [unlocked] at stored

/-- A write of such a register that nothing refuses: the store, and what the register does. -/
theorem FireReg.accepted {off : Nat} {fs : List RegField} (reg : FireReg off fs) {s : State} {w : RegWrite} {g : Fin 8}
    (here : s.dev.hasGrove g = true) (direct : w.win = .direct) (takes : s.takes w (pgFire g) off) :
    ∃ S, (s.dev.advance w.dt).FireStores g off S ∧
      (actsOnly .firebrk off = false → S.rd (pgFire g) off = (s.forms (pgFire g) off fs w).now) ∧
      s.writes w (pgFire g) off = .next (s.after (actFire S g off (s.dev.rd (pgFire g) off)
        (s.forms (pgFire g) off fs w).m (s.forms (pgFire g) off fs w).wo)) := by
  obtain ⟨kind, notPort⟩ := fire_page g
  obtain ⟨high, grove⟩ := pgFire_of g
  have present : pagePresent s.dev.variant (pgFire g) = true :=
    pagePresent_grove kind high (by rw [grove]; simpa [Dev.hasGrove] using here)
  have single : SingleReg (s.dev.advance w.dt) .firebrk (pgFire g) off fs :=
    ⟨kind, by simpa using present, takes.awake, reg.fields, reg.unlock, reg.writes, rfl, reg.single⟩
  have plain : (s.forms (pgFire g) off fs w).shadow = none := formWrite_shadow _ _ _ _ _ _ reg.plain
  refine ⟨_, (s.dev.advance w.dt).fireStores_storeWrite g w.req.id reg.small plain,
    fun keeps => rd_storeWrite_self _ _ _ plain keeps, ?_⟩
  rw [State.writes_of_takes takes, writeCommand_accepted single w takes.2 (.inl notPort), actWrite, if_neg reg.err, grove,
    direct, Dev.rd_advance]
  rfl

/-! ### Ramp-first requests -/

section requests
variable {d : Dev} {g : Nat} (here : d.hasGrove g = true)
include here

theorem rampRequest_tripped (c : Nat) : ((rampRequest d g c).grove g).tripped = (d.grove g).tripped := by
  obtain ⟨-, -, same, -⟩ := rampRequest_grove d g c here
  exact same

/-- The source is among the causes, and the ramp engine is asked for unless the grove has tripped. -/
theorem rampRequest_asks (c : Nat) : ((rampRequest d g c).grove g).causes.testBit c = true ∧
    ((d.grove g).tripped = false → ∃ r, ((rampRequest d g c).grove g).ramp = some r ∧ r.trips = true) := by
  obtain ⟨causes, -, -, ramp⟩ := rampRequest_grove d g c here
  exact ⟨by rw [causes, Nat.testBit_or, Nat.testBit_two_pow_self, Bool.or_true], ramp⟩

/-- The request takes no trip and no cause back. -/
theorem Grove.TrippedBy.rampRequest {b : Nat} (h : (d.grove g).TrippedBy b) (c : Nat) :
    ((Machine.rampRequest d g c).grove g).TrippedBy b := by
  obtain ⟨causes, -, -, -⟩ := rampRequest_grove d g c here
  exact ⟨(rampRequest_tripped here c).trans h.1, by rw [causes, Nat.testBit_or, h.2, Bool.true_or]⟩

end requests

/-! ### PAGE_CTRL -/

/-- What PAGE_CTRL asks for: an immediate trip with cause HOST, then the ramp engine with cause RSTOP (R201). -/
def Dev.fireActs (d : Dev) (g : Nat) (trips stops : Bool) : Dev :=
  let d1 := if trips then trip d g 5 else d
  if stops then rampRequest d1 g 11 else d1

theorem actFire_ctrl (d : Dev) (g : Nat) (old m wo : Word) : actFire d g Reg.PAGE_CTRL old m wo =
    d.fireActs g ((!bit m 0 && bit old 0) || bit wo 1) (bit wo 2) := by
  simp [actFire, Dev.fireActs]

section fireActs
variable (d : Dev) (g : Nat) (trips stops : Bool)

theorem Dev.fireActs_within : d.Within g (d.fireActs g trips stops) := by
  have tripped : d.Within g (if trips then trip d g 5 else d) := .ite (trip_within d g 5) (.refl g d)
  exact .ite (tripped.trans (rampRequest_within _ g 11)) tripped

theorem Dev.fireActs_fireKept : d.FireKept g (d.fireActs g trips stops) := by
  have tripped : d.FireKept g (if trips then trip d g 5 else d) := .ite (trip_fireKept d g 5) (.refl g d)
  exact .ite (tripped.trans (rampRequest_fireKept _ g 11)) tripped

end fireActs

section fireActs
variable {d : Dev} {g : Nat} (here : d.hasGrove g = true)
include here

theorem Dev.fireActs_trips (stops : Bool) : ((d.fireActs g true stops).grove g).TrippedBy 5 := by
  cases stops
  case false => exact trip_trippedBy here 5
  case true => exact (trip_trippedBy here 5).rampRequest (((trip_within d g 5).hasGrove g).trans here) 11

theorem Dev.fireActs_tripped (stops : Bool) : ((d.fireActs g false stops).grove g).tripped = (d.grove g).tripped := by
  cases stops
  case false => rfl
  case true => exact rampRequest_tripped here 11

theorem Dev.fireActs_stops (trips : Bool) : ((d.fireActs g trips true).grove g).causes.testBit 11 = true ∧
    (((d.fireActs g trips true).grove g).tripped = false →
      ∃ r, ((d.fireActs g trips true).grove g).ramp = some r ∧ r.trips = true) := by
  have there : (if trips then trip d g 5 else d).hasGrove g = true := by
    cases trips
    case false => exact here
    case true => exact ((trip_within d g 5).hasGrove g).trans here
  obtain ⟨cause, ramp⟩ := rampRequest_asks there 11
  exact ⟨cause, fun untripped => ramp ((rampRequest_tripped there 11).symm.trans untripped)⟩

end fireActs

/-- What a write of PAGE_CTRL that nothing refuses leaves, OUTEN as written. -/
theorem writes_fireCtrl {s : State} {w : RegWrite} {g : Fin 8} (here : s.dev.hasGrove g = true) (direct : w.win = .direct)
    (takes : s.takes w (pgFire g) Reg.PAGE_CTRL) :
    ∃ S, (s.dev.advance w.dt).FireStores g Reg.PAGE_CTRL S ∧
      S.rb (pgFire g) Reg.PAGE_CTRL 0 = w.data.getLsbD 0 ∧
      s.writes w (pgFire g) Reg.PAGE_CTRL = .next (s.after (S.fireActs g
        ((!w.data.getLsbD 0 && s.dev.rb (pgFire g) Reg.PAGE_CTRL 0) || w.data.getLsbD 1) (w.data.getLsbD 2))) := by
  obtain ⟨S, stores, word, next⟩ := fireCtrl_reg.accepted here direct takes
  have outen : bit (s.forms (pgFire g) Reg.PAGE_CTRL fireCtrlFields w).m 0 = w.data.getLsbD 0 :=
    (formWrite_m _ _ _ _ .direct _ _ (by decide) rfl rfl rfl rfl).trans (bit_eq_getLsbD ..)
  refine ⟨S, stores, ?_, ?_⟩
  · rw [Dev.rb, word rfl, State.bit_forms_now _ _ _ _ (by decide) rfl rfl, bit_eq_getLsbD]
  · rw [next, actFire_ctrl, outen, State.bit_forms_wo _ _ _ _ rfl, State.bit_forms_wo _ _ _ _ rfl]
    rfl

/-! ### CLEAR -/

/-- A cleared grove: no trip, no cause, none that waits, and CLEARED (R204). -/
theorem clearGrove_clears (d : Dev) (g : Nat) :
    ((clearGrove d g).grove g).tripped = false ∧ ((clearGrove d g).grove g).causes = 0 ∧
      ((clearGrove d g).grove g).due = 0 ∧ ((clearGrove d g).rd (pgFire g) Reg.PAGE_EVT).getLsbD 1 = true := by
  unfold clearGrove
  dsimp only
  rw [Dev.grove_ev, Dev.grove_setGrove]
  exact ⟨rfl, rfl, rfl, Dev.ev_bit _ _ 1 (by decide)⟩

/-- A write of CLEAR that nothing refuses, its bit set. -/
theorem writes_fireClear {s : State} {w : RegWrite} {g : Fin 8} (here : s.dev.hasGrove g = true) (direct : w.win = .direct)
    (takes : s.takes w (pgFire g) Reg.firebrk.CLEAR) (go : w.data.getLsbD 0 = true) :
    ∃ S, s.writes w (pgFire g) Reg.firebrk.CLEAR = .next (s.after (clearGrove S g)) := by
  obtain ⟨S, -, -, next⟩ := fireClear_reg.accepted here direct takes
  have set : bit (s.forms (pgFire g) Reg.firebrk.CLEAR fireClearFields w).m 0 = true :=
    (formWrite_m _ _ _ _ .direct _ _ (by decide) rfl rfl rfl rfl).trans ((bit_eq_getLsbD ..).trans go)
  refine ⟨S, ?_⟩
  rw [next]
  simp [actFire, set]

/-- Settles O30: the three bits of PAGE_CTRL are one write with its two requests; CLEAR is its own. -/
theorem firebreakWrites : Obligations.FirebreakWrites := by
  intro s g w here direct
  refine ⟨fun takes => ?ctrl, fun takes go => ?clear⟩
  case ctrl =>
    obtain ⟨S, stores, outen, next⟩ := writes_fireCtrl here direct takes
    have there : S.hasGrove g = true := (stores.hasGrove g).trans (by simpa using here)
    refine ⟨fun trips => ?trip, fun stops => ?rstop, ⟨_, next, ?outen,
      fun falls high => ?falls, fun rises quiet => ?rises⟩⟩
    case trip =>
      rw [trips, Bool.or_true] at next
      obtain ⟨tripped, cause⟩ := Dev.fireActs_trips there (w.data.getLsbD 2)
      have within := stores.then (S.fireActs_within g true (w.data.getLsbD 2))
      rw [Dev.advance_acc] at within
      exact ⟨_, next, tripped, cause, within⟩
    case rstop =>
      rw [stops] at next
      exact ⟨_, next, Dev.fireActs_stops there _⟩
    case outen =>
      rw [← outen, Dev.rb, Dev.rb, (S.fireActs_fireKept g _ _).rd _ (by decide) (by decide) (by decide)]
    case falls =>
      rw [falls, high]
      exact (Dev.fireActs_trips there _).1
    case rises =>
      rw [rises, quiet, Bool.not_true, Bool.false_and, Bool.or_false, Dev.fireActs_tripped there, stores.tripped,
        Dev.grove_advance]
  case clear =>
    obtain ⟨S, next⟩ := writes_fireClear here direct takes go
    exact ⟨_, next, clearGrove_clears S g⟩

end Sys2Proof.Machine
end

section
/-!
PROOF. A debug halt of a grove and the ends of its HOLD (R209, R210, R457).
-/
namespace Sys2Proof.Machine

/-- The test port's shift of HALTCTL reaches no grove. -/
theorem haltDone_grove (d : Dev) (g : Nat) : (haltDone d).grove g = d.grove g := rfl

/-! ### The halt -/

section halt
variable {d : Dev} {g : Nat} (runs : d.grovesRun = true) (here : d.hasGrove g = true) (untripped : (d.grove g).tripped = false)
include runs here untripped

/-- A halt of a grove that runs and has not tripped is the grove's own. -/
theorem groveHalt_eq : groveHalt d g = haltDone (haltGrove d g) := by
  have acts : d.haltsAct = true := runs
  simp [groveHalt, acts, here, untripped]

/-- With HOLD enabled for debug halts, the grove holds from now on. -/
theorem groveHalt_holds (free : (d.grove g).held = none) (enabled : bit (d.rd (pgFire g) Reg.firebrk.DBG) 0 = true)
    (hold : bit (d.rd (pgFire g) Reg.firebrk.DBG) 4 = true) : (groveHalt d g).grove g =
      { d.grove g with held := some ⟨d.clk, fld (d.rd (pgFire g) Reg.firebrk.DBG) 27 16⟩ } := by
  rw [groveHalt_eq runs here untripped, haltDone_grove]
  simp [haltGrove, enabled, hold, free]

/-- Without it, its ramp engine is asked for with cause DEBUG. -/
theorem groveHalt_ramps
    (off : ¬ (bit (d.rd (pgFire g) Reg.firebrk.DBG) 0 = true ∧ bit (d.rd (pgFire g) Reg.firebrk.DBG) 4 = true)) :
    ((groveHalt d g).grove g).causes.testBit 9 = true ∧
      ∃ r, ((groveHalt d g).grove g).ramp = some r ∧ r.trips = true := by
  obtain ⟨cause, ramp⟩ := rampRequest_asks here 9
  have asked : haltGrove d g = rampRequest d g 9 := if_neg off
  rw [groveHalt_eq runs here untripped, haltDone_grove, asked]
  exact ⟨cause, ramp untripped⟩

end halt

/-! ### The ends of a HOLD -/

/-- A HOLD that ends trips its grove with cause DEBUG. -/
theorem holdTrip_ends {d : Dev} {g : Nat} (here : d.hasGrove g = true) :
    ((holdTrip d g).grove g).held = none ∧ ((holdTrip d g).grove g).TrippedBy 9 := by
  have here' : (endHold d g).hasGrove g = true := ((endHold_within d g).hasGrove g).trans here
  exact ⟨(trip_causes (endHold d g) g 9 here').2, trip_trippedBy here' 9⟩

theorem holdTrip_within (d : Dev) (g : Nat) : d.Within g (holdTrip d g) :=
  (endHold_within d g).trans (trip_within (endHold d g) g 9)

theorem holdTrip_fireKept (d : Dev) (g : Nat) : d.FireKept g (holdTrip d g) :=
  (endHold_fireKept d g).trans (trip_fireKept (endHold d g) g 9)

/-- A resume ends the HOLD of its grove. -/
theorem groveResume_ends {d : Dev} {g : Nat} {h : Hold} (here : d.hasGrove g = true) (held : (d.grove g).held = some h) :
    ((groveResume d g).grove g).held = none ∧ ((groveResume d g).grove g).TrippedBy 9 := by
  have ends : groveResume d g = haltDone (holdTrip d g) := by simp [groveResume, here, held]
  rw [ends, haltDone_grove]
  exact holdTrip_ends here

theorem holdExpires_eq {d : Dev} {g : Nat} {h : Hold} (held : (d.grove g).held = some h) (bounded : h.holdmax ≠ 0) :
    holdExpires d g = holdTrip ((d.advanceTo (h.since + 400 * h.holdmax)).ev (pgFire g) 4) g := by
  simp [holdExpires, held, bounded, atInstant]

/-! ### The commands -/

section commands
variable {s : State} {g : Fin 8} (runs : s.runs) (here : s.dev.hasGrove g = true)
include runs

theorem exec_groveHalt (dt : Nat) : exec (.groveHalt dt g) s = .next (s.after (groveHalt (s.dev.advance dt) g)) := by
  rw [← Dev.pass_of_awake (Dev.awake_of_grovesRun runs) dt]
  rfl

theorem exec_groveResume (dt : Nat) : exec (.groveResume dt g) s = .next (s.after (groveResume (s.dev.advance dt) g)) := by
  rw [← Dev.pass_of_awake (Dev.awake_of_grovesRun runs) dt]
  rfl

include here

/-- HOLDMAX of a HOLD that has one. -/
theorem exec_holdmaxExpiry {h : Hold} (held : (s.dev.grove g).held = some h) (bounded : h.holdmax ≠ 0) :
    ∃ d, exec (.holdmaxExpiry g) s = .next (s.after d) ∧ d.clk = max s.dev.clk (h.since + 400 * h.holdmax) ∧
      (d.grove g).held = none ∧ (d.grove g).TrippedBy 9 ∧ (d.rd (pgFire g) Reg.PAGE_EVT).getLsbD 4 = true := by
  have next := s.does_inIslands 0 (holdExpires · g) runs
  rw [Dev.advance_zero, holdExpires_eq held bounded] at next
  have there : ((s.dev.advanceTo (h.since + 400 * h.holdmax)).ev (pgFire g) 4).hasGrove g = true := by
    simpa [Dev.hasGrove, Dev.advanceTo] using here
  have clk := ((pgFire_of g).ev (s.dev.advanceTo (h.since + 400 * h.holdmax)) 4).clk
  obtain ⟨free, tripped⟩ := holdTrip_ends there
  exact ⟨_, next, (holdTrip_within _ g).clk.trans (clk.trans (Dev.advanceTo_clk_eq_max ..)), free, tripped,
    (holdTrip_fireKept _ g).event 4 (Dev.ev_bit (s.dev.advanceTo (h.since + 400 * h.holdmax)) _ 4 (by decide))⟩

end commands

/-- Settles O31: the halt by whether DBG enables HOLD for it; both ends of a HOLD are one trip. -/
theorem debugHold : Obligations.DebugHold := by
  intro s g dt runs here
  have runs' : (s.dev.advance dt).grovesRun = true := (s.dev.grovesRun_advance dt).trans runs
  have here' : (s.dev.advance dt).hasGrove g = true := (s.dev.hasGrove_advance dt g).trans here
  refine ⟨fun untripped free enabled hold => ?hold, fun untripped off => ?ramp,
    fun h held => ⟨?resume, fun bounded => ?expiry⟩⟩
  case hold =>
    have holds := groveHalt_holds runs' here' (by simpa using untripped) (by simpa using free)
      (by simpa [bit_eq_getLsbD] using enabled) (by simpa [bit_eq_getLsbD] using hold)
    rw [Dev.grove_advance, Dev.rd_advance, Dev.advance_clk] at holds
    exact ⟨_, exec_groveHalt runs dt, by rw [holds], by rw [holds]; exact untripped⟩
  case ramp =>
    exact ⟨_, exec_groveHalt runs dt,
      groveHalt_ramps runs' here' (by simpa using untripped) (by simpa only [bit_eq_getLsbD, Dev.rd_advance] using off)⟩
  case resume =>
    obtain ⟨free, tripped, cause⟩ := groveResume_ends here' (by simpa using held)
    exact ⟨_, exec_groveResume runs dt, free, tripped, cause⟩
  case expiry =>
    obtain ⟨d, next, clk, free, ⟨tripped, cause⟩, event⟩ := exec_holdmaxExpiry runs here held bounded
    exact ⟨d, next, clk, free, tripped, cause, event⟩

end Sys2Proof.Machine
end

section
/-!
SUPPORT. The converters of a grove: when their commands act, what a trigger, a start and the end of a conversion do case by
case, and what a trigger that a grove offers leaves of a converter.
-/
namespace Sys2Proof.Machine

/-- A command of a converter whose islands run answers the state after its effect, `dt` gck from now; a HOLD does not stop
it (R209). -/
theorem State.does_inConv (s : State) (c dt : Nat) (f : Dev → Dev) (runs : s.runs) (here : s.dev.hasGrove (c / 4) = true) :
    s.does (inConv c dt f) = .next (s.after (f (s.dev.advance dt))) := by
  have acts : (s.dev.advance dt).grovesRun = true ∧ (s.dev.advance dt).hasGrove (c / 4) = true :=
    ⟨(s.dev.grovesRun_advance dt).trans runs, (s.dev.hasGrove_advance dt _).trans here⟩
  rw [State.does_eq s _ (Dev.awake_of_grovesRun runs), inConv, if_pos acts]

/-! ### Starts -/

/-- Nothing of the sequence side of converter `c` stands against a start (R222, R223, R232). -/
structure Dev.CanStart (d : Dev) (c : Nat) : Prop where
  noCal : d.calSt (c / 4) ≠ .running
  noSeq : (d.conv c).seqOn = false
  noHeld : (d.conv c).held = false

/-- Converter 0 of a grove is taken for the measurement of an APPLY (R235). -/
def Dev.applies (d : Dev) (c : Nat) : Prop := d.calSt (c / 4) = .applying ∧ c % 4 = 0

/-- Converter `c` has urgent work (R223, R235). -/
def Dev.urgentWork (d : Dev) (c : Nat) : Prop :=
  (d.conv c).urgentRuns = true ∨ (d.conv c).queue ≠ [] ∨ d.applies c

theorem Dev.calRuns_iff (d : Dev) (g : Nat) : d.calRuns g = true ↔ d.calSt g = .running := by simp [Dev.calRuns]
theorem Dev.calApplies_iff (d : Dev) (g : Nat) : d.calApplies g = true ↔ d.calSt g = .applying := by simp [Dev.calApplies]

/-- A converter whose entry `e` starts at instant `t` with entry word `w`. -/
def Conv.entering (v : Conv) (e : Nat) (w : Word) (rerun : Bool) (t : Nat) : Conv :=
  { v with run := some ⟨e, w, rerun, none, 0, 0, 0, t, t + sampleTime w⟩, seqOn := true, again := none, entry := e }

theorem startEntry_conv (d : Dev) (c e : Nat) (rerun : Bool) (t : Nat) : (startEntry d c e rerun t).conv c =
    (d.conv c).entering e (d.rd (pgCv c) (Reg.conv.ENT + e)) rerun t := Dev.conv_setConv ..

section trigger
variable {d : Dev} {c : Nat}

theorem convTrigger_of_disabled (off : d.rb (pgCv c) Reg.conv.CTRL 16 = false) : convTrigger d c = d := by
  simp [convTrigger, off]

theorem convTrigger_of_busy (on : d.rb (pgCv c) Reg.conv.CTRL 16 = true)
    (busy : d.calSt (c / 4) = .running ∨ (d.conv c).seqOn = true ∨ (d.conv c).held = true) :
    convTrigger d c = ignoreTrigger d c := by
  rw [convTrigger, on, if_neg (by decide), if_pos (by rwa [Dev.calRuns_iff])]

theorem Dev.CanStart.notBusy (may : d.CanStart c) :
    ¬ (d.calRuns (c / 4) = true ∨ (d.conv c).seqOn = true ∨ (d.conv c).held = true) := by
  obtain ⟨noCal, noSeq, noHeld⟩ := may
  simp [Dev.calRuns_iff, noCal, noSeq, noHeld]

theorem Dev.urgentWork_iff : ((d.conv c).urgentRuns = true ∨ (!(d.conv c).queue.isEmpty) = true ∨
    (d.calApplies (c / 4) = true ∧ c % 4 = 0)) ↔ d.urgentWork c := by
  simp [Dev.urgentWork, Dev.applies, Dev.calApplies_iff]

theorem convTrigger_of_urgentWork (on : d.rb (pgCv c) Reg.conv.CTRL 16 = true) (may : d.CanStart c)
    (work : d.urgentWork c) : convTrigger d c = d.setConv c { d.conv c with held := true } := by
  rw [convTrigger, on, if_neg (by decide), if_neg may.notBusy, if_pos (Dev.urgentWork_iff.mpr work)]

theorem convTrigger_of_free (on : d.rb (pgCv c) Reg.conv.CTRL 16 = true) (may : d.CanStart c)
    (free : ¬ d.urgentWork c) : convTrigger d c = startEntry d c 0 false (modEdge (c / 4) (d.clk + 1)) := by
  rw [convTrigger, on, if_neg (by decide), if_neg may.notBusy, if_neg (mt Dev.urgentWork_iff.mp free)]

/-- A converter without urgent work. -/
theorem Dev.not_urgentWork (quiet : (d.conv c).urgentRuns = false) (empty : (d.conv c).queue = [])
    (other : ¬ d.applies c) : ¬ d.urgentWork c := by
  rintro (runs | waits | applies)
  · exact Bool.false_ne_true (quiet.symm.trans runs)
  · exact waits empty
  · exact other applies

end trigger

/-- An ignored trigger: counted, with its event, and the converter as it was (R223). -/
theorem ignoreTrigger_counts (d : Dev) (c : Nat) :
    (ignoreTrigger d c).rf (pgCv c) Reg.conv.TOVRCNT 23 0 = min (2 ^ 24 - 1) (d.rf (pgCv c) Reg.conv.TOVRCNT 23 0 + 1) ∧
    ((ignoreTrigger d c).rd (pgCv c) Reg.PAGE_EVT).getLsbD 2 = true ∧ (ignoreTrigger d c).conv c = d.conv c := by
  refine ⟨?_, Dev.ev_bit _ _ 2 (by decide), (Dev.conv_ev ..).trans (Dev.conv_incSat ..)⟩
  rw [ignoreTrigger, Dev.rf, Dev.rd_ev_ne _ _ (key_ne_of_offset _ (by decide)), ← Dev.rf]
  exact d.rf_incSat_eq _ _ 23 0 (by decide) (by decide)

/-! ### What a converter goes on with (R229, R230) -/

section next
variable {d : Dev} {c : Nat} (t : Nat)

theorem convNext_of_running (runs : (d.conv c).run.isSome = true) : convNext d c t = d := by
  simp [convNext, runs]

theorem convNext_of_queue {u : Urgent} {q : List Urgent} (stands : (d.conv c).run = none) (queue : (d.conv c).queue = u :: q) :
    convNext d c t = startUrgent (d.setConv c { d.conv c with queue := q }) c u t := by
  simp [convNext, stands, queue]

theorem convNext_of_again {e : Nat} (stands : (d.conv c).run = none) (empty : (d.conv c).queue = [])
    (other : ¬ d.applies c) (again : (d.conv c).again = some e) : convNext d c t = startEntry d c e true t := by
  have goes : ¬ (d.calApplies (c / 4) = true ∧ c % 4 = 0) := by rwa [Dev.calApplies_iff]
  simp only [convNext, stands, empty, if_neg goes, again]
  rfl

theorem convNext_of_nothing (stands : (d.conv c).run = none) (empty : (d.conv c).queue = [])
    (again : (d.conv c).again = none) (held : (d.conv c).held = false) : convNext d c t = d := by
  simp [convNext, stands, empty, again, held]

end next

theorem convNext_clk (d : Dev) (c t : Nat) : (convNext d c t).clk = d.clk := (convNext_within d t (g := c / 4) rfl).clk

theorem startUrgent_conv (d : Dev) (c : Nat) (u : Urgent) (t : Nat) : (startUrgent d c u t).conv c =
    { d.conv c with run := some ⟨0, urgentWord u, false, some u, 0, 0, 0, t, t + sampleTime (urgentWord u)⟩ } :=
  Dev.conv_setConv ..

end Sys2Proof.Machine
end

section
/-!
PROOF. Triggers of a converter's sequence (R222, R223).
-/
namespace Sys2Proof.Machine

theorem exec_sequenceTrigger {s : State} {c : Fin 32} (dt : Nat) (runs : s.runs) (here : s.dev.hasGrove (c / 4) = true)
    (source : s.dev.rf (pgCv c) Reg.conv.TRIG 2 0 ≠ 0) :
    exec (.sequenceTrigger dt c) s = .next (s.after (convTrigger (s.dev.advance dt) c)) := by
  refine (s.does_inConv c dt _ runs here).trans ?_
  rw [if_neg (by rwa [Dev.rf_advance])]

/-- Settles O32: the four outcomes of a trigger are the four branches of `convTrigger`. -/
theorem sequenceTriggers : Obligations.SequenceTriggers := by
  intro s c dt runs here source
  refine ⟨_, exec_sequenceTrigger dt runs here source, (convTrigger_converts _ rfl).within, fun off => ?disabled,
    fun on busy => ?busy, fun on noCal noSeq noHeld => ?starts⟩
  case disabled => exact convTrigger_of_disabled (by rwa [Dev.rb_advance])
  case busy =>
    rw [convTrigger_of_busy (by rwa [Dev.rb_advance]) (by rwa [Dev.calSt_advance, Dev.conv_advance]),
      ← s.dev.rf_advance dt, ← s.dev.conv_advance dt]
    exact ignoreTrigger_counts _ _
  case starts =>
    have on : (s.dev.advance dt).rb (pgCv c) Reg.conv.CTRL 16 = true := by rwa [Dev.rb_advance]
    have may : (s.dev.advance dt).CanStart c :=
      ⟨by rwa [Dev.calSt_advance], by rwa [Dev.conv_advance], by rwa [Dev.conv_advance]⟩
    have same : (s.dev.advance dt).applies c = s.dev.applies c := by rw [Dev.applies, Dev.applies, Dev.calSt_advance]
    refine ⟨fun work => ?held, fun quiet empty other => ?free⟩
    case held =>
      rw [convTrigger_of_urgentWork on may (by rwa [Dev.urgentWork, Dev.conv_advance, same]), Dev.conv_setConv,
        Dev.conv_advance]
    case free =>
      have free : ¬ (s.dev.advance dt).urgentWork c :=
        Dev.not_urgentWork (by rwa [Dev.conv_advance]) (by rwa [Dev.conv_advance]) (by rwa [same])
      rw [convTrigger_of_free on may free, startEntry_conv, Dev.rd_advance, Dev.advance_clk]
      exact ⟨_, rfl, rfl, rfl, rfl, rfl, rfl⟩

end Sys2Proof.Machine
end

section
/-!
PROOF. The end of a conversion and what runs next (R221, R229).
-/
namespace Sys2Proof.Machine

/-! ### The result goes to the filter -/

/-- Converter `c` has stopped sampling, its result `x` in the filter (R225). -/
def Dev.sampled (d : Dev) (c : Nat) (x : Conversion) : Dev :=
  d.setConv c { d.conv c with run := none, filter := (d.conv c).filter ++ [x] }

theorem Dev.sampled_conv (d : Dev) (c : Nat) (x : Conversion) : (d.sampled c x).conv c =
    { d.conv c with run := none, filter := (d.conv c).filter ++ [x] } := Dev.conv_setConv ..

theorem Dev.sampled_within (d : Dev) (c : Nat) (x : Conversion) : d.Within (c / 4) (d.sampled c x) := d.setConv_within _ rfl

/-- What a result and the conversion that gave it have in common. -/
structure Conversion.Gives (r x : Conversion) : Prop where
  word : x.word = r.word
  entry : x.entry = r.entry
  rerun : x.rerun = r.rerun
  urgent : x.urgent = r.urgent

theorem conversionEnd_of_sequence (d : Dev) (c : Nat) {r : Conversion} (isEntry : r.urgent = none) :
    conversionEnd d c r = entryEnd (d.sampled c r) c r.entry r.endAt := by
  rw [conversionEnd, isEntry]
  dsimp only
  rw [samplingEnd, isEntry]
  rfl

/-- An urgent conversion closes its window, if that stands open, and the converter goes on (R168, R229). -/
theorem conversionEnd_of_urgent (d : Dev) (c : Nat) {r : Conversion} {u : Urgent} (urgent : r.urgent = some u) :
    ∃ x, r.Gives x ∧ (conversionEnd d c r).conv c = (convNext (d.sampled c x) c r.endAt).conv c ∧
      (conversionEnd d c r).clk = d.clk := by
  have ends : ∀ x : Conversion, x.urgent = some u → x.endAt = r.endAt →
      samplingEnd d c x = convNext (d.sampled c x) c r.endAt := fun x ux ex => by
    rw [samplingEnd, ux, ← ex]
    rfl
  have clk : ∀ x, (convNext (d.sampled c x) c r.endAt).clk = d.clk := fun x => convNext_clk ..
  rw [conversionEnd, urgent]
  dsimp only
  split
  next w _ =>
    rw [ends (tagged r w) urgent rfl]
    exact ⟨tagged r w, ⟨rfl, rfl, rfl, rfl⟩, rfl, clk _⟩
  next =>
    rw [ends r urgent rfl]
    exact ⟨r, ⟨rfl, rfl, rfl, rfl⟩, rfl, clk _⟩

/-! ### After an entry of a sequence (R221) -/

/-- A sequence has come to its end, and counts. -/
def Dev.sequenceCounted (d : Dev) (c : Nat) : Dev := (d.incWrap (pgCv c) Reg.conv.SEQCNT 35 0 1).ev (pgCv c) 0

section entryEnd
variable (d : Dev) {c e : Nat} (t : Nat)

theorem entryEnd_of_before (before : e < d.rf (pgCv c) Reg.conv.CTRL 3 0) :
    entryEnd d c e t = startEntry d c (e + 1) false t := if_neg (Nat.not_le.mpr before)

theorem entryEnd_of_last (last : d.rf (pgCv c) Reg.conv.CTRL 3 0 ≤ e) : entryEnd d c e t =
    if d.rb (pgCv c) Reg.conv.CTRL 4 then startEntry (d.sequenceCounted c) c 0 false t
    else (d.sequenceCounted c).setConv c { (d.sequenceCounted c).conv c with seqOn := false } := by
  rw [entryEnd, if_pos last]
  rfl

theorem Dev.sequenceCounted_within (c : Nat) : d.Within (c / 4) (d.sequenceCounted c) :=
  ((pgCv_of rfl).wf d _ _ _ _ (by decide)).trans ((pgCv_of rfl).ev _ 0)

theorem entryEnd_within : d.Within (c / 4) (entryEnd d c e t) := by
  rcases Nat.lt_or_ge e (d.rf (pgCv c) Reg.conv.CTRL 3 0) with before | last
  · rw [entryEnd_of_before d t before]
    exact startEntry_within d _ _ _ rfl
  · rw [entryEnd_of_last d t last]
    exact (d.sequenceCounted_within c).trans (.ite (startEntry_within _ _ _ _ rfl) (Dev.setConv_within _ _ rfl))

/-- No end of an entry touches the filter. -/
theorem entryEnd_filter : ((entryEnd d c e t).conv c).filter = (d.conv c).filter := by
  rcases Nat.lt_or_ge e (d.rf (pgCv c) Reg.conv.CTRL 3 0) with before | last
  · rw [entryEnd_of_before d t before, startEntry_conv]
    rfl
  · rw [entryEnd_of_last d t last]
    split
    · rw [startEntry_conv]
      rfl
    · rw [Dev.conv_setConv]
      rfl

theorem Dev.sequenceCounted_count : (d.sequenceCounted c).rf (pgCv c) Reg.conv.SEQCNT 35 0 =
    (d.rf (pgCv c) Reg.conv.SEQCNT 35 0 + 1) % 2 ^ 36 := by
  rw [Dev.sequenceCounted, Dev.rf, Dev.rd_ev_ne _ _ (key_ne_of_offset _ (by decide)), ← Dev.rf]
  exact d.rf_wf_eq _ _ 35 0 _ (by decide) (by decide)

theorem Dev.sequenceCounted_event : ((d.sequenceCounted c).rd (pgCv c) Reg.PAGE_EVT).getLsbD 0 = true :=
  Dev.ev_bit _ _ 0 (by decide)

theorem Dev.sequenceCounted_conv : (d.sequenceCounted c).conv c = d.conv c := rfl

/-- What follows changes no register. -/
theorem rd_entryEnd_of_last (last : d.rf (pgCv c) Reg.conv.CTRL 3 0 ≤ e) (p off : Nat) :
    (entryEnd d c e t).rd p off = (d.sequenceCounted c).rd p off := by
  rw [entryEnd_of_last d t last]
  split <;> rfl

/-- After the last entry the sequence begins again in mode CONT. -/
theorem entryEnd_cont (last : d.rf (pgCv c) Reg.conv.CTRL 3 0 ≤ e) (cont : d.rb (pgCv c) Reg.conv.CTRL 4 = true) :
    entryEnd d c e t = startEntry (d.sequenceCounted c) c 0 false t := by
  rw [entryEnd_of_last d t last, if_pos cont]

/-- Else it is at its end. -/
theorem entryEnd_stops (last : d.rf (pgCv c) Reg.conv.CTRL 3 0 ≤ e) (single : d.rb (pgCv c) Reg.conv.CTRL 4 = false) :
    (entryEnd d c e t).conv c = { d.conv c with seqOn := false } := by
  rw [entryEnd_of_last d t last, single, if_neg Bool.false_ne_true, Dev.conv_setConv,
    d.sequenceCounted_conv]

end entryEnd

/-- Nor does what a converter goes on with touch the filter. -/
theorem convNext_filter (d : Dev) (c t : Nat) : ((convNext d c t).conv c).filter = (d.conv c).filter := by
  unfold convNext
  dsimp only
  split
  · rfl
  · split
    · rw [startUrgent_conv, Dev.conv_setConv]
    · split
      · rfl
      · split
        · rw [startEntry_conv]; rfl
        · split
          · rw [startEntry_conv, Dev.conv_setConv]; rfl
          · rfl

/-! ### The command -/

theorem exec_conversionEnd {s : State} {c : Fin 32} {r : Conversion} (runs : s.runs) (here : s.dev.hasGrove (c / 4) = true)
    (run : (s.dev.conv c).run = some r) :
    exec (.conversionEnd c) s = .next (s.after (conversionEnd (s.dev.advanceTo r.endAt) c r)) := by
  have reached : samplingReached s.dev c = conversionEnd (s.dev.advanceTo r.endAt) c r := by
    rw [samplingReached, run]
    rfl
  rw [← reached]
  exact s.does_inConv c 0 (samplingReached · c) runs here

@[simp] theorem Dev.rd_advanceTo (d : Dev) (t p off : Nat) : (d.advanceTo t).rd p off = d.rd p off := Dev.rd_advance ..
@[simp] theorem Dev.calSt_advanceTo (d : Dev) (t g : Nat) : (d.advanceTo t).calSt g = d.calSt g := Dev.calSt_advance ..

/-- The end of a sequence entry. -/
theorem sequenceConversion_ends {d : Dev} {c : Nat} {r : Conversion} (isEntry : r.urgent = none) :
    d.Within (c / 4) (conversionEnd d c r) ∧ ((conversionEnd d c r).conv c).filter = (d.conv c).filter ++ [r] := by
  rw [conversionEnd_of_sequence d c isEntry]
  refine ⟨(d.sampled_within c r).trans (entryEnd_within ..), ?_⟩
  rw [entryEnd_filter, Dev.sampled_conv]

/-- Settles O33: a sequence entry ends in `entryEnd`, an urgent conversion in `convNext`, both with the result in the filter. -/
theorem conversionEnds : Obligations.ConversionEnds := by
  intro s c r runs here run
  have at_ := s.dev.advanceTo_clk_eq_max r.endAt
  refine ⟨_, exec_conversionEnd runs here run, ?clk, ?filter, fun isEntry => ?sequence, fun u urgent => ?urgent⟩
  case clk =>
    rw [← at_]
    cases urgent : r.urgent with
    | none => exact (sequenceConversion_ends urgent).1.clk
    | some u =>
      obtain ⟨-, -, -, clk⟩ := conversionEnd_of_urgent (s.dev.advanceTo r.endAt) c urgent
      exact clk
  case filter =>
    rw [← s.dev.conv_advanceTo r.endAt]
    cases urgent : r.urgent with
    | none => exact ⟨r, (sequenceConversion_ends urgent).2, rfl, rfl, rfl, urgent⟩
    | some u =>
      obtain ⟨x, gives, conv, -⟩ := conversionEnd_of_urgent (s.dev.advanceTo r.endAt) c urgent
      refine ⟨x, ?_, gives.word, gives.entry, gives.rerun, gives.urgent.trans urgent⟩
      rw [conv, convNext_filter, Dev.sampled_conv]
  case sequence =>
    have within := (sequenceConversion_ends (d := s.dev.advanceTo r.endAt) (c := c) isEntry).1
    rw [conversionEnd_of_sequence _ _ isEntry] at within ⊢
    have ctrl : ∀ hi lo, ((s.dev.advanceTo r.endAt).sampled c r).rf (pgCv c) Reg.conv.CTRL hi lo =
        s.dev.rf (pgCv c) Reg.conv.CTRL hi lo := fun hi lo => s.dev.rf_advanceTo ..
    refine ⟨within, fun before => ?_, fun last => ?_⟩
    · rw [entryEnd_of_before _ _ (by rwa [ctrl]), startEntry_conv]
      exact ⟨_, rfl, rfl, s.dev.rd_advanceTo .., rfl, rfl⟩
    · rw [← ctrl] at last
      have cont : ((s.dev.advanceTo r.endAt).sampled c r).rb (pgCv c) Reg.conv.CTRL 4 = s.dev.rb (pgCv c) Reg.conv.CTRL 4 :=
        s.dev.rb_advanceTo ..
      refine ⟨?_, ?_, fun again => ?_, fun single => ?_⟩
      · rw [Dev.rf, rd_entryEnd_of_last _ _ last, ← Dev.rf, Dev.sequenceCounted_count]
        exact congrArg (fun n => (n + 1) % 2 ^ 36) (s.dev.rf_advanceTo ..)
      · rw [rd_entryEnd_of_last _ _ last]
        exact Dev.sequenceCounted_event _
      · rw [entryEnd_cont _ _ last (cont.trans again), startEntry_conv]
        exact ⟨_, rfl, rfl, rfl⟩
      · rw [entryEnd_stops _ _ last (cont.trans single), Dev.sampled_conv]
        exact ⟨rfl, rfl⟩
  case urgent =>
    obtain ⟨x, -, conv, -⟩ := conversionEnd_of_urgent (s.dev.advanceTo r.endAt) c urgent
    have sampled : ((s.dev.advanceTo r.endAt).sampled c x).conv c =
        { s.dev.conv c with run := none, filter := (s.dev.conv c).filter ++ [x] } := by
      rw [Dev.sampled_conv, Dev.conv_advanceTo]
    rw [conv]
    refine ⟨fun u2 q queue => ?_, fun e empty again other => ?_⟩
    · rw [convNext_of_queue _ (congrArg Conv.run sampled) ((congrArg Conv.queue sampled).trans queue), startUrgent_conv,
        Dev.conv_setConv]
      exact ⟨rfl, _, rfl, rfl⟩
    · have free : ¬ ((s.dev.advanceTo r.endAt).sampled c x).applies c := by
        rwa [Dev.applies, Dev.sampled, Dev.calSt_setConv, Dev.calSt_advanceTo]
      rw [convNext_of_again _ (congrArg Conv.run sampled) ((congrArg Conv.queue sampled).trans empty) free
        ((congrArg Conv.again sampled).trans again), startEntry_conv]
      exact ⟨_, rfl, rfl, rfl, rfl⟩

end Sys2Proof.Machine
end

section
/-!
PROOF. A result is corrected and delivered (R225, R226).
-/
namespace Sys2Proof.Machine

/-! ### What a delivered sequence result leaves of its converter's page -/

/-- `d'` keeps of converter `c` what `d` has: its filter, its registers but TOVRCNT and PAGE_EVT, and the events that have
occurred. -/
structure Dev.ConvKept (c : Nat) (d d' : Dev) : Prop where
  filter : (d'.conv c).filter = (d.conv c).filter
  rd : ∀ off, off < 1024 → off ≠ Reg.conv.TOVRCNT → off ≠ Reg.PAGE_EVT → d'.rd (pgCv c) off = d.rd (pgCv c) off
  event : ∀ i, (d.rd (pgCv c) Reg.PAGE_EVT).getLsbD i = true → (d'.rd (pgCv c) Reg.PAGE_EVT).getLsbD i = true

theorem Dev.ConvKept.refl (c : Nat) (d : Dev) : d.ConvKept c d := ⟨rfl, fun _ _ _ _ => rfl, fun _ h => h⟩

theorem Dev.ConvKept.trans {c : Nat} {a b d : Dev} (h : a.ConvKept c b) (k : b.ConvKept c d) : a.ConvKept c d :=
  ⟨k.filter.trans h.filter, fun off ho cnt evt => (k.rd off ho cnt evt).trans (h.rd off ho cnt evt),
    fun i hi => k.event i (h.event i hi)⟩

theorem Dev.ConvKept.ite {c : Nat} {d a b : Dev} {p : Prop} [Decidable p] (h : d.ConvKept c a) (k : d.ConvKept c b) :
    d.ConvKept c (if p then a else b) := by
  split <;> assumption

theorem Dev.ConvKept.each {c : Nat} (n : Nat) (f : Dev → Nat → Dev) (step : ∀ d i, Dev.ConvKept c d (f d i)) (d : Dev) :
    d.ConvKept c (d.each n f) := by
  induction n with
  | zero => exact .refl c d
  | succ n ih =>
    rw [Dev.each_succ]
    exact ih.trans (step _ n)

theorem Dev.convKept_setConv (d : Dev) (c x : Nat) {v : Conv} (same : v.filter = (d.conv x).filter) :
    d.ConvKept c (d.setConv x v) := by
  refine ⟨?_, fun _ _ _ _ => rfl, fun _ h => h⟩
  by_cases h : x = c
  · subst h
    rw [Dev.conv_setConv, same]
  · rw [Dev.conv_setConv_ne _ _ h]

theorem Dev.convKept_ev (d : Dev) (c p i : Nat) : d.ConvKept c (d.ev p i) := by
  refine ⟨rfl, fun off ho _ evt => d.rd_ev_ne i fun same => evt ((key_inj (by decide) ho).mp same).2.symm, fun j hj => ?_⟩
  by_cases h : p = pgCv c
  · rw [h]
    exact d.ev_keeps _ i hj
  · rwa [d.rd_ev_ne i fun same => h ((key_inj (by decide) (by decide)).mp same).1]

theorem Dev.convKept_incSat (d : Dev) (c p : Nat) : d.ConvKept c (d.incSat p Reg.conv.TOVRCNT 23 0) := by
  refine ⟨congrArg Conv.filter (d.conv_incSat ..), fun off ho cnt _ => d.rd_incSat_ne _ _ fun same => ?_, fun j hj => ?_⟩
  · exact cnt ((key_inj (by decide) ho).mp same).2.symm
  · rwa [d.rd_incSat_ne _ _ fun same => absurd ((key_inj (by decide) (by decide)).mp same).2 (by decide)]

theorem convTrigger_convKept (d : Dev) (c x : Nat) : d.ConvKept c (convTrigger d x) := by
  unfold convTrigger
  exact .ite (.refl c d) (.ite ((d.convKept_incSat c _).trans (Dev.convKept_ev _ c _ 2))
    (.ite (d.convKept_setConv c x rfl) (d.convKept_setConv c x rfl)))

theorem offerTrigger_convKept (d : Dev) (c g src sel : Nat) : d.ConvKept c (offerTrigger d g src sel) :=
  .each 4 _ (fun d _ => .ite (convTrigger_convKept d c _) (.refl c d)) d

theorem pgCal_ne_pgCv (g c : Nat) : pgCal g ≠ pgCv c := by
  simp only [pgCal, pgCv, pgConv, pgGrove]
  omega

theorem Dev.convKept_calWr (d : Dev) (c g : Nat) {off : Nat} (ho : off < 1024) (w : Word) : d.ConvKept c (d.wr (pgCal g) off w) := by
  have apart : ∀ {o : Nat}, o < 1024 → key (pgCal g) off ≠ key (pgCv c) o :=
    fun small same => pgCal_ne_pgCv g c ((key_inj ho small).mp same).1
  exact ⟨rfl, fun o small _ _ => d.rd_wr_ne w (apart small), fun i hi => by rwa [d.rd_wr_ne w (apart (by decide))]⟩

theorem setTnow_convKept (d : Dev) (c g : Nat) (v : Int) : d.ConvKept c (setTnow d g v) := by
  have tnow := d.convKept_calWr c g (off := Reg.convcal.TNOW) (by decide) (BitVec.ofNat 36 (2 ^ 35 + tnowOf v))
  exact .ite (tnow.trans (Dev.convKept_ev _ c _ 2)) tnow

theorem setTnow_within (d : Dev) (g : Nat) (v : Int) : d.Within g (setTnow d g v) := by
  have tnow := (pgCal_of g).wr d Reg.convcal.TNOW (BitVec.ofNat 36 (2 ^ 35 + tnowOf v)) (by decide)
  exact .ite (tnow.trans ((pgCal_of g).ev _ 2)) tnow

/-! ### A sequence result (R226, R227) -/

/-- The window comparator fires for a result of entry `e` (R227). -/
def Dev.winFires (d : Dev) (c e : Nat) (v : Int) : Bool :=
  d.rb (pgCv c) Reg.conv.WIN 16 && d.rf (pgCv c) Reg.conv.WIN 3 0 == e && d.winMeets c v && (d.conv c).winPrev != some true

/-- The comparator remembers whether the value that it examined met its condition. -/
def Dev.winExamined (d : Dev) (c e : Nat) (v : Int) : Dev :=
  if d.rb (pgCv c) Reg.conv.WIN 16 && d.rf (pgCv c) Reg.conv.WIN 3 0 == e then
    d.setConv c { d.conv c with winPrev := some (d.winMeets c v) }
  else d

/-- The result stands in its register, with the event of an overrange. -/
def Dev.resStored (d : Dev) (c : Nat) (r : Conversion) (v : Int) (ovr : Bool) : Dev :=
  let d1 := (d.winExamined c r.entry v).wr (pgCv c) (Reg.conv.RES + r.entry)
    (resultWord r.entry ovr r.rerun false (d.winFires c r.entry v) v)
  if ovr then d1.ev (pgCv c) 5 else d1

/-- What the comparator brings about: its event and a trigger. -/
def Dev.winTriggered (d : Dev) (c : Nat) (fires : Bool) : Dev :=
  if fires then offerTrigger (d.ev (pgCv c) 1) (c / 4) 3 (c % 4) else d

theorem sequenceResult_eq (d : Dev) (c : Nat) (r : Conversion) (v : Int) (ovr : Bool) : sequenceResult d c r v ovr =
    if fld r.word 6 0 = 0x62 ∧ fld r.word 30 28 = 0 then
      setTnow ((d.resStored c r v ovr).winTriggered c (d.winFires c r.entry v)) (c / 4) v
    else (d.resStored c r v ovr).winTriggered c (d.winFires c r.entry v) := rfl

section sequence
variable (d : Dev) (c : Nat) {r : Conversion} (v : Int) (ovr : Bool)

theorem Dev.winExamined_within (e : Nat) : d.Within (c / 4) (d.winExamined c e v) := .ite (d.setConv_within _ rfl) (.refl _ d)

theorem Dev.resStored_within (few : r.entry < 16) : d.Within (c / 4) (d.resStored c r v ovr) := by
  have page := pgCv_of (c := c) rfl
  have stored := (d.winExamined_within c v r.entry).trans
    (page.wr _ (Reg.conv.RES + r.entry) (resultWord r.entry ovr r.rerun false (d.winFires c r.entry v) v)
      (by simp only [Reg.conv.RES]; omega))
  exact .ite (stored.trans (page.ev _ 5)) stored

theorem Dev.resStored_filter : ((d.resStored c r v ovr).conv c).filter = (d.conv c).filter := by
  have examined : ((d.winExamined c r.entry v).conv c).filter = (d.conv c).filter := by
    unfold Dev.winExamined
    split
    · rw [Dev.conv_setConv]
    · rfl
  unfold Dev.resStored
  dsimp only
  split
  · rw [Dev.conv_ev, Dev.conv_wr, examined]
  · rw [Dev.conv_wr, examined]

theorem Dev.resStored_res (few : r.entry < 16) : (d.resStored c r v ovr).rd (pgCv c) (Reg.conv.RES + r.entry) =
    resultWord r.entry ovr r.rerun false (d.winFires c r.entry v) v := by
  have evt : Reg.PAGE_EVT ≠ Reg.conv.RES + r.entry := by
    simp only [Reg.PAGE_EVT, Reg.conv.RES]
    omega
  unfold Dev.resStored
  dsimp only
  split
  · rw [Dev.rd_ev_ne _ 5 (key_ne_of_offset _ evt), Dev.rd_wr_eq]
  · rw [Dev.rd_wr_eq]

theorem Dev.resStored_event : ((d.resStored c r v true).rd (pgCv c) Reg.PAGE_EVT).getLsbD 5 = true := by
  rw [Dev.resStored, if_pos rfl]
  exact Dev.ev_bit _ _ 5 (by decide)

theorem Dev.winTriggered_within (fires : Bool) : d.Within (c / 4) (d.winTriggered c fires) :=
  .ite (((pgCv_of rfl).ev d 1).trans (offerTrigger_converts _ _ 3 _).within) (.refl _ d)

theorem Dev.winTriggered_convKept (fires : Bool) : d.ConvKept c (d.winTriggered c fires) :=
  .ite ((d.convKept_ev c _ 1).trans (offerTrigger_convKept _ c _ 3 _)) (.refl c d)

theorem Dev.winTriggered_event : ((d.winTriggered c true).rd (pgCv c) Reg.PAGE_EVT).getLsbD 1 = true := by
  rw [Dev.winTriggered, if_pos rfl]
  exact (offerTrigger_convKept _ c _ 3 _).event 1 (Dev.ev_bit _ _ 1 (by decide))

/-- What follows the comparator: a new TNOW, if the entry measured the die. -/
theorem sequenceResult_after : let d1 := (d.resStored c r v ovr).winTriggered c (d.winFires c r.entry v)
    d1.Within (c / 4) (sequenceResult d c r v ovr) ∧ d1.ConvKept c (sequenceResult d c r v ovr) := by
  rw [sequenceResult_eq]
  exact ⟨.ite (setTnow_within ..) (.refl ..), .ite (setTnow_convKept ..) (.refl ..)⟩

theorem sequenceResult_delivers (few : r.entry < 16) : d.Within (c / 4) (sequenceResult d c r v ovr) ∧
    (d.resStored c r v ovr).ConvKept c (sequenceResult d c r v ovr) ∧
    (d.winFires c r.entry v = true → ((sequenceResult d c r v ovr).rd (pgCv c) Reg.PAGE_EVT).getLsbD 1 = true) := by
  obtain ⟨within, kept⟩ := sequenceResult_after d c (r := r) v ovr
  refine ⟨((d.resStored_within c v ovr few).trans (Dev.winTriggered_within ..)).trans within,
    (Dev.winTriggered_convKept ..).trans kept, fun fires => kept.event 1 ?_⟩
  rw [fires]
  exact Dev.winTriggered_event ..

end sequence

/-! ### An urgent result (R226, R242) -/

/-- URES, UINFO and UCNT have taken an urgent result. -/
def Dev.uresStored (d : Dev) (c : Nat) (u : Urgent) (v : Int) (ovr : Bool) : Dev :=
  ((d.wr (pgCv c) Reg.conv.URES (resultWord 0 ovr false true false v)).wr (pgCv c) Reg.conv.UINFO
    (BitVec.ofNat 36 (u.named * 256 + u.coil))).incWrap (pgCv c) Reg.conv.UCNT 35 0 1

/-- The event of an overrange. -/
def Dev.ovrEvent (d : Dev) (c : Nat) (ovr : Bool) : Dev := if ovr then d.ev (pgCv c) 5 else d

/-- A sample is on its way to the Quills. -/
def Dev.sampleSent (d : Dev) (n : Nat) (x : Sample) : Dev := d.setOb n { d.ob n with samples := (d.ob n).samples ++ [x] }

@[simp] theorem Dev.rd_sampleSent (d : Dev) (n : Nat) (x : Sample) (p off : Nat) :
    (d.sampleSent n x).rd p off = d.rd p off := rfl
@[simp] theorem Dev.conv_sampleSent (d : Dev) (n : Nat) (x : Sample) (c : Nat) : (d.sampleSent n x).conv c = d.conv c := rfl

theorem urgentResult_eq (d : Dev) (c : Nat) (r : Conversion) (u : Urgent) (v : Int) (ovr : Bool) : urgentResult d c r u v ovr =
    ((d.uresStored c u v ovr).ovrEvent c ovr).sampleSent (16 * (c / 4) + u.coil / 2)
      ⟨u.coil % 2, r.half, r.tick, false, v, ovr, u.gain⟩ := rfl

section urgent
variable (d : Dev) (c : Nat) (u : Urgent) (v : Int) (ovr : Bool)

theorem Dev.uresStored_within : d.Within (c / 4) (d.uresStored c u v ovr) :=
  have page := pgCv_of (c := c) rfl
  ((page.wr d _ _ (by decide)).trans (page.wr _ _ _ (by decide))).trans (page.wf _ _ _ _ _ (by decide))

theorem Dev.ovrEvent_within : d.Within (c / 4) (d.ovrEvent c ovr) := .ite ((pgCv_of rfl).ev d 5) (.refl _ d)

theorem Dev.rd_ovrEvent_of_ne {off : Nat} (evt : off ≠ Reg.PAGE_EVT) :
    (d.ovrEvent c ovr).rd (pgCv c) off = d.rd (pgCv c) off := by
  unfold Dev.ovrEvent
  split
  · exact d.rd_ev_ne 5 (key_ne_of_offset _ evt.symm)
  · rfl

theorem Dev.ovrEvent_event : ((d.ovrEvent c true).rd (pgCv c) Reg.PAGE_EVT).getLsbD 5 = true := by
  rw [Dev.ovrEvent, if_pos rfl]
  exact Dev.ev_bit _ _ 5 (by decide)

theorem Dev.ovrEvent_ob (n : Nat) : (d.ovrEvent c ovr).ob n = d.ob n := by cases ovr <;> rfl
theorem Dev.ovrEvent_conv (x : Nat) : (d.ovrEvent c ovr).conv x = d.conv x := by cases ovr <;> rfl

theorem urgentResult_within (r : Conversion) (coil : u.coil < 32) : d.Within (c / 4) (urgentResult d c r u v ovr) := by
  rw [urgentResult_eq]
  exact ((d.uresStored_within c u v ovr).trans (Dev.ovrEvent_within ..)).trans (Dev.setOb_within _ _ (by omega))

theorem Dev.uresStored_conv (x : Nat) : (d.uresStored c u v ovr).conv x = d.conv x := by
  simp only [Dev.uresStored, Dev.conv_incWrap, Dev.conv_wr]
theorem Dev.uresStored_ob (n : Nat) : (d.uresStored c u v ovr).ob n = d.ob n := by
  simp only [Dev.uresStored, Dev.ob_incWrap, Dev.ob_wr]

theorem Dev.uresStored_ures : (d.uresStored c u v ovr).rd (pgCv c) Reg.conv.URES = resultWord 0 ovr false true false v := by
  rw [Dev.uresStored, Dev.incWrap, Dev.rd_wf_ne _ _ _ _ (key_ne_of_offset _ (by decide)),
    Dev.rd_wr_ne _ _ (key_ne_of_offset _ (by decide)), Dev.rd_wr_eq]

theorem Dev.uresStored_uinfo : (d.uresStored c u v ovr).rd (pgCv c) Reg.conv.UINFO =
    BitVec.ofNat 36 (u.named * 256 + u.coil) := by
  rw [Dev.uresStored, Dev.incWrap, Dev.rd_wf_ne _ _ _ _ (key_ne_of_offset _ (by decide)), Dev.rd_wr_eq]

theorem Dev.uresStored_ucnt : (d.uresStored c u v ovr).rf (pgCv c) Reg.conv.UCNT 35 0 =
    (d.rf (pgCv c) Reg.conv.UCNT 35 0 + 1) % 2 ^ 36 := by
  rw [Dev.uresStored, Dev.incWrap, Dev.rf_wf_eq _ _ _ _ _ _ (by decide) (by decide), Dev.rf,
    Dev.rd_wr_ne _ _ (key_ne_of_offset _ (by decide)), Dev.rd_wr_ne _ _ (key_ne_of_offset _ (by decide)), ← Dev.rf]

variable (r : Conversion)

theorem urgentResult_filter : ((urgentResult d c r u v ovr).conv c).filter = (d.conv c).filter := by
  rw [urgentResult_eq, Dev.conv_sampleSent, Dev.ovrEvent_conv, Dev.uresStored_conv]

theorem urgentResult_event : ((urgentResult d c r u v true).rd (pgCv c) Reg.PAGE_EVT).getLsbD 5 = true := by
  rw [urgentResult_eq, Dev.rd_sampleSent]
  exact Dev.ovrEvent_event ..

theorem rd_urgentResult {off : Nat} (evt : off ≠ Reg.PAGE_EVT) :
    (urgentResult d c r u v ovr).rd (pgCv c) off = (d.uresStored c u v ovr).rd (pgCv c) off := by
  rw [urgentResult_eq, Dev.rd_sampleSent, Dev.rd_ovrEvent_of_ne _ _ _ evt]

theorem urgentResult_samples : ((urgentResult d c r u v ovr).ob (16 * (c / 4) + u.coil / 2)).samples =
    (d.ob (16 * (c / 4) + u.coil / 2)).samples ++ [⟨u.coil % 2, r.half, r.tick, false, v, ovr, u.gain⟩] := by
  rw [urgentResult_eq, Dev.sampleSent, Dev.ob_setOb, Dev.ovrEvent_ob, Dev.uresStored_ob]

end urgent

/-! ### The command -/

/-- The value and OVR of converter `c`'s result `r` (R225), with the sign that LSWAP gives it (R199). -/
def Dev.delivered (d : Dev) (c : Nat) (r : Conversion) (raw : Int) (overload : Bool) : Int × Bool :=
  d.corrected c (fld r.word 30 28) (if d.pairReversed c r.word then -raw else raw) overload

@[simp] theorem Dev.delivered_advance (d : Dev) (k c : Nat) (r : Conversion) (raw : Int) (overload : Bool) :
    (d.advance k).delivered c r raw overload = d.delivered c r raw overload := by
  simp [Dev.delivered, Dev.corrected, Dev.pairReversed]

/-- The oldest result has left the filter. -/
def Dev.popped (d : Dev) (c : Nat) (rest : List Conversion) : Dev := d.setConv c { d.conv c with filter := rest }

theorem resultReady_of_sequence {d : Dev} {c : Nat} {r : Conversion} {rest : List Conversion}
    (filter : (d.conv c).filter = r :: rest) (isEntry : r.urgent = none) (raw : Int) (overload : Bool) :
    resultReady d c raw overload = sequenceResult (d.popped c rest) c r (d.delivered c r raw overload).1
      (d.delivered c r raw overload).2 := by
  unfold resultReady
  simp only [filter, isEntry]
  rfl

theorem resultReady_of_urgent {d : Dev} {c : Nat} {r : Conversion} {rest : List Conversion} {u : Urgent}
    (filter : (d.conv c).filter = r :: rest) (urgent : r.urgent = some u) (raw : Int) (overload : Bool) :
    resultReady d c raw overload = urgentResult (d.popped c rest) c r u (d.delivered c r raw overload).1
      (d.delivered c r raw overload).2 := by
  unfold resultReady
  simp only [filter, urgent]
  rfl

theorem Dev.popped_within (d : Dev) (c : Nat) (rest : List Conversion) : d.Within (c / 4) (d.popped c rest) :=
  d.setConv_within _ rfl

theorem Dev.popped_filter (d : Dev) (c : Nat) (rest : List Conversion) : ((d.popped c rest).conv c).filter = rest := by
  rw [Dev.popped, Dev.conv_setConv]

/-- Settles O34: a sequence result and an urgent one each take their own way. -/
theorem resultDelivered : Obligations.ResultDelivered := by
  intro s c dt raw overload r rest runs here filter few coils
  have ready : ((s.dev.advance dt).conv c).filter = r :: rest := by rwa [Dev.conv_advance]
  have next : exec (.resultReady dt c raw overload) s =
      .next (s.after (resultReady (s.dev.advance dt) c raw overload)) := s.does_inConv c dt _ runs here
  have popped := (s.dev.advance dt).popped_within c rest
  refine ⟨_, next, ?_⟩
  cases urgent : r.urgent with
  | none =>
    rw [resultReady_of_sequence ready urgent, Dev.delivered_advance]
    obtain ⟨within, kept, event⟩ := sequenceResult_delivers ((s.dev.advance dt).popped c rest) c
      (s.dev.delivered c r raw overload).1 (s.dev.delivered c r raw overload).2 few
    have res : Reg.conv.RES + r.entry < 1024 ∧ Reg.conv.RES + r.entry ≠ Reg.conv.TOVRCNT ∧
        Reg.conv.RES + r.entry ≠ Reg.PAGE_EVT := by
      simp only [Reg.conv.RES, Reg.conv.TOVRCNT, Reg.PAGE_EVT]
      omega
    obtain ⟨small, notCount, notEvent⟩ := res
    refine ⟨popped.trans within, ?_, fun ovr => kept.event 5 ?_, fun _ => ⟨_, ?_, event⟩, fun u other => absurd other (by simp)⟩
    · rw [kept.filter, Dev.resStored_filter, Dev.popped_filter]
    · change (s.dev.delivered c r raw overload).2 = true at ovr
      rw [ovr]
      exact Dev.resStored_event ..
    · rw [kept.rd _ small notCount notEvent, Dev.resStored_res _ _ _ _ few]
      rfl
  | some u =>
    rw [resultReady_of_urgent ready urgent, Dev.delivered_advance]
    have within := urgentResult_within ((s.dev.advance dt).popped c rest) c u
      (s.dev.delivered c r raw overload).1 (s.dev.delivered c r raw overload).2 r (coils u urgent)
    refine ⟨popped.trans within, ?_, fun ovr => ?_, fun other => absurd other (by simp), fun x same => ?_⟩
    · rw [urgentResult_filter, Dev.popped_filter]
    · change (s.dev.delivered c r raw overload).2 = true at ovr
      rw [ovr]
      exact urgentResult_event ..
    · obtain rfl := Option.some.inj same
      refine ⟨?ures, ?uinfo, ?ucnt, ?sample⟩
      case ures =>
        rw [rd_urgentResult _ _ _ _ _ _ (by decide), Dev.uresStored_ures]
        rfl
      case uinfo => rw [rd_urgentResult _ _ _ _ _ _ (by decide), Dev.uresStored_uinfo]
      case ucnt =>
        rw [Dev.rf, rd_urgentResult _ _ _ _ _ _ (by decide), ← Dev.rf, Dev.uresStored_ucnt, Dev.popped, Dev.rf_setConv,
          Dev.rf_advance]
      case sample =>
        dsimp only
        rw [urgentResult_samples, Dev.popped, Dev.ob_setConv, Dev.ob_advance]
        rfl

end Sys2Proof.Machine
end

section
/-!
SUPPORT. Writes that nothing refuses of registers of a grove's CONV and CONVCAL pages: the store, and what the register does.
-/
namespace Sys2Proof.Machine

/-- Offset `off` of a page of type `k`, one of a grove's, is a register that is one word by itself, takes writes, has no
buffered field and lies beside the common layout's own writes. -/
structure GroveReg (k : PageKind) (off : Nat) (fs : List RegField) : Prop where
  notSupv : (k == .supv) = false
  fields : fieldsAt k off = some fs
  small : off < 1024
  unlock : off ≠ Reg.PAGE_LOCK
  err : off ≠ Reg.PAGE_ERR
  writes : (!fs.isEmpty && fs.all (fun f => !f.writable)) = false
  single : pairPart k off = .single
  plain : maskOf fs RegField.buffered = 0

/-- A register whose bits only act keeps its word. -/
theorem rd_storeWrite_actsOnly (d : Dev) {k : PageKind} (p off : Nat) {f : Formed} (plain : f.shadow = none)
    (acts : actsOnly k off = true) (q o : Nat) : (storeWrite d k p off f).rd q o = d.rd q o := by
  obtain ⟨G, eq⟩ := carTo_groves d.note (groveOf p) d.clk
  unfold storeWrite
  rw [plain, acts, eq]
  dsimp only
  rw [if_pos rfl]
  split <;> rfl

/-- A write of such a register that nothing refuses: the store, what it leaves there, and what the register does. -/
theorem GroveReg.accepted {k : PageKind} {off : Nat} {fs : List RegField} (reg : GroveReg k off fs) {s : State} {w : RegWrite}
    {p : Nat} (kind : pageKind p = some k) (high : 0x100 ≤ p) (here : s.dev.hasGrove (groveOf p) = true)
    (direct : w.win = .direct) (takes : s.takes w p off) :
    ∃ S, (s.dev.advance w.dt).Stores p off S ∧
      (actsOnly k off = false → S.rd p off = (s.forms p off fs w).now) ∧
      (actsOnly k off = true → ∀ q o, S.rd q o = s.dev.rd q o) ∧
      s.writes w p off = .next (s.after (actWrite S k p off w.req.id true (s.dev.rd p off) (s.forms p off fs w).m
        (s.forms p off fs w).wo (s.forms p off fs w).clr)) := by
  have notPort : p ≠ pgHostp := fun h => absurd (h ▸ high) (by decide)
  have present : pagePresent s.dev.variant p = true := pagePresent_grove kind high (by simpa [Dev.hasGrove] using here)
  have single : SingleReg (s.dev.advance w.dt) k p off fs :=
    ⟨kind, by simpa using present, takes.awake, reg.fields, reg.unlock, reg.writes,
      by simp only [ignoresWrites, reg.notSupv, Bool.false_and], reg.single⟩
  have plain : (s.forms p off fs w).shadow = none := formWrite_shadow _ _ _ _ _ _ reg.plain
  refine ⟨_, (s.dev.advance w.dt).stores_storeWrite w.req.id (s.forms p off fs w) high reg.small plain,
    fun keeps => rd_storeWrite_self _ _ _ plain keeps, fun acts q o => ?_, ?_⟩
  · rw [rd_storeWrite_actsOnly _ _ _ plain acts, consume_rd, Dev.rd_advance]
  · rw [State.writes_of_takes takes, writeCommand_accepted single w takes.2 (.inl notPort), direct, Dev.rd_advance]
    rfl

theorem Dev.Stores.conv {d S : Dev} {p off : Nat} (h : d.Stores p off S) (c : Nat) : S.conv c = d.conv c :=
  (congrArg (fun e : Dev => e.conv c) h.same :)
theorem Dev.Stores.calSt {d S : Dev} {p off : Nat} (h : d.Stores p off S) (g : Nat) : S.calSt g = d.calSt g :=
  (congrArg (fun e : Dev => e.calSt g) h.same :)
theorem Dev.Stores.clk {d S : Dev} {p off : Nat} (h : d.Stores p off S) : S.clk = d.clk := (congrArg Dev.clk h.same :)

end Sys2Proof.Machine
end

section
/-!
PROOF. Writes of CONV.CTRL: START and EN (R222, R224).
-/
namespace Sys2Proof.Machine

def convCtrlFields : List RegField := [bf 35 35 .wo 0, bf 16 16 .rw 0, bf 8 8 .rw 1, bf 4 4 .rw 0, bf 3 0 .rw 0]

theorem convCtrl_reg : GroveReg .conv Reg.conv.CTRL convCtrlFields := ⟨rfl, rfl, by decide, by decide, by decide, rfl, rfl, rfl⟩

theorem conv_page : ∀ c : Fin 32, pageKind (pgCv c) = some .conv := by decide

theorem convOf_pgCv (c : Nat) : convOf (pgCv c) = c := by
  simp only [convOf, groveOf, pgCv, pgConv, pgGrove]
  omega

/-- `S` is `d` after a store of `data` in CTRL of converter `c`. -/
structure Dev.CtrlStores (d : Dev) (c : Nat) (data : Word) (S : Dev) : Prop where
  stores : d.Stores (pgCv c) Reg.conv.CTRL S
  en : S.rb (pgCv c) Reg.conv.CTRL 16 = data.getLsbD 16
  share : S.rb (pgCv c) Reg.conv.CTRL 8 = data.getLsbD 8
  cont : S.rb (pgCv c) Reg.conv.CTRL 4 = data.getLsbD 4
  last : S.rf (pgCv c) Reg.conv.CTRL 3 0 = fld data 3 0

/-- What a write of CTRL that nothing refuses stores, and then does by EN and START as written. -/
theorem writes_convCtrl {s : State} {w : RegWrite} {c : Fin 32} (here : s.dev.hasGrove (c / 4) = true) (direct : w.win = .direct)
    (takes : s.takes w (pgCv c) Reg.conv.CTRL) :
    ∃ S, (s.dev.advance w.dt).CtrlStores c w.data S ∧ s.writes w (pgCv c) Reg.conv.CTRL = .next (s.after
      (if !w.data.getLsbD 16 then convNext (dropSequence S c) c (modEdge (c / 4) (S.clk + 1))
        else if w.data.getLsbD 35 then convTrigger S c else S)) := by
  obtain ⟨high, grove⟩ := pgCv_of (c := c) rfl
  obtain ⟨S, stores, word, -, next⟩ := convCtrl_reg.accepted (conv_page c) high (by rwa [grove]) direct takes
  have bits : ∀ i, i < 36 → bit (maskOf convCtrlFields (fun f => f.ty == .rw || f.ty == .rwk)) i = true →
      S.rb (pgCv c) Reg.conv.CTRL i = w.data.getLsbD i := fun i hi stored => by
    rw [Dev.rb, word rfl, State.bit_forms_now _ _ _ _ hi stored rfl, bit_eq_getLsbD]
  have last : S.rf (pgCv c) Reg.conv.CTRL 3 0 = fld w.data 3 0 := by
    rw [Dev.rf, word rfl, State.fld_forms_now _ _ _ _ (by decide) (by decide) (fun i _ hi => by interval_cases i <;> rfl) rfl]
  have en : bit (s.forms (pgCv c) Reg.conv.CTRL convCtrlFields w).m 16 = w.data.getLsbD 16 :=
    (formWrite_m _ _ _ _ .direct _ _ (by decide) rfl rfl rfl rfl).trans (bit_eq_getLsbD ..)
  refine ⟨S, ⟨stores, bits 16 (by decide) rfl, bits 8 (by decide) rfl, bits 4 (by decide) rfl, last⟩, ?_⟩
  rw [next, ← en, ← State.bit_forms_wo s (pgCv c) Reg.conv.CTRL w (fs := convCtrlFields) rfl, actWrite,
    if_neg convCtrl_reg.err, convOf_pgCv]
  rfl

section starts
variable {s : State} {w : RegWrite} {c : Fin 32} {S : Dev}

theorem Dev.CtrlStores.conv (h : (s.dev.advance w.dt).CtrlStores c w.data S) (x : Nat) : S.conv x = s.dev.conv x :=
  (h.stores.conv x).trans (s.dev.conv_advance ..)
theorem Dev.CtrlStores.calSt (h : (s.dev.advance w.dt).CtrlStores c w.data S) (g : Nat) : S.calSt g = s.dev.calSt g :=
  (h.stores.calSt g).trans (s.dev.calSt_advance ..)
theorem Dev.CtrlStores.edge (h : (s.dev.advance w.dt).CtrlStores c w.data S) :
    modEdge (c / 4) (S.clk + 1) = modEdge (c / 4) (s.dev.clk + w.dt + 1) := by
  rw [h.stores.clk, Dev.advance_clk]
theorem Dev.CtrlStores.entry (h : (s.dev.advance w.dt).CtrlStores c w.data S) :
    S.rd (pgCv c) (Reg.conv.ENT + 0) = s.dev.rd (pgCv c) Reg.conv.ENT :=
  (h.stores.rd _ _ (by decide) fun same => absurd same.2 (by decide)).trans (s.dev.rd_advance ..)

/-- START of a converter where nothing runs or waits (R222). -/
theorem Dev.CtrlStores.starts (h : (s.dev.advance w.dt).CtrlStores c w.data S) (on : w.data.getLsbD 16 = true)
    (may : s.dev.CanStart c) (free : ¬ s.dev.urgentWork c) : convTrigger S c = S.setConv c
      ((s.dev.conv c).entering 0 (s.dev.rd (pgCv c) Reg.conv.ENT) false (modEdge (c / 4) (s.dev.clk + w.dt + 1))) := by
  have may' : S.CanStart c := ⟨by rw [h.calSt]; exact may.noCal, by rw [h.conv]; exact may.noSeq, by rw [h.conv]; exact may.noHeld⟩
  have free' : ¬ S.urgentWork c := by rwa [Dev.urgentWork, Dev.applies, h.conv, h.calSt]
  rw [convTrigger_of_free (h.en.trans on) may' free', startEntry, h.conv, h.entry, h.edge]
  rfl

end starts

/-! ### EN 0 (R224) -/

/-- A converter without its sequence, which samples `run`. -/
def Conv.dropped (v : Conv) (run : Option Conversion) : Conv :=
  { v with run := run, seqOn := false, again := none, held := false }

theorem dropSequence_of_none {d : Dev} {c : Nat} (stands : (d.conv c).run = none) :
    dropSequence d c = d.setConv c ((d.conv c).dropped none) := by
  simp only [dropSequence, stands]
  rfl

theorem dropSequence_of_some {d : Dev} {c : Nat} {r : Conversion} (run : (d.conv c).run = some r) :
    dropSequence d c = d.setConv c ((d.conv c).dropped (if r.urgent.isNone then none else some r)) := by
  simp only [dropSequence, run]
  rfl

/-- Urgent work goes on. -/
theorem dropSequence_of_urgent {d : Dev} {c : Nat} (runs : (d.conv c).urgentRuns = true) :
    dropSequence d c = d.setConv c ((d.conv c).dropped (d.conv c).run) := by
  cases run : (d.conv c).run with
  | none => rw [dropSequence_of_none run]
  | some r =>
    have isUrgent : r.urgent.isSome = true := by simpa only [Conv.urgentRuns, run] using runs
    rw [dropSequence_of_some run, if_neg (by simpa using Option.isSome_iff_ne_none.mp isUrgent)]

/-- An entry of the sequence samples no longer. -/
theorem dropSequence_of_quiet {d : Dev} {c : Nat} (quiet : (d.conv c).urgentRuns = false) :
    dropSequence d c = d.setConv c ((d.conv c).dropped none) := by
  cases run : (d.conv c).run with
  | none => exact dropSequence_of_none run
  | some r =>
    have isEntry : r.urgent.isSome = false := by simpa only [Conv.urgentRuns, run] using quiet
    rw [dropSequence_of_some run, if_pos (by simpa using isEntry)]

/-- With urgent work running nothing else starts. -/
theorem convNext_dropSequence_of_urgent {d : Dev} {c : Nat} (t : Nat) (runs : (d.conv c).urgentRuns = true) :
    convNext (dropSequence d c) c t = d.setConv c ((d.conv c).dropped (d.conv c).run) := by
  have samples : (d.conv c).run.isSome = true := by
    cases run : (d.conv c).run with
    | none => rw [Conv.urgentRuns, run] at runs; cases runs
    | some r => rfl
  rw [dropSequence_of_urgent runs, convNext_of_running _ (by rwa [Dev.conv_setConv])]

/-- With an empty queue the converter is at rest. -/
theorem convNext_dropSequence_of_empty {d : Dev} {c : Nat} (t : Nat) (quiet : (d.conv c).urgentRuns = false)
    (empty : (d.conv c).queue = []) : convNext (dropSequence d c) c t = d.setConv c ((d.conv c).dropped none) := by
  rw [dropSequence_of_quiet quiet]
  apply convNext_of_nothing <;> rw [Dev.conv_setConv]
  exacts [rfl, empty, rfl, rfl]

/-- Else the next queued request starts. -/
theorem convNext_dropSequence_of_queue {d : Dev} {c : Nat} (t : Nat) {u : Urgent} {q : List Urgent}
    (quiet : (d.conv c).urgentRuns = false) (queue : (d.conv c).queue = u :: q) :
    d.ConvOnly (convNext (dropSequence d c) c t) ∧
    (∀ x, x ≠ c → (convNext (dropSequence d c) c t).conv x = d.conv x) ∧
    (convNext (dropSequence d c) c t).conv c = { (d.conv c).dropped none with
      run := some ⟨0, urgentWord u, false, some u, 0, 0, 0, t, t + sampleTime (urgentWord u)⟩, queue := q } := by
  rw [dropSequence_of_quiet quiet]
  have dropped := d.conv_setConv c ((d.conv c).dropped none)
  rw [convNext_of_queue t (congrArg Conv.run dropped) ((congrArg Conv.queue dropped).trans queue), dropped]
  refine ⟨((d.setConv_only _ _).trans (Dev.setConv_only _ _ _)).trans (Dev.setConv_only _ _ _), fun x other => ?_, ?_⟩
  · rw [startUrgent, Dev.conv_setConv_ne _ _ other.symm, Dev.conv_setConv_ne _ _ other.symm,
      Dev.conv_setConv_ne _ _ other.symm]
  · rw [startUrgent_conv, Dev.conv_setConv]

/-- Settles O35: EN and START choose the branch of the one write; EN 0 by what the converter samples and queues. -/
theorem converterWrites : Obligations.ConverterWrites := by
  intro s c w here takes direct
  obtain ⟨S, ctrl, next⟩ := writes_convCtrl here direct takes
  refine ⟨S, ctrl.stores, ctrl.en, ctrl.share, ctrl.cont, ctrl.last, fun on noStart => ?stores,
    fun on start noSeq noHeld quiet empty noCal noApply => ?starts, fun off => ?ends⟩
  case stores =>
    rw [on, noStart] at next
    exact next
  case starts =>
    have may : s.dev.CanStart c := ⟨noCal, noSeq, noHeld⟩
    have free : ¬ s.dev.urgentWork c := Dev.not_urgentWork quiet empty fun applies => noApply applies.1
    rw [on, start, if_neg (by decide), if_pos rfl, ctrl.starts on may free] at next
    exact next
  case ends =>
    rw [off, if_pos (by decide), ctrl.edge] at next
    rw [← ctrl.conv]
    refine ⟨fun urgent => ?_, fun quiet empty => ?_, fun u q quiet queue => ?_⟩
    · rw [convNext_dropSequence_of_urgent _ urgent] at next
      exact next
    · rw [convNext_dropSequence_of_empty _ quiet empty] at next
      exact next
    · obtain ⟨⟨C, only⟩, others, conv⟩ := convNext_dropSequence_of_queue
        (modEdge (c / 4) (s.dev.clk + w.dt + 1)) quiet queue
      exact ⟨_, next, by rw [only], others, conv⟩

end Sys2Proof.Machine
end

section
/-!
PROOF. Self-calibration of a grove and the test of restored factors (R232 to R235).
-/
namespace Sys2Proof.Machine

/-! ### Writes of CMD -/

def calCmdFields : List RegField := [bf 1 1 .rwk 0, bf 0 0 .rwk 0]

theorem calCmd_reg : GroveReg .convcal Reg.convcal.CMD calCmdFields := ⟨rfl, rfl, by decide, by decide, by decide, rfl, rfl, rfl⟩

theorem cal_page : ∀ g : Fin 8, pageKind (pgCal g) = some .convcal := by decide

/-- A write of CMD that nothing refuses: it stores no register, and asks for GO or else for APPLY. -/
theorem writes_calCmd {s : State} {w : RegWrite} {g : Fin 8} (here : s.dev.hasGrove g = true) (direct : w.win = .direct)
    (takes : s.takes w (pgCal g) Reg.convcal.CMD) :
    ∃ S, (s.dev.advance w.dt).Stores (pgCal g) Reg.convcal.CMD S ∧ (∀ p off, S.rd p off = s.dev.rd p off) ∧
      s.writes w (pgCal g) Reg.convcal.CMD = .next (s.after
        (if w.data.getLsbD 0 then calGo S g else if w.data.getLsbD 1 then calApply S g else S)) := by
  obtain ⟨high, grove⟩ := pgCal_of g
  obtain ⟨S, stores, -, keeps, next⟩ := calCmd_reg.accepted (cal_page g) high (by rwa [grove]) direct takes
  have bits : ∀ i, i < 36 → bit (maskOf calCmdFields (fun f => f.ty == .rw || f.ty == .rwk)) i = true →
      bit (s.forms (pgCal g) Reg.convcal.CMD calCmdFields w).m i = w.data.getLsbD i := fun i hi stored =>
    (formWrite_m _ _ _ _ .direct _ _ hi stored (by simp [show maskOf calCmdFields RegField.buffered = 0 from rfl, bit])
      (by simp [show maskOf calCmdFields (fun f => f.ty == .wo) = 0 from rfl, bit])
      (by simp [show maskOf calCmdFields (fun f => f.ty == .w1c) = 0 from rfl, bit])).trans (bit_eq_getLsbD ..)
  refine ⟨S, stores, keeps rfl, ?_⟩
  rw [next, ← bits 0 (by decide) rfl, ← bits 1 (by decide) rfl, actWrite, if_neg calCmd_reg.err, grove]
  rfl

/-- Whether GO and APPLY are refused is as it was before the write. -/
theorem calBusy_of_stores {s : State} {w : RegWrite} {g p off : Nat} {S : Dev} (stores : (s.dev.advance w.dt).Stores p off S)
    (keeps : ∀ p off, S.rd p off = s.dev.rd p off) : S.calBusy g = s.dev.calBusy g := by
  simp only [Dev.calBusy, Dev.rb, keeps, Dev.calRuns, Dev.calApplies, stores.calSt, Dev.calSt_advance]

/-! ### GO ends the sequences of its grove (R232) -/

/-- Neither a sequence nor a start of converter `c` remains. -/
structure Conv.NoSequence (v : Conv) : Prop where
  off : v.seqOn = false
  again : v.again = none
  held : v.held = false

theorem dropSequence_noSequence (d : Dev) (c : Nat) : ((dropSequence d c).conv c).NoSequence := by
  unfold dropSequence
  dsimp only
  rw [Dev.conv_setConv]
  exact ⟨rfl, rfl, rfl⟩

theorem dropSequence_conv_ne (d : Dev) {c x : Nat} (h : c ≠ x) : (dropSequence d c).conv x = d.conv x :=
  Dev.conv_setConv_ne _ _ h

theorem rd_dropSequence (d : Dev) (c p off : Nat) : (dropSequence d c).rd p off = d.rd p off := rfl

/-- The sequences of the first `n` converters of the grove have ended. -/
theorem dropSequences_noSequence (d : Dev) (g n i : Nat) (hi : i < n) :
    ((d.each n fun d i => dropSequence d (4 * g + i)).conv (4 * g + i)).NoSequence := by
  induction n with
  | zero => omega
  | succ n ih =>
    rw [Dev.each_succ]
    rcases Nat.lt_succ_iff_lt_or_eq.mp hi with before | rfl
    · rw [dropSequence_conv_ne _ (by omega)]
      exact ih before
    · exact dropSequence_noSequence ..

theorem calGo_of_idle {d : Dev} {g : Nat} (idle : d.calBusy g = false) :
    calGo d g = (d.each 4 fun d i => dropSequence d (4 * g + i)).setCal g .running := by
  rw [calGo, idle, if_neg Bool.false_ne_true]

theorem rd_calGo {d : Dev} {g : Nat} (idle : d.calBusy g = false) (p off : Nat) : (calGo d g).rd p off = d.rd p off := by
  rw [calGo_of_idle idle, Dev.rd_setCal]
  exact Dev.each_keeps (fun e : Dev => e.rd p off) _ (fun e x => rd_dropSequence ..) d 4

/-- APPLY begins whether the sum is right or not (R235). -/
theorem calApply_calSt {d : Dev} {g : Nat} (idle : d.calBusy g = false) : (calApply d g).calSt g = .applying := by
  rw [calApply, idle, if_neg Bool.false_ne_true]
  split <;> exact Dev.calSt_setCal ..

/-! ### The factors and their sum (R233, R234) -/

/-- A register of the page whose word the sum counts. -/
def summed (off : Nat) : Prop := off = Reg.convcal.CALTEMP ∨ Reg.convcal.CFACT ≤ off

theorem sumUpTo_congr {n : Nat} {f f' : Nat → Nat} (h : ∀ i, i < n → f i = f' i) : sumUpTo n f = sumUpTo n f' := by
  unfold sumUpTo
  exact List.foldl_ext _ _ 0 fun a i hi => by rw [h i (List.mem_range.mp hi)]

/-- The sum follows the words that it counts only. -/
theorem calSum_congr {d e : Dev} {g : Nat} (h : ∀ off, off < 1024 → summed off → d.rd (pgCal g) off = e.rd (pgCal g) off) :
    d.calSum g = e.calSum g := by
  have factor : ∀ i gn, i < 4 → gn < 5 → d.rd (pgCal g) (Reg.convcal.CFACT + 8 * i + gn) =
      e.rd (pgCal g) (Reg.convcal.CFACT + 8 * i + gn) := fun i gn hi hgn =>
    h _ (by simp only [Reg.convcal.CFACT]; omega) (.inr (by omega))
  have trim : ∀ j, j < 32 → d.rd (pgCal g) (Reg.convcal.TRIM + j) = e.rd (pgCal g) (Reg.convcal.TRIM + j) := fun j hj =>
    h _ (by simp only [Reg.convcal.TRIM]; omega) (.inr (by simp only [Reg.convcal.TRIM, Reg.convcal.CFACT]; omega))
  have swtrim : ∀ k, k < 64 → d.rd (pgCal g) (Reg.convcal.SWTRIM + k) = e.rd (pgCal g) (Reg.convcal.SWTRIM + k) := fun k hk =>
    h _ (by simp only [Reg.convcal.SWTRIM]; omega) (.inr (by simp only [Reg.convcal.SWTRIM, Reg.convcal.CFACT]; omega))
  unfold Dev.calSum
  dsimp only
  rw [h _ (by decide) (.inl rfl),
    sumUpTo_congr fun i hi => sumUpTo_congr fun gn hgn => by rw [factor i gn hi hgn],
    sumUpTo_congr (n := 32) fun j hj => by rw [trim j hj], sumUpTo_congr (n := 64) fun k hk => by rw [swtrim k hk]]

theorem calSum_lt (d : Dev) (g : Nat) : d.calSum g < 2 ^ 36 := Nat.mod_lt _ (by decide)

@[simp] theorem Dev.calSum_advance (d : Dev) (k g : Nat) : (d.advance k).calSum g = d.calSum g :=
  calSum_congr fun _ _ _ => d.rd_advance ..

theorem calWrite_within (d : Dev) (g hi : Nat) {off : Nat} (ho : off < 1024) : d.Within g (calWrite d g off hi) :=
  have drawn : d.Within g d.draw.2 := { Dev.Within.refl g d with apart := rfl }
  drawn.trans ((pgCal_of g).wr _ off _ ho)

theorem calFactors_within (d : Dev) (g : Nat) : d.Within g (calFactors d g) := by
  refine ((Dev.Within.each d 4 _ fun e i hi => .each e 5 _ fun e gn hgn => calWrite_within e g 31 ?_).trans
    (.each _ 32 _ fun e j hj => calWrite_within e g 31 ?_)).trans (.each _ 64 _ fun e k hk => calWrite_within e g 15 ?_)
  · simp only [Reg.convcal.CFACT]; omega
  · simp only [Reg.convcal.TRIM]; omega
  · simp only [Reg.convcal.SWTRIM]; omega

/-! ### TNOW (R237) -/

theorem tnowOf_lt (v : Int) : tnowOf v < 2 ^ 16 := by
  unfold tnowOf unsgn
  have := Int.emod_lt_of_pos (400 + rhe ((v - 4194304) * 75) 65536) (b := ((2 ^ 16 : Nat) : Int)) (by decide)
  have := Int.emod_nonneg (400 + rhe ((v - 4194304) * 75) 65536) (b := ((2 ^ 16 : Nat) : Int)) (by decide)
  omega

theorem setTnow_calSt (d : Dev) (g : Nat) (v : Int) (x : Nat) : (setTnow d g v).calSt x = d.calSt x := by
  unfold setTnow
  dsimp only
  split
  · rw [Dev.calSt_ev, Dev.calSt_wr]
  · rw [Dev.calSt_wr]

theorem rd_setTnow_of_ne (d : Dev) (g : Nat) (v : Int) {off : Nat} (tnow : off ≠ Reg.convcal.TNOW) (evt : off ≠ Reg.PAGE_EVT) :
    (setTnow d g v).rd (pgCal g) off = d.rd (pgCal g) off := by
  have word := d.rd_wr_ne (BitVec.ofNat 36 (2 ^ 35 + tnowOf v)) (key_ne_of_offset (pgCal g) tnow.symm)
  unfold setTnow
  dsimp only
  split
  · rw [Dev.rd_ev_ne _ 2 (key_ne_of_offset _ evt.symm), word]
  · exact word

theorem setTnow_tnow (d : Dev) (g : Nat) (v : Int) : (setTnow d g v).rf (pgCal g) Reg.convcal.TNOW 15 0 = tnowOf v := by
  have field : fld (BitVec.ofNat 36 (2 ^ 35 + tnowOf v)) 15 0 = tnowOf v := by
    have := tnowOf_lt v
    simp only [fld, nfld, BitVec.toNat_ofNat, Nat.shiftRight_zero]
    omega
  unfold setTnow Dev.rf
  dsimp only
  split
  · rw [Dev.rd_ev_ne _ 2 (key_ne_of_offset _ (by decide)), Dev.rd_wr_eq, field]
  · rw [Dev.rd_wr_eq, field]

/-! ### Sequences in mode CONT start again (R233) -/

theorem calRestart_converts (d : Dev) (g : Nat) : d.Converts g (calRestart d g) :=
  .each 4 _ (fun e i hi => .ite (convTrigger_converts e (by omega)) (.refl g e)) d

theorem Dev.Converts.calSt {g : Nat} {d d' : Dev} (h : d.Converts g d') (x : Nat) : d'.calSt x = d.calSt x :=
  (congrArg (fun e : Dev => e.calSt x) h.same :)

theorem Dev.Converts.cal {g : Nat} {d d' : Dev} (h : d.Converts g d') {off : Nat} (ho : off < 1024) :
    d'.rd (pgCal g) off = d.rd (pgCal g) off := h.rd _ off ho fun c _ => pgCal_ne_pgCv g c

/-! ### The end of a calibration (R233) -/

/-- New factors, with the temperature of that moment. -/
def Dev.factored (d : Dev) (g : Nat) (die : Int) : Dev :=
  (calFactors d g).wr (pgCal g) Reg.convcal.CALTEMP (BitVec.ofNat 36 (tnowOf die))

/-- Their sum, and the state CALIBRATED. -/
def Dev.calibrated (d : Dev) (g : Nat) : Dev :=
  (d.wr (pgCal g) Reg.convcal.CALSUM (BitVec.ofNat 36 (d.calSum g))).setCal g .calibrated

/-- The cause of the last failure is cleared, with the event of the end. -/
def Dev.calStat (d : Dev) (g : Nat) (stat : Word) : Dev := (d.wr (pgCal g) Reg.convcal.STAT stat).ev (pgCal g) 0

section calDone
variable {d : Dev} {g : Nat} (running : d.calSt g = .running) (fitem : Nat) (die : Int)
include running

theorem calDone_success : calDone d g 0 fitem die =
    calRestart ((setTnow ((d.factored g die).calibrated g) g die).calStat g 0) g := by
  rw [calDone, (d.calRuns_iff g).mpr running]
  rfl

theorem calDone_failure {fcause : Nat} (fails : fcause ≠ 0) : calDone d g fcause fitem die =
    calRestart ((d.setCal g .failed).calStat g (BitVec.ofNat 36 (fitem * 2 ^ 16 + fcause * 2 ^ 8))) g := by
  rw [calDone, (d.calRuns_iff g).mpr running, if_neg (by decide), if_neg fails]
  rfl

end calDone

section parts
variable (d : Dev) (g : Nat)

theorem Dev.factored_within (die : Int) : d.Within g (d.factored g die) :=
  (calFactors_within d g).trans ((pgCal_of g).wr _ _ _ (by decide))

theorem Dev.factored_temp (die : Int) : (d.factored g die).rf (pgCal g) Reg.convcal.CALTEMP 15 0 = tnowOf die := by
  have := tnowOf_lt die
  rw [Dev.factored, Dev.rf, Dev.rd_wr_eq]
  simp only [fld, nfld, BitVec.toNat_ofNat, Nat.shiftRight_zero]
  omega

theorem Dev.calibrated_within : d.Within g (d.calibrated g) :=
  ((pgCal_of g).wr d _ _ (by decide)).trans (Dev.setCal_within _ g _)

theorem Dev.calibrated_calSt : (d.calibrated g).calSt g = .calibrated := Dev.calSt_setCal ..

theorem Dev.rd_calibrated_of_ne {off : Nat} (sum : off ≠ Reg.convcal.CALSUM) :
    (d.calibrated g).rd (pgCal g) off = d.rd (pgCal g) off := by
  rw [Dev.calibrated, Dev.rd_setCal, Dev.rd_wr_ne _ _ (key_ne_of_offset _ sum.symm)]

theorem Dev.calibrated_sum : ((d.calibrated g).rd (pgCal g) Reg.convcal.CALSUM).toNat = d.calSum g := by
  rw [Dev.calibrated, Dev.rd_setCal, Dev.rd_wr_eq, BitVec.toNat_ofNat, Nat.mod_eq_of_lt (calSum_lt d g)]

theorem Dev.calStat_within (stat : Word) : d.Within g (d.calStat g stat) :=
  ((pgCal_of g).wr d _ _ (by decide)).trans ((pgCal_of g).ev _ 0)

theorem Dev.calStat_calSt (stat : Word) : (d.calStat g stat).calSt g = d.calSt g := by
  rw [Dev.calStat, Dev.calSt_ev, Dev.calSt_wr]

theorem Dev.calStat_stat (stat : Word) : (d.calStat g stat).rd (pgCal g) Reg.convcal.STAT = stat := by
  rw [Dev.calStat, Dev.rd_ev_ne _ _ (key_ne_of_offset _ (by decide)), Dev.rd_wr_eq]

theorem Dev.rd_calStat_of_ne (stat : Word) {off : Nat} (other : off ≠ Reg.convcal.STAT) (evt : off ≠ Reg.PAGE_EVT) :
    (d.calStat g stat).rd (pgCal g) off = d.rd (pgCal g) off := by
  rw [Dev.calStat, Dev.rd_ev_ne _ _ (key_ne_of_offset _ evt.symm), Dev.rd_wr_ne _ _ (key_ne_of_offset _ other.symm)]

theorem Dev.calStat_event (stat : Word) : ((d.calStat g stat).rd (pgCal g) Reg.PAGE_EVT).getLsbD 0 = true :=
  Dev.ev_bit _ _ 0 (by decide)

end parts

/-- A calibration that succeeds. -/
structure Dev.Calibrated (d : Dev) (g : Nat) (die : Int) : Prop where
  state : d.calSt g = .calibrated
  temp : d.rf (pgCal g) Reg.convcal.CALTEMP 15 0 = tnowOf die
  tnow : d.rf (pgCal g) Reg.convcal.TNOW 15 0 = tnowOf die
  sum : (d.rd (pgCal g) Reg.convcal.CALSUM).toNat = d.calSum g
  event : (d.rd (pgCal g) Reg.PAGE_EVT).getLsbD 0 = true

theorem calDone_calibrates {d : Dev} {g : Nat} (running : d.calSt g = .running) (fitem : Nat) (die : Int) :
    d.Within g (calDone d g 0 fitem die) ∧ (calDone d g 0 fitem die).Calibrated g die := by
  rw [calDone_success running]
  generalize hF : d.factored g die = F
  have factored : d.Within g F := hF ▸ d.factored_within g die
  have restart := calRestart_converts ((setTnow (F.calibrated g) g die).calStat g 0) g
  have kept : ∀ {off}, off < 1024 → off ≠ Reg.convcal.STAT → off ≠ Reg.PAGE_EVT → off ≠ Reg.convcal.TNOW →
      (calRestart ((setTnow (F.calibrated g) g die).calStat g 0) g).rd (pgCal g) off = (F.calibrated g).rd (pgCal g) off :=
    fun ho stat evt tnow => by
      rw [restart.cal ho, Dev.rd_calStat_of_ne _ _ _ stat evt, rd_setTnow_of_ne _ _ _ tnow evt]
  have words : ∀ off, off < 1024 → summed off →
      (calRestart ((setTnow (F.calibrated g) g die).calStat g 0) g).rd (pgCal g) off = F.rd (pgCal g) off := fun off ho sum => by
    have apart : off ≠ Reg.convcal.STAT ∧ off ≠ Reg.PAGE_EVT ∧ off ≠ Reg.convcal.TNOW ∧ off ≠ Reg.convcal.CALSUM := by
      simp only [summed, Reg.convcal.CALTEMP, Reg.convcal.CFACT, Reg.convcal.STAT, Reg.PAGE_EVT, Reg.convcal.TNOW,
        Reg.convcal.CALSUM] at sum ⊢
      omega
    obtain ⟨stat, evt, tnow, calsum⟩ := apart
    rw [kept ho stat evt tnow, Dev.rd_calibrated_of_ne _ _ calsum]
  refine ⟨(((factored.trans (F.calibrated_within g)).trans (setTnow_within ..)).trans (Dev.calStat_within ..)).trans
    restart.within, ⟨?_, ?_, ?_, ?_, ?_⟩⟩
  · rw [restart.calSt, Dev.calStat_calSt, setTnow_calSt, Dev.calibrated_calSt]
  · rw [Dev.rf, words _ (by decide) (.inl rfl), ← hF, ← Dev.rf, Dev.factored_temp]
  · rw [Dev.rf, restart.cal (by decide), Dev.rd_calStat_of_ne _ _ _ (by decide) (by decide), ← Dev.rf, setTnow_tnow]
  · rw [kept (by decide) (by decide) (by decide) (by decide), Dev.calibrated_sum, calSum_congr words]
  · rw [restart.cal (by decide)]
    exact Dev.calStat_event ..

/-- A calibration that fails: the state, the cause and the item. -/
theorem calDone_fails {d : Dev} {g : Nat} (running : d.calSt g = .running) {fcause fitem : Nat} (die : Int) (fails : fcause ≠ 0)
    (hc : fcause < 8) (hi : fitem < 64) :
    d.Within g (calDone d g fcause fitem die) ∧ (calDone d g fcause fitem die).calSt g = .failed ∧
      (calDone d g fcause fitem die).rf (pgCal g) Reg.convcal.STAT 11 8 = fcause ∧
      (calDone d g fcause fitem die).rf (pgCal g) Reg.convcal.STAT 23 16 = fitem ∧
      ((calDone d g fcause fitem die).rd (pgCal g) Reg.PAGE_EVT).getLsbD 0 = true := by
  rw [calDone_failure running fitem die fails]
  have restart := calRestart_converts
    ((d.setCal g .failed).calStat g (BitVec.ofNat 36 (fitem * 2 ^ 16 + fcause * 2 ^ 8))) g
  refine ⟨((d.setCal_within g _).trans (Dev.calStat_within ..)).trans restart.within, ?_, ?_, ?_, ?_⟩
  · rw [restart.calSt, Dev.calStat_calSt, Dev.calSt_setCal]
  · rw [Dev.rf, restart.cal (by decide), Dev.calStat_stat]
    simp only [fld, nfld, BitVec.toNat_ofNat, Nat.shiftRight_eq_div_pow]
    omega
  · rw [Dev.rf, restart.cal (by decide), Dev.calStat_stat]
    simp only [fld, nfld, BitVec.toNat_ofNat, Nat.shiftRight_eq_div_pow]
    omega
  · rw [restart.cal (by decide)]
    exact Dev.calStat_event ..

/-! ### The end of an APPLY (R235) -/

/-- The temperature that restored factors carry is near enough to the one measured. -/
def Dev.tempNear (d : Dev) (g : Nat) (die : Int) : Bool :=
  decide (absI (sgn 16 (tnowOf die) - sfld (d.rd (pgCal g) Reg.convcal.CALTEMP) 15 0) ≤
    (16 * d.rf (pgCal g) Reg.convcal.TWIN 5 0 : Nat))

@[simp] theorem Dev.tempNear_advance (d : Dev) (k g : Nat) (die : Int) : (d.advance k).tempNear g die = d.tempNear g die := by
  simp [Dev.tempNear]

/-- What the test found, with its event. -/
def Dev.tested (d : Dev) (g : Nat) (x : CalState) : Dev := (d.setCal g x).ev (pgCal g) 1

section tested
variable (d : Dev) (g : Nat) (x : CalState)

theorem Dev.tested_within : d.Within g (d.tested g x) := (d.setCal_within g x).trans ((pgCal_of g).ev _ 1)
theorem Dev.tested_calSt : (d.tested g x).calSt g = x := by rw [Dev.tested, Dev.calSt_ev, Dev.calSt_setCal]
theorem Dev.tested_event : ((d.tested g x).rd (pgCal g) Reg.PAGE_EVT).getLsbD 1 = true := Dev.ev_bit _ _ 1 (by decide)

end tested

/-- The converter then goes on with its own work. -/
theorem convNext_converts (d : Dev) {g c : Nat} (t : Nat) (h : c / 4 = g) : d.Converts g (convNext d c t) :=
  (convNext_only d c t).converts (convNext_within d t h)

section calApplied
variable {d : Dev} {g : Nat} (applying : d.calSt g = .applying) (die : Int)
include applying

theorem calApplied_of_badsum (bad : d.calSum g ≠ (d.rd (pgCal g) Reg.convcal.CALSUM).toNat) :
    calApplied d g die = convNext (d.tested g .badsum) (4 * g) (modEdge g (d.clk + 1)) := by
  rw [calApplied, (d.calApplies_iff g).mpr applying, if_neg (by decide), if_pos bad]
  rfl

theorem calApplied_of_sum (sum : d.calSum g = (d.rd (pgCal g) Reg.convcal.CALSUM).toNat) :
    calApplied d g die = convNext ((setTnow d g die).tested g (if d.tempNear g die then .restored else .outwin)) (4 * g)
      (modEdge g (d.clk + 1)) := by
  rw [calApplied, (d.calApplies_iff g).mpr applying, if_neg (by decide), if_neg (not_not_intro sum)]
  rfl

end calApplied

/-- A test that has ended with `x`, before the converter goes on. -/
theorem tested_ends {d e : Dev} {g : Nat} (within : d.Within g e) (x : CalState) (t : Nat) :
    d.Within g (convNext (e.tested g x) (4 * g) t) ∧
      ((convNext (e.tested g x) (4 * g) t).rd (pgCal g) Reg.PAGE_EVT).getLsbD 1 = true ∧
      (convNext (e.tested g x) (4 * g) t).calSt g = x ∧
      ∀ off, off < 1024 → off ≠ Reg.PAGE_EVT → (convNext (e.tested g x) (4 * g) t).rd (pgCal g) off = e.rd (pgCal g) off := by
  have goes := convNext_converts (e.tested g x) (g := g) (c := 4 * g) t (by omega)
  refine ⟨(within.trans (e.tested_within g x)).trans goes.within, ?_, ?_, fun off ho evt => ?_⟩
  · rw [goes.cal (by decide)]
    exact e.tested_event g x
  · rw [goes.calSt, Dev.tested_calSt]
  · rw [goes.cal ho, Dev.tested, Dev.rd_ev_ne _ _ (key_ne_of_offset _ evt.symm), Dev.rd_setCal]

/-! ### The statement -/

/-- A command of calibration in a grove whose islands run. -/
theorem State.does_inCal (s : State) {g : Nat} (dt : Nat) (f : Dev → Dev) (runs : s.runs) (here : s.dev.hasGrove g = true) :
    s.does (inConv (4 * g) dt f) = .next (s.after (f (s.dev.advance dt))) :=
  s.does_inConv (4 * g) dt f runs (by rwa [Nat.mul_div_cancel_left g (by decide)])

/-- Settles O36: GO and APPLY by what their write does after the store, the two ends by the branches of `calDone` and
`calApplied`; what follows them in the converters changes nothing of the grove's CONVCAL page. -/
theorem calibration : Obligations.Calibration := by
  intro s g here
  refine ⟨fun w takes direct idle => ?writes, fun runs running dt item die => ?done, fun runs applying dt die => ?applied⟩
  case writes =>
    obtain ⟨S, stores, keeps, next⟩ := writes_calCmd here direct takes
    have idle' : S.calBusy g = false := (calBusy_of_stores stores keeps).trans idle
    refine ⟨fun go => ?_, fun noGo apply => ?_⟩
    · rw [go, if_pos rfl] at next
      refine ⟨_, next, ?_, fun i hi => ?_, fun p off _ => (rd_calGo idle' p off).trans (keeps p off)⟩
      · rw [calGo_of_idle idle', Dev.calSt_setCal]
      · rw [calGo_of_idle idle', Dev.conv_setCal]
        obtain ⟨off, again, held⟩ := dropSequences_noSequence S g 4 i hi
        exact ⟨off, again, held⟩
    · rw [noGo, apply, if_neg (by decide), if_pos rfl] at next
      exact ⟨_, next, calApply_calSt idle'⟩
  case done =>
    have running' : (s.dev.advance dt).calSt g = .running := by rwa [Dev.calSt_advance]
    refine ⟨⟨_, s.does_inCal dt _ runs here, ?_⟩, fun f fails => ⟨_, s.does_inCal dt _ runs here, ?_⟩⟩
    · obtain ⟨within, state, temp, tnow, sum, event⟩ := calDone_calibrates running' item die
      exact ⟨within, state, temp, tnow, sum, event⟩
    · exact calDone_fails running' die (fun zero => fails (Fin.ext zero)) f.isLt item.isLt
  case applied =>
    have applying' : (s.dev.advance dt).calSt g = .applying := by rwa [Dev.calSt_advance]
    have sums : ((s.dev.advance dt).calSum g = ((s.dev.advance dt).rd (pgCal g) Reg.convcal.CALSUM).toNat) ↔
        s.dev.calSum g = (s.dev.rd (pgCal g) Reg.convcal.CALSUM).toNat := by rw [Dev.calSum_advance, Dev.rd_advance]
    refine ⟨_, s.does_inCal dt _ runs here, ?_⟩
    by_cases sum : s.dev.calSum g = (s.dev.rd (pgCal g) Reg.convcal.CALSUM).toNat
    · rw [calApplied_of_sum applying' die (sums.mpr sum)]
      obtain ⟨within, event, state, words⟩ := tested_ends (setTnow_within (s.dev.advance dt) g die)
        (if (s.dev.advance dt).tempNear g die then .restored else .outwin) (modEdge g ((s.dev.advance dt).clk + 1))
      refine ⟨within, event, fun bad => absurd sum bad, fun _ => ⟨?_, ?_⟩⟩
      · rw [Dev.rf, words _ (by decide) (by decide), ← Dev.rf, setTnow_tnow]
      · rw [state, Dev.tempNear_advance]
        simp only [Dev.tempNear, decide_eq_true_eq]
    · rw [calApplied_of_badsum applying' die (mt sums.mp sum)]
      obtain ⟨within, event, state, -⟩ := tested_ends (Dev.Within.refl g (s.dev.advance dt)) .badsum
        (modEdge g ((s.dev.advance dt).clk + 1))
      exact ⟨within, event, fun _ => state, fun good => absurd good sum⟩

end Sys2Proof.Machine
end

section
/-!
SUPPORT. The tick that a disagreement records, whatever recovery or escalation follows it (R264, R274, R276).
-/
namespace Sys2Proof.Machine

theorem rampRequest_tw (d : Dev) (g c : Nat) : (rampRequest d g c).tw = d.tw := by
  obtain ⟨G, eq⟩ := rampRequest_groves d g c
  rw [eq]

theorem replayQuiet_lastDis (d : Dev) : (replayQuiet d).tw.lastDis = d.tw.lastDis := by
  unfold replayQuiet
  split
  · split <;> rfl
  · rfl

theorem escalate_lastDis (d : Dev) (reason : Nat) : (escalate d reason).tw.lastDis = d.tw.lastDis := by
  have asked : ∀ e : Dev, (e.eachGrove (fun e g => rampRequest e g 8)).tw = e.tw := fun e =>
    e.each_keeps Dev.tw _ (fun e g => rampRequest_tw e g 8) _
  rw [escalate, replayQuiet_lastDis, asked]
  simp [escalated]

theorem recoverNow_lastDis (d : Dev) : (recoverNow d).tw.lastDis = d.tw.lastDis := by
  unfold recoverNow
  split
  · exact escalate_lastDis d 4
  · rfl

theorem disFollow_lastDis (before : Twin) (d : Dev) : (disFollow before d).tw.lastDis = d.tw.lastDis := by
  unfold disFollow
  split
  · exact escalate_lastDis d 2
  · split
    · exact escalate_lastDis d 1
    · split
      · exact escalate_lastDis d 3
      · exact recoverNow_lastDis d

/-- The first disagreement of a tick records that tick. -/
theorem disagree_lastDis {d : Dev} (c info : Nat) (paired : d.tw.mode = .paired) (alive : d.tw.dead = false)
    (first : d.tw.lastDis ≠ some d.tk) : (disagree d c info).tw.lastDis = some d.tk := by
  rw [disagree, if_neg (by simp [paired, alive]), if_neg first, disFollow_lastDis]
  rfl

/-- The cause and the axis that DISAG shows, for any cause. -/
theorem fld_disag_of_cause {c n lane : Nat} (hc : c < 16) (hn : n < 128) (hl : lane ≤ 2) (tag : Nat) :
    fld (BitVec.ofNat 36 (c * 2 ^ 32 + disInfo n lane (tag % 256))) 35 32 = c ∧
    fld (BitVec.ofNat 36 (c * 2 ^ 32 + disInfo n lane (tag % 256))) 30 24 = n := by
  have ht : tag % 256 < 256 := Nat.mod_lt _ (by decide)
  simp only [fld, nfld, disInfo, BitVec.toNat_ofNat, Nat.shiftRight_eq_div_pow]
  omega

end Sys2Proof.Machine
end

section
/-!
PROOF. TWIN's verdict t_HAND before a boundary, and the copies that are missing by then (R263, R264, R282).
-/
namespace Sys2Proof.Machine

@[simp] theorem Dev.copyMissing_advance (d : Dev) (k n : Nat) : (d.advance k).copyMissing n = d.copyMissing n := by
  simp [Dev.copyMissing]

@[simp] theorem Dev.allAgreed_advance (d : Dev) (k : Nat) : (d.advance k).allAgreed = d.allAgreed := by
  simp [Dev.allAgreed]

/-! ### The missing copies (R264) -/

/-- An axis whose copies agree misses none. -/
theorem Dev.copyMissing_of_allAgreed {d : Dev} (agreed : d.allAgreed = true) {n : Nat} (hn : n < d.variant.axes) :
    d.copyMissing n = false := by
  have axis := List.all_eq_true.mp agreed n (List.mem_range.mpr hn)
  rw [Dev.copyMissing]
  cases a : (d.ga n).copyA with
  | none => simp [a] at axis
  | some x =>
    cases b : (d.ga n).copyB with
    | none => simp [a, b] at axis
    | some y => rfl

/-- Without pairing, and where every copy has come and agreed, nothing is missing. -/
theorem missingWords_of_agreed {d : Dev} (agreed : d.tw.mode = .paired → d.allAgreed = true) : missingWords d = d := by
  by_cases paired : d.tw.mode = .paired
  · have none : (List.range d.variant.axes).find? d.copyMissing = none :=
      List.find?_eq_none.mpr fun n hn => by simp [Dev.copyMissing_of_allAgreed (agreed paired) (List.mem_range.mp hn)]
    rw [missingWords, none, ite_self]
  · rw [missingWords, if_pos (.inl paired)]

/-- While words are handed, the lowest axis without both its copies is the disagreement of cause MISSING. -/
theorem missingWords_eq {d : Dev} {n : Nat} (paired : d.tw.mode = .paired) (hands : d.hands = true)
    (steady : d.tw.recov = none) (hn : n < d.variant.axes) (missing : d.copyMissing n = true)
    (lowest : ∀ m, m < n → d.copyMissing m = false) :
    missingWords d = disagree d 2 (disInfo n 0 ((d.tk + 1) % 256)) := by
  have found : (List.range d.variant.axes).find? d.copyMissing = some n :=
    List.find?_range_eq_some.mpr ⟨missing, List.mem_range.mpr hn, fun m hm => by simp [lowest m hm]⟩
  rw [missingWords, if_neg (by simp [paired, hands, steady]), found]

/-- What that disagreement leaves, as the first of its tick. -/
theorem disagree_missing {d : Dev} {n : Nat} (hn : n < 128) (paired : d.tw.mode = .paired) (alive : d.tw.dead = false)
    (first : d.tw.lastDis ≠ some d.tk) (settled : d.settled) :
    (let D := disagree d 2 (disInfo n 0 ((d.tk + 1) % 256))
     D.settled ∧ D.rf pgTwin Reg.twin.DISAG 35 32 = 2 ∧ D.rf pgTwin Reg.twin.DISAG 30 24 = n ∧
       D.tw.verdict = some false ∧ D.tw.lastDis = some d.tk) := by
  obtain ⟨variant, -, disag, verdict, due⟩ := disagree_first 2 (disInfo n 0 ((d.tk + 1) % 256)) paired alive first
  rw [disRecord_disag] at disag
  obtain ⟨cause, axis⟩ := fld_disag_of_cause (c := 2) (by decide) hn (Nat.zero_le 2) (d.tk + 1)
  refine ⟨Dev.settled_of_due settled (variant.trans (disRecord_variant ..)) fun g => ?_, ?_, ?_,
    verdict.trans (disRecord_verdict d 2 _), disagree_lastDis _ _ paired alive first⟩
  · rw [due g, Dev.grove, Dev.grove, disRecord_groves]
  · rw [Dev.rf, disag, cause]
  · rw [Dev.rf, disag, axis]

/-! ### The verdict (R263) -/

/-- AGREE: in every mode but PAIRED, and in PAIRED mode where every word agreed and nothing is withheld. -/
theorem verdictAct_agrees {d : Dev} (started : d.tb.started = true)
    (agreed : d.tw.mode = .paired → d.allAgreed = true ∧ d.tw.recov = none ∧ d.tw.lastDis ≠ some d.tk) :
    verdictAct d = d.setTw { d.tw with verdict := some true } := by
  have agree : (d.tw.mode != .paired || (d.allAgreed && d.verdictNow && d.tw.lastDis != some d.tk)) = true := by
    by_cases paired : d.tw.mode = .paired
    · obtain ⟨all, steady, first⟩ := agreed paired
      simp [all, Dev.verdictNow, steady, bne_iff_ne, first]
    · simp [bne_iff_ne, paired]
  rw [verdictAct, if_pos started, missingWords_of_agreed fun paired => (agreed paired).1, twinVerdict, agree]

/-! ### The commands -/

section commands
variable {s : State} (runs : s.runs) (noFlag : s.dev.tw.ckFlag = false) (started : s.dev.tb.started = true)
include runs noFlag

theorem exec_twinVerdict :
    exec .twinVerdict s = .next (s.after (verdictAct (s.dev.advanceTo (s.dev.boundaryClk - 64)))) := by
  have next := s.does_inIslands 0
    (fun d => verdictAct ((checkpointAct d).advanceTo ((checkpointAct d).boundaryClk - 64))) runs
  rwa [Dev.advance_zero, checkpointAct_of_noFlag noFlag] at next

include started

theorem exec_missingWord :
    exec .missingWord s = .next (s.after (missingWords (s.dev.advanceTo (s.dev.boundaryClk - 64)))) := by
  have started' : (s.dev.advanceTo (s.dev.boundaryClk - 64)).tb.started = true :=
    (s.dev.advance_tb_started _).trans started
  have next := s.does_inIslands 0
    (fun d =>
      let d2 := (checkpointAct d).advanceTo ((checkpointAct d).boundaryClk - 64)
      if d2.tb.started then missingWords d2 else d2) runs
  rw [Dev.advance_zero, checkpointAct_of_noFlag noFlag] at next
  rwa [if_pos started'] at next

end commands

/-- Settles O18: with nothing missing the verdict is AGREE; the lowest missing copy is the tick's first disagreement. -/
theorem twinVerdicts : Obligations.TwinVerdicts := by
  refine ⟨fun s runs settled noFlag started agreed => ?agree,
    fun s n runs settled noFlag started paired hands steady alive first hn missing lowest => ?missing⟩
  case agree =>
    have next := exec_twinVerdict runs noFlag
    have verdict := verdictAct_agrees (d := s.dev.advance (s.dev.boundaryClk - 64 - s.dev.clk)) (by simpa using started)
      (by simpa using agreed)
    rw [Dev.advanceTo, verdict, Dev.advance_tw] at next
    exact ⟨_, next, State.after_pending .., s.after_dev_of_settled (Dev.advance_settled settled _)⟩
  case missing =>
    have next := exec_missingWord runs noFlag started
    have small : n < 128 := lt_of_lt_of_le hn (by cases s.dev.variant <;> decide)
    rw [Dev.advanceTo] at next
    rw [missingWords_eq (by simpa using paired) (by simpa using hands) (by simpa using steady) (by simpa using hn)
      (by simpa using missing) (by simpa using lowest)] at next
    obtain ⟨calm, cause, axis, verdict, last⟩ := disagree_missing (n := n)
      (d := s.dev.advance (s.dev.boundaryClk - 64 - s.dev.clk)) small (by simpa using paired) (by simpa using alive)
      (by simpa using first) (Dev.advance_settled settled _)
    rw [← s.after_dev_of_settled calm] at cause axis verdict last
    exact ⟨_, next, State.after_pending .., cause, axis, verdict, last.trans (congrArg some (s.dev.advance_tk _))⟩

end Sys2Proof.Machine
end

section
/-!
PROOF. What is asked of the planners: modes, checkpoints, the comparators' self-test, and halts of Quills (R266, R270, R277,
R280, R281, R457).
-/
namespace Sys2Proof.Machine

/-- Every page below 0x100 is present on a variant with TWIN (R33). -/
theorem pagePresent_of_full {v : Variant} {k : PageKind} {p : Nat} (kind : pageKind p = some k) (low : p < 0x100)
    (full : v.full = true) : pagePresent v p = true := by
  simp [pagePresent, kind, full, Nat.not_le.mpr low]

theorem Dev.Stores.tw {d S : Dev} {p off : Nat} (h : d.Stores p off S) : S.tw = d.tw := (congrArg Dev.tw h.same :)

/-! ### MODE (R277) -/

def modeFields : List RegField := [bf 1 0 .rwk 1]

theorem mode_reg : LowReg .twin pgTwin Reg.twin.MODE modeFields :=
  ⟨rfl, by decide, by decide, rfl, rfl, by decide, by decide, by decide, rfl, rfl, rfl, rfl⟩

theorem actWrite_mode (d : Dev) (req : Nat) (direct : Bool) (old m wo clr : Word) :
    actWrite d .twin pgTwin Reg.twin.MODE req direct old m wo clr = modeReq d m := rfl

/-- A write of MODE that nothing refuses: the store, and the request that waits. -/
theorem exec_modeReq {s : State} {w : RegWrite} (full : s.dev.variant.full = true) (direct : w.win = .direct)
    (takes : s.takes w pgTwin Reg.twin.MODE) :
    ∃ S, (s.dev.advance w.dt).Stores pgTwin Reg.twin.MODE S ∧ exec (.modeReq w) s = .next (s.after
      { S with tw := { s.dev.tw with pending := some (PMode.ofCode (fld w.data 1 0), s.dev.clk + w.dt) } }) := by
  obtain ⟨S, stores, -, next⟩ := mode_reg.accepted full direct takes
  have mode : fld (s.forms pgTwin Reg.twin.MODE modeFields w).m 1 0 = fld w.data 1 0 :=
    fld_formWrite_m _ _ _ _ (by decide) (by decide) (fun i _ hi => by interval_cases i <;> rfl) rfl rfl rfl
  rw [actWrite_mode, modeReq, mode, stores.tw, stores.clk, Dev.advance_tw, Dev.advance_clk] at next
  exact ⟨S, stores, next⟩

/-! ### CKCFG (R266, R270) -/

def ckcfgFields : List RegField := [bf 35 35 .wo 0, bf 10 0 .rw 64]

/-- CKCFG of page `p`, one of the three at which it appears. -/
structure CkcfgReg (k : PageKind) (p off : Nat) : Prop where
  reg : LowReg k p off ckcfgFields
  acts : ∀ (d : Dev) (req : Nat) (direct : Bool) (old m wo clr : Word),
    actWrite d k p off req direct old m wo clr = ckcfgWritten d m wo

theorem ckcfg_twin : CkcfgReg .twin pgTwin Reg.twin.CKCFG :=
  ⟨⟨rfl, by decide, by decide, rfl, rfl, by decide, by decide, by decide, rfl, rfl, rfl, rfl⟩, fun _ _ _ _ _ _ _ => rfl⟩

theorem ckcfg_planA : CkcfgReg .plan pgPlanA Reg.plan.CKCFG :=
  ⟨⟨rfl, by decide, by decide, rfl, rfl, by decide, by decide, by decide, rfl, rfl, rfl, rfl⟩, fun _ _ _ _ _ _ _ => rfl⟩

theorem ckcfg_planB : CkcfgReg .plan pgPlanB Reg.plan.CKCFG :=
  ⟨⟨rfl, by decide, by decide, rfl, rfl, by decide, by decide, by decide, rfl, rfl, rfl, rfl⟩, fun _ _ _ _ _ _ _ => rfl⟩

/-- CKINT as a write through the direct window forms it, beside the WO bit CKNOW. -/
theorem State.fld_forms_ckint (s : State) (p off : Nat) (w : RegWrite) :
    fld (s.forms p off ckcfgFields w).m 10 0 = fld w.data 10 0 := by
  have apart : ∀ i, i ≤ 10 → bit (maskOf ckcfgFields (fun f => f.ty == .rw || f.ty == .rwk)) i = true ∧
      bit (maskOf ckcfgFields (fun f => f.ty == .wo)) i = false := by decide
  have plain : maskOf ckcfgFields RegField.buffered = 0 := rfl
  have noW1c : maskOf ckcfgFields (fun f => f.ty == .w1c) = 0 := rfl
  exact fld_congr (by decide) fun i _ hi =>
    formWrite_m _ p off ckcfgFields .direct w.data i (by omega) (apart i hi).1 (by simp [plain, bit]) (apart i hi).2
      (by simp [noW1c, bit])

/-- CKCFG takes CKINT at all its places, and CKNOW asks for the next boundary. -/
theorem ckcfgWritten_eq (d : Dev) {m wo : Word} (now : bit wo 35 = true) :
    (ckcfgWritten d m wo).tw = { d.tw with ckNow := some d.clk } ∧
    (ckcfgWritten d m wo).rf pgTwin Reg.twin.CKCFG 10 0 = fld m 10 0 ∧
    (ckcfgWritten d m wo).rf pgPlanA Reg.plan.CKCFG 10 0 = fld m 10 0 := by
  have ckint : fld (setFld 0 10 0 (fld m 10 0)) 10 0 = fld m 10 0 :=
    (fld_setFld_eq _ _ _ _ (by decide) (by decide)).trans (Nat.mod_eq_of_lt (fld_lt m 10 0))
  rw [ckcfgWritten]
  dsimp only
  rw [if_pos now]
  refine ⟨rfl, ?_, ?_⟩
  · rw [Dev.rf_setTw, Dev.rf, Dev.rd_wr_eq, ckint]
  · rw [Dev.rf_setTw, Dev.rf, Dev.rd_wr_ne _ _ (by decide), Dev.rd_wr_ne _ _ (by decide), Dev.rd_wr_eq, ckint]

/-- A write of CKCFG with CKNOW that nothing refuses, at a page that is present. -/
theorem CkcfgReg.writes {k : PageKind} {p off : Nat} (ck : CkcfgReg k p off) {s : State} {w : RegWrite}
    (here : pagePresent s.dev.variant p = true) (direct : w.win = .direct) (takes : s.takes w p off)
    (now : w.data.getLsbD 35 = true) :
    ∃ d, s.writes w p off = .next (s.after d) ∧ d.tw = { s.dev.tw with ckNow := some (s.dev.clk + w.dt) } ∧
      d.rf pgTwin Reg.twin.CKCFG 10 0 = fld w.data 10 0 ∧ d.rf pgPlanA Reg.plan.CKCFG 10 0 = fld w.data 10 0 := by
  have reg := ck.reg
  have single : SingleReg (s.dev.advance w.dt) k p off ckcfgFields :=
    ⟨reg.kind, by simpa using here, takes.awake, reg.fields, reg.unlock, reg.writes,
      by simp only [ignoresWrites, reg.notSupv, Bool.false_and], reg.single⟩
  obtain ⟨S, stores, written⟩ :=
    writeCommand_stores single takes.2 reg.notPort reg.low reg.small reg.plain reg.keeps
  have asked : bit (s.forms p off ckcfgFields w).wo 35 = true :=
    (s.bit_forms_wo p off w (fs := ckcfgFields) (i := 35) rfl).trans now
  obtain ⟨tw, twin, plan⟩ := ckcfgWritten_eq S (m := (s.forms p off ckcfgFields w).m) asked
  rw [s.fld_forms_ckint] at twin plan
  rw [stores.tw, stores.clk, Dev.advance_tw, Dev.advance_clk] at tw
  have next := State.writes_of_takes takes
  rw [written, ck.acts, direct] at next
  exact ⟨_, next, tw, twin, plan⟩

/-! ### The self-test of the comparators (R281) -/

def stestFields : List RegField := [bf 0 0 .rwk 0]

/-- A store below page 0x100 of a register whose bits only act leaves the device as it was. -/
theorem storeWrite_actsOnly_low (d : Dev) {k : PageKind} {p off : Nat} {f : Formed} (low : p < 0x100)
    (plain : f.shadow = none) (acts : actsOnly k off = true) : storeWrite d k p off f = d := by
  simp [storeWrite, Nat.not_le.mpr low, plain, acts]

theorem actWrite_stest (d : Dev) (req : Nat) (direct : Bool) (old : Word) {m : Word} (wo clr : Word) (go : bit m 0 = true) :
    actWrite d .twin pgTwin Reg.twin.STEST req direct old m wo clr = stestGo d := if_pos go

/-- A write of STEST.GO that nothing refuses: the unlock it takes, and the start of the test. -/
theorem exec_stestGo {s : State} {w : RegWrite} (full : s.dev.variant.full = true) (direct : w.win = .direct)
    (takes : s.takes w pgTwin Reg.twin.STEST) (go : w.data.getLsbD 0 = true) :
    ∃ S, (s.dev.advance w.dt).Stores pgTwin Reg.twin.STEST S ∧
      exec (.stestGo w) s = .next (s.after { S with tw := { s.dev.tw with stest := true, pairOk := false } }) := by
  have single : SingleReg (s.dev.advance w.dt) .twin pgTwin Reg.twin.STEST stestFields :=
    ⟨rfl, pagePresent_of_full (k := .twin) rfl (by decide) (by simpa using full), takes.awake, rfl, by decide, rfl, rfl, rfl⟩
  have written : bit (formWrite (s.dev.advance w.dt) pgTwin Reg.twin.STEST stestFields .direct w.data).m 0 = true :=
    (formWrite_m _ _ _ _ .direct _ 0 (by decide) rfl rfl rfl rfl).trans ((bit_eq_getLsbD _ _).trans go)
  have stores := (s.dev.advance w.dt).stores_consume pgTwin Reg.twin.STEST w.req.id
    (formWrite (s.dev.advance w.dt) pgTwin Reg.twin.STEST stestFields .direct w.data).keyed
  have next := State.writes_of_takes takes
  rw [writeCommand_accepted single w takes.2 (.inl (by decide)),
    storeWrite_actsOnly_low _ (by decide) (formWrite_shadow _ _ _ _ _ _ rfl) rfl, direct, actWrite_stest _ _ _ _ _ _ written,
    stestGo, stores.tw, Dev.advance_tw] at next
  exact ⟨_, stores, next⟩

/-- The end of the self-test: its verdicts in STRES, PAIR_OK where none was wrong, and its event. -/
theorem stestDone_eq (d : Dev) (lane : BitVec 16) (sig : Bool) :
    stestDone d lane.toNat sig =
      ((d.setTw { d.tw with stest := false, pairOk := decide (lane = 0) && !sig }).wr pgTwin Reg.twin.STRES
        (BitVec.ofNat 36 (bnat sig * 65536 + lane.toNat))).ev pgTwin 5 := by
  have small : lane.toNat % 65536 = lane.toNat := Nat.mod_eq_of_lt lane.isLt
  have none : lane.toNat = 0 ↔ lane = 0 := by simp [BitVec.toNat_eq]
  simp only [stestDone, small, none]

theorem Dev.ev_wr_eq (d : Dev) (p off q i : Nat) (w : Word) :
    ∃ regs rose, (d.wr p off w).ev q i = { d with regs := regs, rose := rose } := ⟨_, _, rfl⟩

/-- TWIN's state, a register and an event are all that differs. -/
theorem Dev.ev_wr_setTw_frame (d : Dev) (x : Twin) (p off q i : Nat) (w : Word) :
    { ((d.setTw x).wr p off w).ev q i with tw := d.tw, regs := d.regs, rose := d.rose } = d := by
  obtain ⟨regs, rose, eq⟩ := (d.setTw x).ev_wr_eq p off q i w
  rw [eq]
  rfl

theorem stestDone_frame (d : Dev) (lane : BitVec 16) (sig : Bool) :
    { stestDone d lane.toNat sig with tw := d.tw, regs := d.regs, rose := d.rose } = d := by
  rw [stestDone_eq]
  exact d.ev_wr_setTw_frame ..

theorem exec_stestDone {s : State} (dt : Nat) (lane : BitVec 16) (sig : Bool) (runs : s.runs)
    (full : s.dev.variant.full = true) (tests : s.dev.tw.stest = true) :
    exec (.stestDone dt lane sig) s = .next (s.after (stestDone (s.dev.advance dt) lane.toNat sig)) := by
  have running : (s.dev.advance dt).variant.full = true ∧ (s.dev.advance dt).tw.stest = true := by simp [full, tests]
  have next := s.does_inIslands dt
    (fun d => if d.variant.full ∧ d.tw.stest then stestDone d lane.toNat sig else d) runs
  rwa [if_pos running] at next

/-! ### Halts of Quills (R280, R457) -/

theorem haltDone_tw (d : Dev) : (haltDone d).tw = d.tw := rfl

section quills
variable {d : Dev} {q : Nat} (here : d.hasQuill q = true)
include here

theorem haltRequest_halts (acts : d.haltsAct = true) :
    haltRequest d q false = d.setTw { d.tw with haltReq := d.tw.haltReq ++ [(q, d.clk)] } := by
  simp [haltRequest, acts, here]

theorem resumeRequest_asks (awake : d.sup.inReset = false) :
    resumeRequest d q = d.setTw { d.tw with resumeReq := d.tw.resumeReq ++ [(q, d.clk)] } := by
  simp [resumeRequest, awake, here]

end quills

/-- A command of the TAP outside reset. -/
theorem State.tapDoes_eq (s : State) (dt : Nat) (f : Dev → Dev) (awake : s.dev.sup.inReset = false) :
    s.tapDoes dt f = .next (s.after (f (s.dev.advance dt))) := by
  rw [State.tapDoes, Dev.pass_of_awake awake]

theorem haltDone_eq (d : Dev) : ∃ t, haltDone d = d.setTap t := ⟨_, rfl⟩

/-- A request of a Quill leaves the device but for TWIN's requests and the TAP. -/
theorem haltDone_frame (d : Dev) (x : Twin) : { haltDone (d.setTw x) with tw := d.tw, tap := d.tap } = d := by
  obtain ⟨t, eq⟩ := haltDone_eq (d.setTw x)
  rw [eq]
  rfl

section commands
variable {s : State} {q : Fin 2} (runs : s.runs) (dt : Nat) (here : s.dev.hasQuill q = true)
include runs here

theorem exec_quillHalt :
    ∃ d, exec (.quillHalt dt q false) s = .next (s.after d) ∧
      d.tw = { s.dev.tw with haltReq := s.dev.tw.haltReq ++ [(q.val, (s.dev.advance dt).clk)] } ∧
      { d with tw := s.dev.tw, tap := s.dev.tap } = s.dev.advance dt := by
  have acts : (s.dev.advance dt).haltsAct = true := (s.dev.grovesRun_advance dt).trans runs
  have next := s.tapDoes_eq dt (fun d => haltDone (haltRequest d q false)) (Dev.awake_of_grovesRun runs)
  rw [haltRequest_halts (by simpa [Dev.hasQuill] using here) acts] at next
  have frame := haltDone_frame (s.dev.advance dt)
  rw [Dev.advance_tw, Dev.advance_tap] at frame
  exact ⟨_, next, by rw [haltDone_tw, Dev.setTw_tw, Dev.advance_tw], frame _⟩

theorem exec_quillResume :
    ∃ d, exec (.quillResume dt q) s = .next (s.after d) ∧
      d.tw = { s.dev.tw with resumeReq := s.dev.tw.resumeReq ++ [(q.val, (s.dev.advance dt).clk)] } ∧
      { d with tw := s.dev.tw, tap := s.dev.tap } = s.dev.advance dt := by
  have awake := Dev.awake_of_grovesRun runs
  have next := s.tapDoes_eq dt (fun d => haltDone (resumeRequest d q)) awake
  rw [resumeRequest_asks (by simpa [Dev.hasQuill] using here) (by simpa using awake)] at next
  have frame := haltDone_frame (s.dev.advance dt)
  rw [Dev.advance_tw, Dev.advance_tap] at frame
  exact ⟨_, next, by rw [haltDone_tw, Dev.setTw_tw, Dev.advance_tw], frame _⟩

end commands

/-- A halt with a resume in one Update-DR is the resume. -/
theorem exec_quillHalt_withResume (s : State) (dt : Nat) (q : Fin 2) :
    exec (.quillHalt dt q true) s = exec (.quillResume dt q) s := rfl

/-! ### The statement -/

/-- Settles O58: each write by what its register does after the store; the self-test's end and the halts by their requests. -/
theorem plannerModes : Obligations.PlannerModes := by
  refine fun s dt => ⟨fun w direct => ⟨fun full takes _ => exec_modeReq full direct takes, fun page notA full takes now => ?ck,
    fun takes now => ?ckA, fun full takes _ go => exec_stestGo full direct takes go⟩,
    fun lane sig runs full tests => ?done, fun q runs present => ?quill⟩
  case ck =>
    cases page with
    | twin => exact ckcfg_twin.writes (pagePresent_of_full (k := .twin) rfl (by decide) full) direct takes now
    | planb => exact ckcfg_planB.writes (pagePresent_of_full (k := .plan) rfl (by decide) full) direct takes now
    | plana => exact absurd rfl notA
  case ckA =>
    have here : pagePresent s.dev.variant pgPlanA = true := by cases s.dev.variant <;> rfl
    obtain ⟨d, next, tw, -, plan⟩ := ckcfg_planA.writes here direct takes now
    exact ⟨d, next, tw, plan⟩
  case done =>
    refine ⟨_, exec_stestDone dt lane sig runs full tests, ?_⟩
    have frame := stestDone_frame (s.dev.advance dt) lane sig
    rw [Dev.advance_tw, Dev.advance_regs, Dev.advance_rose] at frame
    refine ⟨?_, ?_, Dev.ev_bit _ _ _ (by decide), frame⟩
    · rw [stestDone_eq, Dev.advance_tw]
      rfl
    · rw [stestDone_eq, Dev.rd_ev_ne _ _ (by decide), Dev.rd_wr_eq]
  case quill =>
    have here : s.dev.hasQuill q = true := by
      rcases present with rfl | full
      · rfl
      · simp [Dev.hasQuill, full]
    obtain ⟨d, next, asked, frame⟩ := exec_quillResume runs dt here
    exact ⟨exec_quillHalt runs dt here, d, (exec_quillHalt_withResume s dt q).trans next, next, asked, frame⟩

end Sys2Proof.Machine
end

section
/-!
PROOF. NOP, WRITE and SCATTER frames (R291, R296 to R299).
-/
namespace Sys2Proof.Machine

/-! ### Writes of memory (R40, R296) -/

/-- Memory after writes in element order. -/
def Mem.puts (m : Mem) (ws : List (Nat × Word)) : Mem := ws.foldl (fun m e => m.put e.1 e.2) m

theorem Mem.puts_cons (m : Mem) (a : Nat) (w : Word) (ws : List (Nat × Word)) :
    m.puts ((a, w) :: ws) = (m.put a w).puts ws := rfl

/-- Of the writes to one address the last stands; an address that none names keeps its word. -/
theorem Mem.at_puts (m : Mem) (ws : List (Nat × Word)) (a : Nat) :
    (m.puts ws).at a = (ws.reverse.lookup a).elim (m.at a) (⟨·, .clean⟩) := by
  induction ws generalizing m with
  | nil => rfl
  | cons e t ih =>
    obtain ⟨b, w⟩ := e
    rw [Mem.puts_cons, ih, List.reverse_cons, List.lookup_append]
    cases t.reverse.lookup a with
    | some x => rfl
    | none =>
      by_cases h : a = b
      · subst h
        simpa using m.at_put_eq a w
      · simpa [List.lookup_cons, beq_false_of_ne h] using m.at_put_ne w (Ne.symm h)

/-- Words written to one address the later each. -/
theorem Mem.at_puts_zipIdx (m : Mem) (base : Nat) (ws : List Word) (k a : Nat) :
    (m.puts ((ws.zipIdx k).map (fun e => (base + e.2, e.1)))).at a =
      if base + k ≤ a ∧ a < base + k + ws.length then ⟨ws.getD (a - (base + k)) 0, .clean⟩ else m.at a := by
  induction ws generalizing m k with
  | nil => exact (if_neg (by simp)).symm
  | cons w t ih =>
    rw [List.zipIdx_cons, List.map_cons, Mem.puts_cons, ih, List.length_cons]
    by_cases first : a = base + k
    · subst first
      rw [if_neg (by omega), if_pos (by omega), Mem.at_put_eq, Nat.sub_self]
      rfl
    · rw [Mem.at_put_ne _ _ (Ne.symm first)]
      by_cases later : base + (k + 1) ≤ a ∧ a < base + (k + 1) + t.length
      · rw [if_pos later, if_pos (by omega), show a - (base + k) = a - (base + (k + 1)) + 1 by omega]
        rfl
      · rw [if_neg later, if_neg (by omega)]

/-- What a WRITE frame leaves in memory (R296). -/
theorem Mem.at_puts_writeList (m : Mem) (f : Frame) (a : Nat) :
    (m.puts (writeList f)).at a =
      if f.addr.toNat ≤ a ∧ a < f.addr.toNat + f.data.length then ⟨f.data.getD (a - f.addr.toNat) 0, .clean⟩ else m.at a :=
  m.at_puts_zipIdx f.addr.toNat f.data 0 a

/-- A WRITE frame names the addresses from its own on. -/
theorem lt_of_mem_writeList {f : Frame} {e : Nat × Word} (h : e ∈ writeList f) : e.1 < f.addr.toNat + f.data.length := by
  obtain ⟨⟨w, i⟩, hi, rfl⟩ := List.mem_map.mp h
  have := (List.mem_zipIdx hi).2.1
  dsimp only
  omega

theorem writeAddr_mem {d : Dev} {a : Nat} (here : a < d.variant.memWords) (req : Nat) (w : Word) :
    writeAddr d req a w = ⟨stOk, [], { d with mem := d.mem.put a w }⟩ := by
  simp only [writeAddr, Dev.place_mem here, Dev.memPut_of_lt here]

theorem tryWrites_mem {d : Dev} {ws : List (Nat × Word)} (here : ∀ e ∈ ws, e.1 < d.variant.memWords) (req : Nat) :
    tryWrites d req ws = (ws.map (fun _ => stOk), [], { d with mem := d.mem.puts ws }) := by
  induction ws generalizing d with
  | nil => rfl
  | cons e t ih =>
    obtain ⟨a, w⟩ := e
    have rest := ih (d := { d with mem := d.mem.put a w }) fun e he => here e (by simp [he])
    simp only [tryWrites, writeAddr_mem (here (a, w) (by simp)), rest]
    rfl

/-- Writes of memory as the act of a frame. -/
theorem frameWrites_mem {d : Dev} {ws : List (Nat × Word)} (here : ∀ e ∈ ws, e.1 < d.variant.memWords) :
    frameWrites d ws = ⟨0, [], false, none, { d with mem := d.mem.puts ws }⟩ := by
  have granted : (ws.map (fun _ => stOk)).contains stRefused = false := by simp [stOk, stRefused]
  have statuses : estatOf (ws.map (fun _ => stOk)) = 0 := estatOf_ok (by simp)
  simp only [frameWrites, applyWrites, tryWrites_mem here, granted, statuses, Bool.false_eq_true, if_false]
  rfl

/-- A write of memory asks for no host port reset. -/
theorem asksPrst_mem {d : Dev} {e : Nat × Word} (here : e.1 < d.variant.memWords) : asksPrst d e = false := by
  rw [asksPrst, Dev.place_mem here]
  rfl

/-- An accepted frame whose act is writes of memory. -/
theorem State.does_memoryWrites {s : State} {op : Nat} {f : Frame} (h : s.accepts op f) {ws : List (Nat × Word)}
    (act : ∀ d, frameAct s.tele1 s.tele2 d op f = frameWrites d ws)
    (asks : ∀ d, frameAsksPrst d op f = ws.any (asksPrst d)) (here : ∀ e ∈ ws, e.1 < s.dev.variant.memWords) :
    ∃ d, s.does (fun d => hostFrame s.tele1 s.tele2 d op f) = .next (s.after d) ∧ (s.dev.advance f.dt).Counted op f d ∧
      d.Replies 0 0 [] ∧ (s.dev.advance f.dt).HostOnly { d with mem := s.dev.mem } ∧ d.mem = s.dev.mem.puts ws := by
  have start := (s.dev.advance f.dt).frameStart_hostOnly op f
  have heard := (s.dev.advance f.dt).frameHeard_hostOnly f
  have noReset : frameAsksPrst ((s.dev.advance f.dt).frameHeard f) op f = false := by
    rw [asks, List.any_eq_false]
    intro e he
    rw [asksPrst_mem (by rw [heard.variant, Dev.advance_variant]; exact here e he)]
    exact Bool.false_ne_true
  have wrote := (act _).trans (frameWrites_mem (d := (s.dev.advance f.dt).frameStart op f) (ws := ws)
    (by rw [start.variant, Dev.advance_variant]; exact here))
  obtain ⟨d, next, counted, answered⟩ := State.does_hostFrame h wrote ⟨rfl, rfl, rfl, rfl⟩ (frameStart_sup s op f) noReset
  have back := Dev.HostOnly.setBack (fun e => { e with mem := (s.dev.advance f.dt).mem })
    (fun _ => rfl) (fun _ _ _ => rfl) start answered.port rfl rfl
  rw [Dev.advance_mem] at back
  refine ⟨d, next, counted, answered.ready rfl, back, ?_⟩
  rw [answered.port.mem, start.mem, Dev.advance_mem]

/-! ### A keyed write without its key (R54, R63, R467) -/

theorem RegField.writable_of_keyed {x : RegField} (h : x.keyed = true) : x.writable = true := by
  unfold RegField.keyed at h
  unfold RegField.writable
  revert h
  cases x.ty <;> decide

/-- A register all of whose fields are keyed takes writes. -/
theorem SingleReg.of_keyed {d : Dev} {k : PageKind} {p off : Nat} {fs : List RegField} (kind : pageKind p = some k)
    (here : pagePresent d.variant p = true) (awake : d.sup.inReset = false) (fields : fieldsAt k off = some fs)
    (notSupv : k ≠ .supv) (single : pairPart k off = .single) (nonempty : fs ≠ []) (keyed : ∀ x ∈ fs, x.keyed = true) :
    SingleReg d k p off fs where
  kind := kind
  here := here
  awake := awake
  fields := fields
  unlock := by
    rintro rfl
    cases fields
    exact absurd (keyed (bf 35 0 .wo 0) (by simp)) (by decide)
  writes := by
    obtain ⟨x, hx⟩ := List.exists_mem_of_ne_nil fs nonempty
    have notAll : fs.all (fun f => !f.writable) = false :=
      List.all_eq_false.mpr ⟨x, hx, by simp [RegField.writable_of_keyed (keyed x hx)]⟩
    rw [notAll, Bool.and_false]
  heeded := by simp [ignoresWrites, notSupv]
  single := single

/-- Whether a register takes writes depends on the device by its variant and its supervisor alone. -/
theorem SingleReg.congr {d e : Dev} {k : PageKind} {p off : Nat} {fs : List RegField} (reg : SingleReg d k p off fs)
    (variant : e.variant = d.variant) (sup : e.sup = d.sup) : SingleReg e k p off fs :=
  { reg with
    here := by rw [variant, reg.here]
    awake := by rw [sup, reg.awake]
    heeded := by rw [← reg.heeded, ignoresWrites, Dev.hasGrove, variant, ← Dev.hasGrove, ← ignoresWrites] }

theorem formWrite_keyed (d : Dev) (p off : Nat) {fs : List RegField} (win : Sys2Proof.Window) (data : Word) (nonempty : fs ≠ [])
    (keyed : ∀ x ∈ fs, x.keyed = true) : (formWrite d p off fs win data).keyed = true := by
  have writable : fs.filter RegField.writable = fs :=
    List.filter_eq_self.mpr fun x hx => RegField.writable_of_keyed (keyed x hx)
  have all : fs.all RegField.keyed = true := List.all_eq_true.mpr keyed
  simp [formWrite, writable, all, nonempty]

/-- Without the page's key a keyed write is refused with code 1. -/
theorem writeAddr_locked {d : Dev} {k : PageKind} {p off req : Nat} {fs : List RegField} (reg : SingleReg d k p off fs)
    (hp : p < 1024) (ho : off < 1024) (nonempty : fs ≠ []) (keyed : ∀ x ∈ fs, x.keyed = true) (host : req ≠ 3)
    (locked : d.unlocked req p = false) (w : Word) :
    writeAddr d req (0x800000 + p * 1024 + off) w = ⟨stRefused, [.err p off 1], d⟩ := by
  have noKey : keyOk d req p (formWrite d p off fs .direct w).keyed = false := by
    simp [keyOk, formWrite_keyed d p off .direct w nonempty keyed, host, locked]
  have page := writePage_single reg req .direct w
  simp only [writePage, Dev.regPlace, reg.here, reg.kind, if_true] at page
  simp only [writeAddr, Dev.place_reg hp ho reg.kind reg.here, page, writeSingle, noKey, Bool.not_false, if_true]
  rfl

/-- A keyed register is not the one that resets the port (R307). -/
theorem asksPrst_keyed {d : Dev} {k : PageKind} {p off : Nat} {fs : List RegField} (hp : p < 1024) (ho : off < 1024)
    (reg : SingleReg d k p off fs) (keyed : ∀ x ∈ fs, x.keyed = true) (w : Word) :
    asksPrst d (0x800000 + p * 1024 + off, w) = false := by
  have other : ¬ (k = .hostp ∧ off = Reg.PAGE_CTRL) := by
    rintro ⟨rfl, rfl⟩
    cases reg.fields
    exact absurd (keyed (bf 0 0 .wo 0) (by decide)) (by decide)
  have place : (Place.reg k p off .direct == .reg .hostp pgHostp Reg.PAGE_CTRL .direct) = false :=
    beq_false_of_ne fun e => by
      injection e with ek _ eo
      exact other ⟨ek, eo⟩
  rw [asksPrst, Dev.place_reg hp ho reg.kind reg.here, place, Bool.false_and]

/-! ### A frame whose writes are refused (R296) -/

/-- The device after a frame whose writes are refused for one at `off` of page `p`: the record alone. -/
def Dev.writesRefused (d : Dev) (p off code : Nat) : Dev :=
  ((pageErr d 0 p off code).incSat pgHostp Reg.hostp.ERRC 23 12).ev pgHostp 3

/-- A word of memory and a keyed register without its key: neither is written. -/
theorem frameWrites_locked {d : Dev} {k : PageKind} {a p off : Nat} {fs : List RegField} (here : a < d.variant.memWords)
    (reg : SingleReg d k p off fs) (hp : p < 1024) (ho : off < 1024) (nonempty : fs ≠ []) (keyed : ∀ x ∈ fs, x.keyed = true)
    (locked : d.unlocked 0 p = false) (v w : Word) :
    frameWrites d [(a, v), (0x800000 + p * 1024 + off, w)] = ⟨8, [], true, none, d.writesRefused p off 1⟩ := by
  have reg' : SingleReg { d with mem := d.mem.put a v } k p off fs := reg.congr rfl rfl
  have second := writeAddr_locked reg' hp ho nonempty keyed (req := 0) (by decide) locked w
  have tried : tryWrites d 0 [(a, v), (0x800000 + p * 1024 + off, w)] =
      ([stOk, stRefused], [.err p off 1], { d with mem := d.mem.put a v }) := by
    simp only [tryWrites, writeAddr_mem here, second, List.nil_append, List.append_nil]
  have refused : ([stOk, stRefused] : List Nat).contains stRefused = true := by decide
  have statuses : estatOf [stOk, stRefused] = 8 := by decide
  simp only [frameWrites, applyWrites, tried, refused, statuses, if_true]
  rfl

@[simp] theorem Dev.writesRefused_hp (d : Dev) (p off c : Nat) : (d.writesRefused p off c).hp = d.hp := by
  simp [Dev.writesRefused, pageErr]
@[simp] theorem Dev.writesRefused_sup (d : Dev) (p off c : Nat) : (d.writesRefused p off c).sup = d.sup := by
  simp [Dev.writesRefused, pageErr]
@[simp] theorem Dev.writesRefused_mem (d : Dev) (p off c : Nat) : (d.writesRefused p off c).mem = d.mem := by
  simp [Dev.writesRefused, pageErr]

/-- Devices that agree but for the port, the registers, the port's pin and the free values. -/
theorem Dev.eq_of_sansPort {d d' : Dev} (h : d'.sansPort = d.sansPort) :
    { d' with hp := d.hp, regs := d.regs, rose := d.rose, pins := d.pins, draws := d.draws } = d :=
  congrArg (fun x : Dev => { x with hp := d.hp, regs := d.regs, rose := d.rose, pins := d.pins, draws := d.draws }) h

theorem Dev.wr_sansPort (d : Dev) (p o : Nat) (w : Word) : (d.wr p o w).sansPort = d.sansPort := rfl

/-- The record lies in registers alone. -/
theorem Dev.writesRefused_sansPort (d : Dev) (p off c : Nat) : (d.writesRefused p off c).sansPort = d.sansPort := by
  have err : (pageErr d 0 p off c).sansPort = d.sansPort := Dev.wr_sansPort ..
  rw [← err, Dev.writesRefused]
  generalize pageErr d 0 p off c = e
  exact (((Dev.HostOnly.refl e).incSat (o := Reg.hostp.ERRC) (by decide) 23 12).ev 3).sans

/-- A refusal changes PAGE_ERR of the page, ERRC and PAGE_EVT of the port, and no other register. -/
theorem Dev.rd_writesRefused (d : Dev) {p : Nat} (off c : Nat) {q o : Nat} (err : key p Reg.PAGE_ERR ≠ key q o)
    (errc : key pgHostp Reg.hostp.ERRC ≠ key q o) (evt : key pgHostp Reg.PAGE_EVT ≠ key q o) :
    (d.writesRefused p off c).rd q o = d.rd q o := by
  rw [Dev.writesRefused, Dev.rd_ev_ne _ _ evt, Dev.rd_incSat_ne _ _ _ errc, pageErr, Dev.rd_wr_ne _ _ err]

theorem Dev.writesRefused_pageErr (d : Dev) (p off c : Nat) :
    (d.writesRefused p off c).rd p Reg.PAGE_ERR = mkw [(33, 0), (29, c), (19, off),
      (8, min 2047 (d.rf p Reg.PAGE_ERR 18 8 + 1)), (0, d.tk % 256)] := by
  have ne : ∀ o, o < 1024 → o ≠ Reg.PAGE_ERR → key pgHostp o ≠ key p Reg.PAGE_ERR :=
    fun o ho h e => h ((key_inj ho (by decide)).mp e).2
  rw [Dev.writesRefused, Dev.rd_ev_ne _ _ (ne _ (by decide) (by decide)),
    Dev.rd_incSat_ne _ _ _ (ne _ (by decide) (by decide)), pageErr, Dev.rd_wr_eq]

theorem Dev.writesRefused_errc (d : Dev) (p off c : Nat) :
    (d.writesRefused p off c).rf pgHostp Reg.hostp.ERRC 23 12 =
      min (2 ^ 12 - 1) (d.rf pgHostp Reg.hostp.ERRC 23 12 + 1) := by
  have ne : key p Reg.PAGE_ERR ≠ key pgHostp Reg.hostp.ERRC :=
    fun e => absurd ((key_inj (by decide) (by decide)).mp e).2 (by decide)
  rw [Dev.rf, Dev.writesRefused, Dev.rd_ev_ne _ _ (by decide)]
  refine (Dev.rf_incSat_eq _ _ _ _ _ (by decide) (by decide)).trans ?_
  rw [Dev.rf, pageErr, Dev.rd_wr_ne _ _ ne, ← Dev.rf]

theorem Dev.writesRefused_keepsCounts (d : Dev) (p off c : Nat) : d.KeepsCounts (d.writesRefused p off c) := by
  have ne : ∀ o, o < 1024 → o ≠ Reg.PAGE_ERR → key p Reg.PAGE_ERR ≠ key pgHostp o :=
    fun o ho h e => h ((key_inj (by decide) ho).mp e).2.symm
  refine ⟨?_, ?_, by rw [d.writesRefused_hp], by rw [d.writesRefused_hp]⟩ <;>
    exact d.rd_writesRefused off c (ne _ (by decide) (by decide)) (by decide) (by decide)

/-! ### The port's registers before and after the act -/

/-- Counting leaves alone every register but four of the port's. -/
theorem Dev.rd_frameStart (d : Dev) (op : Nat) (f : Frame) (p : Nat) {o : Nat} (ho : o < 1024)
    (other : o ∉ [Reg.hostp.FRAMES, Reg.hostp.LASTHDR, Reg.hostp.ERRC, Reg.PAGE_EVT]) :
    (d.frameStart op f).rd p o = d.rd p o := by
  by_cases h : p = pgHostp
  · subst h
    have errc : o ≠ Reg.hostp.ERRC := fun e => other (by simp [e])
    rw [← d.rd_frameHeard f ho errc]
    exact rd_countAccepted _ _ _ _ ho other
  · exact (d.frameStart_hostOnly op f).rd p o ho h

/-- A count leaves the other fields of its register alone. -/
theorem Dev.rf_incSat_other (d : Dev) (p off hi lo a b : Nat) (h : lo ≤ hi) (hh : hi < 36) (ha : b ≤ a)
    (apart : a < lo ∨ hi < b) : (d.incSat p off hi lo).rf p off a b = d.rf p off a b := by
  unfold Dev.incSat
  dsimp only
  split
  · exact d.rf_wf_other p off hi lo _ a b h hh ha apart
  · rfl

/-- Counting leaves the count of refused frames alone (R313). -/
theorem Dev.errc_frameStart (d : Dev) (op : Nat) (f : Frame) :
    (d.frameStart op f).rf pgHostp Reg.hostp.ERRC 23 12 = d.rf pgHostp Reg.hostp.ERRC 23 12 := by
  have heard : (d.frameHeard f).rf pgHostp Reg.hostp.ERRC 23 12 = d.rf pgHostp Reg.hostp.ERRC 23 12 := by
    unfold Dev.frameHeard
    dsimp only
    split
    · exact Dev.rf_incSat_other _ _ _ _ _ _ _ (by decide) (by decide) (by decide) (by decide)
    · rfl
  rw [← heard, Dev.frameStart]
  generalize d.frameHeard f = e
  have frames : ∀ w x, (((e.incWrap pgHostp Reg.hostp.FRAMES 35 0 1).wr pgHostp Reg.hostp.LASTHDR w).setHp x).rf pgHostp
      Reg.hostp.ERRC 23 12 = e.rf pgHostp Reg.hostp.ERRC 23 12 := fun w x => by
    rw [Dev.rf_setHp, Dev.rf, Dev.rd_wr_ne _ _ (by decide), Dev.incWrap, Dev.rd_wf_ne _ _ _ _ (by decide), ← Dev.rf]
  unfold countAccepted
  dsimp only
  split
  · rw [Dev.rf, Dev.rd_ev_ne _ _ (by decide)]
    exact (Dev.rf_incSat_other _ _ _ _ _ _ _ (by decide) (by decide) (by decide) (by decide)).trans (frames _ _)
  · exact frames _ _

theorem rd_wdKick (d : Dev) {p o : Nat} (other : key pgHostp Reg.hostp.WDSTAT ≠ key p o) : (wdKick d).rd p o = d.rd p o := by
  unfold wdKick wdRestart
  split
  · rw [Dev.rd_setHp, Dev.rd_wf_ne _ _ _ _ other]
  · rfl

/-- After the act only the watchdog's status changes (R309). -/
theorem rd_frameEnd (d : Dev) (op : Nat) (f : Frame) (a : FrameAct) {p o : Nat} (other : key pgHostp Reg.hostp.WDSTAT ≠ key p o) :
    (frameEnd d op f a).rd p o = a.dev.rd p o := by
  have kick : (if a.dev.rb pgHostp Reg.hostp.WDOG 34 then a.dev else wdKick a.dev).rd p o = a.dev.rd p o := by
    split
    · rfl
    · exact rd_wdKick _ other
  rw [← kick, frameEnd]
  generalize (if a.dev.rb pgHostp Reg.hostp.WDOG 34 then a.dev else wdKick a.dev) = e
  obtain ⟨st, eq⟩ := replyAccepted_eq e d.hp (d.frameStart op f) (d.frameGap f) a f.early
  rw [eq]
  split
  · rfl
  · rw [replyReady_onTime _ rfl]
    rfl

/-- What a command that is an accepted frame answers, by the device that the reply leaves. -/
theorem State.does_frameEnd {s : State} {op : Nat} {f : Frame} (h : s.accepts op f) {a : FrameAct}
    (act : frameAct s.tele1 s.tele2 ((s.dev.advance f.dt).frameStart op f) op f = a) (sup : a.dev.sup = s.dev.sup)
    (noReset : frameAsksPrst ((s.dev.advance f.dt).frameHeard f) op f = false) :
    s.does (fun d => hostFrame s.tele1 s.tele2 d op f) = .next (s.after (frameEnd (s.dev.advance f.dt) op f a)) := by
  rw [State.does_eq s _ h.awake, hostFrame_accepted h s.tele1 s.tele2 act (by rw [sup, h.awake]) noReset]

/-! ### The statement -/

/-- An accepted SCATTER of a word of memory and of a keyed register without its key. -/
theorem execScatter_locked {s : State} {f : Frame} {a p off : Nat} {v w : Word} {k : PageKind} {fs : List RegField}
    (h : s.accepts 2 f) (pairs : scatterList f.data = [(a, v), (0x800000 + p * 1024 + off, w)])
    (here : a < s.dev.variant.memWords) (reg : SingleReg s.dev k p off fs) (hp : p < 1024) (ho : off < 1024)
    (nonempty : fs ≠ []) (keyed : ∀ x ∈ fs, x.keyed = true) (locked : s.dev.unlocked 0 p = false) :
    ∃ d, exec (.scatter f) s = .next (s.after d) ∧ (s.dev.advance f.dt).Counted 2 f d ∧ d.Replies 6 8 [] ∧
      (((s.dev.advance f.dt).frameStart 2 f).writesRefused p off 1).HostOnly d ∧
      ∀ q x, key pgHostp Reg.hostp.WDSTAT ≠ key q x →
        d.rd q x = (((s.dev.advance f.dt).frameStart 2 f).writesRefused p off 1).rd q x := by
  have start := (s.dev.advance f.dt).frameStart_hostOnly 2 f
  have heard := (s.dev.advance f.dt).frameHeard_hostOnly f
  have sup := frameStart_sup s 2 f
  have started := start.variant.trans (s.dev.advance_variant f.dt)
  have act := frameWrites_locked (d := (s.dev.advance f.dt).frameStart 2 f) (by rw [started]; exact here)
    (reg.congr started sup) hp ho nonempty keyed (by rw [Dev.unlocked, start.acc, Dev.advance_acc]; exact locked) v w
  have noReset : frameAsksPrst ((s.dev.advance f.dt).frameHeard f) 2 f = false := by
    have heardV := heard.variant.trans (s.dev.advance_variant f.dt)
    rw [frameAsksPrst, pairs, List.any_cons, List.any_cons, List.any_nil, asksPrst_mem (by rw [heardV]; exact here),
      asksPrst_keyed hp ho (reg.congr heardV (heard.sup.trans (s.dev.advance_sup f.dt))) keyed]
    rfl
  have acts : frameAct s.tele1 s.tele2 ((s.dev.advance f.dt).frameStart 2 f) 2 f = _ :=
    (congrArg (frameWrites _) pairs).trans act
  have answered := frameEnd_answered (s.dev.advance f.dt) 2 f
    ⟨8, [], true, none, ((s.dev.advance f.dt).frameStart 2 f).writesRefused p off 1⟩
  exact ⟨_, State.does_frameEnd h acts ((Dev.writesRefused_sup ..).trans sup) noReset,
    answered.counted (Dev.writesRefused_keepsCounts ..), answered.ready rfl, answered.port,
    fun _ _ other => rd_frameEnd _ _ _ _ other⟩

/-- Settles O42: writes of memory by where they land; the frame that is refused by the record that it alone leaves. -/
theorem hostWrites : Obligations.HostWrites := by
  refine fun s f => ⟨fun h => ?nop, fun h here => ?write, fun h here => ?scatter,
    fun a b v w p off k fs h pairs here addr kind present fields notSupv single nonempty ty locked => ?refused⟩
  case nop =>
    obtain ⟨d, next, counted, port, replies⟩ := State.does_readFrame (estat := 0) (data := []) h rfl rfl
    exact ⟨d, next, counted, replies, port⟩
  case write =>
    have len : f.data.length = frameN f := h.data
    obtain ⟨d, next, counted, replies, port, mem⟩ := State.does_memoryWrites h (ws := writeList f) (fun _ => rfl) (fun _ => rfl)
      fun e he => lt_of_lt_of_le (lt_of_mem_writeList he) (by rw [len]; exact here)
    refine ⟨d, next, counted, replies, port, fun a => ?_⟩
    rw [mem, Mem.at_puts_writeList, len]
  case scatter =>
    obtain ⟨d, next, counted, replies, port, mem⟩ := State.does_memoryWrites h (ws := scatterList f.data) (fun _ => rfl)
      (fun _ => rfl) here
    refine ⟨d, next, counted, replies, port, fun a => ?_⟩
    rw [mem, Mem.at_puts]
    cases (scatterList f.data).reverse.lookup a <;> rfl
  case refused =>
    have start := (s.dev.advance f.dt).frameStart_hostOnly 2 f
    have keyed : ∀ x ∈ fs, x.keyed = true := fun x hx => by
      rcases ty x hx with e | e <;> rw [RegField.keyed, e] <;> rfl
    obtain ⟨d, next, counted, replies, port, rd⟩ := execScatter_locked h (addr ▸ pairs) here
      (.of_keyed kind present h.awake fields notSupv single nonempty keyed) p.isLt off.isLt nonempty keyed locked
    have same : d.sansPort = (s.dev.advance f.dt).sansPort := by
      rw [port.sans, Dev.writesRefused_sansPort, start.sans]
    refine ⟨d, next, counted, replies, ?_, ?_, ?_, ?_, fun q x hx notPort notErr => ?_⟩
    · rw [port.mem, Dev.writesRefused_mem, start.mem, Dev.advance_mem]
    · have err := (s.dev.advance f.dt).rd_frameStart 2 f p.toNat (o := Reg.PAGE_ERR) (by decide) (by decide)
      rw [rd _ _ fun e => absurd ((key_inj (by decide) (by decide)).mp e).2 (by decide), Dev.writesRefused_pageErr, Dev.rf,
        err, Dev.rd_advance, start.tk, Dev.advance_tk, ← Dev.rf]
    · rw [Dev.rf, rd _ _ (by decide), ← Dev.rf, Dev.writesRefused_errc, Dev.errc_frameStart, Dev.rf, Dev.rd_advance, ← Dev.rf]
    · exact Dev.eq_of_sansPort same
    · have ne : ∀ r, r < 1024 → key pgHostp r ≠ key q x := fun r hr e => notPort ((key_inj hr hx).mp e).1.symm
      have err : key p.toNat Reg.PAGE_ERR ≠ key q x := fun e =>
        have ⟨page, offset⟩ := (key_inj (by decide) hx).mp e
        notErr ⟨page.symm, offset.symm⟩
      rw [rd _ _ (ne _ (by decide)), Dev.rd_writesRefused _ _ _ err (ne _ (by decide)) (ne _ (by decide)),
        start.rd _ _ hx notPort, Dev.rd_advance]

end Sys2Proof.Machine
end

section
/-!
SUPPORT. The timebase: what each of its operations leaves, and what it sets (R320 to R325).
-/
namespace Sys2Proof.Machine

/-! ### What the timebase leaves alone -/

/-- From `d` to `d'` no time passes and NOW does not step; the registers of TIME stand but for PAGE_EVT, where no event falls. -/
structure Dev.KeepsNow (d d' : Dev) : Prop where
  clk : d'.clk = d.clk
  now : d'.tb.now = d.tb.now
  rd : ∀ o, o < 1024 → o ≠ Reg.PAGE_EVT → d'.rd pgTime o = d.rd pgTime o
  evt : ∀ j, (d.rd pgTime Reg.PAGE_EVT).getLsbD j = true → (d'.rd pgTime Reg.PAGE_EVT).getLsbD j = true

/-- The sources stand as well. -/
structure Dev.Steers (d d' : Dev) : Prop extends d.KeepsNow d' where
  sources : d'.tb.source = d.tb.source

theorem Dev.KeepsNow.refl (d : Dev) : d.KeepsNow d := ⟨rfl, rfl, fun _ _ _ => rfl, fun _ h => h⟩

theorem Dev.KeepsNow.trans {d e e' : Dev} (h : d.KeepsNow e) (h' : e.KeepsNow e') : d.KeepsNow e' :=
  ⟨h'.clk.trans h.clk, h'.now.trans h.now, fun o ho other => (h'.rd o ho other).trans (h.rd o ho other),
    fun j set => h'.evt j (h.evt j set)⟩

theorem Dev.Steers.refl (d : Dev) : d.Steers d := ⟨.refl d, rfl⟩

theorem Dev.Steers.trans {d e e' : Dev} (h : d.Steers e) (h' : e.Steers e') : d.Steers e' :=
  ⟨h.toKeepsNow.trans h'.toKeepsNow, h'.sources.trans h.sources⟩

theorem Dev.keepsNow_setTb (d : Dev) {x : Timebase} (now : x.now = d.tb.now) : d.KeepsNow (d.setTb x) :=
  ⟨rfl, now, fun _ _ _ => rfl, fun _ h => h⟩

theorem Timebase.source_eq {x y : Timebase} (sx : x.sx = y.sx) (pps : x.pps = y.pps) : x.source = y.source := by
  funext k
  cases k
  · rfl
  · exact sx
  · exact pps

theorem Dev.steers_setTb (d : Dev) {x : Timebase} (now : x.now = d.tb.now := by rfl) (sx : x.sx = d.tb.sx := by rfl)
    (pps : x.pps = d.tb.pps := by rfl) : d.Steers (d.setTb x) := ⟨d.keepsNow_setTb now, Timebase.source_eq sx pps⟩

theorem Dev.steers_draw (d : Dev) : d.Steers d.draw.2 := ⟨⟨rfl, rfl, fun _ _ _ => rfl, fun _ h => h⟩, rfl⟩

theorem Dev.steers_ev (d : Dev) (i : Nat) : d.Steers (d.ev pgTime i) where
  clk := rfl
  now := rfl
  rd _ ho other := d.rd_ev_ne i fun e => other ((key_inj (by decide) ho).mp e).2.symm
  evt _ := d.ev_keeps pgTime i
  sources := rfl

theorem Dev.Steers.ev {d e : Dev} (h : d.Steers e) (i : Nat) : d.Steers (e.ev pgTime i) := h.trans (e.steers_ev i)

theorem Dev.KeepsNow.rf {d d' : Dev} (h : d.KeepsNow d') {o : Nat} (ho : o < 1024) (other : o ≠ Reg.PAGE_EVT) (hi lo : Nat) :
    d'.rf pgTime o hi lo = d.rf pgTime o hi lo := congrArg (fld · hi lo) (h.rd o ho other)

theorem Dev.KeepsNow.rb {d d' : Dev} (h : d.KeepsNow d') {o : Nat} (ho : o < 1024) (other : o ≠ Reg.PAGE_EVT) (i : Nat) :
    d'.rb pgTime o i = d.rb pgTime o i := congrArg (bit · i) (h.rd o ho other)

theorem Dev.KeepsNow.stepLim {d d' : Dev} (h : d.KeepsNow d') : d'.stepLim = d.stepLim := by
  rw [Dev.stepLim, Dev.stepLim, h.rf (by decide) (by decide)]

/-- The choice of a source follows the sources and ORDER alone (R321). -/
theorem Dev.Steers.bestSource {d d' : Dev} (h : d.Steers d') : d'.bestSource = d.bestSource := by
  have sx : d'.tb.sx = d.tb.sx := congrFun h.sources .sernyx
  have pps : d'.tb.pps = d.tb.pps := congrFun h.sources .pps
  rw [Dev.bestSource, Dev.bestSource, h.rb (by decide) (by decide), sx, pps]

/-! ### The page -/

/-- Every variant has the TIME page (R33). -/
theorem pagePresent_time (v : Variant) : pagePresent v pgTime = true := by
  cases v <;> rfl

/-! ### Sources by name -/

theorem Timebase.source_setSource (tb : Timebase) {k : TimeSource} (ref : k ≠ .xtal) (x : SourceState) :
    (tb.setSource k x).source k = x := by
  cases k
  · exact absurd rfl ref
  · rfl
  · rfl

@[simp] theorem Timebase.now_setSource (tb : Timebase) (k : TimeSource) (x : SourceState) : (tb.setSource k x).now = tb.now := by
  cases k <;> rfl

@[simp] theorem Timebase.sel_setSource (tb : Timebase) (k : TimeSource) (x : SourceState) : (tb.setSource k x).sel = tb.sel := by
  cases k <;> rfl

theorem Dev.source_advance (d : Dev) (dt : Nat) : (d.advance dt).tb.source = d.tb.source :=
  Timebase.source_eq (d.advance_tb_sx dt) (d.advance_tb_pps dt)

/-! ### LOCKED (R324) -/

theorem relock_tb (d : Dev) (has : Bool) :
    (relock d has).tb = { d.tb with locked := has && decide (absI d.tb.offset ≤ oneMicro) } := by
  unfold relock
  dsimp only
  split
  · next same => rw [same]
  · rfl

theorem relock_steers (d : Dev) (has : Bool) : d.Steers (relock d has) := by
  unfold relock
  dsimp only
  split
  · exact .refl d
  · exact Dev.Steers.ev d.steers_setTb 8

theorem Dev.Steers.relock {d e : Dev} (h : d.Steers e) (has : Bool) : d.Steers (relock e has) := h.trans (relock_steers e has)

/-! ### An offset (R324, R325) -/

theorem ppmRate_pos {ppm : Nat} (h : 1 ≤ ppm) : 0 < ppmRate ppm := by
  have : 0 < ppm * 2 ^ 40 / 1000000 := Nat.div_pos (by omega) (by decide)
  exact Int.ofNat_lt.mpr this

theorem ppmRate_mono {a b : Nat} (h : a ≤ b) : ppmRate a ≤ ppmRate b := by
  have : a * 2 ^ 40 / 1000000 ≤ b * 2 ^ 40 / 1000000 := Nat.div_le_div_right (Nat.mul_le_mul_right _ h)
  exact Int.ofNat_le.mpr this

/-- The rate of the next slew, in parts per million: a free value of at most SLEWMAX. -/
def Dev.slewPpm (d : Dev) : Nat := 1 + Config.freeNat d.draw.1 % max 1 (d.rf pgTime Reg.time.SLEW 31 24)

theorem Dev.slewPpm_le (d : Dev) : d.slewPpm ≤ max 1 (d.rf pgTime Reg.time.SLEW 31 24) := by
  have : Config.freeNat d.draw.1 % max 1 (d.rf pgTime Reg.time.SLEW 31 24) < max 1 (d.rf pgTime Reg.time.SLEW 31 24) :=
    Nat.mod_lt _ (by omega)
  rw [Dev.slewPpm]
  omega

/-- The timebase as a slew by `delta` begins, before LOCKED follows. -/
def Dev.slewed (d : Dev) (delta : Int) : Timebase :=
  { d.tb with src := unsgn 72 ((d.tb.now : Int) + delta), srcRem := d.tb.nowRem, epochPending := none,
              slewing := decide (delta ≠ 0), slew := sgnI delta * ppmRate d.slewPpm }

theorem takeOffset_beyond {d : Dev} {delta : Int} (beyond : d.stepLim < absI delta) :
    takeOffset d delta = d.setTb { d.tb with epochPending := some delta, slewing := false, slew := 0 } := if_pos beyond

theorem takeOffset_within {d : Dev} {delta : Int} (within : absI delta ≤ d.stepLim) :
    takeOffset d delta = relock (d.draw.2.setTb (d.slewed delta)) true := if_neg (not_lt.mpr within)

/-- From `d` to `d'` the offset `delta` has been taken: a large one waits as an epoch start, another is slewed. -/
def Dev.TakesOffset (d d' : Dev) (delta : Int) : Prop :=
  d'.tb.now = d.tb.now ∧
    (d.stepLim < absI delta → d'.tb.epochPending = some delta ∧ d'.tb.slewing = false) ∧
    (absI delta ≤ d.stepLim → d'.tb.epochPending = none ∧ d'.tb.src = unsgn 72 ((d.tb.now : Int) + delta) ∧
      d'.tb.slewing = decide (delta ≠ 0) ∧ d'.tb.locked = decide (absI d'.tb.offset ≤ oneMicro) ∧
      ∃ r : Int, d'.tb.slew = sgnI delta * r ∧ 0 < r ∧ r ≤ ppmRate (max 1 (d.rf pgTime Reg.time.SLEW 31 24)))

theorem takeOffset_steers (d : Dev) (delta : Int) : d.Steers (takeOffset d delta) := by
  by_cases beyond : d.stepLim < absI delta
  · rw [takeOffset_beyond beyond]
    exact d.steers_setTb
  · rw [takeOffset_within (not_lt.mp beyond)]
    exact Dev.Steers.relock (d.steers_draw.trans (Dev.steers_setTb _)) true

theorem takeOffset_takes (d : Dev) (delta : Int) : d.TakesOffset (takeOffset d delta) delta := by
  refine ⟨(takeOffset_steers d delta).now, fun beyond => ?_, fun within => ?_⟩
  · rw [takeOffset_beyond beyond]
    exact ⟨rfl, rfl⟩
  · rw [takeOffset_within within, relock_tb]
    exact ⟨rfl, rfl, rfl, rfl, _, rfl, ppmRate_pos (Nat.le_add_right 1 _), ppmRate_mono d.slewPpm_le⟩

/-- What is taken depends on NOW and SLEW alone. -/
theorem Dev.TakesOffset.of_keepsNow {d e d' : Dev} {delta : Int} (keeps : d.KeepsNow e) (h : e.TakesOffset d' delta) :
    d.TakesOffset d' delta := by
  unfold Dev.TakesOffset at h ⊢
  rwa [keeps.now, keeps.stepLim, keeps.rf (by decide) (by decide)] at h

theorem freeRate_steers (d : Dev) : d.Steers (freeRate d) := d.steers_draw.trans (Dev.steers_setTb _)

/-- A source's offset is taken at a rate of its own. -/
theorem takeOffset_freeRate_takes (d : Dev) (delta : Int) : d.TakesOffset (takeOffset (freeRate d) delta) delta :=
  (takeOffset_takes _ delta).of_keepsNow (freeRate_steers d).toKeepsNow

/-! ### Selection (R322) -/

/-- The device as source `k` is selected in the place of another, before LOCKED follows. -/
def Dev.selecting (d : Dev) (k : TimeSource) (lost : Bool) : Dev :=
  (d.setTb { d.tb with sel := k, slewing := false, slew := 0, src := d.tb.now, srcRem := d.tb.nowRem,
                       epochPending := none, holdover := decide (k = .xtal) && lost }).ev pgTime 0

theorem select_same {d : Dev} {k : TimeSource} (same : d.tb.sel = k) (lost : Bool) : select d k lost = d := if_pos same

theorem select_other {d : Dev} {k : TimeSource} (other : d.tb.sel ≠ k) (lost : Bool) :
    select d k lost =
      if k = .xtal then relock (if lost then freeRate (d.selecting k lost) else d.selecting k lost) false
      else d.selecting k lost := if_neg other

theorem Dev.selecting_steers (d : Dev) (k : TimeSource) (lost : Bool) : d.Steers (d.selecting k lost) :=
  Dev.Steers.ev d.steers_setTb 0

theorem select_steers (d : Dev) (k : TimeSource) (lost : Bool) : d.Steers (select d k lost) := by
  by_cases same : d.tb.sel = k
  · rw [select_same same]
    exact .refl d
  rw [select_other same]
  have selecting := d.selecting_steers k lost
  split
  · refine Dev.Steers.trans ?_ (relock_steers _ false)
    split
    · exact selecting.trans (freeRate_steers _)
    · exact selecting
  · exact selecting

theorem select_sel (d : Dev) (k : TimeSource) (lost : Bool) : (select d k lost).tb.sel = k := by
  by_cases same : d.tb.sel = k
  · rw [select_same same, same]
  rw [select_other same]
  split
  · rw [relock_tb]
    split <;> rfl
  · rfl

/-- XTAL after a loss is holdover. -/
theorem select_holdover {d : Dev} (other : d.tb.sel ≠ .xtal) : (select d .xtal true).tb.holdover = true := by
  rw [select_other other, if_pos rfl, relock_tb]
  rfl

/-! ### A source is lost, qualifies, or gives an offset (R320 to R323) -/

/-- From `d` to `d'` source `k` has been lost for `cause`: NOW stands, and where the source was selected the best that is left
is. -/
def Dev.Loses (d d' : Dev) (k : TimeSource) (cause : Nat) : Prop :=
  d'.tb.now = d.tb.now ∧
    (d'.tb.source k).valid = false ∧ (d'.tb.source k).qualified = false ∧ d'.rf pgTime Reg.time.SRCSTAT 19 16 = cause ∧
    (d.tb.sel = k → d'.tb.sel = d'.bestSource ∧ (d'.rd pgTime Reg.PAGE_EVT).getLsbD 1 = true ∧
      (d'.tb.sel = .xtal → d'.tb.holdover = true)) ∧
    (d.tb.sel ≠ k → d'.tb.sel = d.tb.sel)

/-- The device as a source falls, before another takes its place. -/
def Dev.fallen (d : Dev) (k : TimeSource) (cause : Nat) : Dev :=
  (d.setTb (d.tb.setSource k { d.tb.source k with
    valid := false, qualified := false, lostAt := if decide (d.tb.sel = k) then some d.clk else none })).wf
      pgTime Reg.time.SRCSTAT 19 16 cause

theorem loseSource_selected {d : Dev} {k : TimeSource} (valid : (d.tb.source k).valid = true) (sel : d.tb.sel = k) (cause : Nat) :
    loseSource d k cause = select ((d.fallen k cause).ev pgTime 1) (d.fallen k cause).bestSource true := by
  simp only [loseSource, valid, sel, Bool.not_true, Bool.false_eq_true, if_false, decide_true, if_true, Dev.fallen]

theorem loseSource_other {d : Dev} {k : TimeSource} (valid : (d.tb.source k).valid = true) (sel : d.tb.sel ≠ k) (cause : Nat) :
    loseSource d k cause = d.fallen k cause := by
  simp only [loseSource, valid, sel, Bool.not_true, Bool.false_eq_true, if_false, decide_false, Dev.fallen]

theorem Dev.fallen_source (d : Dev) {k : TimeSource} (ref : k ≠ .xtal) (cause : Nat) :
    ((d.fallen k cause).tb.source k).valid = false ∧ ((d.fallen k cause).tb.source k).qualified = false := by
  rw [Dev.fallen, Dev.wf_tb, Dev.setTb_tb, Timebase.source_setSource _ ref]
  exact ⟨rfl, rfl⟩

theorem Dev.fallen_now (d : Dev) (k : TimeSource) (cause : Nat) : (d.fallen k cause).tb.now = d.tb.now := by
  rw [Dev.fallen, Dev.wf_tb, Dev.setTb_tb, Timebase.now_setSource]

theorem Dev.fallen_sel (d : Dev) (k : TimeSource) (cause : Nat) : (d.fallen k cause).tb.sel = d.tb.sel := by
  rw [Dev.fallen, Dev.wf_tb, Dev.setTb_tb, Timebase.sel_setSource]

theorem Dev.fallen_cause (d : Dev) (k : TimeSource) {cause : Nat} (small : cause < 16) :
    (d.fallen k cause).rf pgTime Reg.time.SRCSTAT 19 16 = cause :=
  (Dev.rf_wf_eq _ _ _ _ _ _ (by decide) (by decide)).trans (Nat.mod_eq_of_lt small)

theorem loseSource_loses {d : Dev} {k : TimeSource} {cause : Nat} (ref : k ≠ .xtal) (valid : (d.tb.source k).valid = true)
    (small : cause < 16) : d.Loses (loseSource d k cause) k cause := by
  obtain ⟨invalid, unqualified⟩ := d.fallen_source ref cause
  by_cases sel : d.tb.sel = k
  · rw [loseSource_selected valid sel]
    have best := (Dev.steers_ev (d.fallen k cause) 1).bestSource
    generalize he : (d.fallen k cause).ev pgTime 1 = e at best
    rw [← best]
    have event : (e.rd pgTime Reg.PAGE_EVT).getLsbD 1 = true := he ▸ Dev.ev_bit _ _ 1 (by decide)
    have falls : (d.fallen k cause).Steers e := he ▸ Dev.steers_ev _ 1
    have was : e.tb.sel = k := by rw [← he, Dev.ev_tb, Dev.fallen_sel, sel]
    have chosen := select_steers e e.bestSource true
    have steers := falls.trans chosen
    refine ⟨steers.now.trans (d.fallen_now k cause), by rw [steers.sources]; exact invalid,
      by rw [steers.sources]; exact unqualified, (steers.rf (by decide) (by decide) _ _).trans (d.fallen_cause k small),
      fun _ => ⟨?_, chosen.evt 1 event, fun xtal => ?_⟩, fun other => absurd sel other⟩
    · rw [select_sel, chosen.bestSource]
    · rw [select_sel] at xtal
      rw [xtal]
      exact select_holdover (was ▸ ref)
  · rw [loseSource_other valid sel]
    exact ⟨d.fallen_now k cause, invalid, unqualified, d.fallen_cause k small, fun h => absurd h sel,
      fun _ => d.fallen_sel k cause⟩

theorem qualify_qualifies {d : Dev} {k : TimeSource} (ref : k ≠ .xtal) (valid : (d.tb.source k).valid = true) :
    (qualify d k).clk = d.clk ∧ ((qualify d k).tb.source k).qualified = true ∧ ((qualify d k).tb.source k).valid = true ∧
      (qualify d k).tb.sel = (qualify d k).bestSource ∧ ((qualify d k).rd pgTime Reg.PAGE_EVT).getLsbD 2 = true := by
  have marked := d.tb.source_setSource ref { d.tb.source k with qualified := true }
  unfold qualify
  dsimp only
  generalize he : (d.setTb (d.tb.setSource k { d.tb.source k with qualified := true })).ev pgTime 2 = e
  have event : (e.rd pgTime Reg.PAGE_EVT).getLsbD 2 = true := he ▸ Dev.ev_bit _ _ 2 (by decide)
  have source : e.tb.source k = { d.tb.source k with qualified := true } := he ▸ marked
  have steers := select_steers e e.bestSource false
  refine ⟨steers.clk.trans (he ▸ rfl), ?_, ?_, ?_, steers.evt 2 event⟩
  · rw [steers.sources, source]
  · rw [steers.sources, source]
    exact valid
  · rw [select_sel, steers.bestSource]

/-- A source that is not selected gives no offset; one that is has it taken. -/
def Dev.hearsOffset (d : Dev) (k : TimeSource) (delta : Int) : Dev :=
  if d.tb.sel = k then takeOffset (freeRate d) delta else d

theorem sourceOffset_of_valid {d : Dev} {k : TimeSource} (valid : (d.tb.source k).valid = true) (delta : Int) :
    sourceOffset d k delta = d.hearsOffset k delta := by
  simp only [sourceOffset, valid, if_true, Dev.hearsOffset]

/-- The device as a source becomes valid; `back` says that it qualifies at once (R323). -/
def Dev.returned (d : Dev) (k : TimeSource) (back : Bool) : Dev :=
  d.setTb (d.tb.setSource k { d.tb.source k with valid := true, since := d.clk, qualified := back, lostAt := none })

theorem Dev.returned_keepsNow (d : Dev) (k : TimeSource) (back : Bool) : d.KeepsNow (d.returned k back) :=
  d.keepsNow_setTb (Timebase.now_setSource ..)

theorem Dev.returned_source (d : Dev) {k : TimeSource} (ref : k ≠ .xtal) (back : Bool) : (d.returned k back).tb.source k =
    { d.tb.source k with valid := true, since := d.clk, qualified := back, lostAt := none } :=
  d.tb.source_setSource ref _

theorem sourceOffset_of_invalid {d : Dev} {k : TimeSource} (invalid : (d.tb.source k).valid = false) (delta : Int) :
    ∃ back : Bool, sourceOffset d k delta =
      (if back then select (d.returned k back) k false else d.returned k back).hearsOffset k delta := by
  simp only [sourceOffset, invalid, Bool.false_eq_true, if_false]
  exact ⟨_, rfl⟩

theorem Dev.hearsOffset_steers (d : Dev) (k : TimeSource) (delta : Int) : d.Steers (d.hearsOffset k delta) := by
  unfold Dev.hearsOffset
  split
  · exact (freeRate_steers d).trans (takeOffset_steers _ delta)
  · exact .refl d

theorem Dev.hearsOffset_takes {d : Dev} {k : TimeSource} (sel : d.tb.sel = k) (delta : Int) :
    d.TakesOffset (d.hearsOffset k delta) delta := by
  rw [Dev.hearsOffset, if_pos sel]
  exact takeOffset_freeRate_takes d delta

end Sys2Proof.Machine
end

section
/-!
PROOF. Time sources, slews and SET (R320 to R326).
-/
namespace Sys2Proof.Machine

/-! ### SET (R326) -/

/-- SET_HI takes writes outside reset as a high word without a key. -/
theorem writePage_setHi {d : Dev} (awake : d.sup.inReset = false) (req : Nat) (win : Sys2Proof.Window) (data : Word) :
    writePage d pgTime Reg.time.SET_HI req win data = writeHigh d .time pgTime Reg.time.SET_HI req false win data := by
  have kind : pageKind pgTime = some .time := rfl
  have fields : fieldsAt .time Reg.time.SET_HI = some [bf 35 0 .wo 0] := rfl
  have high : pairPart .time Reg.time.SET_HI = .high := rfl
  simp only [writePage, Dev.regPlace, pagePresent_time, kind, if_true, writeReg, awake, fields, high]
  rfl

/-- A write of a high word without a key that nothing refuses: both words apply (R56). -/
theorem writeHigh_accepted {d : Dev} {k : PageKind} {p off req : Nat} {win : Sys2Proof.Window} {data : Word}
    (ok : (writeHigh d k p off req false win data).st = stOk) :
    writeHigh d k p off req false win data =
      ⟨stOk, [], applyPair d k p off (d.acc.writeShadow.get (accKey req p) 0) (pairWord d p off win data)⟩ := by
  have keyless : keyOk d req p false = true := rfl
  have kept : consume d req p false = d := rfl
  unfold writeHigh at ok ⊢
  simp only [keyless, kept, Bool.not_true, Bool.false_eq_true, if_false] at ok ⊢
  split at ok
  · nomatch ok
  · next free => rw [if_neg free]

/-- Through the direct window a high word is formed as written (R56). -/
theorem pairWord_direct (d : Dev) (p off : Nat) (data : Word) : pairWord d p off .direct data = data := by
  have same := aliasOp_direct_and_mask (d.rd p off) data (BitVec.allOnes 36)
  rwa [BitVec.and_allOnes, BitVec.and_allOnes] at same

/-- The time that a write of SET_HI gives, with the low word of the requester's write shadow. -/
def State.setValue (s : State) (w : RegWrite) : Nat :=
  (s.dev.acc.writeShadow.get (accKey w.req.id pgTime) 0).toNat + w.data.toNat * two36

/-- A write of SET_HI that nothing refuses: the time is set. -/
theorem exec_setTime {s : State} {w : RegWrite} (takes : s.takes w pgTime Reg.time.SET_HI) (direct : w.win = .direct) :
    exec (.setTime w) s = .next (s.after (timeSet (s.dev.advance w.dt) (s.setValue w))) := by
  have page := writePage_setHi takes.awake w.req.id w.win w.data
  have ok := takes.2
  rw [page] at ok
  have set : applyPair (s.dev.advance w.dt) .time pgTime Reg.time.SET_HI
      ((s.dev.advance w.dt).acc.writeShadow.get (accKey w.req.id pgTime) 0) w.data =
        timeSet (s.dev.advance w.dt) (s.setValue w) := by
    rw [Dev.advance_acc]
    rfl
  have stored : exec (.setTime w) s = _ := State.writes_of_takes takes
  rw [stored, writeCommand, page, writeHigh_accepted ok, direct, pairWord_direct, set]
  rfl

theorem timeSet_slews {d : Dev} (sel : d.tb.sel ≠ .pps) (v : Nat) : timeSet d v = takeOffset d (diff72 v d.tb.now) := by
  unfold timeSet
  split
  · next h => exact absurd h sel
  · rfl

/-- The whole seconds by which a time differs from NOW. -/
def Dev.secondsTo (d : Dev) (v : Nat) : Int := (diff72 (v / two36 * two36) (d.tb.now / two36 * two36)).fdiv (two36 : Nat)

theorem timeSet_pps {d : Dev} (sel : d.tb.sel = .pps) (v : Nat) :
    timeSet d v = if d.secondsTo v = 0 then d
      else d.setTb { d.tb with epochPending := some (d.secondsTo v * (two36 : Nat)), slewing := false, slew := 0 } := by
  simp only [timeSet, sel, Dev.secondsTo]

/-! ### PPS (R320) -/

/-- The device as it notes the instant of an edge. -/
def Dev.edgeSeen (d : Dev) : Dev := d.setTb { d.tb with pps := { d.tb.pps with lastEdge := some d.tb.now } }

/-- How far from 1 s of NOW an edge comes after the one at `t`. -/
def Dev.edgeAway (d : Dev) (t : Nat) : Int := absI (diff72 d.tb.now t - (two36 : Nat))

/-- The offset that an edge gives: minus the fraction of NOW, reduced to half a second. -/
def Dev.edgeOffset (d : Dev) : Int :=
  if d.tb.now % two36 < two36 / 2 then -((d.tb.now % two36 : Nat) : Int) else ((two36 - d.tb.now % two36 : Nat) : Int)

section edge
variable {d : Dev} {refs : Nat}

theorem ppsEdge_disabled (off : d.rb pgTime Reg.time.SRCCFG 1 = false) : ppsEdge d refs = d := by
  simp only [ppsEdge, off, Bool.not_false, if_true]

theorem ppsEdge_first (on : d.rb pgTime Reg.time.SRCCFG 1 = true) (first : d.tb.pps.lastEdge = none) :
    ppsEdge d refs = d.edgeSeen := by
  simp only [ppsEdge, on, first, Bool.not_true, Bool.false_eq_true, if_false, Dev.edgeSeen]

theorem ppsEdge_astray {t : Nat} (on : d.rb pgTime Reg.time.SRCCFG 1 = true) (last : d.tb.pps.lastEdge = some t)
    (astray : ((400 * two36 / 1000000 : Nat) : Int) < d.edgeAway t) : ppsEdge d refs = loseSource d.edgeSeen .pps 3 := by
  rw [Dev.edgeAway] at astray
  simp only [ppsEdge, on, last, Bool.not_true, Bool.false_eq_true, if_false, astray, if_true, Dev.edgeSeen]

theorem ppsEdge_due {t : Nat} (on : d.rb pgTime Reg.time.SRCCFG 1 = true) (last : d.tb.pps.lastEdge = some t)
    (near : d.edgeAway t ≤ ((200 * two36 / 1000000 : Nat) : Int))
    (counted : d.rb pgTime Reg.time.PPSCFG 1 = true → 9998000 ≤ refs ∧ refs ≤ 10002000) :
    ppsEdge d refs = sourceOffset d.edgeSeen .pps d.edgeOffset := by
  have more : ((200 * two36 / 1000000 : Nat) : Int) ≤ ((400 * two36 / 1000000 : Nat) : Int) := by decide
  have notAstray := not_lt.mpr (near.trans more)
  have notFast := not_lt.mpr near
  have noMiscount : ¬ (d.rb pgTime Reg.time.PPSCFG 1 = true ∧ ¬ (9998000 ≤ refs ∧ refs ≤ 10002000)) :=
    fun h => h.2 (counted h.1)
  rw [Dev.edgeAway] at notAstray notFast
  simp only [ppsEdge, on, last, Bool.not_true, Bool.false_eq_true, if_false, notAstray, noMiscount, notFast, Dev.edgeSeen,
    Dev.edgeOffset]

end edge

/-- An edge that is due makes PPS valid, from this instant where it was not; of a selected source that was, it gives the
offset. -/
theorem sourceOffset_edge (d : Dev) (delta : Int) :
    d.KeepsNow (sourceOffset d .pps delta) ∧ (sourceOffset d .pps delta).tb.pps.valid = true ∧
      (sourceOffset d .pps delta).tb.pps.lastEdge = d.tb.pps.lastEdge ∧
      (d.tb.pps.valid = false → (sourceOffset d .pps delta).tb.pps.since = d.clk) ∧
      (d.tb.pps.valid = true → d.tb.sel = .pps → d.TakesOffset (sourceOffset d .pps delta) delta) := by
  cases valid : d.tb.pps.valid
  case true =>
    rw [sourceOffset_of_valid (k := .pps) valid]
    have steers := d.hearsOffset_steers .pps delta
    have pps : (d.hearsOffset .pps delta).tb.pps = d.tb.pps := congrFun steers.sources .pps
    exact ⟨steers.toKeepsNow, pps ▸ valid, pps ▸ rfl, nofun, fun _ sel => Dev.hearsOffset_takes sel delta⟩
  case false =>
    obtain ⟨back, eq⟩ := sourceOffset_of_invalid (k := .pps) valid delta
    rw [eq]
    have chosen : (d.returned .pps back).Steers
        (if back then select (d.returned .pps back) .pps false else d.returned .pps back) := by
      split
      · exact select_steers ..
      · exact .refl _
    have steers := chosen.trans (Dev.hearsOffset_steers _ .pps delta)
    have pps := (congrFun steers.sources .pps).trans (d.returned_source (k := .pps) nofun back)
    exact ⟨(d.returned_keepsNow .pps back).trans steers.toKeepsNow, congrArg SourceState.valid pps,
      (congrArg SourceState.lastEdge pps :), fun _ => congrArg SourceState.since pps, nofun⟩

theorem exec_ppsEdge {s : State} (runs : s.runs) (dt refs : Nat) :
    exec (.ppsEdge dt refs) s = .next (s.after (ppsEdge (s.dev.advance dt) refs)) := s.does_inIslands dt _ runs

/-- PPSEN after some time. -/
theorem Dev.ppsen_advance (d : Dev) (dt : Nat) :
    (d.advance dt).rb pgTime Reg.time.SRCCFG 1 = (d.rd pgTime Reg.time.SRCCFG).getLsbD 1 := by
  rw [Dev.rb_advance, Dev.rb, bit_eq_getLsbD]

theorem Dev.lastEdge_advance (d : Dev) (dt : Nat) : (d.advance dt).tb.pps.lastEdge = d.tb.pps.lastEdge :=
  congrArg SourceState.lastEdge (d.advance_tb_pps dt)

/-! ### The ends that the device itself sets (R321, R322, R324) -/

theorem sourceOf_ref (src : RefSource) : sourceOf src ≠ .xtal := by
  cases src <;> nofun

theorem sourceQualifies_of_valid {d : Dev} {k : TimeSource} (valid : (d.tb.source k).valid = true)
    (unqualified : (d.tb.source k).qualified = false) :
    sourceQualifies d k = qualify (d.advanceTo ((d.tb.source k).since + d.qtime)) k := by
  simp only [sourceQualifies, valid, unqualified, Bool.not_false, and_self, if_true, atInstant]

theorem sourceLost_rate (d : Dev) (src : RefSource) : sourceLost d src 5 = loseSource d (sourceOf src) 5 := by
  cases src <;> rfl

theorem sourceLost_silent {d : Dev} {t : Nat} (last : d.tb.pps.lastEdge = some t) (long : ppsLimit ≤ diff72 d.tb.now t) :
    sourceLost d .pps 2 = loseSource d .pps 2 := by
  simp only [sourceLost, last, long, if_true]

theorem diff72_self (t : Nat) : diff72 t t = 0 := by
  rw [diff72, sub_self]
  rfl

/-- The timebase as a slew ends, before LOCKED follows. -/
def Timebase.slewDone (tb : Timebase) : Timebase := { tb with slewing := false, slew := 0, src := tb.now, srcRem := tb.nowRem }

theorem slewEnd_tb (d : Dev) : (slewEnd d).tb = { d.tb.slewDone with locked := true } := by
  have gone : d.tb.slewDone.offset = 0 := diff72_self _
  have eq : slewEnd d = relock (d.setTb d.tb.slewDone) true := rfl
  rw [eq, relock_tb, Dev.setTb_tb, gone]
  rfl

theorem slewEnd_clk (d : Dev) : (slewEnd d).clk = d.clk := (relock_steers _ true).clk

/-! ### The statement -/

/-- A second of canopy time, as the statement writes it. -/
theorem two36_cast : ((two36 : Nat) : Int) = 2 ^ 36 := by norm_num [two36]

/-- Settles O46: SET and an edge of PPS by the offset that they give, a loss and a qualification by the source that is then
selected, and the end of a slew by the offset that is left. -/
theorem timeSources : Obligations.TimeSources := by
  refine fun s runs => ⟨fun w takes direct => ⟨fun sel => ?slewed, fun sel whole => ?whole, fun sel part => ?stepped⟩,
    fun dt refs => ⟨fun off => ?disabled, fun on first => ?first, fun t on last valid away => ?astray,
      fun t on last near counted => ?due⟩,
    fun src valid unqualified => ?qualified, fun dt src cause valid why => ?lost, fun slewing => ?slewEnd⟩
  case slewed =>
    exact ⟨_, exec_setTime takes direct, timeSet_slews ((s.dev.advance_tb_sel w.dt).symm ▸ sel) _ ▸ takeOffset_takes _ _⟩
  case whole =>
    have same : (s.dev.advance w.dt).secondsTo (s.setValue w) = 0 := whole
    rw [exec_setTime takes direct, timeSet_pps ((s.dev.advance_tb_sel w.dt).trans sel), if_pos same]
  case stepped =>
    have other : (s.dev.advance w.dt).secondsTo (s.setValue w) ≠ 0 := part
    refine ⟨_, exec_setTime takes direct, ?_⟩
    rw [timeSet_pps ((s.dev.advance_tb_sel w.dt).trans sel), if_neg other]
    exact ⟨rfl, rfl, rfl⟩
  case disabled => rw [exec_ppsEdge runs, ppsEdge_disabled ((s.dev.ppsen_advance dt).trans off)]
  case first =>
    rw [exec_ppsEdge runs, ppsEdge_first ((s.dev.ppsen_advance dt).trans on) ((s.dev.lastEdge_advance dt).trans first),
      Dev.edgeSeen, s.dev.advance_tb_pps]
    rfl
  case astray =>
    have far : ((400 * two36 / 1000000 : Nat) : Int) < (s.dev.advance dt).edgeAway t := by
      rw [Dev.edgeAway, two36_cast]
      exact away
    have lost := ppsEdge_astray (refs := refs) ((s.dev.ppsen_advance dt).trans on) ((s.dev.lastEdge_advance dt).trans last) far
    have was : ((s.dev.advance dt).edgeSeen.tb.source .pps).valid = true :=
      (congrArg SourceState.valid (s.dev.advance_tb_pps dt)).trans valid
    exact ⟨_, exec_ppsEdge runs dt refs, lost ▸ loseSource_loses nofun was (by decide)⟩
  case due =>
    have close : (s.dev.advance dt).edgeAway t ≤ ((200 * two36 / 1000000 : Nat) : Int) := by
      rw [Dev.edgeAway, two36_cast]
      exact near
    have heard := ppsEdge_due (refs := refs) ((s.dev.ppsen_advance dt).trans on) ((s.dev.lastEdge_advance dt).trans last) close
      ((s.dev.rb_advance ..).symm ▸ counted)
    have valid : (s.dev.advance dt).edgeSeen.tb.pps.valid = s.dev.tb.pps.valid :=
      (congrArg SourceState.valid (s.dev.advance_tb_pps dt) :)
    obtain ⟨keeps, isValid, edge, since, offset⟩ := sourceOffset_edge (s.dev.advance dt).edgeSeen (s.dev.advance dt).edgeOffset
    rw [exec_ppsEdge runs, heard]
    exact ⟨_, rfl, isValid, edge, keeps.now, fun was => since (valid.trans was), fun was sel =>
      offset (valid.trans was) ((s.dev.advance_tb_sel dt).trans sel)⟩
  case qualified =>
    have next : exec (.sourceQualified src) s = _ := s.does_inIslands 0 _ runs
    have at_ := s.dev.advanceTo_clk_eq_max ((s.dev.tb.source (sourceOf src)).since + s.dev.qtime)
    rw [Dev.advance_zero, sourceQualifies_of_valid valid unqualified] at next
    obtain ⟨clk, facts⟩ := qualify_qualifies (sourceOf_ref src)
      (d := s.dev.advanceTo ((s.dev.tb.source (sourceOf src)).since + s.dev.qtime)) ((Dev.source_advance ..).symm ▸ valid)
    exact ⟨_, next, clk.trans at_, facts⟩
  case lost =>
    have next : exec (.sourceLost dt src cause) s = _ := s.does_inIslands dt _ runs
    have lost : sourceLost (s.dev.advance dt) src cause = loseSource (s.dev.advance dt) (sourceOf src) cause := by
      rcases why with rate | ⟨rfl, silent, t, last, long⟩
      · rw [rate, sourceLost_rate]
      · rw [silent]
        exact sourceLost_silent ((s.dev.lastEdge_advance dt).trans last) long
    exact ⟨_, next, lost ▸ loseSource_loses (sourceOf_ref src) ((Dev.source_advance ..).symm ▸ valid) cause.isLt⟩
  case slewEnd =>
    have next : exec .slewEnd s = _ := s.does_inIslands 0 _ runs
    have ends : slewReached s.dev = Sys2Proof.Machine.slewEnd (s.dev.advance s.dev.slewTime) := if_pos slewing
    rw [Dev.advance_zero, ends] at next
    refine ⟨_, next, (slewEnd_clk _).trans (s.dev.advance_clk _), ?_⟩
    rw [slewEnd_tb]
    exact ⟨rfl, rfl, rfl, rfl⟩

end Sys2Proof.Machine
end

section
/-!
PROOF. Timed strobes (R327).
-/
namespace Sys2Proof.Machine

/-! ### The registers of a slot -/

def tsCtlFields : List RegField := [bf 35 35 .wo 0, bf 34 34 .wo 0, bf 18 16 .ro 0, bf 11 0 .ro 0]

theorem tsOff_small : ∀ i : Fin 8, tsOff i + 3 < 1024 := by decide

theorem tsCtl_here : ∀ i : Fin 8, fieldsAt .time (tsOff i + 2) = some tsCtlFields ∧ pairPart .time (tsOff i + 2) = .single ∧
    tsOff i + 2 ≠ Reg.PAGE_LOCK := by decide

/-- TSi_CTL is apart from the time of its slot and from EPOCH. -/
theorem tsCtl_apart : ∀ i : Fin 8, key pgTime (tsOff i + 2) ≠ key pgTime (tsOff i) ∧
    key pgTime (tsOff i + 2) ≠ key pgTime (tsOff i + 1) ∧ key pgTime (tsOff i + 2) ≠ key pgTime Reg.time.EPOCH := by decide

theorem tsCtl_ne_mask : ∀ i : Fin 8, key pgTime (tsOff i + 2) ≠ key pgTime (tsOff i + 3) := by decide

theorem evt_ne_tsCtl : ∀ i : Fin 8, key pgTime Reg.PAGE_EVT ≠ key pgTime (tsOff i + 2) := by decide

theorem tsCtl_single {d : Dev} (awake : d.sup.inReset = false) (i : Fin 8) :
    SingleReg d .time pgTime (tsOff i + 2) tsCtlFields := by
  obtain ⟨fields, single, unlock⟩ := tsCtl_here i
  exact ⟨rfl, pagePresent_time _, awake, fields, unlock, rfl, rfl, single⟩

/-- What TSi_CTL does with a write, after it is stored. -/
theorem actWrite_tsCtl (d : Dev) (i : Fin 8) (req : Nat) (direct : Bool) (old m wo clr : Word) :
    actWrite d .time pgTime (tsOff i + 2) req direct old m wo clr =
      if bit wo 35 then tsArm d i else if bit wo 34 then tsDisarm d i else d := by
  fin_cases i <;> rfl

theorem Dev.Stores.strobes {d S : Dev} {p off : Nat} (h : d.Stores p off S) : S.strobes = d.strobes :=
  (congrArg Dev.strobes h.same :)
theorem Dev.Stores.tb {d S : Dev} {p off : Nat} (h : d.Stores p off S) : S.tb = d.tb := (congrArg Dev.tb h.same :)

/-- `S` is `d` after TSi_CTL has been stored: what the slot reads stands. -/
structure Dev.SlotStands (i : Fin 8) (d S : Dev) : Prop where
  clk : S.clk = d.clk
  tb : S.tb = d.tb
  strobes : S.strobes = d.strobes
  time : S.tsTime i = d.tsTime i
  mask : S.rf pgTime (tsOff i + 3) 31 0 = d.rf pgTime (tsOff i + 3) 31 0
  epoch : S.rf pgTime Reg.time.EPOCH 11 0 = d.rf pgTime Reg.time.EPOCH 11 0

theorem Dev.slotStands_of_stores {d S : Dev} {i : Fin 8} (h : d.Stores pgTime (tsOff i + 2) S) : d.SlotStands i S := by
  obtain ⟨time, timeHi, epoch⟩ := tsCtl_apart i
  have other : ∀ {o}, o < 1024 → key pgTime (tsOff i + 2) ≠ key pgTime o → S.rd pgTime o = d.rd pgTime o := fun ho ne =>
    h.rd _ _ ho fun same => ne (same.2 ▸ rfl)
  have small := tsOff_small i
  refine ⟨h.clk, h.tb, h.strobes, ?_, congrArg (fld · 31 0) (other (by omega) (tsCtl_ne_mask i)),
    congrArg (fld · 11 0) (other (by decide) epoch)⟩
  rw [Dev.tsTime, Dev.tsTime, Dev.rd72, Dev.rd72, other (by omega) time, other (by omega) timeHi]

/-- A write of TSi_CTL that nothing refuses: the store, and what its WO bits ask for. -/
theorem writes_tsCtl {s : State} {w : RegWrite} {i : Fin 8} (takes : s.takes w pgTime (tsOff i + 2))
    (direct : w.win = .direct) : ∃ S, (s.dev.advance w.dt).SlotStands i S ∧ s.writes w pgTime (tsOff i + 2) = .next (s.after
      (if w.data.getLsbD 35 then tsArm S i else if w.data.getLsbD 34 then tsDisarm S i else S)) := by
  obtain ⟨S, stores, eq⟩ := writeCommand_stores (tsCtl_single takes.awake i) takes.2 (by decide) (by decide)
    (Nat.lt_of_succ_lt (tsOff_small i)) rfl rfl
  refine ⟨S, Dev.slotStands_of_stores stores, ?_⟩
  have arm := s.bit_forms_wo pgTime (tsOff i + 2) w (fs := tsCtlFields) (i := 35) rfl
  have disarm := s.bit_forms_wo pgTime (tsOff i + 2) w (fs := tsCtlFields) (i := 34) rfl
  rw [State.forms] at arm disarm
  rw [State.writes_of_takes takes, eq, direct, actWrite_tsCtl, arm, disarm]

/-! ### A slot fires (R327) -/

/-- An event leaves the fields of another register. -/
theorem Dev.rf_ev_of_ne (d : Dev) {p q o : Nat} (i : Nat) (h : key p Reg.PAGE_EVT ≠ key q o) (hi lo : Nat) :
    (d.ev p i).rf q o hi lo = d.rf q o hi lo := congrArg (fld · hi lo) (d.rd_ev_ne i h)

theorem tsFire_fires (d : Dev) (i : Fin 8) {st : Nat} (small : st < 8) :
    (tsFire d i st).tsState i = st ∧ (tsFire d i st).rf pgTime (tsOff i + 2) 11 0 = d.rf pgTime (tsOff i + 2) 11 0 ∧
      ((tsFire d i st).rd pgTime Reg.PAGE_EVT).getLsbD 4 = true ∧
      ∃ x, (tsFire d i st).strobes = d.strobes ++ [x] ∧ x.mask = d.rf pgTime (tsOff i + 3) 31 0 ∧ x.at_ = d.clk := by
  have evt := evt_ne_tsCtl i
  have fires : tsFire d i st = ((d.wf pgTime (tsOff i + 2) 18 16 st).ev pgTime 4).strobe (d.rf pgTime (tsOff i + 3) 31 0) := rfl
  obtain ⟨x, strobe, mask, at_, -⟩ :=
    ((d.wf pgTime (tsOff i + 2) 18 16 st).ev pgTime 4).strobe_includes (d.rf pgTime (tsOff i + 3) 31 0)
  rw [fires, Dev.tsState, Dev.rd_strobe, Dev.rf_strobe, Dev.rf_strobe, Dev.rf_ev_of_ne _ _ evt, Dev.rf_ev_of_ne _ _ evt]
  refine ⟨?_, Dev.rf_wf_other _ _ _ _ _ _ _ _ (by decide) (by decide) (by decide) (by decide),
    Dev.ev_bit _ _ 4 (by decide), x, strobe.trans (by rw [Dev.ev_strobes, Dev.wf_strobes]), mask,
    at_.trans (by rw [Dev.ev_clk, Dev.wf_clk])⟩
  exact (Dev.rf_wf_eq _ _ _ _ _ _ (by decide) (by decide)).trans (Nat.mod_eq_of_lt small)

theorem tsFire_clk (d : Dev) (i st : Nat) : (tsFire d i st).clk = d.clk := by
  rw [tsFire, Dev.strobe_clk, Dev.ev_clk, Dev.wf_clk]

/-- The device as a slot takes EPOCH. -/
def Dev.tsEpoch (d : Dev) (i : Nat) : Dev := d.wf pgTime (tsOff i + 2) 11 0 (d.rf pgTime Reg.time.EPOCH 11 0)

theorem Dev.rf_tsEpoch (d : Dev) (i : Nat) :
    (d.tsEpoch i).rf pgTime (tsOff i + 2) 11 0 = d.rf pgTime Reg.time.EPOCH 11 0 :=
  (Dev.rf_wf_eq _ _ _ _ _ _ (by decide) (by decide)).trans (Nat.mod_eq_of_lt (fld_lt _ _ _))

theorem Dev.rf_tsEpoch_mask (d : Dev) (i : Fin 8) :
    (d.tsEpoch i).rf pgTime (tsOff i + 3) 31 0 = d.rf pgTime (tsOff i + 3) 31 0 :=
  congrArg (fld · 31 0) (d.rd_wf_ne _ _ _ (tsCtl_ne_mask i))

theorem tsArm_epoch (d : Dev) (i : Fin 8) :
    (tsArm d i).rf pgTime (tsOff i + 2) 11 0 = d.rf pgTime Reg.time.EPOCH 11 0 := by
  rw [← d.rf_tsEpoch i]
  unfold tsArm
  dsimp only
  split
  · exact Dev.rf_wf_other _ _ _ _ _ _ _ _ (by decide) (by decide) (by decide) (by decide)
  · obtain ⟨-, kept, -⟩ := tsFire_fires (d.tsEpoch i) i (st := 3) (by decide)
    exact (Dev.rf_ev_of_ne _ _ (evt_ne_tsCtl i) _ _).trans kept

theorem tsArm_waits {d : Dev} {i : Fin 8} (ahead : 0 < diff72 (d.tsTime i) d.tb.now) :
    (tsArm d i).tsState i = 1 ∧ (tsArm d i).strobes = d.strobes := by
  have waits : tsArm d i = (d.tsEpoch i).wf pgTime (tsOff i + 2) 18 16 1 := if_pos ahead
  rw [waits, Dev.wf_strobes, Dev.tsEpoch, Dev.wf_strobes]
  exact ⟨Dev.rf_wf_eq _ _ _ 18 16 1 (by decide) (by decide), rfl⟩

theorem tsArm_late {d : Dev} {i : Fin 8} (come : diff72 (d.tsTime i) d.tb.now ≤ 0) :
    (tsArm d i).tsState i = 3 ∧ ((tsArm d i).rd pgTime Reg.PAGE_EVT).getLsbD 4 = true ∧
      ((tsArm d i).rd pgTime Reg.PAGE_EVT).getLsbD 6 = true ∧
      ∃ x, (tsArm d i).strobes = d.strobes ++ [x] ∧ x.mask = d.rf pgTime (tsOff i + 3) 31 0 ∧ x.at_ = d.clk := by
  have late : tsArm d i = (tsFire (d.tsEpoch i) i 3).ev pgTime 6 := if_neg (not_lt.mpr come)
  obtain ⟨state, -, fired, strobe⟩ := tsFire_fires (d.tsEpoch i) i (st := 3) (by decide)
  rw [d.rf_tsEpoch_mask] at strobe
  rw [late]
  exact ⟨(Dev.rf_ev_of_ne _ _ (evt_ne_tsCtl i) _ _).trans state, Dev.ev_keeps _ _ _ fired,
    Dev.ev_bit _ _ 6 (by decide), strobe⟩

theorem tsDisarm_idles (d : Dev) (i : Nat) : (tsDisarm d i).tsState i = 0 ∧ (tsDisarm d i).strobes = d.strobes :=
  ⟨Dev.rf_wf_eq _ _ _ 18 16 0 (by decide) (by decide), Dev.wf_strobes ..⟩

/-! ### The statement -/

/-- Settles O47: a write of TSi_CTL by where the slot's time lies, and the firing when NOW reaches it. -/
theorem timedStrobes : Obligations.TimedStrobes := by
  refine fun s i => ⟨fun w takes direct arm => ?arm, fun w takes direct unarmed disarm => ?disarm, fun runs armed => ?fire⟩
  case arm =>
    obtain ⟨S, stands, next⟩ := writes_tsCtl takes direct
    rw [if_pos arm] at next
    have time : S.tsTime i = s.dev.tsTime i := stands.time.trans (by simp [Dev.tsTime, Dev.rd72])
    have epoch := stands.epoch.trans (s.dev.rf_advance ..)
    have mask := stands.mask.trans (s.dev.rf_advance ..)
    have strobes := stands.strobes.trans (s.dev.advance_strobes w.dt)
    refine ⟨_, next, (tsArm_epoch S i).trans epoch, fun ahead => ?_, fun come => ?_⟩
    · rw [← strobes]
      exact tsArm_waits (by rwa [time, stands.tb])
    · rw [← strobes, ← mask, ← stands.clk]
      exact tsArm_late (by rwa [time, stands.tb])
  case disarm =>
    obtain ⟨S, stands, next⟩ := writes_tsCtl takes direct
    rw [if_neg (Bool.eq_false_iff.mp unarmed), if_pos disarm] at next
    rw [← s.dev.advance_strobes w.dt, ← stands.strobes]
    exact ⟨_, next, tsDisarm_idles S i⟩
  case fire =>
    have next : exec (.timedStrobeFire i) s = _ := s.does_inIslands 0 _ runs
    have fires : slotFires s.dev i = tsFire (s.dev.advance (s.dev.gckUntil (s.dev.tsTime i))) i 2 := if_pos armed
    rw [Dev.advance_zero, fires] at next
    have clk := (tsFire_clk (s.dev.advance (s.dev.gckUntil (s.dev.tsTime i))) i 2).trans (s.dev.advance_clk _)
    obtain ⟨state, -, event, x, strobe, mask, at_⟩ :=
      tsFire_fires (s.dev.advance (s.dev.gckUntil (s.dev.tsTime i))) i (st := 2) (by decide)
    rw [Dev.advance_strobes] at strobe
    rw [Dev.rf_advance] at mask
    exact ⟨_, x, next, clk, state, event, strobe, mask, at_.trans (tsFire_clk _ i 2).symm⟩

end Sys2Proof.Machine
end

section
/-!
SUPPORT. Writes that nothing refuses of registers below page 0x100 that every variant has.
-/
namespace Sys2Proof.Machine

/-- Beside TWIN, the Scribe, the strokes and the planners, a page below 0x100 is present on every variant (R33). -/
theorem pagePresent_common {k : PageKind} {p : Nat} (kind : pageKind p = some k) (low : p < 0x100)
    (common : k ≠ .twin ∧ k ≠ .scribe ∧ k ≠ .stroke ∧ k ≠ .plan) (v : Variant) : pagePresent v p = true := by
  obtain ⟨twin, scribe, stroke, plan⟩ := common
  cases k <;> simp_all [pagePresent, Nat.not_le.mpr low]

/-- `LowReg.accepted` on a page that every variant has. -/
theorem LowReg.acceptedCommon {k : PageKind} {p off : Nat} {fs : List RegField} (reg : LowReg k p off fs)
    (common : k ≠ .twin ∧ k ≠ .scribe ∧ k ≠ .stroke ∧ k ≠ .plan) {s : State} {w : RegWrite} (direct : w.win = .direct)
    (takes : s.takes w p off) :
    ∃ S, (s.dev.advance w.dt).Stores p off S ∧ S.rd p off = (s.forms p off fs w).now ∧
      s.writes w p off = .next (s.after (actWrite S k p off w.req.id true (s.dev.rd p off) (s.forms p off fs w).m
        (s.forms p off fs w).wo (s.forms p off fs w).clr)) := by
  have single : SingleReg (s.dev.advance w.dt) k p off fs :=
    ⟨reg.kind, pagePresent_common reg.kind reg.low common _, takes.awake, reg.fields, reg.unlock, reg.writes,
      by simp only [ignoresWrites, reg.notSupv, Bool.false_and], reg.single⟩
  refine ⟨_, (s.dev.advance w.dt).stores_wr w.req.id (s.forms p off fs w).keyed (s.forms p off fs w).now reg.small,
    Dev.rd_wr_eq .., ?_⟩
  rw [State.writes_of_takes takes, writeCommand_accepted single w takes.2 (.inl reg.notPort),
    storeWrite_low _ _ _ _ _ reg.low (formWrite_shadow _ _ _ _ _ _ reg.plain) reg.keeps, direct, Dev.rd_advance]
  rfl

/-! ### What a store leaves alone -/

section stores
variable {d S : Dev} {p off : Nat} (h : d.Stores p off S)
include h

theorem Dev.Stores.bl : S.bl = d.bl := (congrArg Dev.bl h.same :)
theorem Dev.Stores.lk : S.lk = d.lk := (congrArg Dev.lk h.same :)
theorem Dev.Stores.inp : S.inp = d.inp := (congrArg Dev.inp h.same :)
theorem Dev.Stores.jr : S.jr = d.jr := (congrArg Dev.jr h.same :)

end stores

end Sys2Proof.Machine
end

section
/-!
PROOF. The step on a queue with a command, and the writes of the Blotter (R460, R463, R464).
-/
namespace Sys2Proof.Machine

/-- Settles O1: by the step's own case of a queue that is not empty. -/
theorem stepRunsFront : Obligations.StepRunsFront := by
  intro c s rest queue
  rw [step, queue]

def blotCtrlFields : List RegField := [bf 16 16 .rw 0, bf 12 8 .rw 1, bf 1 1 .rw 0, bf 0 0 .rw 0]
def blotRdFields : List RegField := [bf 22 0 .rw 0]

theorem blotCtrl_reg : LowReg .blot pgBlot Reg.blot.CTRL blotCtrlFields :=
  ⟨rfl, by decide, by decide, rfl, rfl, by decide, by decide, by decide, rfl, rfl, rfl, rfl⟩

theorem blotRd_reg : LowReg .blot pgBlot Reg.blot.RD blotRdFields :=
  ⟨rfl, by decide, by decide, rfl, rfl, by decide, by decide, by decide, rfl, rfl, rfl, rfl⟩

theorem actWrite_blotCtrl (d : Dev) (req : Nat) (direct : Bool) (old m wo clr : Word) :
    actWrite d .blot pgBlot Reg.blot.CTRL req direct old m wo clr = blotCtrl d old := rfl

theorem actWrite_blotRd (d : Dev) (req : Nat) (direct : Bool) (old m wo clr : Word) :
    actWrite d .blot pgBlot Reg.blot.RD req direct old m wo clr = d := rfl

/-- A rising STREAM makes a sample due at the next boundary (R460). -/
theorem blotCtrl_rises {d : Dev} {old : Word} (now : d.rb pgBlot Reg.blot.CTRL 0 = true) (was : bit old 0 = false) :
    blotCtrl d old = d.setBl { d.bl with wait := 0 } := by
  simp [blotCtrl, now, was]

theorem blotCtrl_stays {d : Dev} {old : Word} (h : d.rb pgBlot Reg.blot.CTRL 0 = false ∨ bit old 0 = true) :
    blotCtrl d old = d := by
  rcases h with h | h <;> simp [blotCtrl, h]

/-- Settles O60: each register's store, and for CTRL what a rising STREAM adds. -/
theorem blotterWrites : Obligations.BlotterWrites := by
  intro s w direct
  refine ⟨fun takes => ?ctrl, fun takes => ?rd⟩
  case ctrl =>
    obtain ⟨S, stores, stored, next⟩ := blotCtrl_reg.acceptedCommon (by decide) direct takes
    have field : ∀ {hi lo : Nat}, lo ≤ hi → hi < 36 →
        covers (maskOf blotCtrlFields (fun f => f.ty == .rw || f.ty == .rwk)) hi lo →
        S.rf pgBlot Reg.blot.CTRL hi lo = fld w.data hi lo := fun hl hh rw => by
      rw [Dev.rf, stored, s.fld_forms_now _ _ w hl hh rw rfl]
    have flag : ∀ {i : Nat}, i < 36 → bit (maskOf blotCtrlFields (fun f => f.ty == .rw || f.ty == .rwk)) i = true →
        S.rb pgBlot Reg.blot.CTRL i = w.data.getLsbD i := fun hi rw => by
      rw [Dev.rb, stored, s.bit_forms_now _ _ w hi rw rfl, bit_eq_getLsbD]
    rw [actWrite_blotCtrl] at next
    refine ⟨S, stores, field (by decide) (by decide) fun i _ hi => by interval_cases i <;> rfl,
      field (by decide) (by decide) fun i lo hi => by interval_cases i <;> rfl, flag (by decide) rfl,
      fun on off => ?_, fun h => ?_⟩
    · rw [blotCtrl_rises ((flag (by decide) rfl).trans on) off, stores.bl, Dev.advance_bl] at next
      exact next
    · rw [blotCtrl_stays (h.imp (flag (by decide) rfl).trans id)] at next
      exact next
  case rd =>
    obtain ⟨S, stores, stored, next⟩ := blotRd_reg.acceptedCommon (by decide) direct takes
    rw [actWrite_blotRd] at next
    refine ⟨S, stores, ?_, next⟩
    rw [Dev.rf, stored, s.fld_forms_now _ _ w (by decide) (by decide) (fun i _ hi => by interval_cases i <;> rfl) rfl]

end Sys2Proof.Machine
end

section
/-!
PROOF. A reset cause that becomes active, and the requests of RESET_N and SUPV.RESET (R388 to R390).
-/
namespace Sys2Proof.Machine

/-- A field of a word that is given as a number. -/
theorem fld_ofNat (n : Nat) {hi lo : Nat} (hl : lo ≤ hi) (hh : hi < 36) : fld (BitVec.ofNat 36 n) hi lo = nfld n hi lo := by
  apply Nat.eq_of_testBit_eq
  intro i
  rw [fld, testBit_nfld, testBit_nfld, BitVec.toNat_ofNat, Nat.testBit_mod_two_pow]
  by_cases within : i < hi - lo + 1
  · simp [show i + lo < 36 by omega]
  · simp [within]

/-! ### The device that a reset leaves -/

/-- RCAUSE keeps its bits and takes the cause's own; POR sets it to 1 (R389). -/
def Dev.rcauseAfter (d : Dev) (c : ResetCause) : Nat :=
  if c = .por then 1 else d.rf pgSupv Reg.supv.RCAUSE 4 0 ||| 2 ^ causeBit c

theorem Dev.rcauseAfter_lt (d : Dev) (c : ResetCause) : d.rcauseAfter c < 2 ^ 5 := by
  have bit : 2 ^ causeBit c < 2 ^ 5 := Nat.pow_lt_pow_right (by decide) (by cases c <;> decide)
  rw [Dev.rcauseAfter]
  split
  · decide
  · exact Nat.or_lt_two_pow (fld_lt ..) bit

theorem resetDevice_rcause (d : Dev) (c : ResetCause) :
    (resetDevice d c).rd pgSupv Reg.supv.RCAUSE = BitVec.ofNat 36 (d.rcauseAfter c) := by
  rw [resetDevice]
  dsimp only
  rw [Dev.rd_wf_ne _ _ _ _ (by decide), Dev.rd_wr_eq, Dev.rcauseAfter]

theorem resetDevice_mem (d : Dev) (c : ResetCause) : (resetDevice d c).mem = memAfter d.mem c := rfl
theorem resetDevice_tap (d : Dev) {c : ResetCause} (other : c ≠ .por) : (resetDevice d c).tap = d.tap := if_neg other

/-- The memory keeps its words through a reset of these causes (R390). -/
theorem memAfter_keeps (m : Mem) {c : ResetCause} (h : c = .pin ∨ c = .soft ∨ c = .overtemp) : memAfter m c = m := by
  rcases h with rfl | rfl | rfl <;> rfl

/-- While reset lasts every ball is harmless (R388). -/
theorem after_resetDevice_quiet (s : State) (d : Dev) (c : ResetCause) {g : Nat} (hg : g < 8) :
    (s.after (resetDevice d c)).quiet g := by
  have reset : (s.after (resetDevice d c)).dev.sup.inReset = true := by
    rw [after_resetDevice_dev, resetDevice_inReset]
  exact (s.after_follows _).resetSafe reset g hg

/-- Up to a command's instant only time passes, and none in reset. -/
theorem Dev.pass_eq (d : Dev) (dt : Nat) : ∃ clk tb, d.pass dt = { d with clk := clk, tb := tb } := by
  unfold Dev.pass Dev.advance
  split
  · exact ⟨_, _, rfl⟩
  · split
    · exact ⟨_, _, rfl⟩
    · split <;> exact ⟨_, _, rfl⟩

/-- Settles O8: reset builds the device anew around what it keeps, and drives no ball. -/
theorem deviceResetHolds : Obligations.DeviceResetHolds := by
  intro s dt cause
  obtain ⟨clk, tb, passed⟩ := s.dev.pass_eq dt
  refine ⟨_, rfl, rfl, ?_⟩
  rw [after_resetDevice_dev, passed]
  refine ⟨rfl, fun g hg => after_resetDevice_quiet s _ cause hg, ?_, memAfter_keeps _, rfl, rfl, resetDevice_tap _⟩
  rw [Dev.rf, resetDevice_rcause, fld_ofNat _ (by decide) (by decide)]
  exact Nat.mod_eq_of_lt (Dev.rcauseAfter_lt _ cause)

/-! ### Requests -/

def supvResetFields : List RegField := [bf 0 0 .rwk 0]

theorem supvReset_single {d : Dev} (awake : d.sup.inReset = false) :
    SingleReg d .supv pgSupv Reg.supv.RESET supvResetFields :=
  ⟨rfl, pagePresent_common rfl (by decide) (by decide) _, awake, rfl, by decide, rfl, rfl, rfl⟩

theorem actWrite_supvReset (d : Dev) (req : Nat) (direct : Bool) (old : Word) {m : Word} (wo clr : Word)
    (go : bit m 0 = true) : actWrite d .supv pgSupv Reg.supv.RESET req direct old m wo clr = resetDevice d .soft :=
  if_pos go

/-- A write of GO that nothing refuses resets the device, whose locks alone it has changed before (R389). -/
theorem writes_supvReset {s : State} {w : RegWrite} (takes : s.takes w pgSupv Reg.supv.RESET) (direct : w.win = .direct)
    (go : w.data.getLsbD 0 = true) :
    ∃ ks, s.writes w pgSupv Reg.supv.RESET = .next (s.after (resetDevice
      { s.dev.advance w.dt with acc := { s.dev.acc with unlocked := ks } } .soft)) := by
  have formed : bit (s.forms pgSupv Reg.supv.RESET supvResetFields w).m 0 = true :=
    (formWrite_m _ _ _ supvResetFields .direct w.data 0 (by decide) rfl rfl rfl rfl).trans go
  obtain ⟨ks, consumed⟩ := consume_eq (s.dev.advance w.dt) w.req.id pgSupv
    (s.forms pgSupv Reg.supv.RESET supvResetFields w).keyed
  refine ⟨ks, ?_⟩
  rw [State.writes_of_takes takes, writeCommand_accepted (supvReset_single takes.awake) w takes.2 (.inl (by decide)), direct,
    storeWrite_actsOnly_low _ (by decide) (formWrite_shadow _ _ _ _ _ _ rfl) rfl, ← State.forms,
    actWrite_supvReset _ _ _ _ _ _ formed, consumed, Dev.advance_acc]

/-- Settles O10: by the length of the pulse, and by what the write of GO does. -/
theorem resetRequests : Obligations.ResetRequests := by
  refine ⟨fun s dt ns => ⟨fun long => ?long, fun short => ?short⟩, fun s w takes direct go => ?go⟩
  case long =>
    exact congrArg (fun d => Host.Outcome.next (s.after d)) (if_pos long)
  case short =>
    have next : exec (.resetNLow dt ns) s = .next (s.after (s.dev.pass dt)) :=
      congrArg (fun d => Host.Outcome.next (s.after d)) (if_neg (Nat.not_le.mpr short))
    obtain ⟨clk, tb, passed⟩ := s.dev.pass_eq dt
    have only := settle_only (s.dev.pass dt)
    refine ⟨_, next, rfl, ?_, ?_⟩
    · rw [State.after_dev, only.sup, passed]
    · rw [State.after_dev, only.mem, passed]
  case go =>
    obtain ⟨ks, next⟩ := writes_supvReset takes direct go
    refine ⟨_, next, rfl, ?_⟩
    rw [after_resetDevice_dev]
    refine ⟨rfl, ?_, ?_, fun g hg => after_resetDevice_quiet s _ .soft hg⟩
    · have lasts : (2 ^ causeBit .soft).testBit 2 = true := rfl
      rw [resetDevice_rcause, ← bit_eq_getLsbD, bit, BitVec.toNat_ofNat, Nat.testBit_mod_two_pow, Dev.rcauseAfter,
        if_neg (by decide), Nat.testBit_or, lasts]
      simp
    · rw [resetDevice_mem, memAfter_keeps _ (.inr (.inl rfl))]
      exact s.dev.advance_mem w.dt

end Sys2Proof.Machine
end

section
/-!
PROOF. The instructions of the TAP and MEMACC (R454, R455).
-/
namespace Sys2Proof.Machine

/-! ### The boundary-scan pattern -/

/-- The only entry of its leg says what the pattern asks of it. -/
theorem scanOf_get {ps : List BallAsk} {x : BallAsk} (mem : x ∈ ps) (only : ∀ y ∈ ps, y.leg = x.leg → y = x) :
    (scanOf ps).get x.leg 0 = askedLevel x := by
  induction ps using List.reverseRecOn with
  | nil => cases mem
  | append_singleton ps a ih =>
    have last : scanOf (ps ++ [a]) = (scanOf ps).set a.leg (askedLevel a) 0 := List.foldl_concat ..
    rw [last]
    by_cases same : a.leg = x.leg
    · rw [only a (by simp) same, Tab.get_set_eq]
    · have earlier : x ∈ ps := (List.mem_append.mp mem).resolve_right fun h => same (by rw [List.mem_singleton.mp h])
      rw [Tab.get_set_ne _ _ _ _ (Fin.val_ne_of_ne same)]
      exact ih earlier fun y hy => only y (by simp [hy])

/-- Under EXTEST the pattern alone decides what a leg of a present grove drives, outside reset (R454). -/
theorem State.after_extest_ball (s : State) {d : Dev} {l : Nat} (hl : l < 512) (here : d.hasGrove (l / 64) = true)
    (awake : d.sup.inReset = false) (scan : d.tap.extest = true) :
    (s.after d).ball (l / 64) (l % 64) = d.tap.scan.get l 0 := by
  have only := settle_only d
  rw [(s.after d).ball_eq (s.after_follows d) _ _ (by omega) (by omega), State.after_dev, ballOf, Dev.hasGrove, only.variant,
    only.sup, only.tap, if_neg (by simpa [awake, Dev.hasGrove] using here), if_pos scan, Nat.div_add_mod]

/-! ### MEMACC -/

/-- The device with MEMACC loaded, outside reset and RETAIN, while no access runs. -/
theorem memacc_ready {d : Dev} (awake : d.sup.inReset = false) (notRetain : d.sup.ps ≠ .retain)
    (idle : d.tap.busy = false) :
    ¬ ((loadIr d 0x10).tap.busy = true ∨ (loadIr d 0x10).sup.inReset = true ∨ (loadIr d 0x10).sup.ps = .retain) := by
  simp [loadIr, Dev.setTap, awake, notRetain, idle]

section access
variable {d : Dev} (awake : d.sup.inReset = false) (notRetain : d.sup.ps ≠ .retain) (idle : d.tap.busy = false) {a : Nat}
  (here : a < d.variant.memWords) (tele1 tele2 : Dev) (w : Word)
include awake notRetain idle here

theorem memacc_write : memacc tele1 tele2 d 2 a w = tapAccess ((loadIr d 0x10).memPut a w) stOk d.tap.data := by
  have put := Dev.memPut_of_lt (d := loadIr d 0x10) here w
  have written : tapWrite (loadIr d 0x10) a w = (stOk, (loadIr d 0x10).memPut a w) := by
    rw [tapWrite, writeAddr_mem (d := loadIr d 0x10) here, put]
    rfl
  have awake' : ((loadIr d 0x10).memPut a w).sup.inReset = false := by rw [put]; exact awake
  have data : ((loadIr d 0x10).memPut a w).tap.data = d.tap.data := by rw [put]; rfl
  rw [memacc]
  dsimp only
  rw [if_neg (memacc_ready awake notRetain idle), written]
  dsimp only
  rw [if_neg (by simp [awake']), data]

theorem memacc_read (ecc : (d.mem.at a).ecc = .clean) : memacc tele1 tele2 d 1 a w =
    tapAccess (loadIr d 0x10) stOk (d.mem.at a).data := by
  have clean : (loadIr d 0x10).clean a := ⟨here, ecc⟩
  rw [memacc]
  dsimp only
  rw [if_neg (memacc_ready awake notRetain idle), readAddr_clean clean]
  rfl

end access

/-! ### The statement -/

/-- Settles O59: each instruction sets the TAP alone; under EXTEST the balls follow its pattern; MEMACC adds its access. -/
theorem testAccessPort : Obligations.TestAccessPort := by
  intro s dt awake
  have acts : ∀ f : Dev → Dev, s.tapDoes dt f = .next (s.after (f (s.dev.advance dt))) := fun f => s.tapDoes_eq dt f awake
  have alone : ∀ t : Jtag, { (s.dev.advance dt).setTap t with tap := s.dev.tap } = s.dev.advance dt := fun t => by
    rw [← s.dev.advance_tap dt]
    rfl
  refine ⟨⟨_, acts _, alone _, rfl, ?idcode⟩, ⟨_, acts _, alone _, rfl, rfl⟩, ⟨_, acts _, alone _, rfl⟩,
    fun ps => ⟨_, acts (tapExtest · ps), alone _, rfl, fun x mem only => scanOf_get mem only, fun x mem here only => ?ball⟩,
    fun ps => ⟨_, acts (tapPreload · ps), alone _, rfl, fun x mem only => scanOf_get mem only⟩,
    fun a w pages idle here => ⟨?write, fun ecc => ?read⟩⟩
  case idcode =>
    have same : (s.dev.advance dt).idcode = s.dev.idcode := by rw [Dev.idcode, Dev.idcode, Dev.advance_variant]
    exact same
  case ball =>
    have awake' : (s.dev.advance dt).sup.inReset = false := by rw [Dev.advance_sup, awake]
    have here' : (s.dev.advance dt).hasGrove (x.leg / 64) = true := by rw [Dev.hasGrove_advance, here]
    exact (s.after_extest_ball (d := tapExtest (s.dev.advance dt) ps) x.leg.isLt here' awake' rfl).trans
      (scanOf_get mem only)
  all_goals
    have awake' : (s.dev.advance dt).sup.inReset = false := by rw [Dev.advance_sup, awake]
    have notRetain : (s.dev.advance dt).sup.ps ≠ .retain := by rw [Dev.advance_sup]; exact pages.2
    have idle' : (s.dev.advance dt).tap.busy = false := by rw [Dev.advance_tap, idle]
    have here' : a.toNat < (s.dev.advance dt).variant.memWords := by rw [Dev.advance_variant]; exact here
  case write =>
    have next : exec (.memacc dt 2 a w) s = _ := acts (memacc s.tele1 s.tele2 · (2 : Fin 4) a.toNat w)
    rw [show ((2 : Fin 4) : Nat) = 2 from rfl, memacc_write awake' notRetain idle' here',
      Dev.memPut_of_lt (d := loadIr (s.dev.advance dt) 0x10) here'] at next
    have mem : (loadIr (s.dev.advance dt) 0x10).mem = s.dev.mem := s.dev.advance_mem dt
    rw [mem] at next
    refine ⟨_, next, ?_, s.dev.mem.at_put_eq _ w, fun x other => s.dev.mem.at_put_ne w other.symm, rfl⟩
    rw [← s.dev.advance_tap dt, ← s.dev.advance_mem dt]
    rfl
  case read =>
    have ecc' : ((s.dev.advance dt).mem.at a.toNat).ecc = .clean := by rw [Dev.advance_mem, ecc]
    have next : exec (.memacc dt 1 a w) s = _ := acts (memacc s.tele1 s.tele2 · (1 : Fin 4) a.toNat w)
    rw [show ((1 : Fin 4) : Nat) = 1 from rfl, memacc_read awake' notRetain idle' here' _ _ w ecc', Dev.advance_mem] at next
    exact ⟨_, next, alone _, rfl, rfl⟩

end Sys2Proof.Machine
end

section
/-!
PROOF. Quadrature, index and step inputs (R369 to R375).
-/
namespace Sys2Proof.Machine

/-! ### What a counting input changes -/

theorem key_succ_ne (p off : Nat) : key p (off + 1) ≠ key p off := by simp [key]

/-- The two words of a 72-bit value, read together. -/
theorem Dev.rd72_wr72 (d : Dev) (p off v : Nat) : (d.wr72 p off v).rd72 p off = v % 2 ^ 72 := by
  have low : (d.wr72 p off v).rd p off = BitVec.ofNat 36 v := by
    rw [Dev.wr72, Dev.rd_wr_ne _ _ (key_succ_ne p off), Dev.rd_wr_eq]
  have high : (d.wr72 p off v).rd p (off + 1) = BitVec.ofNat 36 (v / 2 ^ 36) := Dev.rd_wr_eq ..
  rw [Dev.rd72, low, high, BitVec.toNat_ofNat, BitVec.toNat_ofNat]
  omega

theorem unsgn_lt (w : Nat) (x : Int) : unsgn w x < 2 ^ w := by
  have pos : ((2 ^ w : Nat) : Int) ≠ 0 := by positivity
  have := Int.emod_lt_of_pos x (show (0 : Int) < (2 ^ w : Nat) by positivity)
  have := Int.emod_nonneg x pos
  rw [unsgn]
  omega

/-- `d'` differs from `d` in the inputs and in registers only, and of the counts in those of channel `i` only. -/
structure Dev.CountsAt (i : Nat) (d d' : Dev) : Prop where
  frame : { d' with inp := d.inp, regs := d.regs, rose := d.rose } = d
  cnt : ∀ j, j ≠ i → d'.inp.cnt.get j 0 = d.inp.cnt.get j 0
  raw : ∀ j, j ≠ i → d'.inp.raw.get j 0 = d.inp.raw.get j 0
  stp : ∀ j, j ≠ i → d'.inp.stp.get j 0 = d.inp.stp.get j 0

theorem Dev.CountsAt.trans {i : Nat} {a b c : Dev} (h : a.CountsAt i b) (k : b.CountsAt i c) : a.CountsAt i c where
  frame := by
    have two : { c with inp := a.inp, regs := a.regs, rose := a.rose } =
      { { c with inp := b.inp, regs := b.regs, rose := b.rose } with inp := a.inp, regs := a.regs, rose := a.rose } := rfl
    rw [two, k.frame, h.frame]
  cnt j hj := (k.cnt j hj).trans (h.cnt j hj)
  raw j hj := (k.raw j hj).trans (h.raw j hj)
  stp j hj := (k.stp j hj).trans (h.stp j hj)

/-- Registers alone. -/
def Dev.RegsOnly (d d' : Dev) : Prop := ∃ regs rose, d' = { d with regs := regs, rose := rose }

theorem Dev.RegsOnly.refl (d : Dev) : d.RegsOnly d := ⟨d.regs, d.rose, rfl⟩

theorem Dev.RegsOnly.trans {a b c : Dev} (h : a.RegsOnly b) (k : b.RegsOnly c) : a.RegsOnly c := by
  obtain ⟨_, _, rfl⟩ := h
  obtain ⟨regs, rose, rfl⟩ := k
  exact ⟨regs, rose, rfl⟩

theorem Dev.RegsOnly.ite {d a b : Dev} {c : Prop} [Decidable c] (h : d.RegsOnly a) (k : d.RegsOnly b) :
    d.RegsOnly (if c then a else b) := by
  split <;> assumption

theorem Dev.wr_regsOnly (d : Dev) (p off : Nat) (w : Word) : d.RegsOnly (d.wr p off w) := ⟨_, d.rose, rfl⟩
theorem Dev.wf_regsOnly (d : Dev) (p off hi lo v : Nat) : d.RegsOnly (d.wf p off hi lo v) := d.wr_regsOnly ..
theorem Dev.wr72_regsOnly (d : Dev) (p off v : Nat) : d.RegsOnly (d.wr72 p off v) :=
  (d.wr_regsOnly ..).trans (Dev.wr_regsOnly ..)
theorem Dev.ev_regsOnly (d : Dev) (p i : Nat) : d.RegsOnly (d.ev p i) := ⟨_, _, rfl⟩
theorem Dev.incSat_regsOnly (d : Dev) (p off hi lo : Nat) : d.RegsOnly (d.incSat p off hi lo) :=
  .ite (d.wf_regsOnly ..) (.refl d)

theorem Dev.RegsOnly.inp {d d' : Dev} (h : d.RegsOnly d') : d'.inp = d.inp := by
  obtain ⟨_, _, rfl⟩ := h
  rfl

theorem Dev.RegsOnly.countsAt {d d' : Dev} (h : d.RegsOnly d') (i : Nat) : d.CountsAt i d' := by
  obtain ⟨_, _, rfl⟩ := h
  exact ⟨rfl, fun _ _ => rfl, fun _ _ => rfl, fun _ _ => rfl⟩

/-- What the statement asks of every counting input, of a device that time alone has brought to `d`. -/
theorem Dev.CountsAt.rest {s : Dev} {dt i : Nat} {d' : Dev} (h : (s.advance dt).CountsAt i d') :
    { d' with inp := s.inp, regs := s.regs, rose := s.rose } = s.advance dt ∧
      ∀ j, j ≠ i → d'.inp.cnt.get j 0 = s.inp.cnt.get j 0 ∧ d'.inp.raw.get j 0 = s.inp.raw.get j 0 ∧
        d'.inp.stp.get j 0 = s.inp.stp.get j 0 := by
  obtain ⟨frame, cnt, raw, stp⟩ := h
  rw [Dev.advance_inp] at frame cnt raw stp
  rw [Dev.advance_regs, Dev.advance_rose] at frame
  exact ⟨frame, fun j hj => ⟨cnt j hj, raw j hj, stp j hj⟩⟩

/-! ### Quadrature (R369, R370) -/

/-- The filtered levels of channel `i` are taken over. -/
def Dev.quadSeen (d : Dev) (i : Nat) (a b : Bool) : Dev :=
  d.setInp { d.inp with qa := maskSet d.inp.qa i a, qb := maskSet d.inp.qb i b }

/-- A step in the direction of `k` is the last of channel `i`. -/
def Dev.quadDir (d : Dev) (i : Nat) (k : Int) : Dev :=
  d.setInp { d.inp with dirPos := maskSet d.inp.dirPos i (decide (0 < k)), dirDef := maskSet d.inp.dirDef i true }

/-- A transition of both levels is counted as an error. -/
def Dev.quadErr (d : Dev) (i : Nat) : Dev := (d.incSat pgQdec (Reg.qdec.ERR + i) 23 0).ev pgQdec i

/-- How far the levels turn, in quarters of a period. -/
def Dev.quadTurn (d : Dev) (i : Nat) (a b : Bool) : Nat :=
  (quadPhase a b + 4 - quadPhase (d.inp.qa.testBit i) (d.inp.qb.testBit i)) % 4

def Dev.quadInv (d : Dev) (i : Nat) : Int := if bit (d.rd pgQdec (Reg.qdec.CFG + i)) 1 then -1 else 1

section quadStep
variable {d : Dev} {i : Nat} {a b : Bool}

theorem quadStep_off (off : bit (d.rd pgQdec (Reg.qdec.CFG + i)) 0 = false) : quadStep d i a b = d.quadSeen i a b := by
  simp [quadStep, off, Dev.quadSeen]

theorem quadStep_none (turn : d.quadTurn i a b = 0) : quadStep d i a b = d.quadSeen i a b := by
  rw [Dev.quadTurn] at turn
  simp [quadStep, turn, Dev.quadSeen]

section enabled
variable (on : bit (d.rd pgQdec (Reg.qdec.CFG + i)) 0 = true)
include on

theorem quadStep_forward (turn : d.quadTurn i a b = 1) :
    quadStep d i a b = (quadAdd (d.quadSeen i a b) i (d.quadInv i)).quadDir i (d.quadInv i) := by
  rw [Dev.quadTurn] at turn
  simp only [quadStep, turn, on, Bool.not_true, Bool.false_eq_true, if_false]
  rfl

theorem quadStep_back (turn : d.quadTurn i a b = 3) :
    quadStep d i a b = (quadAdd (d.quadSeen i a b) i (-d.quadInv i)).quadDir i (-d.quadInv i) := by
  rw [Dev.quadTurn] at turn
  simp only [quadStep, turn, on, Bool.not_true, Bool.false_eq_true, if_false]
  rfl

theorem quadStep_both (turn : d.quadTurn i a b = 2) : quadStep d i a b =
    if bit (d.rd pgQdec (Reg.qdec.CFG + i)) 2 = true ∨ (!d.inp.dirDef.testBit i) = true then (d.quadSeen i a b).quadErr i
    else quadAdd ((d.quadSeen i a b).quadErr i) i (if d.inp.dirPos.testBit i then 2 else -2) := by
  rw [Dev.quadTurn] at turn
  simp only [quadStep, turn, on, Bool.not_true, Bool.false_eq_true, if_false]
  rfl

end enabled
end quadStep

/-- What follows the levels: counts of channel `i`, and neither levels nor step counts. -/
structure Dev.TurnsAt (i : Nat) (d d' : Dev) : Prop where
  counts : d.CountsAt i d'
  qa : d'.inp.qa = d.inp.qa
  qb : d'.inp.qb = d.inp.qb
  stp : d'.inp.stp = d.inp.stp

theorem Dev.TurnsAt.trans {i : Nat} {a b c : Dev} (h : a.TurnsAt i b) (k : b.TurnsAt i c) : a.TurnsAt i c :=
  ⟨h.counts.trans k.counts, k.qa.trans h.qa, k.qb.trans h.qb, k.stp.trans h.stp⟩

theorem Dev.RegsOnly.turnsAt {d d' : Dev} (h : d.RegsOnly d') (i : Nat) : d.TurnsAt i d' :=
  ⟨h.countsAt i, congrArg Inputs.qa h.inp, congrArg Inputs.qb h.inp, congrArg Inputs.stp h.inp⟩

theorem Dev.quadErr_regsOnly (d : Dev) (i : Nat) : d.RegsOnly (d.quadErr i) := (d.incSat_regsOnly ..).trans (Dev.ev_regsOnly ..)

theorem quadAdd_turnsAt (d : Dev) (i : Nat) (k : Int) : d.TurnsAt i (quadAdd d i k) where
  counts := ⟨rfl, fun _ hj => Tab.get_set_ne _ _ _ _ hj.symm, fun _ hj => Tab.get_set_ne _ _ _ _ hj.symm, fun _ _ => rfl⟩
  qa := rfl
  qb := rfl
  stp := rfl

theorem Dev.quadDir_turnsAt (d : Dev) (i : Nat) (k : Int) : d.TurnsAt i (d.quadDir i k) where
  counts := ⟨rfl, fun _ _ => rfl, fun _ _ => rfl, fun _ _ => rfl⟩
  qa := rfl
  qb := rfl
  stp := rfl

theorem Dev.quadSeen_countsAt (d : Dev) (i : Nat) (a b : Bool) : d.CountsAt i (d.quadSeen i a b) :=
  ⟨rfl, fun _ _ => rfl, fun _ _ => rfl, fun _ _ => rfl⟩

theorem Dev.quadTurn_lt (d : Dev) (i : Nat) (a b : Bool) : d.quadTurn i a b < 4 := Nat.mod_lt _ (by decide)

theorem quadStep_turnsAt (d : Dev) (i : Nat) (a b : Bool) : (d.quadSeen i a b).TurnsAt i (quadStep d i a b) := by
  have same : (d.quadSeen i a b).TurnsAt i (d.quadSeen i a b) := (Dev.RegsOnly.refl _).turnsAt i
  cases on : bit (d.rd pgQdec (Reg.qdec.CFG + i)) 0
  · rwa [quadStep_off on]
  · have turns : d.quadTurn i a b = 0 ∨ d.quadTurn i a b = 1 ∨ d.quadTurn i a b = 2 ∨ d.quadTurn i a b = 3 := by
      have := d.quadTurn_lt i a b
      omega
    rcases turns with turn | turn | turn | turn
    · rwa [quadStep_none turn]
    · rw [quadStep_forward on turn]
      exact (quadAdd_turnsAt ..).trans (Dev.quadDir_turnsAt ..)
    · rw [quadStep_both on turn]
      split
      · exact (Dev.quadErr_regsOnly ..).turnsAt i
      · exact ((Dev.quadErr_regsOnly ..).turnsAt i).trans (quadAdd_turnsAt ..)
    · rw [quadStep_back on turn]
      exact (quadAdd_turnsAt ..).trans (Dev.quadDir_turnsAt ..)

/-- Both counts of channel `i` have moved by `k`. -/
def Dev.Moved (i : Nat) (d d' : Dev) (k : Int) : Prop :=
  d'.inp.cnt.get i 0 = unsgn 36 ((d.inp.cnt.get i 0 : Int) + k) ∧ d'.inp.raw.get i 0 = unsgn 36 ((d.inp.raw.get i 0 : Int) + k)

theorem quadAdd_moved (d : Dev) (i : Nat) (k : Int) : d.Moved i (quadAdd d i k) k := ⟨Tab.get_set_eq .., Tab.get_set_eq ..⟩

theorem quadAdd_quadErr_moved (d : Dev) (i : Nat) (k : Int) : d.Moved i (quadAdd (d.quadErr i) i k) k := by
  have moved := quadAdd_moved (d.quadErr i) i k
  rwa [Dev.Moved, (d.quadErr_regsOnly i).inp] at moved

theorem quadErr_keys : ∀ i : Fin 16, key pgQdec Reg.PAGE_EVT ≠ key pgQdec (Reg.qdec.ERR + i) := by decide

/-- The error counter and the event of a transition of both levels. -/
theorem Dev.quadErr_counts (d : Dev) (i : Fin 16) :
    (d.quadErr i).rf pgQdec (Reg.qdec.ERR + i) 23 0 = min (2 ^ 24 - 1) (d.rf pgQdec (Reg.qdec.ERR + i) 23 0 + 1) ∧
    ((d.quadErr i).rd pgQdec Reg.PAGE_EVT).getLsbD i = true :=
  ⟨(Dev.rf_ev_of_ne _ _ (quadErr_keys i) _ _).trans (Dev.rf_incSat_eq _ _ _ _ _ (by decide) (by decide)),
    Dev.ev_bit _ _ _ (by omega)⟩

/-- What `quadStep` counts, by how far the levels turn. -/
structure Dev.QuadCounts (i : Nat) (a b : Bool) (d d' : Dev) : Prop where
  still : bit (d.rd pgQdec (Reg.qdec.CFG + i)) 0 = false ∨ d.quadTurn i a b = 0 → d'.inp.cnt = d.inp.cnt ∧ d'.inp.raw = d.inp.raw
  forward : bit (d.rd pgQdec (Reg.qdec.CFG + i)) 0 = true → d.quadTurn i a b = 1 → d.Moved i d' (d.quadInv i)
  back : bit (d.rd pgQdec (Reg.qdec.CFG + i)) 0 = true → d.quadTurn i a b = 3 → d.Moved i d' (-d.quadInv i)
  error : bit (d.rd pgQdec (Reg.qdec.CFG + i)) 0 = true → d.quadTurn i a b = 2 →
    d'.rf pgQdec (Reg.qdec.ERR + i) 23 0 = min (2 ^ 24 - 1) (d.rf pgQdec (Reg.qdec.ERR + i) 23 0 + 1) ∧
    (d'.rd pgQdec Reg.PAGE_EVT).getLsbD i = true
  unknown : bit (d.rd pgQdec (Reg.qdec.CFG + i)) 0 = true → d.quadTurn i a b = 2 →
    bit (d.rd pgQdec (Reg.qdec.CFG + i)) 2 = true ∨ d.inp.dirDef.testBit i = false →
    d'.inp.cnt = d.inp.cnt ∧ d'.inp.raw = d.inp.raw
  double : bit (d.rd pgQdec (Reg.qdec.CFG + i)) 0 = true → d.quadTurn i a b = 2 →
    bit (d.rd pgQdec (Reg.qdec.CFG + i)) 2 = false → d.inp.dirDef.testBit i = true →
    d.Moved i d' (if d.inp.dirPos.testBit i then 2 else -2)

theorem quadStep_counts (d : Dev) (i : Fin 16) (a b : Bool) : d.QuadCounts i a b (quadStep d i a b) where
  still h := by
    rw [show quadStep d i a b = d.quadSeen i a b from h.elim quadStep_off quadStep_none]
    exact ⟨rfl, rfl⟩
  forward on turn := by
    rw [quadStep_forward on turn]
    exact quadAdd_moved (d.quadSeen i a b) i _
  back on turn := by
    rw [quadStep_back on turn]
    exact quadAdd_moved (d.quadSeen i a b) i _
  error on turn := by
    rw [quadStep_both on turn]
    split <;> exact (d.quadSeen i a b).quadErr_counts i
  unknown on turn h := by
    have no : bit (d.rd pgQdec (Reg.qdec.CFG + i)) 2 = true ∨ (!d.inp.dirDef.testBit i) = true := by simpa using h
    rw [quadStep_both on turn, if_pos no, ((d.quadSeen i a b).quadErr_regsOnly i).inp]
    exact ⟨rfl, rfl⟩
  double on turn mode known := by
    rw [quadStep_both on turn, if_neg (by simp only [mode, known]; decide)]
    exact quadAdd_quadErr_moved (d.quadSeen i a b) i _

/-! ### Index events (R373, R374) -/

/-- The count and the time are latched. -/
def Dev.indexLatched (d : Dev) (i age : Nat) : Dev :=
  (d.wr pgQdec (Reg.qdec.IDXCNT + i) (BitVec.ofNat 36 (d.inp.cnt.get i 0))).wr72 pgQdec (Reg.qdec.IDXT_LO + 2 * i)
    (d.stampAgo age).1

/-- An index event at another distance than the expected one is counted (R374). -/
def Dev.indexChecked (d : Dev) (i : Nat) (bad : Bool) : Dev :=
  if bad then (d.incSat pgQdec (Reg.qdec.ERR + i) 35 24).ev pgQdec 32 else d

/-- CLR clears itself where it was to act once. -/
def Dev.indexCleared (d : Dev) (i clr : Nat) : Dev := if clr = 2 then d.wf pgQdec (Reg.qdec.ICFG + i) 33 32 0 else d

/-- The count that an index event leaves. -/
def Dev.indexLeft (d : Dev) (i clr : Nat) : Nat := if clr = 1 ∨ clr = 2 then 0 else d.inp.cnt.get i 0

/-- The count goes on from `left`. -/
def Dev.indexCounts (d : Dev) (i left : Nat) : Dev :=
  (d.setInp { d.inp with cnt := d.inp.cnt.set i left 0, idxPrev := d.inp.idxPrev.put i (left + 1) }).ev pgQdec (16 + i)

/-- IEN, GATE and the filter let the event through. -/
def Dev.IndexPasses (d : Dev) (i age : Nat) : Prop :=
  (d.rd pgQdec (Reg.qdec.ICFG + i)).getLsbD 35 = true ∧
  ((d.rd pgQdec (Reg.qdec.ICFG + i)).getLsbD 31 = false ∨
    (d.inp.qa.testBit i = (d.rd pgQdec (Reg.qdec.ICFG + i)).getLsbD 30 ∧
      d.inp.qb.testBit i = (d.rd pgQdec (Reg.qdec.ICFG + i)).getLsbD 29)) ∧
  runAge (fld (d.rd pgQdec (Reg.qdec.ICFG + i)) 28 26) 4 ≤ age

theorem indexEvent_passes {d : Dev} {i age : Nat} (h : d.IndexPasses i age) : ∃ bad, indexEvent d i age =
    (((d.indexLatched i age).indexChecked i bad).indexCleared i (fld (d.rd pgQdec (Reg.qdec.ICFG + i)) 33 32)).indexCounts i
      (d.indexLeft i (fld (d.rd pgQdec (Reg.qdec.ICFG + i)) 33 32)) := by
  obtain ⟨on, gate, filtered⟩ := h
  have acts : ¬ ((!bit (d.rd pgQdec (Reg.qdec.ICFG + i)) 35) = true ∨
      (!(!bit (d.rd pgQdec (Reg.qdec.ICFG + i)) 31 || (d.inp.qa.testBit i == bit (d.rd pgQdec (Reg.qdec.ICFG + i)) 30 &&
        d.inp.qb.testBit i == bit (d.rd pgQdec (Reg.qdec.ICFG + i)) 29))) = true ∨
      age < runAge (fld (d.rd pgQdec (Reg.qdec.ICFG + i)) 28 26) 4) := by
    have opened : (!(d.rd pgQdec (Reg.qdec.ICFG + i)).getLsbD 31 ||
        (d.inp.qa.testBit i == (d.rd pgQdec (Reg.qdec.ICFG + i)).getLsbD 30 &&
          d.inp.qb.testBit i == (d.rd pgQdec (Reg.qdec.ICFG + i)).getLsbD 29)) = true := by
      rcases gate with free | ⟨qa, qb⟩
      · rw [free]
        rfl
      · rw [qa, qb, beq_self_eq_true, beq_self_eq_true, Bool.and_true, Bool.or_true]
    simp only [bit_eq_getLsbD, on, opened, Bool.not_true, Bool.false_eq_true, false_or, Nat.not_lt]
    exact filtered
  rw [indexEvent]
  dsimp only
  rw [if_neg acts]
  exact ⟨_, rfl⟩

section index
variable (d : Dev) (i : Nat)

theorem Dev.indexLatched_regsOnly (age : Nat) : d.RegsOnly (d.indexLatched i age) :=
  (d.wr_regsOnly ..).trans (Dev.wr72_regsOnly ..)
theorem Dev.indexChecked_regsOnly (bad : Bool) : d.RegsOnly (d.indexChecked i bad) :=
  .ite ((d.incSat_regsOnly ..).trans (Dev.ev_regsOnly ..)) (.refl d)
theorem Dev.indexCleared_regsOnly (clr : Nat) : d.RegsOnly (d.indexCleared i clr) := .ite (d.wf_regsOnly ..) (.refl d)

theorem Dev.indexCounts_countsAt (left : Nat) : d.CountsAt i (d.indexCounts i left) := by
  have set : d.CountsAt i (d.setInp { d.inp with cnt := d.inp.cnt.set i left 0, idxPrev := d.inp.idxPrev.put i (left + 1) }) :=
    ⟨rfl, fun _ hj => Tab.get_set_ne _ _ _ _ hj.symm, fun _ _ => rfl, fun _ _ => rfl⟩
  exact set.trans ((Dev.ev_regsOnly ..).countsAt i)

theorem Dev.rd_indexCounts (left : Nat) {q o : Nat} (h : key pgQdec Reg.PAGE_EVT ≠ key q o) :
    (d.indexCounts i left).rd q o = d.rd q o := by
  rw [Dev.indexCounts, Dev.rd_ev_ne _ _ h, Dev.rd_setInp]

theorem Dev.rd_indexCleared (clr : Nat) {q o : Nat} (h : key pgQdec (Reg.qdec.ICFG + i) ≠ key q o) :
    (d.indexCleared i clr).rd q o = d.rd q o := by
  rw [Dev.indexCleared]
  split
  · exact Dev.rd_wf_ne _ _ _ _ h
  · rfl

theorem Dev.rd_indexChecked (bad : Bool) {q o : Nat} (err : key pgQdec (Reg.qdec.ERR + i) ≠ key q o)
    (evt : key pgQdec Reg.PAGE_EVT ≠ key q o) : (d.indexChecked i bad).rd q o = d.rd q o := by
  rw [Dev.indexChecked]
  split
  · rw [Dev.rd_ev_ne _ _ evt, Dev.rd_incSat_ne _ _ _ err]
  · rfl

end index

/-- The registers of an index channel and those that an index event writes besides are apart. -/
theorem index_keys : ∀ i : Fin 16,
    (∀ r ∈ [Reg.PAGE_EVT, Reg.qdec.ICFG + i, Reg.qdec.ERR + i, Reg.qdec.IDXT_LO + 2 * i, Reg.qdec.IDXT_LO + 2 * i + 1],
      key pgQdec r ≠ key pgQdec (Reg.qdec.IDXCNT + i)) ∧
    (∀ r ∈ [Reg.PAGE_EVT, Reg.qdec.ICFG + i, Reg.qdec.ERR + i],
      key pgQdec r ≠ key pgQdec (Reg.qdec.IDXT_LO + 2 * i) ∧ key pgQdec r ≠ key pgQdec (Reg.qdec.IDXT_LO + 2 * i + 1)) ∧
    key pgQdec Reg.PAGE_EVT ≠ key pgQdec (Reg.qdec.ICFG + i) := by decide

theorem Dev.stampAgo_lt (d : Dev) (age : Nat) : (d.stampAgo age).1 < 2 ^ 72 := by
  rw [Dev.stampAgo]
  split <;> exact unsgn_lt 72 _

/-- What an index event leaves of its channel's registers. -/
theorem index_registers (d : Dev) (i : Fin 16) (age clr left : Nat) (bad : Bool) :
    (let D := (((d.indexLatched i age).indexChecked i bad).indexCleared i clr).indexCounts i left
     D.rd pgQdec (Reg.qdec.IDXCNT + i) = BitVec.ofNat 36 (d.inp.cnt.get i 0) ∧
     D.rd72 pgQdec (Reg.qdec.IDXT_LO + 2 * i) = (d.stampAgo age).1 ∧
     (clr = 2 → D.rf pgQdec (Reg.qdec.ICFG + i) 33 32 = 0)) := by
  obtain ⟨count, time, clear⟩ := index_keys i
  simp only [List.forall_mem_cons, List.not_mem_nil, false_imp_iff, implies_true, and_true] at count time
  obtain ⟨ce, ci, cr, cl, ch⟩ := count
  obtain ⟨⟨tel, teh⟩, ⟨til, tih⟩, trl, trh⟩ := time
  refine ⟨?_, ?_, fun once => ?_⟩
  · rw [Dev.rd_indexCounts _ _ _ ce, Dev.rd_indexCleared _ _ _ ci, Dev.rd_indexChecked _ _ _ cr ce, Dev.indexLatched, Dev.wr72,
      Dev.rd_wr_ne _ _ ch, Dev.rd_wr_ne _ _ cl, Dev.rd_wr_eq]
  · rw [Dev.rd72, Dev.rd_indexCounts _ _ _ tel, Dev.rd_indexCounts _ _ _ teh, Dev.rd_indexCleared _ _ _ til,
      Dev.rd_indexCleared _ _ _ tih, Dev.rd_indexChecked _ _ _ trl tel, Dev.rd_indexChecked _ _ _ trh teh, ← Dev.rd72,
      Dev.indexLatched, Dev.rd72_wr72]
    exact Nat.mod_eq_of_lt (d.stampAgo_lt age)
  · rw [Dev.rf, Dev.rd_indexCounts _ _ _ clear, Dev.indexCleared, if_pos once]
    exact Dev.rf_wf_eq _ _ _ _ _ _ (by decide) (by decide)

/-! ### Step inputs (R375) -/

/-- A counted edge: the step, and when it occurred. -/
def Dev.stepCounts (d : Dev) (i occ : Nat) (k : Int) : Dev :=
  d.setInp { d.inp with stp := d.inp.stp.set i (unsgn 36 ((d.inp.stp.get i 0 : Int) + k)) 0,
                        stpLast := d.inp.stpLast.put i (occ + 1) }

theorem stepEdge_counts {d : Dev} {i : Nat} {rising : Bool} {age : Nat}
    (on : (d.rd pgStepin (Reg.stepin.CFG + i)).getLsbD 0 = true) (edge : rising ≠ (d.rd pgStepin (Reg.stepin.CFG + i)).getLsbD 2)
    (filtered : runAge (fld (d.rd pgStepin (Reg.stepin.CFG + i)) 10 8) 1 ≤ age) (dir : Bool) :
    (let D := d.stepCounts i (d.clk - age) (if dir != (d.rd pgStepin (Reg.stepin.CFG + i)).getLsbD 1 then 1 else -1)
     let last := d.inp.stpLast.get i 0
     stepEdge d i rising dir age = if last ≠ 0 ∧ d.clk - age < last - 1 + 80 then D.ev pgStepin i else D) := by
  have counts : ¬ ((!bit (d.rd pgStepin (Reg.stepin.CFG + i)) 0) = true ∨ rising = bit (d.rd pgStepin (Reg.stepin.CFG + i)) 2 ∨
      age < runAge (fld (d.rd pgStepin (Reg.stepin.CFG + i)) 10 8) 1) := by
    simp only [bit_eq_getLsbD, on, edge, Bool.not_true, Bool.false_eq_true, false_or, Nat.not_lt]
    exact filtered
  rw [stepEdge]
  dsimp only
  rw [if_neg counts, bit_eq_getLsbD]
  rfl

/-- Beside the count only the event of edges that follow too closely can set (R102). -/
theorem stepEdge_regsOnly {d : Dev} {i : Nat} {rising : Bool} {age : Nat}
    (on : (d.rd pgStepin (Reg.stepin.CFG + i)).getLsbD 0 = true) (edge : rising ≠ (d.rd pgStepin (Reg.stepin.CFG + i)).getLsbD 2)
    (filtered : runAge (fld (d.rd pgStepin (Reg.stepin.CFG + i)) 10 8) 1 ≤ age) (dir : Bool) :
    (d.stepCounts i (d.clk - age) (if dir != (d.rd pgStepin (Reg.stepin.CFG + i)).getLsbD 1 then 1 else -1)).RegsOnly
      (stepEdge d i rising dir age) := by
  rw [stepEdge_counts on edge filtered dir]
  exact .ite (Dev.ev_regsOnly ..) (.refl _)

theorem Dev.stepCounts_countsAt (d : Dev) (i occ : Nat) (k : Int) : d.CountsAt i (d.stepCounts i occ k) :=
  ⟨rfl, fun _ _ => rfl, fun _ _ => rfl, fun _ hj => Tab.get_set_ne _ _ _ _ hj.symm⟩

/-! ### The statement -/

/-- Settles O51: by how far the levels turn; by the parts of an index event; by the store of a counted edge. -/
theorem countingInputs : Obligations.CountingInputs := by
  refine fun s dt i runs => ⟨fun a b => ?quad, fun age on gate filtered => ?index, fun rising dir age on edge filtered => ?step⟩
  case quad =>
    have turns := quadStep_turnsAt (s.dev.advance dt) i a b
    have counts := quadStep_counts (s.dev.advance dt) i a b
    have rest := (((s.dev.advance dt).quadSeen_countsAt i a b).trans turns.counts).rest
    have inv : (s.dev.advance dt).quadInv i = if (s.dev.rd pgQdec (Reg.qdec.CFG + i)).getLsbD 1 then -1 else 1 := by
      rw [Dev.quadInv, Dev.rd_advance, bit_eq_getLsbD]
    obtain ⟨still, forward, back, error, unknown, double⟩ := counts
    simp only [Dev.quadTurn, Dev.Moved, inv, bit_eq_getLsbD, Dev.rd_advance, Dev.rf_advance, Dev.advance_inp]
      at still forward back error unknown double
    refine ⟨_, s.does_inIslands dt _ runs, rest, ?_, ?_, ?_, still, fun on => ⟨forward on, back on, fun turn =>
      ⟨(error on turn).1, (error on turn).2, unknown on turn, double on turn⟩⟩⟩
    · rw [turns.qa]
      exact (maskSet_testBit ..).trans (if_pos rfl)
    · rw [turns.qb]
      exact (maskSet_testBit ..).trans (if_pos rfl)
    · have seen : ((s.dev.advance dt).quadSeen i a b).inp.stp = (s.dev.advance dt).inp.stp := rfl
      rw [turns.stp, seen, Dev.advance_inp]
  case index =>
    have passes : (s.dev.advance dt).IndexPasses i age := by
      rw [Dev.IndexPasses, Dev.rd_advance, Dev.advance_inp]
      exact ⟨on, gate, filtered⟩
    obtain ⟨bad, event⟩ := indexEvent_passes passes
    have next : exec (.indexEvent dt i age) s = _ := s.does_inIslands dt _ runs
    rw [event, Dev.rd_advance] at next
    obtain ⟨count, time, once⟩ := index_registers (s.dev.advance dt) i age (fld (s.dev.rd pgQdec (Reg.qdec.ICFG + i)) 33 32)
      ((s.dev.advance dt).indexLeft i (fld (s.dev.rd pgQdec (Reg.qdec.ICFG + i)) 33 32)) bad
    have regs := (((s.dev.advance dt).indexLatched_regsOnly i age).trans (Dev.indexChecked_regsOnly _ i bad)).trans
      (Dev.indexCleared_regsOnly _ i (fld (s.dev.rd pgQdec (Reg.qdec.ICFG + i)) 33 32))
    have counts := (regs.countsAt i).trans (Dev.indexCounts_countsAt _ i
      ((s.dev.advance dt).indexLeft i (fld (s.dev.rd pgQdec (Reg.qdec.ICFG + i)) 33 32)))
    refine ⟨_, next, counts.rest, ?_, time, Dev.ev_bit _ _ _ (by omega), ?_, ?_, once⟩
    · rw [count, Dev.advance_inp]
    · have raw := congrArg Inputs.raw (regs.inp.trans (s.dev.advance_inp dt))
      exact raw
    · rw [Dev.indexLeft, Dev.advance_inp]
      exact Tab.get_set_eq ..
  case step =>
    have next : exec (.stepEdge dt i rising dir age) s = _ := s.does_inIslands dt _ runs
    have on' : ((s.dev.advance dt).rd pgStepin (Reg.stepin.CFG + i)).getLsbD 0 = true := by rwa [Dev.rd_advance]
    have edge' : rising ≠ ((s.dev.advance dt).rd pgStepin (Reg.stepin.CFG + i)).getLsbD 2 := by rwa [Dev.rd_advance]
    have filtered' : runAge (fld ((s.dev.advance dt).rd pgStepin (Reg.stepin.CFG + i)) 10 8) 1 ≤ age := by rwa [Dev.rd_advance]
    have regs := stepEdge_regsOnly on' edge' filtered' dir
    have rest := (((s.dev.advance dt).stepCounts_countsAt i _ _).trans (regs.countsAt i)).rest
    have inp := regs.inp
    rw [Dev.rd_advance, Dev.stepCounts, Dev.setInp_inp, Dev.advance_inp] at inp
    refine ⟨_, next, rest, ?_, ?_, ?_, ?_, fun t last soon => ?_⟩
    · rw [inp]
    · rw [inp]
    · rw [inp]
      exact Tab.get_set_eq ..
    · rw [inp, Tab.get, Tab.look_put_eq]
      rfl
    · have close : (s.dev.advance dt).inp.stpLast.get i 0 ≠ 0 ∧
          (s.dev.advance dt).clk - age < (s.dev.advance dt).inp.stpLast.get i 0 - 1 + 80 := by
        rw [Dev.advance_inp, last]
        exact ⟨by omega, soon⟩
      rw [stepEdge_counts on' edge' filtered' dir, if_pos close]
      exact Dev.ev_bit _ _ _ (by omega)

end Sys2Proof.Machine
end

section
/-!
PROOF. Time capture: edge and interval records, their FIFO, and the start timeout (R376 to R381).
-/
namespace Sys2Proof.Machine

/-! ### Records (R379, R381) -/

/-- The leading fields of a record, whatever LOSS it carries. -/
theorem capRecord_fields (d : Dev) (interval coinc rising loss : Bool) {src : Nat} (small : src < 32) (age : Nat) (ival : Word) :
    (let w := setBit (capRecord d interval coinc rising src age ival).w0 33 loss
     fld w 35 34 = 2 + bnat interval ∧ fld w 32 31 = 2 * bnat coinc + bnat rising ∧ fld w 28 24 = src) := by
  have epoch : (d.stampAgo age).2 < 4096 := by
    rw [Dev.stampAgo]
    split
    · exact Nat.mod_lt _ (by decide)
    · exact fld_lt ..
  have bound : ∀ b, bnat b ≤ 1 := by decide
  have hi := bound interval
  have hc := bound coinc
  have hr := bound rising
  simp only [setBit, capRecord]
  rw [fld_setFld_ne _ _ _ _ _ _ (by decide) (by decide) (by decide) (by decide),
    fld_setFld_ne _ _ _ _ _ _ (by decide) (by decide) (by decide) (by decide),
    fld_setFld_ne _ _ _ _ _ _ (by decide) (by decide) (by decide) (by decide),
    fld_ofNat _ (by decide) (by decide), fld_ofNat _ (by decide) (by decide), fld_ofNat _ (by decide) (by decide)]
  simp only [nfld, Nat.shiftRight_eq_div_pow]
  omega

/-- A record becomes the last of the FIFO, with LOSS as it stands. -/
def Dev.fifoPut (d : Dev) (r : CapRecord) : Dev :=
  d.setInp { d.inp with fifo := d.inp.fifo ++ [{ r with w0 := setBit r.w0 33 d.inp.loss }], loss := false }

theorem captPut_room {d : Dev} (r : CapRecord) (room : d.inp.fifo.length < 256) :
    (d.fifoPut r).RegsOnly (captPut d r) := by
  rw [captPut]
  dsimp only
  rw [if_neg (Nat.not_le.mpr room)]
  exact .ite (Dev.ev_regsOnly ..) (.refl _)

/-! ### What a unit can do -/

/-- The device after some of the work on the transitions of one sample: of the inputs the FIFO has grown by at most `n`
records and pending starts may differ; no unit is configured otherwise. -/
structure Dev.Captures (n : Nat) (d d' : Dev) : Prop where
  clk : d'.clk = d.clk
  unit : ∀ u : Fin 16, d'.rd pgCapt (Reg.capt.UNIT + u) = d.rd pgCapt (Reg.capt.UNIT + u)
  cap : d'.inp.cap = d.inp.cap
  fifo : d.inp.fifo <+: d'.inp.fifo
  grows : d'.inp.fifo.length ≤ d.inp.fifo.length + n

theorem Dev.Captures.refl (d : Dev) : d.Captures 0 d := ⟨rfl, fun _ => rfl, rfl, List.prefix_rfl, le_rfl⟩

theorem Dev.Captures.trans {m n : Nat} {a b c : Dev} (h : a.Captures m b) (k : b.Captures n c) : a.Captures (m + n) c :=
  ⟨k.clk.trans h.clk, fun u => (k.unit u).trans (h.unit u), k.cap.trans h.cap, h.fifo.trans k.fifo, by
    have := h.grows
    have := k.grows
    omega⟩

theorem Dev.Captures.mono {m n : Nat} {d d' : Dev} (h : d.Captures m d') (le : m ≤ n) : d.Captures n d' :=
  { h with grows := h.grows.trans (Nat.add_le_add_left le _) }

/-- The registers that capture writes are not those of the units. -/
theorem capt_keys : ∀ u : Fin 16, ∀ r ∈ [Reg.PAGE_EVT, Reg.capt.LOSTCNT, Reg.capt.ORPHSCNT, Reg.capt.ORPHCNT, Reg.capt.COINCNT],
    key pgCapt r ≠ key pgCapt (Reg.capt.UNIT + u) := by decide

/-- A counter of CAPT with its event. -/
theorem rd_captCount (d : Dev) {off : Nat} (ev : Nat) {q o : Nat} (cnt : key pgCapt off ≠ key q o)
    (evt : key pgCapt Reg.PAGE_EVT ≠ key q o) : (captCount d off ev).rd q o = d.rd q o := by
  rw [captCount, Dev.rd_ev_ne _ _ evt, Dev.rd_incSat_ne _ _ _ cnt]

theorem captCount_regsOnly (d : Dev) (off ev : Nat) : d.RegsOnly (captCount d off ev) :=
  (d.incSat_regsOnly ..).trans (Dev.ev_regsOnly ..)

theorem Dev.RegsOnly.clk {d d' : Dev} (h : d.RegsOnly d') : d'.clk = d.clk := by
  obtain ⟨_, _, rfl⟩ := h
  rfl

theorem captCount_captures (d : Dev) {off : Nat} (ev : Nat)
    (counter : off ∈ [Reg.PAGE_EVT, Reg.capt.LOSTCNT, Reg.capt.ORPHSCNT, Reg.capt.ORPHCNT, Reg.capt.COINCNT]) :
    d.Captures 0 (captCount d off ev) := by
  have inp := (captCount_regsOnly d off ev).inp
  refine ⟨(captCount_regsOnly d off ev).clk, fun u => rd_captCount _ _ (capt_keys u _ counter) (capt_keys u _ (by simp)),
    by rw [inp], by rw [inp], by rw [inp, Nat.add_zero]⟩

/-- The pending starts change. -/
theorem Dev.setStarts_captures (d : Dev) (x : Tab Nat) : d.Captures 0 (d.setInp { d.inp with starts := x }) :=
  ⟨rfl, fun _ => rfl, rfl, List.prefix_rfl, le_rfl⟩

theorem captPut_captures (d : Dev) (r : CapRecord) : d.Captures 1 (captPut d r) := by
  rw [captPut]
  dsimp only
  have put : d.Captures 1 (d.fifoPut r) := ⟨rfl, fun _ => rfl, rfl, List.prefix_append .., by simp [Dev.fifoPut]⟩
  split
  · have counted := (captCount_captures d (off := Reg.capt.LOSTCNT) 1 (by simp)).mono (Nat.zero_le 1)
    exact ⟨counted.clk, counted.unit, rfl, List.prefix_rfl, Nat.le_succ _⟩
  · split
    · exact put.trans (n := 0) ⟨rfl, fun u => Dev.rd_ev_ne _ _ (capt_keys u _ (by simp)), rfl, List.prefix_rfl, le_rfl⟩
    · exact put

/-- Work that touches the pending start of unit `u` alone. -/
structure Dev.AtUnit (u n : Nat) (d d' : Dev) : Prop where
  captures : d.Captures n d'
  others : ∀ v, v ≠ u → d'.inp.starts.look v = d.inp.starts.look v

theorem Dev.AtUnit.trans {u m n : Nat} {a b c : Dev} (h : a.AtUnit u m b) (k : b.AtUnit u n c) : a.AtUnit u (m + n) c :=
  ⟨h.captures.trans k.captures, fun v hv => (k.others v hv).trans (h.others v hv)⟩

theorem Dev.AtUnit.refl (u : Nat) (d : Dev) : d.AtUnit u 0 d := ⟨.refl d, fun _ _ => rfl⟩

/-- The pending start of unit `u` is dropped. -/
def Dev.unstarted (d : Dev) (u : Nat) : Dev := d.setInp { d.inp with starts := d.inp.starts.erase u }

theorem Dev.unstarted_atUnit (d : Dev) (u : Nat) : d.AtUnit u 0 (d.unstarted u) :=
  ⟨d.setStarts_captures _, fun _ hv => Tab.look_erase_ne _ hv.symm⟩

theorem Dev.unstarted_look (d : Dev) (u : Nat) : (d.unstarted u).inp.starts.look u = none := Tab.look_erase_eq ..

theorem captPut_starts (d : Dev) (r : CapRecord) : (captPut d r).inp.starts = d.inp.starts := by
  rw [captPut]
  dsimp only
  split
  · rfl
  · split <;> rfl

theorem captPut_atUnit (u : Nat) (d : Dev) (r : CapRecord) : d.AtUnit u 1 (captPut d r) :=
  ⟨captPut_captures d r, fun _ _ => by rw [captPut_starts]⟩

theorem captCount_atUnit (u : Nat) (d : Dev) {off : Nat} (ev : Nat)
    (counter : off ∈ [Reg.PAGE_EVT, Reg.capt.LOSTCNT, Reg.capt.ORPHSCNT, Reg.capt.ORPHCNT, Reg.capt.COINCNT]) :
    d.AtUnit u 0 (captCount d off ev) :=
  ⟨captCount_captures d ev counter, fun _ _ => by rw [(captCount_regsOnly d off ev).inp]⟩

/-- A pending start that is discarded counts (R377, R378). -/
theorem orphanStart_some {d : Dev} {u a : Nat} (waits : d.inp.starts.look u = some a) :
    orphanStart d u = captCount (d.unstarted u) Reg.capt.ORPHSCNT 3 := by
  simp only [orphanStart, waits]
  rfl

theorem orphanStart_none {d : Dev} {u : Nat} (none : d.inp.starts.look u = none) : orphanStart d u = d := by
  simp only [orphanStart, none]

theorem orphanStart_atUnit (d : Dev) (u : Nat) : d.AtUnit u 0 (orphanStart d u) := by
  cases waits : d.inp.starts.look u with
  | none =>
    rw [orphanStart_none waits]
    exact .refl u d
  | some a =>
    rw [orphanStart_some waits]
    exact (d.unstarted_atUnit u).trans (captCount_atUnit u _ _ (by simp))

/-! ### START and STOP edges (R377) -/

theorem unitStart_atUnit (d : Dev) (u : Nat) (e : CapEdge) : d.AtUnit u 0 (unitStart d u e) := by
  have put : ∀ D : Dev, D.AtUnit u 0 (D.setInp { D.inp with starts := D.inp.starts.put u (d.clk - e.age) }) := fun D =>
    ⟨D.setStarts_captures _, fun _ hv => Tab.look_put_ne _ _ hv.symm⟩
  exact (orphanStart_atUnit d u).trans (put _)

theorem unitStart_look (d : Dev) (u : Nat) (e : CapEdge) : (unitStart d u e).inp.starts.look u = some (d.clk - e.age) :=
  Tab.look_put_eq ..

/-- A free interval draws a number. -/
theorem intervalOf_draws (d : Dev) (a b : Nat) : ∃ n, (intervalOf d a b).2 = { d with draws := n } := by
  rw [intervalOf]
  split <;> exact ⟨_, rfl⟩

theorem unitStop_some {d : Dev} {u a : Nat} (waits : d.inp.starts.look u = some a) (e : CapEdge) :
    ∃ D : Dev, ∃ n, D = { d.unstarted u with draws := n } ∧ unitStop d u e =
      captPut D (capRecord { d with draws := n } true false e.rising u e.age (intervalOf d a (d.clk - e.age)).1) := by
  obtain ⟨n, drawn⟩ := intervalOf_draws d a (d.clk - e.age)
  refine ⟨_, n, rfl, ?_⟩
  simp only [unitStop, waits, drawn]
  rfl

theorem unitStop_none {d : Dev} {u : Nat} (none : d.inp.starts.look u = none) (e : CapEdge) :
    unitStop d u e = captCount d Reg.capt.ORPHCNT 2 := by
  simp only [unitStop, none]

theorem unitStop_atUnit (d : Dev) (u : Nat) (e : CapEdge) : d.AtUnit u 1 (unitStop d u e) := by
  cases waits : d.inp.starts.look u with
  | none =>
    rw [unitStop_none waits]
    have counted := captCount_atUnit u d (off := Reg.capt.ORPHCNT) 2 (by simp)
    exact ⟨counted.captures.mono (Nat.zero_le 1), counted.others⟩
  | some a =>
    obtain ⟨D, n, rfl, stops⟩ := unitStop_some waits e
    rw [stops]
    have drawn : d.AtUnit u 0 { d.unstarted u with draws := n } :=
      { d.unstarted_atUnit u with captures := { (d.unstarted_atUnit u).captures with } }
    exact drawn.trans (captPut_atUnit u _ _)

theorem unitStop_look (d : Dev) (u : Nat) (e : CapEdge) : (unitStop d u e).inp.starts.look u = none := by
  cases waits : d.inp.starts.look u with
  | none => rw [unitStop_none waits, (captCount_regsOnly ..).inp, waits]
  | some a =>
    obtain ⟨D, n, rfl, stops⟩ := unitStop_some waits e
    rw [stops, captPut_starts]
    exact d.unstarted_look u

/-- A STOP that a start waits for leaves an interval record, where the FIFO has room. -/
theorem unitStop_record {d : Dev} {u a : Nat} (small : u < 16) (waits : d.inp.starts.look u = some a) {e : CapEdge}
    (before : a ≤ d.clk - e.age) (room : d.inp.fifo.length < 256) :
    ∃ r ∈ (unitStop d u e).inp.fifo, fld r.w0 35 34 = 3 ∧ fld r.w0 28 24 = u ∧ r.w3 = BitVec.ofNat 36 (d.clk - e.age - a) := by
  obtain ⟨D, n, rfl, stops⟩ := unitStop_some waits e
  have interval : (intervalOf d a (d.clk - e.age)).1 = BitVec.ofNat 36 (d.clk - e.age - a) := by rw [intervalOf, if_pos before]
  rw [interval] at stops
  obtain ⟨kind, -, source⟩ := capRecord_fields { d with draws := n } true false e.rising d.inp.loss (src := u) (by omega) e.age
    (BitVec.ofNat 36 (d.clk - e.age - a))
  rw [stops, (captPut_room (d := { d.unstarted u with draws := n }) _ room).inp]
  exact ⟨_, List.mem_append_right _ (List.mem_singleton.mpr rfl), kind, source, rfl⟩

/-! ### A unit on one transition (R377) -/

/-- UNIT `c` names the transition as its STOP, or as its START. -/
def stopsAt (c : Word) (e : CapEdge) : Bool := e.input.val == fld c 28 24 && edgeSel (fld c 21 20) e.rising
def startsAt (c : Word) (e : CapEdge) : Bool := e.input.val == fld c 12 8 && edgeSel (fld c 5 4) e.rising

theorem stopsAt_iff (c : Word) (e : CapEdge) :
    stopsAt c e = true ↔ fld c 28 24 = e.input ∧ edgeSel (fld c 21 20) e.rising = true := by
  rw [stopsAt, Bool.and_eq_true, beq_iff_eq, eq_comm]

theorem startsAt_iff (c : Word) (e : CapEdge) :
    startsAt c e = true ↔ fld c 12 8 = e.input ∧ edgeSel (fld c 5 4) e.rising = true := by
  rw [startsAt, Bool.and_eq_true, beq_iff_eq, eq_comm]

section unit
variable {d : Dev} {u : Nat} {e : CapEdge}

theorem unitAct_off (off : bit (d.rd pgCapt (Reg.capt.UNIT + u)) 35 = false) : unitAct d u [e] = d := by
  simp [unitAct, off]

theorem unitAct_none (stop : stopsAt (d.rd pgCapt (Reg.capt.UNIT + u)) e = false)
    (start : startsAt (d.rd pgCapt (Reg.capt.UNIT + u)) e = false) : unitAct d u [e] = d := by
  rw [stopsAt] at stop
  rw [startsAt] at start
  simp [unitAct, List.find?, stop, start]

variable (on : bit (d.rd pgCapt (Reg.capt.UNIT + u)) 35 = true)
include on

theorem unitAct_stop (stop : stopsAt (d.rd pgCapt (Reg.capt.UNIT + u)) e = true)
    (start : startsAt (d.rd pgCapt (Reg.capt.UNIT + u)) e = false) : unitAct d u [e] = unitStop d u e := by
  rw [stopsAt] at stop
  rw [startsAt] at start
  simp only [unitAct, on, List.find?, stop, start, Bool.not_true, Bool.false_eq_true, if_false]

theorem unitAct_start (stop : stopsAt (d.rd pgCapt (Reg.capt.UNIT + u)) e = false)
    (start : startsAt (d.rd pgCapt (Reg.capt.UNIT + u)) e = true) : unitAct d u [e] = unitStart d u e := by
  rw [stopsAt] at stop
  rw [startsAt] at start
  simp only [unitAct, on, List.find?, stop, start, Bool.not_true, Bool.false_eq_true, if_false]

theorem unitAct_both (stop : stopsAt (d.rd pgCapt (Reg.capt.UNIT + u)) e = true)
    (start : startsAt (d.rd pgCapt (Reg.capt.UNIT + u)) e = true) : unitAct d u [e] = unitStart (unitStop d u e) u e := by
  rw [stopsAt] at stop
  rw [startsAt] at start
  simp only [unitAct, on, List.find?, stop, start, Bool.not_true, Bool.false_eq_true, if_false, if_true]

end unit

/-- What a unit that is enabled has made of transition `e`, as the FIFO had room. -/
structure Dev.UnitActed (u : Nat) (e : CapEdge) (d d' : Dev) : Prop where
  start : startsAt (d.rd pgCapt (Reg.capt.UNIT + u)) e = true → d'.inp.starts.look u = some (d.clk - e.age)
  stop : stopsAt (d.rd pgCapt (Reg.capt.UNIT + u)) e = true → startsAt (d.rd pgCapt (Reg.capt.UNIT + u)) e = false →
    d'.inp.starts.look u = none
  record : stopsAt (d.rd pgCapt (Reg.capt.UNIT + u)) e = true → ∀ a, d.inp.starts.look u = some a → a ≤ d.clk - e.age →
    ∃ r ∈ d'.inp.fifo, fld r.w0 35 34 = 3 ∧ fld r.w0 28 24 = u ∧ r.w3 = BitVec.ofNat 36 (d.clk - e.age - a)

theorem unitAct_atUnit (d : Dev) (u : Nat) (e : CapEdge) : d.AtUnit u 1 (unitAct d u [e]) := by
  have same : d.AtUnit u 1 d := ⟨(Dev.Captures.refl d).mono (Nat.zero_le 1), fun _ _ => rfl⟩
  have started := unitStart_atUnit d u e
  cases on : bit (d.rd pgCapt (Reg.capt.UNIT + u)) 35
  · rwa [unitAct_off on]
  · cases stop : stopsAt (d.rd pgCapt (Reg.capt.UNIT + u)) e <;> cases start : startsAt (d.rd pgCapt (Reg.capt.UNIT + u)) e
    · rwa [unitAct_none stop start]
    · rw [unitAct_start on stop start]
      exact ⟨started.captures.mono (Nat.zero_le 1), started.others⟩
    · rw [unitAct_stop on stop start]
      exact unitStop_atUnit d u e
    · rw [unitAct_both on stop start]
      exact (unitStop_atUnit d u e).trans (unitStart_atUnit _ u e)

theorem unitAct_acted {d : Dev} {u : Nat} (small : u < 16) (e : CapEdge) (room : d.inp.fifo.length < 256)
    (on : bit (d.rd pgCapt (Reg.capt.UNIT + u)) 35 = true) : d.UnitActed u e (unitAct d u [e]) := by
  cases stop : stopsAt (d.rd pgCapt (Reg.capt.UNIT + u)) e <;> cases start : startsAt (d.rd pgCapt (Reg.capt.UNIT + u)) e
  · exact ⟨by simp [start], by simp [stop], by simp [stop]⟩
  · rw [unitAct_start on stop start]
    exact ⟨fun _ => unitStart_look d u e, by simp [stop], by simp [stop]⟩
  · rw [unitAct_stop on stop start]
    exact ⟨by simp [start], fun _ _ => unitStop_look d u e, fun _ _ waits before => unitStop_record small waits before room⟩
  · rw [unitAct_both on stop start]
    refine ⟨fun _ => ?_, by simp [start], fun _ a waits before => ?_⟩
    · rw [unitStart_look, (unitStop_atUnit d u e).captures.clk]
    · obtain ⟨r, mem, fields⟩ := unitStop_record small waits before room
      exact ⟨r, (unitStart_atUnit (unitStop d u e) u e).captures.fifo.subset mem, fields⟩

/-! ### The units in turn -/

theorem unitActs_captures (d : Dev) (e : CapEdge) (n : Nat) : d.Captures n (d.each n fun d u => unitAct d u [e]) := by
  induction n with
  | zero => exact .refl d
  | succ n ih =>
    rw [Dev.each_succ]
    exact ih.trans (unitAct_atUnit _ n e).captures

/-- A unit's pending start waits until its turn, and stays as it leaves it. -/
theorem unitActs_look (d : Dev) (e : CapEdge) (n u : Nat) :
    (d.each n fun d u => unitAct d u [e]).inp.starts.look u =
      if u < n then (unitAct (d.each u fun d u => unitAct d u [e]) u [e]).inp.starts.look u else d.inp.starts.look u := by
  induction n with
  | zero => rfl
  | succ n ih =>
    rw [Dev.each_succ]
    by_cases turn : u = n
    · rw [turn, if_pos (Nat.lt_succ_self n)]
    · rw [(unitAct_atUnit _ n e).others u turn, ih]
      by_cases h : u < n
      · rw [if_pos h, if_pos (by omega)]
      · rw [if_neg h, if_neg (by omega)]

theorem unitActs_fifo (d : Dev) (e : CapEdge) {u n : Nat} (h : u < n) :
    (unitAct (d.each u fun d u => unitAct d u [e]) u [e]).inp.fifo <+: (d.each n fun d u => unitAct d u [e]).inp.fifo := by
  induction n with
  | zero => cases h
  | succ n ih =>
    rw [Dev.each_succ]
    by_cases turn : u = n
    · rw [turn]
    · exact (ih (by omega)).trans (unitAct_atUnit _ n e).captures.fifo

/-- All sixteen units on one transition, where the FIFO has room for a record of each. -/
theorem unitActs_acted {d : Dev} {u : Nat} (small : u < 16) (e : CapEdge) (room : d.inp.fifo.length + 16 ≤ 256)
    (on : bit (d.rd pgCapt (Reg.capt.UNIT + u)) 35 = true) : d.UnitActed u e (d.each 16 fun d u => unitAct d u [e]) := by
  have before := unitActs_captures d e u
  have unit := before.unit ⟨u, small⟩
  have look := unitActs_look d e u u
  have grows := before.grows
  rw [if_neg (lt_irrefl u)] at look
  obtain ⟨start, stop, record⟩ := unitAct_acted small e (d := d.each u fun d u => unitAct d u [e]) (by omega) (by rw [unit, on])
  rw [unit] at start stop record
  rw [before.clk] at start record
  rw [look] at record
  have after := unitActs_look d e 16 u
  rw [if_pos small] at after
  refine ⟨fun h => after.trans (start h), fun h h' => after.trans (stop h h'), fun h a waits le => ?_⟩
  obtain ⟨r, mem, fields⟩ := record h a waits le
  exact ⟨r, (unitActs_fifo d e small).subset mem, fields⟩

/-! ### One transition (R376, R377) -/

/-- The override pointers follow within their groves (R197). -/
theorem spinSteps_inp (d : Dev) (e : CapEdge) : (spinSteps d e).inp = d.inp := by
  refine Dev.each_keeps Dev.inp _ (fun d g => ?_) d _
  dsimp only
  split
  · refine (Dev.Within.each (g := g) d 16 _ fun d a ha => ?_).inp
    split
    · exact ptrStep_within d 1 ha
    · exact .refl g d
  · rfl

/-- The filtered level of the input is taken over. -/
def Dev.capSeen (d : Dev) (e : CapEdge) : Dev := d.setInp { d.inp with cap := maskSet d.inp.cap e.input e.rising }

theorem capEdges_inp {d : Dev} {e : CapEdge} (valid : capValid d e = true) :
    (capEdges d [e]).inp = ((edgeRecord (d.capSeen e) e).each 16 fun d u => unitAct d u [e]).inp := by
  have only : [e].filter (capValid d) = [e] := by simp [valid]
  rw [capEdges]
  dsimp only
  rw [only]
  exact spinSteps_inp _ e

theorem edgeRecord_captures (d : Dev) (e : CapEdge) : d.Captures 1 (edgeRecord d e) := by
  rw [edgeRecord]
  split
  · exact captPut_captures d _
  · exact (Dev.Captures.refl d).mono (Nat.zero_le 1)

theorem edgeRecord_starts (d : Dev) (e : CapEdge) : (edgeRecord d e).inp.starts = d.inp.starts := by
  rw [edgeRecord]
  split
  · exact captPut_starts d _
  · rfl

/-- The record of an edge that CFG selects (R376, R379). -/
theorem edgeRecord_record {d : Dev} {e : CapEdge} (room : d.inp.fifo.length < 256)
    (selected : edgeSel (d.rf pgCapt (Reg.capt.CFG + e.input) 5 4) e.rising = true) :
    ∃ r, (edgeRecord d e).inp.fifo = d.inp.fifo ++ [r] ∧ fld r.w0 35 34 = 2 ∧ fld r.w0 32 31 = bnat e.rising ∧
      fld r.w0 28 24 = e.input ∧ r.w1 = BitVec.ofNat 36 (d.stampAgo e.age).1 ∧
      r.w2 = BitVec.ofNat 36 ((d.stampAgo e.age).1 / 2 ^ 36) := by
  obtain ⟨kind, edge, source⟩ := capRecord_fields d false false e.rising d.inp.loss e.input.isLt e.age 0
  rw [edgeRecord, if_pos selected, (captPut_room _ room).inp]
  exact ⟨_, rfl, kind, edge.trans (Nat.zero_add _), source, rfl, rfl⟩

theorem atInstant_eq (t : Nat) (f : Dev → Dev) (d : Dev) : atInstant t f d = f (d.advanceTo t) := rfl
theorem startTimeout_eq (d : Dev) (u : Nat) : startTimeout d u = orphanStart d u := rfl

/-- A start that has waited its time out is discarded then (R378). -/
theorem startExpires_some {d : Dev} {u a : Nat} (waits : d.inp.starts.look u = some a) :
    startExpires d u = captCount ((d.advanceTo (a + (2 ^ 36 - 1))).unstarted u) Reg.capt.ORPHSCNT 3 := by
  have expires : startExpires d u = atInstant (a + (2 ^ 36 - 1)) (fun d => startTimeout d u) d := by
    rw [startExpires, waits]
  rw [expires, atInstant_eq, startTimeout_eq]
  exact orphanStart_some (by rw [Dev.advanceTo, Dev.advance_inp, waits])

/-- What the discarded start leaves, at any instant `t`. -/
theorem orphaned_at (d : Dev) (u t : Nat) :
    (let D := captCount ((d.advanceTo t).unstarted u) Reg.capt.ORPHSCNT 3
     D.clk = max d.clk t ∧ D.inp = { d.inp with starts := d.inp.starts.erase u } ∧
     (D.rd pgCapt Reg.PAGE_EVT).getLsbD 3 = true ∧
     D.rf pgCapt Reg.capt.ORPHSCNT 23 0 = min (2 ^ 24 - 1) (d.rf pgCapt Reg.capt.ORPHSCNT 23 0 + 1)) := by
  refine ⟨?_, ?_, Dev.ev_bit _ _ _ (by decide), ?_⟩
  · rw [(captCount_regsOnly ..).clk]
    exact d.advanceTo_clk_eq_max t
  · rw [(captCount_regsOnly ..).inp, Dev.unstarted, Dev.setInp_inp, Dev.advanceTo, Dev.advance_inp]
  · rw [captCount, Dev.rf_ev_of_ne _ _ (by decide), Dev.rf_incSat_eq _ _ _ _ _ (by decide) (by decide), Dev.unstarted,
      Dev.rf_setInp, Dev.advanceTo, Dev.rf_advance]

/-! ### FLUSH (R380) -/

def captCtrlFields : List RegField := [bf 0 0 .wo 0, bf 1 1 .wo 0]

theorem captCtrl_reg : LowReg .capt pgCapt Reg.PAGE_CTRL captCtrlFields :=
  ⟨rfl, by decide, by decide, rfl, rfl, by decide, by decide, by decide, rfl, rfl, rfl, rfl⟩

theorem actWrite_captFlush (d : Dev) (req : Nat) (direct : Bool) (old m : Word) {wo : Word} (clr : Word)
    (clear : bit wo 0 = false) (flush : bit wo 1 = true) :
    actWrite d .capt pgCapt Reg.PAGE_CTRL req direct old m wo clr = captFlush d := by
  have acts : actWrite d .capt pgCapt Reg.PAGE_CTRL req direct old m wo clr = actCapt d Reg.PAGE_CTRL wo := rfl
  rw [acts, actCapt, if_pos rfl]
  simp [clear, flush]

/-! ### The statement -/

/-- Settles O52: one transition by its record and the units in turn; the timeout, the FIFO's head, and its flush. -/
theorem timeCapture : Obligations.TimeCapture := by
  refine fun s dt => ⟨fun e runs valid room => ?edge, fun u a runs waits => ?timeout,
    fun q pages => ⟨fun r rest head => ?read, fun empty => ?none⟩, fun w takes direct flush clear => ?flush⟩
  case edge =>
    have valid' : capValid (s.dev.advance dt) e = true := by
      rw [capValid, Dev.advance_inp, Dev.rf_advance]
      exact valid
    have recorded := edgeRecord_captures ((s.dev.advance dt).capSeen e) e
    have fifo : ((s.dev.advance dt).capSeen e).inp.fifo = s.dev.inp.fifo := by
      rw [Dev.capSeen, Dev.setInp_inp, Dev.advance_inp]
    have starts : ((s.dev.advance dt).capSeen e).inp.starts = s.dev.inp.starts := by
      rw [Dev.capSeen, Dev.setInp_inp, Dev.advance_inp]
    have grows := recorded.grows
    have units := unitActs_captures (edgeRecord ((s.dev.advance dt).capSeen e) e) e 16
    rw [fifo] at grows
    refine ⟨_, s.does_inIslands dt _ runs, ?_, fun selected => ?_, fun u on => ?_⟩
    · rw [capEdges_inp valid', units.cap, recorded.cap]
      exact (maskSet_testBit ..).trans (if_pos rfl)
    · obtain ⟨r, put, fields⟩ := edgeRecord_record (d := (s.dev.advance dt).capSeen e) (e := e) (by rw [fifo]; omega)
        (by rw [← s.dev.rf_advance dt] at selected; exact selected)
      obtain ⟨more, rest⟩ := units.fifo
      rw [put, fifo, List.append_assoc] at rest
      rw [capEdges_inp valid']
      exact ⟨r, more, rest.symm, fields⟩
    · have unit : (edgeRecord ((s.dev.advance dt).capSeen e) e).rd pgCapt (Reg.capt.UNIT + u) =
      s.dev.rd pgCapt (Reg.capt.UNIT + u) :=
        (recorded.unit u).trans (s.dev.rd_advance dt _ _)
      obtain ⟨start, stop, record⟩ := unitActs_acted u.isLt e (d := edgeRecord ((s.dev.advance dt).capSeen e) e) (by omega)
        (by rw [unit, bit_eq_getLsbD, on])
      rw [unit] at start stop record
      rw [recorded.clk] at start record
      rw [edgeRecord_starts, starts] at record
      rw [capEdges_inp valid']
      exact ⟨fun h => start ((startsAt_iff ..).mpr h), fun h h' => stop ((stopsAt_iff ..).mpr h)
        (Bool.eq_false_iff.mpr fun h => h' ((startsAt_iff ..).mp h)), fun a h => record ((stopsAt_iff ..).mpr h) a⟩
  case timeout =>
    have next : exec (.startTimeout u) s = _ := s.does_inIslands 0 _ runs
    rw [Dev.advance_zero, startExpires_some waits] at next
    exact ⟨_, next, orphaned_at s.dev u _⟩
  case read =>
    have next : exec (.fifo0Read dt q) s = _ := State.does_inPorts pages dt _
    rw [fifoRead, Dev.advance_inp, head] at next
    exact next
  case none =>
    have next : exec (.fifo0Read dt q) s = _ := State.does_inPorts pages dt _
    rw [fifoRead, Dev.advance_inp, empty] at next
    exact next
  case flush =>
    obtain ⟨S, stores, -, next⟩ := captCtrl_reg.acceptedCommon (by decide) direct takes
    have flush' := (s.bit_forms_wo pgCapt Reg.PAGE_CTRL w (fs := captCtrlFields) (i := 1) rfl).trans flush
    have clear' := (s.bit_forms_wo pgCapt Reg.PAGE_CTRL w (fs := captCtrlFields) (i := 0) rfl).trans clear
    rw [actWrite_captFlush _ _ _ _ _ _ clear' flush', captFlush, stores.inp, Dev.advance_inp] at next
    exact ⟨S, stores, next⟩

end Sys2Proof.Machine
end

section
/-!
PROOF. What the position journal leaves alone (R421 to R427).
-/
namespace Sys2Proof.Machine

/-- `d'` differs from `d` in the journal, the board's memory, registers of XMEM and the count of free values only. -/
structure Dev.JournalOnly (d d' : Dev) : Prop where
  frame : ∃ jr fl draws regs rose, d' = { d with jr := jr, fl := fl, draws := draws, regs := regs, rose := rose }
  rd : ∀ p off, p ≠ pgXmem → off < 1024 → d'.rd p off = d.rd p off

theorem Dev.JournalOnly.refl (d : Dev) : d.JournalOnly d := ⟨⟨d.jr, d.fl, d.draws, d.regs, d.rose, rfl⟩, fun _ _ _ _ => rfl⟩

theorem Dev.JournalOnly.trans {a b c : Dev} (h : a.JournalOnly b) (k : b.JournalOnly c) : a.JournalOnly c := by
  obtain ⟨⟨_, _, _, _, _, rfl⟩, hrd⟩ := h
  obtain ⟨⟨jr, fl, draws, regs, rose, rfl⟩, krd⟩ := k
  exact ⟨⟨jr, fl, draws, regs, rose, rfl⟩, fun p off hp ho => (krd p off hp ho).trans (hrd p off hp ho)⟩

theorem Dev.JournalOnly.ite {d a b : Dev} {c : Prop} [Decidable c] (h : d.JournalOnly a) (k : d.JournalOnly b) :
    d.JournalOnly (if c then a else b) := by
  split <;> assumption

theorem Dev.JournalOnly.mem {d d' : Dev} (h : d.JournalOnly d') : d'.mem = d.mem := by
  obtain ⟨⟨_, _, _, _, _, rfl⟩, -⟩ := h
  rfl

theorem Dev.JournalOnly.of_rd {d d' : Dev} (jr : Journal) (fl : Flash) (draws : Nat)
    (frame : d' = { d with jr := jr, fl := fl, draws := draws }) : d.JournalOnly d' := by
  subst frame
  exact ⟨⟨jr, fl, draws, d.regs, d.rose, rfl⟩, fun _ _ _ _ => rfl⟩

theorem Dev.setJr_journalOnly (d : Dev) (j : Journal) : d.JournalOnly (d.setJr j) := .of_rd j d.fl d.draws rfl
theorem Dev.setFl_journalOnly (d : Dev) (f : Flash) : d.JournalOnly (d.setFl f) := .of_rd d.jr f d.draws rfl
theorem Dev.draw_journalOnly (d : Dev) : d.JournalOnly d.draw.2 := .of_rd d.jr d.fl _ rfl

theorem key_ne_xmem {p off o : Nat} (hp : p ≠ pgXmem) (ho : off < 1024) (hx : o < 1024) : key pgXmem o ≠ key p off :=
  fun same => hp ((key_inj hx ho).mp same).1.symm

theorem Dev.wr_journalOnly (d : Dev) {o : Nat} (ho : o < 1024) (w : Word) : d.JournalOnly (d.wr pgXmem o w) :=
  ⟨⟨d.jr, d.fl, d.draws, _, d.rose, rfl⟩, fun _ _ hp h => Dev.rd_wr_ne _ _ (key_ne_xmem hp h ho)⟩

theorem Dev.xw_journalOnly (d : Dev) {o : Nat} (ho : o < 1024) (hi lo v : Nat) : d.JournalOnly (d.xw o hi lo v) :=
  d.wr_journalOnly ho _

theorem Dev.ev_journalOnly (d : Dev) (i : Nat) : d.JournalOnly (d.ev pgXmem i) :=
  ⟨⟨d.jr, d.fl, d.draws, _, _, rfl⟩, fun _ _ hp h => Dev.rd_ev_ne _ _ (key_ne_xmem hp h (by decide))⟩

theorem jErase_journalOnly (d : Dev) (x : Nat) : d.JournalOnly (jErase d x) := .ite (.refl d) (d.setJr_journalOnly _)

theorem jPlace_journalOnly (d : Dev) (x k : Nat) : d.JournalOnly (jPlace d x k) := by
  rw [jPlace]
  split
  · exact d.setJr_journalOnly _
  · dsimp only
    split
    · exact (d.setJr_journalOnly _).trans (jErase_journalOnly ..)
    · exact d.setJr_journalOnly _

theorem jStart_journalOnly (d : Dev) (final : Bool) (ws : List Word) : d.JournalOnly (jStart d final ws) := by
  rw [jStart]
  split
  · exact d.setJr_journalOnly _
  · exact .ite (.refl d) (d.setJr_journalOnly _)

theorem opEnd_journalOnly (d : Dev) (r : Nat) : d.JournalOnly (opEnd d r) :=
  ((d.setJr_journalOnly _).trans (Dev.xw_journalOnly _ (by decide) _ _ _)).trans (Dev.ev_journalOnly ..)

theorem opSpoil_journalOnly (d : Dev) (o : FlashOp) : d.JournalOnly (opSpoil d o) := by
  unfold opSpoil
  dsimp only
  split
  · exact d.draw_journalOnly.trans (Dev.setFl_journalOnly ..)
  · exact d.draw_journalOnly.trans (Dev.setFl_journalOnly ..)
  · exact d.draw_journalOnly

theorem recordAbandon_journalOnly (d : Dev) : d.JournalOnly (recordAbandon d) := by
  unfold recordAbandon
  split
  · exact .refl d
  · have spoiled : ∀ f j, d.JournalOnly ((d.draw.2.setFl f).setJr j) := fun f j =>
      (d.draw_journalOnly.trans (Dev.setFl_journalOnly ..)).trans (Dev.setJr_journalOnly ..)
    dsimp only
    split
    · exact (spoiled _ _).trans (jPlace_journalOnly ..)
    · exact spoiled _ _

theorem finalRecord_journalOnly (d : Dev) : d.JournalOnly (finalRecord d) := by
  unfold finalRecord
  split
  · exact .refl d
  · have abandoned := recordAbandon_journalOnly d
    dsimp only
    generalize recordAbandon d = d1 at abandoned ⊢
    have ended : d.JournalOnly (match d1.jr.op with
        | some o => opEnd (opSpoil d1 o) 3
        | none => d1) := by
      split
      · exact (abandoned.trans (opSpoil_journalOnly ..)).trans (opEnd_journalOnly ..)
      · exact abandoned
    have taken := fun j => ended.trans (Dev.setJr_journalOnly _ j)
    split
    · exact (taken _).trans (jStart_journalOnly ..)
    · split
      · exact (taken _).trans (Dev.setJr_journalOnly ..)
      · exact taken _

/-- In normal mode, with nothing in progress, the final record goes to the next place (R424). -/
theorem finalRecord_starts {d : Dev} {x k : Nat} (first : d.jr.finalDone = false) (loaded : d.jr.loading = false)
    (on : d.jen = true) (mode : d.jmode = 1) (writing : d.jr.writing = none) (op : d.jr.op = none)
    (pos : d.jr.pos = some (x, k)) :
    ∃ ws, (finalRecord d).jr.writing = some ⟨true, ws, d.jbase + x, k⟩ ∧ ws.length = d.recordLen ∧
      (finalRecord d).jr.finalDone = true := by
  have idle : recordAbandon d = d := by rw [recordAbandon, writing]
  simp only [finalRecord, first, loaded, on, mode, idle, op, jStart, Dev.setJr, pos]
  refine ⟨_, rfl, ?_, rfl⟩
  simp only [journalSeal, journalWords, journalBody, Dev.recordLen, listSet_eq_set, List.length_append, List.length_set,
    List.length_map, List.length_range, List.length_cons, List.length_nil]
  omega

end Sys2Proof.Machine
end

section
/-!
PROOF. Shedding levels and power failure (R391 to R398, R424).
-/
namespace Sys2Proof.Machine

/-! ### Level entries -/

/-- What a level change asks for, `n` levels entered: the levels, SHEDCNT's field `hi:lo` and event `i`. -/
def Dev.levelsEntered (d : Dev) (l : Levels) (hi lo n i : Nat) : Dev := (shedCount (setLevels d l) hi lo n).ev pgSupv i

/-- `n` saturating steps of a field. -/
theorem Dev.rf_each_incSat (d : Dev) (p off : Nat) {hi lo : Nat} (hl : lo ≤ hi) (hh : hi < 36) (n : Nat) :
    (d.each n (fun d _ => d.incSat p off hi lo)).rf p off hi lo = min (2 ^ (hi - lo + 1) - 1) (d.rf p off hi lo + n) := by
  induction n with
  | zero =>
    have inside : d.rf p off hi lo < 2 ^ (hi - lo + 1) := fld_lt ..
    exact (Nat.min_eq_right (Nat.le_sub_one_of_lt inside)).symm
  | succ n ih =>
    rw [Dev.each_succ, Dev.rf_incSat_eq _ _ _ _ _ hl hh, ih]
    omega

theorem Dev.each_regsOnly (d : Dev) (n : Nat) {f : Dev → Nat → Dev} (h : ∀ e x, Dev.RegsOnly e (f e x)) :
    d.RegsOnly (d.each n f) := by
  induction n with
  | zero => exact .refl d
  | succ n ih =>
    rw [Dev.each_succ]
    exact ih.trans (h ..)

theorem shedCount_regsOnly (d : Dev) (hi lo n : Nat) : d.RegsOnly (shedCount d hi lo n) :=
  d.each_regsOnly n fun e _ => e.incSat_regsOnly ..

/-- `d'` is `d` after a change of level: the levels stand at `l`, `n` entries are counted and event `i` is set. -/
structure Dev.LevelMoved (l : Levels) (hi lo n i : Nat) (d d' : Dev) : Prop where
  sup : d'.sup = { d.sup with lev := l, changes := d.sup.changes ++ [(d.clk, l)] }
  variant : d'.variant = d.variant
  clk : d'.clk = d.clk
  counts : d'.rf pgSupv Reg.supv.SHEDCNT hi lo = min (2 ^ (hi - lo + 1) - 1) (d.rf pgSupv Reg.supv.SHEDCNT hi lo + n)
  event : (d'.rd pgSupv Reg.PAGE_EVT).getLsbD i = true

theorem Dev.levelsEntered_moved (d : Dev) (l : Levels) {hi lo i : Nat} (hl : lo ≤ hi) (hh : hi < 36) (n : Nat) (h : i < 36) :
    Dev.LevelMoved l hi lo n i d (d.levelsEntered l hi lo n i) := by
  have counted : (d.levelsEntered l hi lo n i).rf pgSupv Reg.supv.SHEDCNT hi lo =
      min (2 ^ (hi - lo + 1) - 1) ((setLevels d l).rf pgSupv Reg.supv.SHEDCNT hi lo + n) := by
    rw [Dev.levelsEntered, Dev.rf_ev_of_ne _ _ (by decide), shedCount, Dev.rf_each_incSat _ _ _ hl hh]
  have event : ((d.levelsEntered l hi lo n i).rd pgSupv Reg.PAGE_EVT).getLsbD i = true := Dev.ev_bit _ _ _ h
  have only : (setLevels d l).RegsOnly (d.levelsEntered l hi lo n i) := (shedCount_regsOnly ..).trans (Dev.ev_regsOnly ..)
  generalize d.levelsEntered l hi lo n i = d' at *
  obtain ⟨_, _, rfl⟩ := only
  exact ⟨rfl, rfl, rfl, counted, event⟩

/-- What R464 asks of the Blotter as a shedding level comes into force. -/
def Dev.BlotStopped (d : Dev) : Prop :=
  d.rf pgBlot Reg.blot.CTRL 1 0 = 0 ∧ d.bl.shed = true ∧ (d.rd pgBlot Reg.PAGE_EVT).getLsbD 2 = true

/-- Of the registers the stop changes CTRL and the events of the Blotter alone. -/
theorem blotShed_rd (d : Dev) {p off : Nat} (evt : key pgBlot Reg.PAGE_EVT ≠ key p off) :
    (blotShed d).rd p off = (d.wf pgBlot Reg.blot.CTRL 1 0 0).rd p off := by
  rw [blotShed, Dev.rd_ev_ne _ _ evt]
  rfl

theorem blotShed_rd_ne (d : Dev) {p off : Nat} (evt : key pgBlot Reg.PAGE_EVT ≠ key p off)
    (ctrl : key pgBlot Reg.blot.CTRL ≠ key p off) : (blotShed d).rd p off = d.rd p off :=
  (blotShed_rd d evt).trans (Dev.rd_wf_ne _ _ _ _ ctrl)

theorem blotShed_stopped (d : Dev) : (blotShed d).BlotStopped := by
  refine ⟨?_, rfl, Dev.ev_bit _ _ _ (by decide)⟩
  rw [Dev.rf, blotShed_rd d (by decide)]
  exact Dev.rf_wf_eq _ _ _ _ _ _ (by decide) (by decide)

/-- The Blotter's stop leaves a level change as it is. -/
theorem Dev.LevelMoved.blotShed {l : Levels} {hi lo n i : Nat} {d d' : Dev} (h : Dev.LevelMoved l hi lo n i d d') :
    Dev.LevelMoved l hi lo n i d (blotShed d') where
  sup := h.sup
  variant := h.variant
  clk := h.clk
  counts := by rw [Dev.rf, blotShed_rd_ne _ (by decide) (by decide), ← Dev.rf, h.counts]
  event := by rw [blotShed_rd_ne _ (by decide) (by decide), h.event]

/-- A level change, with the Blotter's stop where the level asks for it. -/
def Dev.levelsEnteredStop (d : Dev) (l : Levels) (hi lo n i : Nat) (stop : Prop) [Decidable stop] : Dev :=
  if stop then blotShed (d.levelsEntered l hi lo n i) else d.levelsEntered l hi lo n i

theorem Dev.levelsEnteredStop_moved (d : Dev) (l : Levels) {hi lo i : Nat} (hl : lo ≤ hi) (hh : hi < 36) (n : Nat)
    (h : i < 36) (stop : Prop) [Decidable stop] :
    Dev.LevelMoved l hi lo n i d (d.levelsEnteredStop l hi lo n i stop) ∧
      (stop → (d.levelsEnteredStop l hi lo n i stop).BlotStopped) := by
  have moved := d.levelsEntered_moved l hl hh n h
  by_cases stops : stop
  · rw [Dev.levelsEnteredStop, if_pos stops]
    exact ⟨moved.blotShed, fun _ => blotShed_stopped _⟩
  · rw [Dev.levelsEnteredStop, if_neg stops]
    exact ⟨moved, fun h => absurd h stops⟩

theorem setLevels_groves (d : Dev) (l : Levels) : (setLevels d l).groves = d.groves := rfl

theorem Dev.RegsOnly.groves {d d' : Dev} (h : d.RegsOnly d') : d'.groves = d.groves := by
  obtain ⟨_, _, rfl⟩ := h
  rfl

theorem Dev.levelsEntered_groves (d : Dev) (l : Levels) (hi lo n i : Nat) : (d.levelsEntered l hi lo n i).groves = d.groves :=
  ((shedCount_regsOnly ..).trans (Dev.ev_regsOnly ..)).groves.trans (setLevels_groves d l)

theorem blotShed_groves (d : Dev) : (blotShed d).groves = d.groves := rfl

theorem Dev.levelsEnteredStop_groves (d : Dev) (l : Levels) (hi lo n i : Nat) (stop : Prop) [Decidable stop] :
    (d.levelsEnteredStop l hi lo n i stop).groves = d.groves := by
  rw [Dev.levelsEnteredStop, apply_ite Dev.groves, blotShed_groves, ite_self, Dev.levelsEntered_groves]

/-! ### Trips of every grove, with the final record before them -/

/-- What the final record and the trips of shedding leave alone, and what they bring. -/
structure Dev.Sheds (d d' : Dev) : Prop where
  sup : d'.sup = d.sup
  pins : d'.pins = d.pins
  bl : d'.bl = d.bl
  clk : d'.clk = d.clk
  rd : ∀ p off, p < 0x100 → p ≠ pgXmem → off < 1024 → d'.rd p off = d.rd p off
  jr : d'.jr = (finalRecord d).jr
  trips : ∀ g, g < d.variant.groves → (d'.grove g).TrippedBy 6

theorem shedTrips_rd (d : Dev) {p off : Nat} (hp : p < 0x100) (ho : off < 1024) : (shedTrips d).rd p off = d.rd p off :=
  d.each_keeps (·.rd p off) _ (fun e x => (trip_within e x 6).rd p off ho (.inl hp)) _

theorem finalTrips_sheds (d : Dev) : d.Sheds (shedTrips (finalRecord d)) := by
  have apart : (shedTrips (finalRecord d)).apart = (finalRecord d).apart := eachGrove_trip_apart (finalRecord d) 6
  have trips := fun g => eachGrove_trippedBy (finalRecord d) 6 (g := g)
  obtain ⟨⟨jr, fl, draws, regs, rose, same⟩, rd⟩ := finalRecord_journalOnly d
  refine ⟨?_, ?_, ?_, ?_, fun p off hp px ho => (shedTrips_rd _ hp ho).trans (rd p off px ho), (congrArg Dev.jr apart :),
    fun g hg => trips g (by rw [same]; exact hg)⟩
  · exact (congrArg Dev.sup apart :).trans (by rw [same]; rfl)
  · exact (congrArg Dev.pins apart :).trans (by rw [same]; rfl)
  · exact (congrArg Dev.bl apart :).trans (by rw [same]; rfl)
  · exact (congrArg Dev.clk apart :).trans (by rw [same]; rfl)

section sheds
variable {d d' : Dev} (h : d.Sheds d')
include h

theorem Dev.Sheds.rf {p off : Nat} (hp : p < 0x100) (px : p ≠ pgXmem) (ho : off < 1024) (hi lo : Nat) :
    d'.rf p off hi lo = d.rf p off hi lo := by rw [Dev.rf, h.rd p off hp px ho, Dev.rf]

theorem Dev.Sheds.blotStopped (stopped : d.BlotStopped) : d'.BlotStopped := by
  obtain ⟨ctrl, shed, event⟩ := stopped
  rw [Dev.BlotStopped, h.rf (by decide) (by decide) (by decide), h.bl, h.rd _ _ (by decide) (by decide) (by decide)]
  exact ⟨ctrl, shed, event⟩

end sheds

/-- SHEDLATCH is set, with its instant. -/
def Dev.shedLatched (d : Dev) : Dev := if d.sup.latch then d else d.setSup { d.sup with latch := true, latchAt := d.clk }

theorem s3Actions_eq (d : Dev) : s3Actions d = (shedTrips (finalRecord d)).shedLatched := rfl

theorem Dev.shedLatched_sup (d : Dev) : ∃ t, d.shedLatched = d.setSup { d.sup with latch := true, latchAt := t } := by
  unfold Dev.shedLatched
  cases latched : d.sup.latch
  · exact ⟨d.clk, rfl⟩
  · exact ⟨d.sup.latchAt, by rw [if_pos rfl, ← latched]; rfl⟩

/-- S3's actions are those of shedding, with SHEDLATCH. -/
theorem s3Actions_sheds (d : Dev) : ∃ d' t, d.Sheds d' ∧ s3Actions d = d'.setSup { d.sup with latch := true, latchAt := t } := by
  have sheds := finalTrips_sheds d
  obtain ⟨t, latched⟩ := (shedTrips (finalRecord d)).shedLatched_sup
  rw [sheds.sup] at latched
  exact ⟨_, t, sheds, (s3Actions_eq d).trans latched⟩

/-! ### Resets -/

/-- A cause's bit of RCAUSE is set after its reset. -/
theorem resetDevice_rcause_bit (d : Dev) {c : ResetCause} (other : c ≠ .por) :
    ((resetDevice d c).rd pgSupv Reg.supv.RCAUSE).getLsbD (causeBit c) = true := by
  have inside : causeBit c < 36 := by cases c <;> decide
  rw [resetDevice_rcause, Dev.rcauseAfter, if_neg other, ← bit_eq_getLsbD, bit, BitVec.toNat_ofNat, Nat.testBit_mod_two_pow,
    Nat.testBit_or, Nat.testBit_two_pow_self]
  simp [inside]

/-! ### The ladders -/

/-- `d'` is `d` after a level entry with the trips of shedding: the levels stand at `l`, and so on. -/
structure Dev.LevelShed (l : Levels) (hi lo n i : Nat) (stop : Prop) (d d' : Dev) : Prop where
  lev : d'.sup.lev = l
  counts : d'.rf pgSupv Reg.supv.SHEDCNT hi lo = min (2 ^ (hi - lo + 1) - 1) (d.rf pgSupv Reg.supv.SHEDCNT hi lo + n)
  event : (d'.rd pgSupv Reg.PAGE_EVT).getLsbD i = true
  stopped : stop → d'.BlotStopped
  trips : ∀ g, g < d.variant.groves → (d'.grove g).TrippedBy 6

/-- The trips follow the entry, and the supervisor's own marks follow the trips. -/
theorem Dev.LevelMoved.sheds {l : Levels} {hi lo n i : Nat} {stop : Prop} {d e d' : Dev} (h : Dev.LevelMoved l hi lo n i d e)
    (stopped : stop → e.BlotStopped) (sheds : e.Sheds d') {x : Supv} (lev : x.lev = e.sup.lev) :
    Dev.LevelShed l hi lo n i stop d (d'.setSup x) where
  lev := lev.trans (congrArg Supv.lev h.sup :)
  counts := (sheds.rf (by decide) (by decide) (by decide) ..).trans h.counts
  event := (congrArg (·.getLsbD i) (sheds.rd pgSupv Reg.PAGE_EVT (by decide) (by decide) (by decide))).trans h.event
  stopped on := sheds.blotStopped (stopped on)
  trips g hg := sheds.trips g (h.variant ▸ hg)

section supply
variable (d : Dev) (n : Nat)

/-- A logic-supply level's entry but for the actions of S3 and S4. -/
def Dev.supplyEntered : Dev :=
  d.levelsEnteredStop { d.sup.lev with s := n } 35 24 (n - d.sup.lev.s) 0 (d.sup.lev.s < 1)

theorem Dev.supplyEntered_moved : Dev.LevelMoved { d.sup.lev with s := n } 35 24 (n - d.sup.lev.s) 0 d (d.supplyEntered n) ∧
    (d.sup.lev.s < 1 → (d.supplyEntered n).BlotStopped) :=
  d.levelsEnteredStop_moved _ (by decide) (by decide) _ (by decide) _

variable {d n} (rises : d.sup.lev.s < n)
include rises

theorem supplyEnter_low (low : n < 3) : supplyEnter d n = d.supplyEntered n := by
  rw [supplyEnter, if_neg (by omega)]
  dsimp only
  rw [if_neg (by omega), if_neg (by omega)]
  rfl

theorem supplyEnter_s3 (third : n = 3) : supplyEnter d n = s3Actions (d.supplyEntered n) := by
  rw [supplyEnter, if_neg (by omega)]
  dsimp only
  rw [if_neg (by omega), if_pos (by omega)]
  rfl

theorem supplyEnter_s4 (last : n = 4) : ∃ d', supplyEnter d n = resetDevice d' .supply := by
  rw [supplyEnter, if_neg (by omega)]
  exact ⟨_, if_pos last⟩

theorem supplyEnter_sheds (third : n = 3) : Dev.LevelShed { d.sup.lev with s := n } 35 24 (n - d.sup.lev.s) 0
    (d.sup.lev.s < 1) d (supplyEnter d n) ∧ (supplyEnter d n).sup.latch = true := by
  obtain ⟨moved, stopped⟩ := d.supplyEntered_moved n
  obtain ⟨d', t, sheds, actions⟩ := s3Actions_sheds (d.supplyEntered n)
  rw [supplyEnter_s3 rises third, actions]
  exact ⟨moved.sheds stopped sheds rfl, rfl⟩

end supply

section temperature
variable (d : Dev) (n : Nat)

/-- A temperature level's entry but for the actions of T4. -/
def Dev.tempEntered : Dev :=
  d.levelsEnteredStop { d.sup.lev with t := n } 11 0 (n - d.sup.lev.t) 2 (d.sup.lev.t < 2 ∧ 2 ≤ n)

theorem Dev.tempEntered_moved : Dev.LevelMoved { d.sup.lev with t := n } 11 0 (n - d.sup.lev.t) 2 d (d.tempEntered n) ∧
    (d.sup.lev.t < 2 ∧ 2 ≤ n → (d.tempEntered n).BlotStopped) :=
  d.levelsEnteredStop_moved _ (by decide) (by decide) _ (by decide) _

variable {d n} (rises : d.sup.lev.t < n)
include rises

theorem tempEnter_low (low : n < 4) : tempEnter d n = d.tempEntered n := by
  rw [tempEnter, if_neg (by omega)]
  exact if_neg (by omega)

/-- T4: the trips, then the reset where SHEDLATCH stands, else t_T4R runs. -/
theorem tempEnter_t4 (last : n = 4) : tempEnter d n =
    if (shedTrips (finalRecord (d.tempEntered n))).sup.latch then
      resetDevice (shedTrips (finalRecord (d.tempEntered n))) .overtemp
    else (shedTrips (finalRecord (d.tempEntered n))).setSup { (shedTrips (finalRecord (d.tempEntered n))).sup with
      t4At := (shedTrips (finalRecord (d.tempEntered n))).clk } := by
  rw [tempEnter, if_neg (by omega)]
  exact if_pos last

theorem tempEnter_reset (last : n = 4) (latch : d.sup.latch = true) : ∃ d', tempEnter d n = resetDevice d' .overtemp := by
  have latched : (shedTrips (finalRecord (d.tempEntered n))).sup.latch = true := by
    rw [(finalTrips_sheds _).sup, (d.tempEntered_moved n).1.sup, ← latch]
  rw [tempEnter_t4 rises last, if_pos latched]
  exact ⟨_, rfl⟩

theorem tempEnter_sheds (last : n = 4) (latch : d.sup.latch = false) : Dev.LevelShed { d.sup.lev with t := n } 11 0
    (n - d.sup.lev.t) 2 (d.sup.lev.t < 2 ∧ 2 ≤ n) d (tempEnter d n) ∧ (tempEnter d n).sup.t4At = d.clk := by
  obtain ⟨moved, stopped⟩ := d.tempEntered_moved n
  have sheds := finalTrips_sheds (d.tempEntered n)
  have unlatched : ¬ (shedTrips (finalRecord (d.tempEntered n))).sup.latch = true := by
    rw [sheds.sup, moved.sup]
    simp [latch]
  rw [tempEnter_t4 rises last, if_neg unlatched]
  exact ⟨moved.sheds stopped sheds (congrArg Supv.lev sheds.sup :), sheds.clk.trans moved.clk⟩

end temperature

/-! ### The motor buses -/

/-- A trip within a grove leaves a level change as it is. -/
theorem Dev.LevelMoved.trip {l : Levels} {hi lo n i : Nat} {d d' : Dev} (h : Dev.LevelMoved l hi lo n i d d') (g c : Nat) :
    Dev.LevelMoved l hi lo n i d (trip d' g c) := by
  have within := trip_within d' g c
  have kept := fun off ho => within.rd pgSupv off ho (.inl (by decide))
  exact ⟨within.sup.trans h.sup, within.variant.trans h.variant, within.clk.trans h.clk,
    (congrArg (fld · hi lo) (kept Reg.supv.SHEDCNT (by decide))).trans h.counts,
    (congrArg (·.getLsbD i) (kept Reg.PAGE_EVT (by decide))).trans h.event⟩

/-- A motor-bus level's entry: its grove trips where the level asks for it. -/
def Dev.busEntered (d : Dev) (g : Nat) (l : Levels) (n : Nat) (trips : Prop) [Decidable trips] : Dev :=
  if trips then trip (d.levelsEntered l 23 12 n 1) g 6 else d.levelsEntered l 23 12 n 1

theorem Dev.busEntered_moved (d : Dev) {g : Nat} (here : d.hasGrove g = true) (l : Levels) (n : Nat) (trips : Prop)
    [Decidable trips] : Dev.LevelMoved l 23 12 n 1 d (d.busEntered g l n trips) ∧
      (trips → ((d.busEntered g l n trips).grove g).TrippedBy 6) ∧
      (¬ trips → (d.busEntered g l n trips).groves = d.groves) := by
  have moved := d.levelsEntered_moved l (hi := 23) (lo := 12) (i := 1) (by decide) (by decide) n (by decide)
  have here' : (d.levelsEntered l 23 12 n 1).hasGrove g = true := by rwa [Dev.hasGrove, moved.variant, ← Dev.hasGrove]
  by_cases act : trips
  · rw [Dev.busEntered, if_pos act]
    exact ⟨moved.trip g 6, fun _ => trip_trippedBy here' 6, fun not => absurd act not⟩
  · rw [Dev.busEntered, if_neg act]
    exact ⟨moved, fun yes => absurd yes act, fun _ => d.levelsEntered_groves ..⟩

section bus
variable {d : Dev} {g n : Nat} (here : d.hasGrove g = true) (runs : d.grovesRun = true) (on : d.busCode g n ≠ 0)
include here runs on

theorem busEnter_m (low : n ≤ 4) (rises : d.sup.lev.m g < n) : busEnter d g n =
    d.busEntered g (d.sup.lev.setBus g n (d.sup.lev.ov g)) (n - d.sup.lev.m g) (n = 4) := by
  rw [busEnter, if_neg (by simp [here, runs, on])]
  dsimp only
  rw [if_pos low, if_neg (by omega)]
  rfl

theorem busEnter_ov (high : 5 ≤ n) (rises : d.sup.lev.ov g + 4 < n) : busEnter d g n =
    d.busEntered g (d.sup.lev.setBus g (d.sup.lev.m g) (n - 4)) (n - (d.sup.lev.ov g + 4)) (n = 6) := by
  rw [busEnter, if_neg (by simp [here, runs, on])]
  dsimp only
  rw [if_neg (by omega), if_neg (by omega), show n - (d.sup.lev.ov g + 4) = n - 4 - d.sup.lev.ov g by omega]
  rfl

end bus

/-! ### Levels left -/

/-- A level left: no entry is counted. -/
def Dev.levelLeft (d : Dev) (l : Levels) (i : Nat) : Dev := (setLevels d l).ev pgSupv i

theorem Dev.levelLeft_moved (d : Dev) (l : Levels) (i : Nat) (h : i < 36) : Dev.LevelMoved l 0 0 0 i d (d.levelLeft l i) :=
  d.levelsEntered_moved l (by decide) (by decide) 0 h

theorem unshed_eq (d : Dev) : ∃ bl, unshed d = d.setBl bl := by
  rw [unshed]
  split
  · exact ⟨_, rfl⟩
  · exact ⟨d.bl, rfl⟩

/-- The Blotter may run again: neither the levels nor the groves differ for it. -/
theorem unshed_levelLeft (d : Dev) (l : Levels) {i : Nat} (h : i < 36) :
    (unshed (d.levelLeft l i)).sup = { d.sup with lev := l, changes := d.sup.changes ++ [(d.clk, l)] } ∧
    ((unshed (d.levelLeft l i)).rd pgSupv Reg.PAGE_EVT).getLsbD i = true ∧ (unshed (d.levelLeft l i)).groves = d.groves := by
  have moved := d.levelLeft_moved l i h
  obtain ⟨bl, same⟩ := unshed_eq (d.levelLeft l i)
  rw [same]
  exact ⟨moved.sup, moved.event, rfl⟩

theorem supplyLeave_of_pos {d : Dev} (held : 0 < d.sup.lev.s) :
    supplyLeave d = unshed (d.levelLeft { d.sup.lev with s := d.sup.lev.s - 1 } 0) := if_neg (by omega)

theorem tempLeave_of_pos {d : Dev} (held : 0 < d.sup.lev.t) :
    tempLeave d = unshed (d.levelLeft { d.sup.lev with t := d.sup.lev.t - 1 } 2) := if_neg (by omega)

theorem busLeave_m {d : Dev} {g : Nat} (runs : d.grovesRun = true) (held : 0 < d.sup.lev.m g) :
    busLeave d g false = d.levelLeft (d.sup.lev.setBus g (d.sup.lev.m g - 1) (d.sup.lev.ov g)) 1 := by
  simp [busLeave, runs, Nat.ne_of_gt held, Dev.levelLeft]

theorem busLeave_ov {d : Dev} {g : Nat} (runs : d.grovesRun = true) (held : 0 < d.sup.lev.ov g) :
    busLeave d g true = d.levelLeft (d.sup.lev.setBus g (d.sup.lev.m g) (d.sup.lev.ov g - 1)) 1 := by
  simp [busLeave, runs, Nat.ne_of_gt held, Dev.levelLeft]

/-- The reset that follows T4. -/
theorem t4Reset_of_end {d : Dev} (t4 : d.sup.lev.t = 4)
    (ends : d.jr.finalEnd = true ∨ d.jr.writing = none ∨ d.sup.t4At + 4000000 ≤ d.clk) :
    t4Reset d = resetDevice d .overtemp := by
  rw [t4Reset, if_neg (by omega), if_pos (by simpa using ends)]

/-! ### Power failure (R395, R424) -/

/-- PFAIL_N has been seen low: a request for a power state ends. -/
def Dev.pfailSeen (d : Dev) : Dev :=
  (({ d with pins := { d.pins with pfail := true } }).setSup { d.sup with pfail := true, target := none }).ev pgSupv 3

theorem pfail_eq (d : Dev) : pfail d = s3Actions d.pfailSeen := rfl

/-- The journal's registers are those from before. -/
theorem Dev.pfailSeen_rf (d : Dev) (off hi lo : Nat) (h : off < 1024) : d.pfailSeen.rf pgXmem off hi lo =
    d.rf pgXmem off hi lo := by
  rw [Dev.pfailSeen, Dev.rf_ev_of_ne _ _ (fun same => absurd ((key_inj (by decide) h).mp same).1 (by decide))]
  rfl

theorem Dev.pfailSeen_jen (d : Dev) : d.pfailSeen.jen = d.jen := by
  rw [Dev.jen, Dev.rb, Dev.pfailSeen, Dev.rd_ev_ne _ _ (by decide)]
  rfl

/-- The device after PFAIL, but for the final record. -/
theorem pfail_sheds (d : Dev) : (pfail d).pins.pfail = true ∧ (pfail d).sup.pfail = true ∧ (pfail d).sup.target = none ∧
    (pfail d).sup.latch = true ∧ (pfail d).sup.ps = d.sup.ps ∧ ((pfail d).rd pgSupv Reg.PAGE_EVT).getLsbD 3 = true ∧
    (∀ g, g < d.variant.groves → ((pfail d).grove g).TrippedBy 6) ∧ (pfail d).jr = (finalRecord d.pfailSeen).jr := by
  obtain ⟨d', t, sheds, actions⟩ := s3Actions_sheds d.pfailSeen
  have event : (d'.rd pgSupv Reg.PAGE_EVT).getLsbD 3 = true := by
    rw [sheds.rd _ _ (by decide) (by decide) (by decide)]
    exact Dev.ev_bit _ _ _ (by decide)
  rw [pfail_eq, actions]
  exact ⟨(congrArg Pins.pfail sheds.pins :), rfl, rfl, rfl, rfl, event, sheds.trips, sheds.jr⟩

/-- PFAIL takes the final record first. -/
theorem pfail_starts {d : Dev} {x k : Nat} (first : d.jr.finalDone = false) (loaded : d.jr.loading = false)
    (on : d.jen = true) (mode : d.jmode = 1) (writing : d.jr.writing = none) (op : d.jr.op = none)
    (pos : d.jr.pos = some (x, k)) :
    ∃ ws, (finalRecord d.pfailSeen).jr.writing = some ⟨true, ws, d.jbase + x, k⟩ ∧ ws.length = d.recordLen ∧
      (finalRecord d.pfailSeen).jr.finalDone = true := by
  have base : d.pfailSeen.jbase = d.jbase := d.pfailSeen_rf _ _ _ (by decide)
  have started := finalRecord_starts (d := d.pfailSeen) first loaded (d.pfailSeen_jen.trans on)
    ((d.pfailSeen_rf _ _ _ (by decide)).trans mode) writing op pos
  rwa [base] at started

end Sys2Proof.Machine
end

section
/-!
PROOF. The ladders' commands (R391 to R398).
-/
namespace Sys2Proof.Machine

theorem Dev.busCode_advance (d : Dev) (k g n : Nat) : (d.advance k).busCode g n = d.busCode g n := by
  unfold Dev.busCode
  simp

theorem Dev.jmode_advance (d : Dev) (k : Nat) : (d.advance k).jmode = d.jmode := Dev.rf_advance ..
theorem Dev.jbase_advance (d : Dev) (k : Nat) : (d.advance k).jbase = d.jbase := Dev.rf_advance ..
theorem Dev.jen_advance (d : Dev) (k : Nat) : (d.advance k).jen = d.jen := Dev.rb_advance ..
theorem Dev.recordLen_advance (d : Dev) (k : Nat) : (d.advance k).recordLen = d.recordLen := by
  simp [Dev.recordLen]

section since
variable {l : Levels} {hi lo n i dt : Nat} {s d : Dev}

theorem Dev.LevelMoved.sup_since (h : Dev.LevelMoved l hi lo n i (s.advance dt) d) :
    d.sup = { s.sup with lev := l, changes := s.sup.changes ++ [((s.advance dt).clk, l)] } := by
  rw [h.sup, Dev.advance_sup]

theorem Dev.LevelMoved.counts_since (h : Dev.LevelMoved l hi lo n i (s.advance dt) d) :
    d.rf pgSupv Reg.supv.SHEDCNT hi lo = min (2 ^ (hi - lo + 1) - 1) (s.rf pgSupv Reg.supv.SHEDCNT hi lo + n) := by
  rw [h.counts, Dev.rf_advance]

theorem Dev.LevelShed.counts_since {stop : Prop} (h : Dev.LevelShed l hi lo n i stop (s.advance dt) d) :
    d.rf pgSupv Reg.supv.SHEDCNT hi lo = min (2 ^ (hi - lo + 1) - 1) (s.rf pgSupv Reg.supv.SHEDCNT hi lo + n) := by
  rw [h.counts, Dev.rf_advance]

theorem Dev.LevelShed.trips_since {stop : Prop} (h : Dev.LevelShed l hi lo n i stop (s.advance dt) d) (g : Nat)
    (hg : g < s.variant.groves) : (d.grove g).TrippedBy 6 := h.trips g (by rwa [Dev.advance_variant])

end since

/-- A logic-supply level is entered: below S3 the levels alone move, S3 sheds and S4 resets. -/
theorem supplyLadder (s : Dev) (dt : Nat) {n : Nat} (rises : s.sup.lev.s < n) :
    (n = 4 → ∃ d', supplyEnter (s.advance dt) n = resetDevice d' .supply) ∧
    (n = 3 → Dev.LevelShed { s.sup.lev with s := n } 35 24 (n - s.sup.lev.s) 0 (s.sup.lev.s < 1) (s.advance dt)
      (supplyEnter (s.advance dt) n) ∧ (supplyEnter (s.advance dt) n).sup.latch = true) ∧
    (n < 3 → Dev.LevelMoved { s.sup.lev with s := n } 35 24 (n - s.sup.lev.s) 0 (s.advance dt) (supplyEnter (s.advance dt) n) ∧
      (s.sup.lev.s < 1 → (supplyEnter (s.advance dt) n).BlotStopped) ∧
      (supplyEnter (s.advance dt) n).groves = s.groves) := by
  have sup := s.advance_sup dt
  have rises' : (s.advance dt).sup.lev.s < n := by rwa [sup]
  refine ⟨supplyEnter_s4 rises', fun third => ?_, fun low => ?_⟩
  · have sheds := supplyEnter_sheds rises' third
    rwa [sup] at sheds
  · have moved := (s.advance dt).supplyEntered_moved n
    have groves : ((s.advance dt).supplyEntered n).groves = s.groves :=
      (Dev.levelsEnteredStop_groves ..).trans (s.advance_groves dt)
    rw [sup, ← supplyEnter_low rises' low] at moved
    rw [← supplyEnter_low rises' low] at groves
    exact ⟨moved.1, moved.2, groves⟩

/-- A temperature level is entered: below T4 the levels alone move; T4 sheds, or resets where SHEDLATCH stands. -/
theorem tempLadder (s : Dev) (dt : Nat) {n : Nat} (rises : s.sup.lev.t < n) :
    (n = 4 → s.sup.latch = true → ∃ d', tempEnter (s.advance dt) n = resetDevice d' .overtemp) ∧
    (n = 4 → s.sup.latch = false → Dev.LevelShed { s.sup.lev with t := n } 11 0 (n - s.sup.lev.t) 2
      (s.sup.lev.t < 2 ∧ 2 ≤ n) (s.advance dt) (tempEnter (s.advance dt) n) ∧
      (tempEnter (s.advance dt) n).sup.t4At = (s.advance dt).clk) ∧
    (n < 4 → Dev.LevelMoved { s.sup.lev with t := n } 11 0 (n - s.sup.lev.t) 2 (s.advance dt) (tempEnter (s.advance dt) n) ∧
      (s.sup.lev.t < 2 ∧ 2 ≤ n → (tempEnter (s.advance dt) n).BlotStopped) ∧
      (tempEnter (s.advance dt) n).groves = s.groves) := by
  have sup := s.advance_sup dt
  have rises' : (s.advance dt).sup.lev.t < n := by rwa [sup]
  refine ⟨fun last latch => tempEnter_reset rises' last (by rwa [sup]), fun last latch => ?_, fun low => ?_⟩
  · have sheds := tempEnter_sheds rises' last (by rwa [sup])
    rwa [sup] at sheds
  · have moved := (s.advance dt).tempEntered_moved n
    have groves : ((s.advance dt).tempEntered n).groves = s.groves :=
      (Dev.levelsEnteredStop_groves ..).trans (s.advance_groves dt)
    rw [sup, ← tempEnter_low rises' low] at moved
    rw [← tempEnter_low rises' low] at groves
    exact ⟨moved.1, moved.2, groves⟩

/-- The same of a motor bus, of whose levels M4 and OV2 trip their grove. -/
theorem busLadder {s : Dev} {g n : Nat} (dt : Nat) (here : s.hasGrove g = true) (runs : s.grovesRun = true)
    (on : s.busCode g n ≠ 0) (hn : n < 7)
    (rises : (if 5 ≤ n then s.sup.lev.ov g + 4 else s.sup.lev.m g) < n) :
    busEnter (s.advance dt) g n = (s.advance dt).busEntered g
      (if 5 ≤ n then s.sup.lev.setBus g (s.sup.lev.m g) (n - 4) else s.sup.lev.setBus g n (s.sup.lev.ov g))
      (n - if 5 ≤ n then s.sup.lev.ov g + 4 else s.sup.lev.m g) (n = 4 ∨ n = 6) := by
  have sup := s.advance_sup dt
  have here' : (s.advance dt).hasGrove g = true := by rwa [Dev.hasGrove_advance]
  have runs' : (s.advance dt).grovesRun = true := by rwa [Dev.grovesRun_advance]
  have on' : (s.advance dt).busCode g n ≠ 0 := by rwa [Dev.busCode_advance]
  by_cases high : 5 ≤ n
  · rw [if_pos high] at rises ⊢
    rw [busEnter_ov here' runs' on' high (by rwa [sup]), sup, if_pos high]
    simp [Dev.busEntered, show n ≠ 4 by omega]
  · rw [if_neg high] at rises ⊢
    rw [busEnter_m here' runs' on' (by omega) (by rwa [sup]), sup, if_neg high]
    simp [Dev.busEntered, show n ≠ 6 by omega]

/-- Settles O53: a level's entry moves the levels; what sheds trips the groves after it, or resets. -/
theorem sheddingLadders : Obligations.SheddingLadders := by
  intro s dt awake
  have next : ∀ f : Dev → Dev, s.does (fun d => f (d.advance dt)) = .next (s.after (f (s.dev.advance dt))) :=
    fun f => s.does_eq _ awake
  refine ⟨fun n rises => ⟨_, next (supplyEnter · n), ?s4, ?supply⟩, fun held => ⟨_, next supplyLeave, ?supplyLeave⟩,
    fun g n runs here on => ?bus, fun g runs => ⟨fun held => ⟨_, next (busLeave · g false), ?busM⟩,
      fun held => ⟨_, next (busLeave · g true), ?busOv⟩⟩,
    fun n rises => ⟨_, next (tempEnter · n), ?t4Reset, ?temp⟩, fun held => ⟨_, next tempLeave, ?tempLeave⟩,
    fun t4 ends => ⟨_, next t4Reset, ?t4⟩, fun ns fresh => ⟨?pfailShort, ?pfail⟩,
    ⟨_, State.pin_of_awake awake dt pfailHigh, rfl, ?high, ?same⟩⟩
  case s4 =>
    intro last
    obtain ⟨d', resets⟩ := (supplyLadder s.dev dt rises).1 last
    rw [resets]
    exact ⟨rfl, resetDevice_rcause_bit d' (by decide)⟩
  case supply =>
    intro below
    obtain ⟨-, third, low⟩ := supplyLadder s.dev dt rises
    by_cases sheds : n.val = 3
    · obtain ⟨shed, latch⟩ := third sheds
      exact ⟨shed.lev, shed.counts_since, shed.event, fun first => shed.stopped (by omega), fun not => absurd sheds (by omega),
        fun _ => ⟨shed.trips_since, latch⟩⟩
    · obtain ⟨moved, stopped, groves⟩ := low (by omega)
      exact ⟨congrArg Supv.lev moved.sup_since, moved.counts_since, moved.event, fun first => stopped (by omega),
        fun _ => ⟨moved.sup_since, groves⟩, fun is => absurd is sheds⟩
  case bus =>
    intro high was l' rises
    obtain ⟨moved, trips, groves⟩ := (s.dev.advance dt).busEntered_moved ((s.dev.hasGrove_advance dt g).trans here) l' (n - was)
      (n.val = 4 ∨ n.val = 6)
    have entered : busEnter (s.dev.advance dt) g n = _ := busLadder dt here runs on n.isLt rises
    refine ⟨_, (next (busEnter · g n)).trans (by rw [entered]), moved.sup_since, moved.counts_since, moved.event, trips,
      fun m4 ov2 => (groves (not_or.mpr ⟨m4, ov2⟩)).trans (s.dev.advance_groves dt)⟩
  case temp =>
    intro noReset
    obtain ⟨-, fourth, low⟩ := tempLadder s.dev dt rises
    by_cases sheds : n.val = 4
    · obtain ⟨shed, since⟩ := fourth sheds (by simpa [sheds] using noReset)
      exact ⟨shed.lev, shed.counts_since, shed.event, fun first second => shed.stopped ⟨first, second⟩,
        fun not => absurd sheds (by omega), fun _ => ⟨shed.trips_since, since⟩⟩
    · obtain ⟨moved, stopped, groves⟩ := low (by omega)
      exact ⟨congrArg Supv.lev moved.sup_since, moved.counts_since, moved.event, fun first second => stopped ⟨first, second⟩,
        fun _ => ⟨moved.sup_since, groves⟩, fun is => absurd is sheds⟩
  case t4Reset =>
    rintro ⟨last, latch⟩
    obtain ⟨d', resets⟩ := (tempLadder s.dev dt rises).1 last latch
    rw [resets]
    exact ⟨rfl, resetDevice_rcause_bit d' (by decide)⟩
  case supplyLeave =>
    obtain ⟨sup, event, groves⟩ := unshed_levelLeft (s.dev.advance dt) { s.dev.sup.lev with s := s.dev.sup.lev.s - 1 }
      (i := 0) (by decide)
    rw [supplyLeave_of_pos (by rwa [Dev.advance_sup]), Dev.advance_sup]
    rw [Dev.advance_sup] at sup
    exact ⟨sup, event, groves.trans (s.dev.advance_groves dt)⟩
  case tempLeave =>
    obtain ⟨sup, event, groves⟩ := unshed_levelLeft (s.dev.advance dt) { s.dev.sup.lev with t := s.dev.sup.lev.t - 1 }
      (i := 2) (by decide)
    rw [tempLeave_of_pos (by rwa [Dev.advance_sup]), Dev.advance_sup]
    rw [Dev.advance_sup] at sup
    exact ⟨sup, event, groves.trans (s.dev.advance_groves dt)⟩
  case busM =>
    rw [busLeave_m ((s.dev.grovesRun_advance dt).trans runs) (by rwa [Dev.advance_sup]), Dev.advance_sup]
    have moved := (s.dev.advance dt).levelLeft_moved
      (s.dev.sup.lev.setBus g (s.dev.sup.lev.m g - 1) (s.dev.sup.lev.ov g)) 1 (by decide)
    exact ⟨moved.sup_since, moved.event⟩
  case busOv =>
    rw [busLeave_ov ((s.dev.grovesRun_advance dt).trans runs) (by rwa [Dev.advance_sup]), Dev.advance_sup]
    have moved := (s.dev.advance dt).levelLeft_moved
      (s.dev.sup.lev.setBus g (s.dev.sup.lev.m g) (s.dev.sup.lev.ov g - 1)) 1 (by decide)
    exact ⟨moved.sup_since, moved.event⟩
  case t4 =>
    rw [t4Reset_of_end (by rw [Dev.advance_sup, t4]) (by simpa using ends)]
    exact ⟨rfl, resetDevice_rcause_bit _ (by decide)⟩
  case pfailShort =>
    intro short
    exact (s.does_eq _ awake).trans (congrArg (fun d => Host.Outcome.next (s.after d))
      (if_neg fun long => absurd long.1 (Nat.not_le.mpr short)))
  case pfail =>
    intro long
    have sup := s.dev.advance_sup dt
    have acts : exec (.pfail dt ns) s = .next (s.after (pfail (s.dev.advance dt))) :=
      (s.does_eq _ awake).trans (congrArg (fun d => Host.Outcome.next (s.after d)) (if_pos ⟨long, by rw [sup, fresh]; rfl⟩))
    obtain ⟨pins, low, target, latch, ps, event, trips, jr⟩ := pfail_sheds (s.dev.advance dt)
    refine ⟨_, acts, pins, low, target, latch, ps.trans (by rw [sup]), event, fun g hg => trips g (by rwa [Dev.advance_variant]),
      fun x k first loaded on mode writing op pos => ?_⟩
    have same := s.dev.advance_jr dt
    have starts := pfail_starts (d := s.dev.advance dt) (x := x) (k := k) (by rwa [same]) (by rwa [same])
      ((s.dev.jen_advance dt).trans on) ((s.dev.jmode_advance dt).trans mode) (by rwa [same]) (by rwa [same]) (by rwa [same])
    rwa [← jr, Dev.jbase_advance, Dev.recordLen_advance] at starts
  case high =>
    rw [← s.dev.advance_sup dt]
    rfl
  case same =>
    rw [← s.dev.advance_sup dt, ← s.dev.advance_pins dt]
    rfl

end Sys2Proof.Machine
end

section
/-!
PROOF. The bytes and words of the external memory (R412).
-/
namespace Sys2Proof.Machine

/-! ### Bytes -/

theorem Flash.dflt_putByte (f : Flash) (a v x : Nat) : (f.putByte a v).dflt x = f.dflt x := rfl

theorem Flash.byte_putByte_eq (f : Flash) (a v : Nat) : (f.putByte a v).byte a = v % 256 := by
  rw [Flash.byte, Flash.dflt_putByte]
  exact Tab.get_set_eq ..

theorem Flash.byte_putByte_ne (f : Flash) {a x : Nat} (v : Nat) (h : a ≠ x) : (f.putByte a v).byte x = f.byte x := by
  rw [Flash.byte, Flash.dflt_putByte]
  exact Tab.get_set_ne _ _ _ _ h

theorem Flash.byte_putBytes (f : Flash) (a : Nat) (l : List Nat) (x : Nat) :
    (f.putBytes a l).byte x = if a ≤ x ∧ x < a + l.length then l.getD (x - a) 0 % 256 else f.byte x := by
  induction l generalizing f a with
  | nil => exact (if_neg (by simp)).symm
  | cons v t ih =>
    rw [Flash.putBytes, ih, List.length_cons]
    rcases Nat.lt_trichotomy x a with before | rfl | after
    · rw [if_neg (by omega), if_neg (by omega), f.byte_putByte_ne v (by omega)]
    · rw [if_neg (by omega), if_pos (by omega), f.byte_putByte_eq, Nat.sub_self, List.getD_cons_zero]
    · rw [f.byte_putByte_ne v (by omega), show x - a = x - (a + 1) + 1 by omega, List.getD_cons_succ]
      exact if_congr (by omega) rfl rfl

theorem wordBytes_length (w : Word) : (wordBytes w).length = 5 := rfl

theorem wordBytes_lt (w : Word) (j : Nat) : (wordBytes w).getD j 0 < 256 := by
  have := w.isLt
  match j with
  | 0 => simp only [wordBytes, List.getD_cons_zero]; omega
  | 1 | 2 | 3 | 4 => exact Nat.mod_lt _ (by decide)
  | _ + 5 => exact Nat.zero_lt_succ _

/-! ### Words -/

/-- The words before and after a run of programmed words stay. -/
theorem Flash.byte_putWords_ne (f : Flash) (a : Nat) (ws : List Word) {x : Nat} (h : x < a ∨ a + 5 * ws.length ≤ x) :
    (f.putWords a ws).byte x = f.byte x := by
  induction ws generalizing f a with
  | nil => rfl
  | cons w t ih =>
    rw [List.length_cons] at h
    rw [Flash.putWords, ih _ _ (by omega), Flash.byte_putBytes, wordBytes_length, if_neg (by omega)]

theorem Flash.byte_putWords (f : Flash) (a : Nat) (ws : List Word) {i j : Nat} (hi : i < ws.length) (hj : j < 5) :
    (f.putWords a ws).byte (a + 5 * i + j) = (wordBytes (ws.getD i 0)).getD j 0 := by
  induction ws generalizing f a i with
  | nil => exact absurd hi (Nat.not_lt_zero i)
  | cons w t ih =>
    rw [Flash.putWords]
    cases i with
    | zero =>
      rw [Flash.byte_putWords_ne _ _ _ (.inl (by omega)), Flash.byte_putBytes, wordBytes_length, if_pos (by omega),
        show a + 5 * 0 + j - a = j by omega, List.getD_cons_zero]
      exact Nat.mod_eq_of_lt (wordBytes_lt w j)
    | succ i =>
      rw [show a + 5 * (i + 1) + j = a + 5 + 5 * i + j by omega, List.getD_cons_succ]
      exact ih _ _ (by simpa using hi)

/-- Five bytes that carry a word read as that word programmed. -/
theorem Flash.word_of_bytes {f : Flash} {a : Nat} {w : Word} (h : ∀ j, j < 5 → f.byte (a + j) = (wordBytes w).getD j 0) :
    f.word a = .programmed w := by
  have small := w.isLt
  have b0 : f.byte a = w.toNat / 2 ^ 32 := h 0 (by decide)
  have b1 : f.byte (a + 1) = w.toNat / 2 ^ 24 % 256 := h 1 (by decide)
  have b2 : f.byte (a + 2) = w.toNat / 2 ^ 16 % 256 := h 2 (by decide)
  have b3 : f.byte (a + 3) = w.toNat / 2 ^ 8 % 256 := h 3 (by decide)
  have b4 : f.byte (a + 4) = w.toNat % 256 := h 4 (by decide)
  have first : f.byte a < 16 := by omega
  have written : f.blank a 5 = false := by
    have : f.byte a ≠ 255 := by omega
    simp [Flash.blank, this]
  have raw : f.raw a = w := by
    rw [Flash.raw, b0, b1, b2, b3, b4]
    apply BitVec.eq_of_toNat_eq
    rw [BitVec.toNat_ofNat]
    omega
  rw [Flash.word, written, if_neg (by decide), if_pos first, raw]

theorem Flash.word_putWords (f : Flash) (a : Nat) (ws : List Word) {i : Nat} (hi : i < ws.length) :
    (f.putWords a ws).word (a + 5 * i) = .programmed (ws.getD i 0) :=
  Flash.word_of_bytes fun _ hj => f.byte_putWords a ws hi hj

/-! ### Erases -/

theorem Tab.look_filter {α : Type} (t : Tab α) (p : Nat → Prop) [DecidablePred p] (k : Nat) :
    Tab.look (t.filter (fun e => decide (p e.1)) : Tab α) k = if p k then t.look k else none := by
  induction t with
  | nil => exact (ite_self _).symm
  | cons e t ih =>
    obtain ⟨k', v⟩ := e
    by_cases kept : p k' <;> by_cases same : k' = k
    · subst same
      simp [kept, Tab.look]
    · simpa [kept, Tab.look, same] using ih
    · subst same
      simpa [kept, Tab.look] using ih
    · simpa [kept, Tab.look, same] using ih

theorem flashDflt_erased {a : Nat} {bs : List Block} (h : ∀ b ∈ bs, ¬ (b.lo ≤ a ∧ a < b.lo + b.len)) : flashDflt a bs = 0xFF := by
  induction bs with
  | nil => rfl
  | cons b t ih =>
    rw [flashDflt, if_neg (h b (by simp))]
    exact ih fun x hx => h x (by simp [hx])

/-- Bytes erased one by one. -/
theorem Flash.byte_eraseEach (f : Flash) (lo n x : Nat) :
    ((List.range n).foldl (fun f i => f.putByte (lo + i) 0xFF) f).byte x = if lo ≤ x ∧ x < lo + n then 0xFF else f.byte x := by
  induction n with
  | zero => exact (if_neg (by omega)).symm
  | succ n ih =>
    rw [List.range_succ, List.foldl_append, List.foldl_cons, List.foldl_nil]
    by_cases here : lo + n = x
    · rw [here, Flash.byte_putByte_eq, if_pos (by omega)]
    · rw [Flash.byte_putByte_ne _ _ here, ih]
      exact if_congr (by omega) rfl rfl

/-- The bytes of a sector no longer listed. -/
def Flash.unlisted (f : Flash) (lo len : Nat) : Flash := { f with bytes := bytesOutside lo len f.bytes }

theorem Flash.byte_unlisted (f : Flash) (lo len x : Nat) :
    (f.unlisted lo len).byte x = if lo ≤ x ∧ x < lo + len then f.dflt x else f.byte x := by
  have listed : Tab.look (bytesOutside lo len f.bytes) x = if ¬ (lo ≤ x ∧ x < lo + len) then f.bytes.look x else none :=
    Tab.look_filter f.bytes (fun a => ¬ (lo ≤ a ∧ a < lo + len)) x
  have read : (f.unlisted lo len).byte x = (Tab.look (bytesOutside lo len f.bytes) x).getD (f.dflt x) := rfl
  rw [read, listed]
  by_cases within : lo ≤ x ∧ x < lo + len
  · rw [if_neg (not_not_intro within), if_pos within, Option.getD_none]
  · rw [if_pos within, if_neg within]
    rfl

theorem Flash.erase_eq (f : Flash) (s : Nat) : f.erase s =
    if f.blocks.any (fun b => decide (b.lo < 4096 * s + 4096 ∧ 4096 * s < b.lo + b.len)) then
      (List.range 4096).foldl (fun f i => f.putByte (4096 * s + i) 0xFF) (f.unlisted (4096 * s) 4096)
    else f.unlisted (4096 * s) 4096 := rfl

/-- An erased sector reads 0xFF, and no other byte differs. -/
theorem Flash.byte_erase (f : Flash) (s x : Nat) : (f.erase s).byte x = if x / 4096 = s then 0xFF else f.byte x := by
  have sector : 4096 * s ≤ x ∧ x < 4096 * s + 4096 ↔ x / 4096 = s := by omega
  rw [Flash.erase_eq]
  split
  · rw [Flash.byte_eraseEach, Flash.byte_unlisted, if_congr sector rfl rfl, if_congr sector rfl rfl]
    by_cases here : x / 4096 = s
    · rw [if_pos here, if_pos here]
    · rw [if_neg here, if_neg here, if_neg here]
  next clear =>
    rw [Flash.byte_unlisted, if_congr sector rfl rfl]
    by_cases here : x / 4096 = s
    · rw [if_pos here, if_pos here]
      refine flashDflt_erased fun b hb => ?_
      have apart : ¬ (b.lo < 4096 * s + 4096 ∧ 4096 * s < b.lo + b.len) := fun overlap =>
        clear (List.any_eq_true.mpr ⟨b, hb, decide_eq_true overlap⟩)
      omega
    · rw [if_neg here, if_neg here]

end Sys2Proof.Machine
end

section
/-!
PROOF. The journal's programs and erases (R421, R422, R424, R427).
-/
namespace Sys2Proof.Machine

/-! ### Places and waiting snapshots -/

/-- `d'` is `d` with another place for the next record, further erases, and a snapshot begun only where one waited. -/
structure Dev.Replans (d d' : Dev) : Prop where
  frame : ∃ j, d' = d.setJr j
  seq : d'.jr.nextSeq = d.jr.nextSeq
  ended : d'.jr.finalEnd = d.jr.finalEnd
  op : d'.jr.op = d.jr.op
  erasing : ∃ more, d'.jr.erasing = d.jr.erasing ++ more
  rest : d.jr.waiting = none → d'.jr.waiting = none ∧ d'.jr.writing = d.jr.writing

theorem Dev.Replans.refl (d : Dev) : d.Replans d := ⟨⟨d.jr, rfl⟩, rfl, rfl, rfl, ⟨[], (List.append_nil _).symm⟩, fun h =>
    ⟨h, rfl⟩⟩

theorem Dev.Replans.trans {a b c : Dev} (h : a.Replans b) (k : b.Replans c) : a.Replans c := by
  obtain ⟨⟨j, rfl⟩, seq, ended, op, ⟨more, erasing⟩, rest⟩ := h
  obtain ⟨⟨j', rfl⟩, seq', ended', op', ⟨more', erasing'⟩, rest'⟩ := k
  refine ⟨⟨j', rfl⟩, seq'.trans seq, ended'.trans ended, op'.trans op, ⟨more ++ more', ?_⟩, fun h => ?_⟩
  · rw [erasing', erasing, List.append_assoc]
  · obtain ⟨waiting, writing⟩ := rest h
    obtain ⟨waiting', writing'⟩ := rest' waiting
    exact ⟨waiting', writing'.trans writing⟩

theorem Dev.Replans.ite {d a b : Dev} {c : Prop} [Decidable c] (h : d.Replans a) (k : d.Replans b) :
    d.Replans (if c then a else b) := by
  split <;> assumption

theorem Dev.setPos_replans (d : Dev) (p : Option (Nat × Nat)) : d.Replans (d.setJr { d.jr with pos := p }) :=
  ⟨⟨_, rfl⟩, rfl, rfl, rfl, ⟨[], (List.append_nil _).symm⟩, fun h => ⟨h, rfl⟩⟩

theorem jErase_replans (d : Dev) (s : Nat) : d.Replans (jErase d s) :=
  .ite (.refl d) ⟨⟨_, rfl⟩, rfl, rfl, rfl, ⟨[s], rfl⟩, fun h => ⟨h, rfl⟩⟩

theorem jPlace_replans (d : Dev) (s k : Nat) : d.Replans (jPlace d s k) := by
  rw [jPlace]
  split
  · exact d.setPos_replans _
  · dsimp only
    split
    · exact (d.setPos_replans none).trans (jErase_replans ..)
    · exact d.setPos_replans none

theorem jStart_replans {d : Dev} {ws : List Word} (waits : d.jr.waiting ≠ none) : d.Replans (jStart d false ws) := by
  rw [jStart]
  split
  · exact ⟨⟨_, rfl⟩, rfl, rfl, rfl, ⟨[], (List.append_nil _).symm⟩, fun h => absurd h waits⟩
  · exact ⟨⟨_, rfl⟩, rfl, rfl, rfl, ⟨[], (List.append_nil _).symm⟩, fun h => absurd h waits⟩

theorem jResume_replans (d : Dev) : d.Replans (jResume d) := by
  rw [jResume]
  split
  next ws waits => exact .ite (.refl d) (jStart_replans (by simp [waits]))
  · exact .refl d

section replans
variable {d d' : Dev} (h : d.Replans d')
include h

theorem Dev.Replans.fl : d'.fl = d.fl := by
  obtain ⟨_, rfl⟩ := h.frame
  rfl

theorem Dev.Replans.mem : d'.mem = d.mem := by
  obtain ⟨_, rfl⟩ := h.frame
  rfl

theorem Dev.Replans.rd (p off : Nat) : d'.rd p off = d.rd p off := by
  obtain ⟨_, rfl⟩ := h.frame
  rfl

end replans

/-! ### A record that is programmed (R422, R424) -/

/-- The record stands in its slot, with its number in JSEQ. -/
def Dev.recordPut (d : Dev) (r : JRecord) : Dev :=
  let d1 := (d.setFl (d.fl.putWords (slotByte r.sector r.slot) r.words)).wr pgXmem Reg.xmem.JSEQ (BitVec.ofNat 36 d.jr.nextSeq)
  d1.setJr { d.jr with writing := none, nextSeq := (d.jr.nextSeq + 1) % 2 ^ 36, finalEnd := d.jr.finalEnd || r.final }

theorem Dev.recordPut_jseq (d : Dev) (r : JRecord) :
    (d.recordPut r).rd pgXmem Reg.xmem.JSEQ = BitVec.ofNat 36 d.jr.nextSeq := Dev.rd_wr_eq ..

theorem recordEnd_replans {d : Dev} {r : JRecord} (writing : d.jr.writing = some r) :
    (d.recordPut r).Replans (recordEnd d true) := by
  rw [recordEnd, writing]
  dsimp only
  rw [if_pos rfl]
  refine .ite ?_ ⟨⟨_, rfl⟩, rfl, rfl, rfl, ⟨[], (List.append_nil _).symm⟩, fun h => ⟨h, rfl⟩⟩
  refine .trans (.ite ?_ (.refl _)) ((jPlace_replans ..).trans (jResume_replans _))
  split
  · exact .ite (.refl _) (jErase_replans ..)
  · exact .refl _

/-! ### Sectors that fail (R427) -/

/-- BAD bit `b` is set, with its event. -/
def Dev.Retired (b : Nat) (d : Dev) : Prop :=
  (d.rd pgXmem (Reg.xmem.JBAD + b / 32)).getLsbD (b % 32) = true ∧ (d.rd pgXmem Reg.PAGE_EVT).getLsbD 1 = true

theorem Dev.Retired.of_rd {b : Nat} {d d' : Dev} (h : d.Retired b) (same : ∀ p off, d'.rd p off = d.rd p off) :
    d'.Retired b := by
  rw [Dev.Retired, same, same]
  exact h

theorem Dev.Retired.jstat {b : Nat} {d : Dev} (h : d.Retired b) (hb : b < 64) (hi lo v : Nat) :
    (d.xw Reg.xmem.JSTAT hi lo v).Retired b := by
  have apart : key pgXmem Reg.xmem.JSTAT ≠ key pgXmem (Reg.xmem.JBAD + b / 32) := by
    simp only [key, Reg.xmem.JSTAT, Reg.xmem.JBAD]
    omega
  rw [Dev.Retired, Dev.xw, Dev.rd_wf_ne _ _ _ _ apart, Dev.rd_wf_ne _ _ _ _ (by decide)]
  exact h

theorem Dev.Retired.ev {b : Nat} {d : Dev} (h : d.Retired b) (i : Nat) (hb : b < 64) : (d.ev pgXmem i).Retired b := by
  have apart : key pgXmem Reg.PAGE_EVT ≠ key pgXmem (Reg.xmem.JBAD + b / 32) := by
    simp only [key, Reg.PAGE_EVT, Reg.xmem.JBAD]
    omega
  rw [Dev.Retired, Dev.rd_ev_ne _ _ apart]
  exact ⟨h.1, Dev.ev_keeps _ _ _ h.2⟩

theorem jcounts_retired {b : Nat} {d : Dev} (h : d.Retired b) (hb : b < 64) : (jcounts d).Retired b :=
  (h.jstat hb _ _ _).jstat hb _ _ _

/-- A sector is erased where its first `n` bytes are not. -/
def Dev.blanked (n : Nat) (d : Dev) (s : Nat) : Dev := if d.fl.blank (slotByte s 0) n then d else jErase d s

theorem Dev.blanked_replans (n : Nat) (d : Dev) (s : Nat) : d.Replans (d.blanked n s) := .ite (.refl d) (jErase_replans d s)

/-- The journal's mode as it turns to final records only. -/
def Dev.finalMode (d : Dev) : Dev := (d.xw Reg.xmem.JSTAT 35 34 2).ev pgXmem 2

theorem finalOnly_eq (d : Dev) : finalOnly d = [d.fina, d.jr.finB].foldl (Dev.blanked 1024)
    (d.finalMode.setJr { d.finalMode.jr with waiting := none, pos := none, finNext := 0 }) := by
  unfold finalOnly Dev.blanked Dev.finalMode
  rfl

theorem finalOnly_retired {b : Nat} {d : Dev} (h : d.Retired b) (hb : b < 64) : (finalOnly d).Retired b := by
  have marked : d.finalMode.Retired b := (h.jstat hb _ _ _).ev 2 hb
  rw [finalOnly_eq, List.foldl_cons, List.foldl_cons, List.foldl_nil]
  exact ((marked.of_rd (Dev.rd_setJr _ _)).of_rd (Dev.blanked_replans ..).rd).of_rd (Dev.blanked_replans ..).rd

/-- A sector of the ring that fails is retired. -/
theorem retireSector_retired {d : Dev} {a : Nat} (low : d.jbase ≤ a) (high : a < d.jbase + d.jsect + d.jspare)
    (hb : a < d.jbase + 64) : (retireSector d a).Retired (a - d.jbase) := by
  have small : a - d.jbase < 64 := by omega
  have apart : key pgXmem Reg.PAGE_EVT ≠ key pgXmem (Reg.xmem.JBAD + (a - d.jbase) / 32) := by
    simp only [key, Reg.PAGE_EVT, Reg.xmem.JBAD]
    omega
  have bad : Dev.Retired (a - d.jbase) ((d.wr pgXmem (Reg.xmem.JBAD + (a - d.jbase) / 32)
      (setBit (d.rd pgXmem (Reg.xmem.JBAD + (a - d.jbase) / 32)) ((a - d.jbase) % 32) true)).ev pgXmem 1) := by
    refine ⟨?_, Dev.ev_bit _ _ _ (by decide)⟩
    rw [Dev.rd_ev_ne _ _ apart, Dev.rd_wr_eq]
    exact setBit_bit _ _ _ (by omega)
  rw [retireSector, if_pos ⟨low, high⟩]
  dsimp only
  split
  · exact finalOnly_retired (jcounts_retired bad small) small
  · exact jcounts_retired bad small

end Sys2Proof.Machine
end

section
/-!
PROOF. The ends of the journal's programs and erases, as commands (R421, R422, R424, R427).
-/
namespace Sys2Proof.Machine

theorem jStart_rd (d : Dev) (final : Bool) (ws : List Word) (p off : Nat) : (jStart d final ws).rd p off = d.rd p off := by
  rw [jStart]
  split
  · rfl
  · split <;> rfl

/-- The ring as it was before what the journal does first. -/
structure Dev.InRing (d : Dev) (a : Nat) : Prop where
  low : d.jbase ≤ a
  high : a < d.jbase + d.jsect + d.jspare
  bits : a < d.jbase + 64

theorem Dev.InRing.retired {d e : Dev} {a : Nat} (h : d.InRing a) (same : ∀ p off, e.rd p off = d.rd p off) :
    (retireSector e a).Retired (a - d.jbase) := by
  have rf : ∀ p off hi lo, e.rf p off hi lo = d.rf p off hi lo := fun p off hi lo => by rw [Dev.rf, same, ← Dev.rf]
  have base : e.jbase = d.jbase := rf ..
  have sect : e.jsect = d.jsect := rf ..
  have spare : e.jspare = d.jspare := rf ..
  rw [← base]
  exact retireSector_retired (by rw [base]; exact h.low) (by rw [base, sect, spare]; exact h.high) (by rw [base]; exact h.bits)

/-- A record that fails retires its ring sector (R427). -/
theorem recordEnd_retired {d : Dev} {r : JRecord} (writing : d.jr.writing = some r) (periodic : r.final = false)
    (ring : d.InRing r.sector) : (recordEnd d false).Retired (r.sector - d.jbase) := by
  rw [recordEnd, writing]
  dsimp only
  rw [if_neg (by decide), if_neg (by simp [periodic])]
  have retired := fun f j => ring.retired (e := (d.draw.2.setFl f).setJr j) fun _ _ => rfl
  split
  · exact retired ..
  · exact (retired ..).of_rd fun p off => (jStart_rd ..).trans ((jPlace_replans ..).rd p off)

/-- A final record that fails has ended as well (R424). -/
theorem recordEnd_final {d : Dev} {r : JRecord} (writing : d.jr.writing = some r) (final : r.final = true) :
    (recordEnd d false).jr.writing = none ∧ (recordEnd d false).jr.finalEnd = true := by
  rw [recordEnd, writing]
  dsimp only
  rw [if_neg (by decide), if_pos final]
  exact ⟨rfl, rfl⟩

/-- An erase of the journal that ends well. -/
def Dev.sectorErased (d : Dev) (a : Nat) (rest : List Nat) : Dev :=
  (d.setJr { d.jr with erasing := rest }).setFl (d.fl.erase a)

section erase
variable {d : Dev} {a : Nat} {rest : List Nat} (erasing : d.jr.erasing = a :: rest)
include erasing

theorem jEraseEnd_replans : (d.sectorErased a rest).Replans (jEraseEnd d true) := by
  rw [jEraseEnd, erasing]
  dsimp only
  rw [if_pos rfl]
  exact .ite ((jPlace_replans ..).trans (jResume_replans _)) (.refl _)

theorem jEraseEnd_retired (ring : d.InRing a) : (jEraseEnd d false).Retired (a - d.jbase) := by
  rw [jEraseEnd, erasing]
  dsimp only
  rw [if_neg (by decide)]
  have retired := fun f j => ring.retired (e := (d.setJr j).draw.2.setFl f) fun _ _ => rfl
  split
  · exact retired ..
  · split
    · split
      · exact retired ..
      · exact (retired ..).of_rd (jErase_replans ..).rd
    · exact retired ..

end erase

theorem Dev.InRing.advance {d : Dev} {a : Nat} (h : d.InRing a) (k : Nat) : (d.advance k).InRing a := by
  have base : (d.advance k).jbase = d.jbase := Dev.rf_advance ..
  have sect : (d.advance k).jsect = d.jsect := Dev.rf_advance ..
  have spare : (d.advance k).jspare = d.jspare := Dev.rf_advance ..
  exact ⟨by rw [base]; exact h.low, by rw [base, sect, spare]; exact h.high, by rw [base]; exact h.bits⟩

/-- Settles O56: what is programmed or erased is put first, and the journal's planning changes its own state alone. -/
theorem positionJournal : Obligations.PositionJournal := by
  intro s dt pages
  have jr := s.dev.advance_jr dt
  have fl := s.dev.advance_fl dt
  have base := s.dev.jbase_advance dt
  refine ⟨fun r writing => ⟨?put, fun final => ?final, fun periodic _ ⟨low, high, bits⟩ => ?fails⟩,
    fun a rest erasing => ⟨?erased, fun ⟨low, high, bits⟩ _ => ?eraseFails⟩⟩
  case put =>
    have put := recordEnd_replans (d := s.dev.advance dt) (r := r) (by rw [jr, writing])
    have flash : (recordEnd (s.dev.advance dt) true).fl = s.dev.fl.putWords (slotByte r.sector r.slot) r.words :=
      put.fl.trans (by rw [← fl]; rfl)
    refine ⟨_, State.does_inPorts pages dt (recordEnd · true), fun i inside => ?_, fun a outside => ?_, ?_, ?_, ?_,
      fun none => ?_, ?_⟩
    · rw [flash, Flash.word_putWords _ _ _ inside]
    · rw [flash, Flash.byte_putWords_ne _ _ _ outside]
    · rw [put.rd, Dev.recordPut_jseq, jr]
    · exact put.seq.trans (by rw [← jr]; rfl)
    · exact put.ended.trans (by rw [← jr]; rfl)
    · rw [← jr] at none
      exact (put.rest none).2
    · exact put.mem.trans (s.dev.advance_mem dt)
  case final =>
    obtain ⟨ended, mark⟩ := recordEnd_final (d := s.dev.advance dt) (r := r) (by rw [jr, writing]) final
    exact ⟨_, State.does_inPorts pages dt (recordEnd · false), ended, mark⟩
  case fails =>
    have retired := recordEnd_retired (d := s.dev.advance dt) (r := r) (by rw [jr, writing]) periodic
      (Dev.InRing.advance ⟨low, high, bits⟩ dt)
    rw [base] at retired
    exact ⟨_, State.does_inPorts pages dt (recordEnd · false), retired⟩
  case erased =>
    have done := jEraseEnd_replans (d := s.dev.advance dt) (a := a) (rest := rest) (by rw [jr, erasing])
    refine ⟨_, State.does_inPorts pages dt (jEraseEnd · true), done.erasing, done.mem.trans (s.dev.advance_mem dt), fun x => ?_⟩
    rw [done.fl, ← fl]
    exact Flash.byte_erase ..
  case eraseFails =>
    have retired := jEraseEnd_retired (d := s.dev.advance dt) (a := a) (rest := rest) (by rw [jr, erasing])
      (Dev.InRing.advance ⟨low, high, bits⟩ dt)
    rw [base] at retired
    exact ⟨_, State.does_inPorts pages dt (jEraseEnd · false), retired⟩

end Sys2Proof.Machine
end

section
/-!
PROOF. The image's load and the host's operations on the external memory (R411 to R420).
-/
namespace Sys2Proof.Machine

/-! ### BOOT.RESULT through the journal restore -/

/-- BOOT stands. -/
def Dev.BootKept (d d' : Dev) : Prop := d'.rd pgXmem Reg.xmem.BOOT = d.rd pgXmem Reg.xmem.BOOT

theorem Dev.BootKept.refl (d : Dev) : d.BootKept d := rfl
theorem Dev.BootKept.trans {a b c : Dev} (h : a.BootKept b) (k : b.BootKept c) : a.BootKept c := Eq.trans k h
theorem Dev.BootKept.ite {d a b : Dev} {c : Prop} [Decidable c] (h : d.BootKept a) (k : d.BootKept b) :
    d.BootKept (if c then a else b) := by
  split <;> assumption

theorem Dev.wr_bootKept (d : Dev) {o : Nat} (ho : o < 1024) (other : o ≠ Reg.xmem.BOOT) (w : Word) :
    d.BootKept (d.wr pgXmem o w) := Dev.rd_wr_ne _ _ fun same => other ((key_inj ho (by decide)).mp same).2

theorem Dev.xw_bootKept (d : Dev) {o : Nat} (ho : o < 1024) (other : o ≠ Reg.xmem.BOOT) (hi lo v : Nat) :
    d.BootKept (d.xw o hi lo v) := d.wr_bootKept ho other _

theorem Dev.ev_bootKept (d : Dev) (i : Nat) : d.BootKept (d.ev pgXmem i) := Dev.rd_ev_ne _ _ (by decide)
theorem Dev.setJr_bootKept (d : Dev) (j : Journal) : d.BootKept (d.setJr j) := rfl

theorem Dev.Replans.bootKept {d d' : Dev} (h : d.Replans d') : d.BootKept d' := h.rd ..

theorem jcounts_bootKept (d : Dev) : d.BootKept (jcounts d) :=
  .trans (d.xw_bootKept (by decide) (by decide) _ _ _) (Dev.xw_bootKept _ (by decide) (by decide) _ _ _)

theorem finalOnly_bootKept (d : Dev) : d.BootKept (finalOnly d) := by
  have moded : d.BootKept d.finalMode := .trans (d.xw_bootKept (by decide) (by decide) _ _ _) (Dev.ev_bootKept ..)
  rw [finalOnly_eq, List.foldl_cons, List.foldl_cons, List.foldl_nil]
  exact (moded.trans (Dev.setJr_bootKept ..)).trans ((Dev.blanked_replans ..).bootKept.trans (Dev.blanked_replans ..).bootKept)

/-- The restore leaves the result of the load as it is. What the journal's sectors hold does not matter for it, and is
kept out of the kernel's sight. -/
theorem journalRestore_bootKept (d : Dev) (x : Directory) : d.BootKept (journalRestore d x) := by
  conv => arg 2; fun; fun; delta journalRestore
  generalize latestRecord = found
  extract_lets d0 d1
  have begun : d.BootKept d1 :=
    .trans (.trans (d.xw_bootKept (by decide) (by decide) _ _ _) (Dev.xw_bootKept _ (by decide) (by decide) _ _ _))
      (Dev.xw_bootKept _ (by decide) (by decide) _ _ _)
  clear_value d1
  refine begun.trans ?_
  split
  · exact ((Dev.wr_bootKept _ (by decide) (by decide) _).trans (jcounts_bootKept _)).trans (jPlace_replans ..).bootKept
  next ws s k _ =>
    extract_lets w nax final d2 j d3 res d4 flags j' d5
    have bad : d1.BootKept d2 :=
      .trans (Dev.wr_bootKept _ (by decide) (by decide) _) (Dev.wr_bootKept _ (by decide) (by decide) _)
    have counted : d2.BootKept d3 := (jcounts_bootKept d2).trans (Dev.setJr_bootKept ..)
    have result : d3.BootKept d4 := Dev.wr_bootKept _ (by decide) (by decide) _
    have restored : d4.BootKept d5 := .ite (Dev.setJr_bootKept ..) (.refl _)
    refine (((bad.trans counted).trans result).trans restored).trans ?_
    clear_value d5
    refine .ite ((finalOnly_bootKept d5).trans ?_) (.ite (jPlace_replans ..).bootKept (jPlace_replans ..).bootKept)
    exact .ite (Dev.setJr_bootKept ..) (.refl _)

/-! ### The load (R411 to R418) -/

theorem bootResult_rf (d : Dev) {r : Nat} (small : r < 8) : (bootResult d r).rf pgXmem Reg.xmem.BOOT 18 16 = r :=
  (Dev.rf_wf_eq _ _ _ _ _ _ (by decide) (by decide)).trans (Nat.mod_eq_of_lt small)

theorem bootResult_flash (d : Dev) (r : Nat) :
    (bootResult d r).rf pgXmem Reg.xmem.FLASH 35 32 = d.rf pgXmem Reg.xmem.FLASH 35 32 :=
  congrArg (fld · 35 32) (Dev.rd_wf_ne _ _ _ _ (by decide))

/-- FLASH.STATE after discovery. -/
theorem discover_state (d : Dev) (b : FlashBoard) : (discover d b).rf pgXmem Reg.xmem.FLASH 35 32 = b.state.val := by
  have susp : bnat b.susp ≤ 1 := by cases b.susp <;> decide
  have addr : bnat b.addr4 ≤ 1 := by cases b.addr4 <;> decide
  have dens := b.dens.isLt
  have rmode := b.rmode.isLt
  have state := b.state.isLt
  rw [discover, Dev.rf_setFl, Dev.rf, Dev.rd_wr_eq, fld_ofNat _ (by decide) (by decide), nfld]
  split <;> omega

theorem discover_sup (d : Dev) (b : FlashBoard) : (discover d b).sup = d.sup := rfl

theorem discover_ready (d : Dev) (b : FlashBoard) : (discover d b).flashReady = decide (b.state.val = 1) := by
  rw [Dev.flashReady, Dev.xf, discover_state]
  rfl

/-- The load's mark, where no reset ended the load. -/
def Dev.loadMarked (d : Dev) : Dev := if d.sup.inReset then d else d.setJr { d.jr with loaded := true }

theorem Dev.loadMarked_loaded {d : Dev} (awake : d.loadMarked.sup.inReset = false) : d.loadMarked.jr.loaded = true := by
  unfold Dev.loadMarked at *
  split at awake
  next reset => exact absurd awake (by simp [reset])
  next on =>
    rw [if_neg on]
    rfl

theorem Dev.loadMarked_rf (d : Dev) (p off hi lo : Nat) : d.loadMarked.rf p off hi lo = d.rf p off hi lo := by
  unfold Dev.loadMarked
  split
  · rfl
  · exact Dev.rf_setJr ..

section load
variable {d : Dev} {b : FlashBoard} (loading : d.jr.loading = true) (fresh : d.jr.loaded = false)
include loading fresh

theorem imageLoad_absent (absent : b.state.val ≠ 1) : imageLoad d b = (bootResult (discover d b) 5).loadMarked := by
  unfold imageLoad
  rw [if_neg (by simp [loading, fresh])]
  extract_lets d1 d2
  exact congrArg Dev.loadMarked (if_pos (by simp [d1, discover_ready, absent]) : d2 = bootResult d1 5)

/-- Loading goes on by the directory that is found (R413). -/
theorem imageLoad_ready (ready : b.state.val = 1) : imageLoad d b =
    ((discover d b).directory.elim (bootResult (discover d b) 4) (loadWith (discover d b))).loadMarked := by
  unfold imageLoad
  generalize Dev.directory = directory
  rw [if_neg (by simp [loading, fresh])]
  extract_lets d1 d2
  have on : d1.flashReady = true := by simp [d1, discover_ready, ready]
  have found : d2 = (directory d1).elim (bootResult d1 4) (loadWith d1) := by
    clear_value d1
    refine (if_neg (by simp [on])).trans ?_
    cases directory d1 <;> rfl
  clear_value d2
  exact congrArg Dev.loadMarked found

theorem imageLoad_loaded (awake : (imageLoad d b).sup.inReset = false) : (imageLoad d b).jr.loaded = true := by
  have marked : ∃ e : Dev, imageLoad d b = e.loadMarked := by
    by_cases ready : b.state.val = 1
    · exact ⟨_, imageLoad_ready loading fresh ready⟩
    · exact ⟨_, imageLoad_absent loading fresh ready⟩
  obtain ⟨e, marked⟩ := marked
  rw [marked] at awake ⊢
  exact Dev.loadMarked_loaded awake

end load

theorem slotSelect_none (pa pb : Bool) (ga gb : Nat) : slotSelect false false pa pb ga gb = 0 := rfl

theorem setLayout_sup (d : Dev) (x : Directory) : (setLayout d x).sup = d.sup := by simp [setLayout]
theorem slotChecks_sup (d : Dev) (ca cb : Nat) : (slotChecks d ca cb).sup = d.sup := by
  simp [slotChecks, Dev.xw]

/-- Without a valid slot the result is 3 (R417). -/
theorem loadWith_noSlot {d : Dev} {x : Directory} (awake : d.sup.inReset = false)
    (a : slotCause (setLayout d x) x.slotA x.slotSect ≠ 0) (b : slotCause (setLayout d x) x.slotB x.slotSect ≠ 0) :
    (loadWith d x).rf pgXmem Reg.xmem.BOOT 18 16 = 3 := by
  unfold loadWith
  generalize slotCause = cause at a b ⊢
  extract_lets d0 ca cb d1 slot d2
  have on : d1.sup.inReset = false := by rw [slotChecks_sup, setLayout_sup, awake]
  have none : slot = 0 := by
    have fa : (ca == 0) = false := beq_false_of_ne a
    have fb : (cb == 0) = false := beq_false_of_ne b
    simp only [slot, fa, fb, slotSelect_none]
  clear_value d1 slot
  have result : d2 = bootResult d1 3 := if_pos none
  clear_value d2
  subst result
  rw [if_neg (by simp [bootResult, Dev.xw, on]), Dev.rf, journalRestore_bootKept]
  exact bootResult_rf d1 (by decide)

/-! ### Operations of the host (R420) -/

theorem opEnd_ends (d : Dev) {r : Nat} (small : r < 8) : (opEnd d r).jr.op = none ∧
    (opEnd d r).rf pgXmem Reg.xmem.XSTAT 2 0 = r ∧ ((opEnd d r).rd pgXmem Reg.PAGE_EVT).getLsbD 4 = true :=
  ⟨rfl, ((Dev.rf_ev_of_ne _ _ (by decide) _ _).trans (Dev.rf_wf_eq _ _ _ _ _ _ (by decide) (by decide))).trans
    (Nat.mod_eq_of_lt small), Dev.ev_bit _ _ _ (by decide)⟩

theorem opEnd_fl (d : Dev) (r : Nat) : (opEnd d r).fl = d.fl := rfl
theorem opEnd_mem (d : Dev) (r : Nat) : (opEnd d r).mem = d.mem := rfl

theorem Dev.memZero_clean {d : Dev} {a : Nat} (clean : (d.mem.at a).ecc = .clean) : d.memZero a = ((d.mem.at a).data, d) := by
  rw [Dev.memZero, Dev.memGet_clean clean]

/-- Clean words read as they are, and reading them changes nothing. -/
theorem Dev.memZeros_clean (n : Nat) {d : Dev} {a : Nat} (clean : ∀ i, i < n → (d.mem.at (a + i)).ecc = .clean) :
    d.memZeros a n = ((List.range n).map (fun i => (d.mem.at (a + i)).data), d) := by
  induction n generalizing a with
  | zero => rfl
  | succ n ih =>
    have head : d.memZero a = ((d.mem.at a).data, d) := Dev.memZero_clean (clean 0 (by omega))
    have rest := ih (a := a + 1) fun i hi => by
      rw [show a + 1 + i = a + (i + 1) by omega]
      exact clean (i + 1) (by omega)
    rw [Dev.memZeros, head]
    dsimp only
    rw [rest, List.range_succ_eq_map, List.map_cons, List.map_map]
    simp only [Function.comp_def, Nat.succ_eq_add_one, Nat.add_zero, Nat.add_assoc, Nat.add_comm 1]

end Sys2Proof.Machine
end

section
/-!
PROOF. The commands of the external memory (R411 to R420).
-/
namespace Sys2Proof.Machine

def xcmdFields : List RegField := [bf 35 35 .wo 0, bf 33 32 .rw 0, bf 19 10 .rw 0, bf 9 0 .rw 0]

theorem xcmd_reg : LowReg .xmem pgXmem Reg.xmem.XCMD xcmdFields :=
  ⟨rfl, by decide, by decide, rfl, rfl, by decide, by decide, by decide, rfl, rfl, rfl, rfl⟩

theorem actWrite_xcmd (d : Dev) (req : Nat) (direct : Bool) (old m : Word) {wo : Word} (clr : Word) (go : bit wo 35 = true) :
    actWrite d .xmem pgXmem Reg.xmem.XCMD req direct old m wo clr = xcmdGo d := if_pos ⟨rfl, go⟩

theorem xcmdGo_of_op {d : Dev} (named : fld (d.rd pgXmem Reg.xmem.XCMD) 33 32 ≠ 0) : xcmdGo d =
    { d.wf pgXmem Reg.xmem.CTL 0 0 0 with jr := { d.jr with
        op := some ⟨d.rf pgXmem Reg.xmem.XCMD 33 32, d.rf pgXmem Reg.xmem.XSECT 15 0, d.rf pgXmem Reg.xmem.XCMD 19 10,
          d.rf pgXmem Reg.xmem.XCMD 9 0, d.rf pgXmem Reg.xmem.XBUF 12 0⟩ } } := if_neg named

/-- A write of XCMD with GO that nothing refuses starts the operation that it names, and clears DIRWE. -/
theorem writes_xcmd {s : State} {w : RegWrite} (takes : s.takes w pgXmem Reg.xmem.XCMD) (direct : w.win = .direct)
    (go : w.data.getLsbD 35 = true) :
    ∃ S, (s.dev.advance w.dt).Stores pgXmem Reg.xmem.XCMD S ∧ (fld w.data 33 32 ≠ 0 →
      s.writes w pgXmem Reg.xmem.XCMD = .next (s.after { S.wf pgXmem Reg.xmem.CTL 0 0 0 with jr := { s.dev.jr with
        op := some ⟨fld w.data 33 32, s.dev.rf pgXmem Reg.xmem.XSECT 15 0, fld w.data 19 10, fld w.data 9 0,
          s.dev.rf pgXmem Reg.xmem.XBUF 12 0⟩ } })) := by
  obtain ⟨S, stores, stored, next⟩ := xcmd_reg.acceptedCommon (by decide) direct takes
  refine ⟨S, stores, fun named => ?_⟩
  have field : ∀ {hi lo : Nat}, lo ≤ hi → hi < 36 →
      covers (maskOf xcmdFields (fun f => f.ty == .rw || f.ty == .rwk)) hi lo →
      S.rf pgXmem Reg.xmem.XCMD hi lo = fld w.data hi lo := fun hl hh rw => by
    rw [Dev.rf, stored, s.fld_forms_now _ _ w hl hh rw rfl]
  have op : S.rf pgXmem Reg.xmem.XCMD 33 32 = fld w.data 33 32 :=
    field (by decide) (by decide) fun i lo hi => by interval_cases i <;> rfl
  have word : S.rf pgXmem Reg.xmem.XCMD 19 10 = fld w.data 19 10 :=
    field (by decide) (by decide) fun i lo hi => by interval_cases i <;> rfl
  have count : S.rf pgXmem Reg.xmem.XCMD 9 0 = fld w.data 9 0 :=
    field (by decide) (by decide) fun i lo hi => by interval_cases i <;> rfl
  have sect : S.rf pgXmem Reg.xmem.XSECT 15 0 = s.dev.rf pgXmem Reg.xmem.XSECT 15 0 := by
    rw [Dev.rf, stores.rd _ _ (by decide) (by decide), Dev.rd_advance, ← Dev.rf]
  have buf : S.rf pgXmem Reg.xmem.XBUF 12 0 = s.dev.rf pgXmem Reg.xmem.XBUF 12 0 := by
    rw [Dev.rf, stores.rd _ _ (by decide) (by decide), Dev.rd_advance, ← Dev.rf]
  rw [actWrite_xcmd _ _ _ _ _ _ ((s.bit_forms_wo _ _ w rfl).trans go), xcmdGo_of_op (by rw [← Dev.rf, op]; exact named),
    op, word, count, sect, buf, stores.jr, Dev.advance_jr] at next
  exact next

/-! ### The end of an operation -/

/-- What the end of an operation reports (R420). -/
def Dev.OpEnded (r : Nat) (d : Dev) : Prop :=
  d.jr.op = none ∧ d.rf pgXmem Reg.xmem.XSTAT 2 0 = r ∧ (d.rd pgXmem Reg.PAGE_EVT).getLsbD 4 = true

theorem jResume_ended {d : Dev} {r : Nat} (h : d.OpEnded r) : (jResume d).OpEnded r := by
  have resumed := jResume_replans d
  obtain ⟨op, stat, event⟩ := h
  exact ⟨resumed.op.trans op, by rw [Dev.rf, resumed.rd]; exact stat, by rw [resumed.rd]; exact event⟩

section xdone
variable {d : Dev} {o : FlashOp} (op : d.jr.op = some o) (idle : d.jr.writing = none)
include op idle

theorem xdone_eq (res : FlashOutcome) : xdone d res = jResume (opDone d o res) := by
  simp [xdone, op, idle]

/-- Whatever ends the operation `opEnd` reports, and what waited for it is no part of it. -/
theorem xdone_of_end {res : FlashOutcome} {e : Dev} {r : Nat} (small : r < 8) (done : opDone d o res = opEnd e r) :
    (xdone d res).OpEnded r ∧ (xdone d res).fl = e.fl ∧ (xdone d res).mem = e.mem := by
  have resumed := jResume_replans (opEnd e r)
  rw [xdone_eq op idle, done]
  exact ⟨jResume_ended (opEnd_ends e small), resumed.fl.trans (opEnd_fl e r), resumed.mem.trans (opEnd_mem e r)⟩

end xdone

/-- Byte addresses of consecutive words of a sector. -/
theorem flashAddr_add (s w i : Nat) : flashAddr s (w + i) = flashAddr s w + 5 * i := by
  rw [flashAddr, flashAddr]
  omega

section opDone
variable {d : Dev} {o : FlashOp}

/-- The words that a READ brings. -/
def Dev.opWords (d : Dev) (o : FlashOp) : List Word :=
  (List.range o.count).map (fun i => d.fl.raw (flashAddr o.sect (o.word + i)))

theorem opDone_read (read : o.op = 1) : opDone d o .done = opEnd (d.memPuts (d.bufAddr o.buf) (d.opWords o)) 0 := by
  rw [opDone, read]
  rfl

/-- A place that is not erased ends a PROGRAM with 1. -/
theorem opDone_notErased (program : o.op = 2)
    (dirty : ∃ i, i < o.count ∧ d.fl.word (flashAddr o.sect (o.word + i)) ≠ .erased) (res : FlashOutcome) :
    opDone d o res = opEnd d 1 := by
  obtain ⟨i, inside, word⟩ := dirty
  rw [opDone, program]
  exact if_pos (List.any_eq_true.mpr ⟨i, List.mem_range.mpr inside, decide_eq_true word⟩)

/-- The words that a PROGRAM puts. -/
def Dev.opBuffer (d : Dev) (o : FlashOp) : List Word := (List.range o.count).map (fun i => (d.mem.at (d.bufAddr o.buf + i)).data)

section program
variable (program : o.op = 2) (erased : ∀ i, i < o.count → d.fl.word (flashAddr o.sect (o.word + i)) = .erased)
  (clean : ∀ i, i < o.count → (d.mem.at (d.bufAddr o.buf + i)).ecc = .clean)
include program erased clean

theorem opDone_program : opDone d o .done = opEnd (d.setFl (d.fl.putWords (flashAddr o.sect o.word) (d.opBuffer o))) 0 ∧
    opDone d o .differs = opEnd (opSpoil d o) 2 ∧ opDone d o .failed = opEnd (opSpoil d o) 4 := by
  have free : ¬ (List.range o.count).any (fun i => d.fl.word (flashAddr o.sect (o.word + i)) ≠ .erased) = true := by
    simpa using erased
  simp only [opDone, program, if_neg free, Dev.memZeros_clean _ clean, Dev.opBuffer, and_self]

end program

theorem opDone_erase (erase : o.op = 3) : opDone d o .done = opEnd (d.setFl (d.fl.erase o.sect)) 0 := by
  rw [opDone, erase]
  rfl

end opDone

theorem Dev.bufAddr_advance (d : Dev) (k i : Nat) : (d.advance k).bufAddr i = d.bufAddr i := by
  simp [Dev.bufAddr, Dev.cshd]

theorem bootDone_of_loaded {d : Dev} (loading : d.jr.loading = true) (loaded : d.jr.loaded = true) :
    bootDone d = ({ d with jr := { d.jr with loading := false } } : Dev).ev pgXmem 0 := by
  rw [bootDone, if_neg (by simp [loading, loaded])]
  rfl

/-! ### The claim -/

/-- Settles O55: the load by what it finds, XCMD by its store, and each operation by what `opEnd` reports of it. -/
theorem externalMemory : Obligations.ExternalMemory := by
  intro s dt
  have jr := s.dev.advance_jr dt
  have fl := s.dev.advance_fl dt
  have mem := s.dev.advance_mem dt
  refine ⟨fun b pages loading fresh => ?load, fun pages loading loaded => ?done, fun w takes direct go => ?xcmd,
    fun o pages op idle => ?xdone⟩
  case load =>
    have loading' : (s.dev.advance dt).jr.loading = true := by rwa [jr]
    have fresh' : (s.dev.advance dt).jr.loaded = false := by rwa [jr]
    refine ⟨_, State.does_inPorts pages dt (imageLoad · b), imageLoad_loaded loading' fresh', fun absent => ?_,
      fun ready none => ?_, fun x ready some causeA causeB => ?_⟩
    · rw [imageLoad_absent loading' fresh' absent, Dev.loadMarked_rf, Dev.loadMarked_rf, bootResult_flash, discover_state]
      exact ⟨bootResult_rf _ (by decide), rfl⟩
    · rw [imageLoad_ready loading' fresh' ready, none, Dev.loadMarked_rf]
      exact bootResult_rf _ (by decide)
    · rw [imageLoad_ready loading' fresh' ready, some, Dev.loadMarked_rf]
      exact loadWith_noSlot (by rw [discover_sup, Dev.advance_sup]; exact pages.1) causeA causeB
  case done =>
    have ended := bootDone_of_loaded (d := s.dev.advance dt) (by rwa [jr]) (by rwa [jr])
    rw [jr] at ended
    exact (State.does_inPorts pages dt bootDone).trans (by rw [ended])
  case xcmd =>
    obtain ⟨S, stores, next⟩ := writes_xcmd takes direct go
    exact ⟨S, stores, fun read => next (by omega), fun program => next (by omega), fun erase => next (by omega)⟩
  case xdone =>
    have op' : (s.dev.advance dt).jr.op = some o := by rwa [jr]
    have idle' : (s.dev.advance dt).jr.writing = none := by rwa [jr]
    have buf := s.dev.bufAddr_advance dt o.buf
    have next := fun res => State.does_inPorts pages dt (xdone · res)
    refine ⟨fun read inside => ?_, fun program clean => ?_, fun program dirty res => ?_, fun erase => ?_⟩
    · obtain ⟨ended, flash, memory⟩ := xdone_of_end op' idle' (by decide) (opDone_read read)
      have length : ((s.dev.advance dt).opWords o).length = o.count := by simp [Dev.opWords]
      obtain ⟨m, puts, within, outside⟩ := Dev.memPuts_of_le ((s.dev.advance dt).opWords o) (s.dev.advance dt)
        ((s.dev.advance dt).bufAddr o.buf) (by rw [buf, length, Dev.advance_variant]; exact inside)
      rw [puts] at flash memory
      rw [length, buf] at within outside
      refine ⟨_, next .done, ended, flash.trans fl, fun i hi => ?_, fun a ha => ?_⟩
      · rw [memory, within i hi]
        simp [Dev.opWords, hi]
      · rw [memory, outside a ha, mem]
    · have erased' : ∀ i, i < o.count → (s.dev.advance dt).fl.word (flashAddr o.sect (o.word + i)) = .erased := fun i hi => by
        rw [fl]
        exact (clean i hi).1
      have clean' : ∀ i, i < o.count → ((s.dev.advance dt).mem.at ((s.dev.advance dt).bufAddr o.buf + i)).ecc = .clean :=
        fun i hi => by
          rw [buf, mem]
          exact (clean i hi).2
      obtain ⟨done, differs, failed⟩ := opDone_program program erased' clean'
      have length : ((s.dev.advance dt).opBuffer o).length = o.count := by simp [Dev.opBuffer]
      refine ⟨?_, ⟨_, next .differs, (xdone_of_end op' idle' (by decide) differs).1⟩,
        ⟨_, next .failed, (xdone_of_end op' idle' (by decide) failed).1⟩⟩
      obtain ⟨ended, flash, memory⟩ := xdone_of_end op' idle' (by decide) done
      rw [Dev.setFl_fl, fl] at flash
      refine ⟨_, next .done, ended, memory.trans mem, fun i hi => ?_, fun a ha => ?_⟩
      · have word := Flash.word_putWords s.dev.fl (flashAddr o.sect o.word) ((s.dev.advance dt).opBuffer o) (i := i)
          (by rwa [length])
        rw [← flashAddr_add] at word
        rw [flash]
        exact word.trans (by simp [Dev.opBuffer, hi, buf])
      · rw [flash]
        exact Flash.byte_putWords_ne _ _ _ (by rwa [length])
    · obtain ⟨ended, flash, memory⟩ := xdone_of_end op' idle' (by decide) (opDone_notErased program (by rwa [fl]) res)
      exact ⟨_, next res, ended, flash.trans fl, memory.trans mem⟩
    · obtain ⟨ended, flash, memory⟩ := xdone_of_end op' idle' (by decide) (opDone_erase erase)
      refine ⟨_, next .done, ended, memory.trans mem, fun a => ?_⟩
      rw [flash, Dev.setFl_fl, fl]
      exact Flash.byte_erase ..

end Sys2Proof.Machine
end

section
/-!
PROOF. The peripheral port (R428 to R433).
-/
namespace Sys2Proof.Machine

/-! ### The end of an entry (R430) -/

section regsOnly
variable {d d' : Dev} (h : d.RegsOnly d')
include h

theorem Dev.RegsOnly.mem : d'.mem = d.mem := by
  obtain ⟨_, _, rfl⟩ := h
  rfl

end regsOnly

/-- Events and counts of the port alone: neither QPTR nor an event that stood. -/
structure Dev.Signals (d d' : Dev) : Prop where
  only : d.RegsOnly d'
  qptr : d'.rd pgPerip Reg.perip.QPTR = d.rd pgPerip Reg.perip.QPTR
  events : ∀ i, (d.rd pgPerip Reg.PAGE_EVT).getLsbD i = true → (d'.rd pgPerip Reg.PAGE_EVT).getLsbD i = true

theorem Dev.Signals.refl (d : Dev) : d.Signals d := ⟨.refl d, rfl, fun _ h => h⟩

theorem Dev.Signals.trans {a b c : Dev} (h : a.Signals b) (k : b.Signals c) : a.Signals c :=
  ⟨h.only.trans k.only, k.qptr.trans h.qptr, fun i set => k.events i (h.events i set)⟩

theorem Dev.Signals.ite {d a b : Dev} {c : Prop} [Decidable c] (h : d.Signals a) (k : d.Signals b) :
    d.Signals (if c then a else b) := by
  split <;> assumption

theorem Dev.ev_signals (d : Dev) (i : Nat) : d.Signals (d.ev pgPerip i) :=
  ⟨d.ev_regsOnly .., Dev.rd_ev_ne _ _ (by decide), fun _ set => Dev.ev_keeps _ _ _ set⟩

theorem Dev.errcnt_signals (d : Dev) (hi lo : Nat) : d.Signals (d.incSat pgPerip Reg.perip.ERRCNT hi lo) :=
  ⟨d.incSat_regsOnly .., Dev.rd_incSat_ne _ _ _ (by decide), fun i set => by rw [Dev.rd_incSat_ne _ _ _ (by decide), set]⟩

section signals
variable {d d' : Dev} (h : d.Signals d')
include h

theorem Dev.Signals.pHead : d'.pHead = d.pHead := congrArg (fld · 5 0) h.qptr
theorem Dev.Signals.pTail : d'.pTail = d.pTail := congrArg (fld · 21 16) h.qptr

end signals

/-- `d'` is `d` after the head entry, whose word 0 is `w`, has ended with result `r` and the RX words `rx`. -/
structure Dev.EntryEnded (w : Word) (r : Nat) (rx : List Word) (d d' : Dev) : Prop where
  result : d'.mem.at (d.pEntryAddr d.pHead + 1) = ⟨BitVec.ofNat 36 (2 ^ 35 + r * 2 ^ 32 + d.tk % 4096), .clean⟩
  rx : ∀ i, i < rx.length → d'.mem.at (d.pEntryAddr d.pHead + 2 + fld w 20 16 + i) = ⟨rx.getD i 0, .clean⟩
  head : d'.pHead = (d.pHead + 1) % 64
  run : d'.pp.run = none
  tick : d'.pp.endTick = some d.tk
  held : d'.pp.selHeld = if r = 0 ∧ bit w 4 then some (fld w 34 32, d.clk) else none
  halted : d'.pp.halted = (decide (r ≠ 0) && d.rb pgPerip Reg.perip.CFG 1)
  asked : w.getLsbD 1 = true → (d'.rd pgPerip Reg.PAGE_EVT).getLsbD 0 = true
  failed : r ≠ 0 → (d'.rd pgPerip Reg.PAGE_EVT).getLsbD 1 = true
  empty : d'.pHead = d.pTail → (d'.rd pgPerip Reg.PAGE_EVT).getLsbD 3 = true
  clk : d'.clk = d.clk

/-- The counts that a result asks for. -/
def Dev.resultCounted (d : Dev) (r : Nat) : Dev :=
  if r = 1 then d.incSat pgPerip Reg.perip.ERRCNT 35 24
  else if r = 2 ∨ r = 3 then d.incSat pgPerip Reg.perip.ERRCNT 23 12 else d

theorem Dev.resultCounted_signals (d : Dev) (r : Nat) : d.Signals (d.resultCounted r) :=
  .ite (d.errcnt_signals ..) (.ite (d.errcnt_signals ..) (.refl d))

/-- Registers do not depend on the memory. -/
theorem Dev.rf_withMem (d : Dev) (m : Mem) (p off hi lo : Nat) : ({ d with mem := m } : Dev).rf p off hi lo =
    d.rf p off hi lo := rfl

/-- RX words within the memory are put; none put nothing. -/
theorem Dev.memPuts_received (d : Dev) {a : Nat} {rx : List Word} (inside : rx = [] ∨ a + rx.length ≤ d.variant.memWords) :
    ∃ m, d.memPuts a rx = { d with mem := m } ∧ ∀ i, i < rx.length → m.at (a + i) = ⟨rx.getD i 0, .clean⟩ := by
  rcases inside with rfl | inside
  · exact ⟨d.mem, rfl, fun i hi => absurd hi (Nat.not_lt_zero i)⟩
  · obtain ⟨m, puts, words, -⟩ := Dev.memPuts_of_le rx d a inside
    exact ⟨m, puts, words⟩

theorem peripFinish_ended {d : Dev} {w : Word} (r : Nat) {rx : List Word} (room : d.pEntryAddr d.pHead + 1 < d.variant.memWords)
    (inside : rx = [] ∨ d.pEntryAddr d.pHead + 2 + fld w 20 16 + rx.length ≤ d.variant.memWords) :
    Dev.EntryEnded w r rx d (peripFinish d w r rx) := by
  unfold peripFinish
  generalize word : BitVec.ofNat 36 (2 ^ 35 + r * 2 ^ 32 + d.tk % 4096) = v
  extract_lets a d1 d2 d3 d4 d5 d6 d7
  obtain ⟨m, puts, words⟩ := d.memPuts_received (a := a + 2 + fld w 20 16) inside
  have put : d2 = { d with mem := m.put (a + 1) v } := by
    simp only [d2, d1, puts]
    exact Dev.memPut_of_lt (d := { d with mem := m }) room _
  have head : d3.pHead = (d.pHead + 1) % 64 := Dev.rf_wf_eq _ _ _ _ _ _ (by decide) (by decide)
  have tail : d3.pTail = d.pTail := by
    refine (Dev.rf_wf_other d2 pgPerip Reg.perip.QPTR 5 0 _ 21 16 (by decide) (by decide) (by decide) (by decide)).trans ?_
    rw [put, Dev.rf_withMem, ← Dev.pTail]
  have moved : d2.RegsOnly d3 := d2.wf_regsOnly ..
  have asked : d3.Signals d4 := .ite (d3.ev_signals 0) (.refl d3)
  have failed : d4.Signals d5 := .ite (.refl d4) (d4.ev_signals 1)
  have empty : d5.Signals d6 := .ite (d5.ev_signals 3) (.refl d5)
  have counted : d6.Signals d7 := d6.resultCounted_signals r
  have all : d3.Signals d7 := ((asked.trans failed).trans empty).trans counted
  have event0 : w.getLsbD 1 = true → (d4.rd pgPerip Reg.PAGE_EVT).getLsbD 0 = true := fun set => by
    rw [show d4 = _ from if_pos ((bit_eq_getLsbD w 1).trans set)]
    exact Dev.ev_bit _ _ _ (by decide)
  have event1 : r ≠ 0 → (d5.rd pgPerip Reg.PAGE_EVT).getLsbD 1 = true := fun bad => by
    rw [show d5 = _ from if_neg bad]
    exact Dev.ev_bit _ _ _ (by decide)
  have event3 : d5.pHead = d5.pTail → (d6.rd pgPerip Reg.PAGE_EVT).getLsbD 3 = true := fun same => by
    rw [show d6 = _ from if_pos same]
    exact Dev.ev_bit _ _ _ (by decide)
  have before := asked.trans failed
  rw [before.pHead, before.pTail, head, tail] at event3
  have only := moved.trans all.only
  have mem : d7.mem = m.put (a + 1) v := by rw [only.mem, put]
  have clk : d7.clk = d.clk := by rw [only.clk, put]
  clear_value d7
  refine ⟨?_, fun i hi => ?_, all.pHead.trans head, rfl, rfl, rfl, rfl, fun set =>
    (failed.trans (empty.trans counted)).events 0 (event0 set),
    fun bad => (empty.trans counted).events 1 (event1 bad),
    fun none => counted.events 3 (event3 ((all.pHead.trans head).symm.trans none)), clk⟩
  · rw [Dev.setPp_mem, mem, word]
    exact Mem.at_put_eq ..
  · rw [Dev.setPp_mem, mem, Mem.at_put_ne _ _ (by omega), words i hi]

/-! ### The start of an entry (R430 to R432) -/

/-- Word 0 of the head entry. -/
def Dev.headWord (d : Dev) : Word := (d.mem.at (d.pEntryAddr d.pHead)).data

/-- The head entry may start, and its words carry no error. -/
structure Dev.MayStart (d : Dev) : Prop where
  on : d.rb pgPerip Reg.perip.CFG 0 = true
  going : d.pp.halted = false
  free : d.pp.run = none
  held : d.pHead ≠ d.pTail
  awake : d.sup.ps ≠ .retain
  clean : ∀ i, i < 32 → (d.mem.at (d.pEntryAddr d.pHead + i)).ecc = .clean
  tick : d.headWord.getLsbD 3 = true → ∀ t, d.pp.endTick = some t → t < d.tk

/-- Whether the head entry is framed. -/
def Dev.headFramed (d : Dev) : Bool := d.rb pgPerip (Reg.perip.SELCFG + fld d.headWord 34 32) 0

/-- The words that the head entry drives. -/
def Dev.headTx (d : Dev) : List Word :=
  (List.range (fld d.headWord 20 16)).map
    (fun i => lowBits (fld d.headWord 29 24) (d.mem.at (d.pEntryAddr d.pHead + 2 + i)).data)

/-- An entry that is one sends at most 30 words. -/
theorem badEntry_small {w : Word} {framed : Bool} (good : badEntry w framed = false) : fld w 20 16 + fld w 12 8 ≤ 30 := by
  simp only [badEntry, Bool.or_eq_false_iff, decide_eq_false_iff_not] at good
  omega

/-- A select that another entry holds rises without one that follows it in time (R432). -/
def Dev.selectRisen (d : Dev) (m : Nat) : Dev :=
  if d.pp.selHeld.any (fun e => decide (e.1 ≠ m)) then d.incSat pgPerip Reg.perip.ERRCNT 11 0 else d

/-- A framed entry moves its peripheral's alive counter on (R431). -/
def Dev.aliveCounted (d : Dev) (m : Nat) (framed : Bool) : Dev :=
  if framed then d.incWrap pgPerip (Reg.perip.ALIVE + m) 3 0 1 else d

/-- The words that the head entry sends, with its trailer. -/
def Dev.headSent (d : Dev) : List Word :=
  if d.headFramed then d.headTx ++ [plainTrailer (d.rf pgPerip (Reg.perip.ALIVE + fld d.headWord 34 32) 3 0) d.headTx]
  else d.headTx

/-- The registers after the head entry's start. -/
def Dev.headCounted (d : Dev) : Dev := (d.selectRisen (fld d.headWord 34 32)).aliveCounted (fld d.headWord 34 32) d.headFramed

def Dev.headRuns (d : Dev) : Dev :=
  d.headCounted.setPp { d.headCounted.pp with run := some ⟨d.headWord, d.headTx, d.clk⟩, selHeld := none, sent := d.headSent }

section start
variable {d : Dev} (may : d.MayStart)
include may

theorem Dev.MayStart.memZero : d.memZero (d.pEntryAddr d.pHead) = (d.headWord, d) := by
  have clean := may.clean 0 (by decide)
  rw [Nat.add_zero] at clean
  exact Dev.memZero_clean clean

theorem Dev.MayStart.memZeros (small : fld d.headWord 20 16 ≤ 30) :
    d.memZeros (d.pEntryAddr d.pHead + 2) (fld d.headWord 20 16) =
      ((List.range (fld d.headWord 20 16)).map (fun i => (d.mem.at (d.pEntryAddr d.pHead + 2 + i)).data), d) :=
  Dev.memZeros_clean _ fun i hi => by
    rw [Nat.add_assoc]
    exact may.clean _ (by omega)

/-- None of the conditions that keep an entry from starting holds. -/
theorem Dev.MayStart.ready : ¬ ((!d.rb pgPerip Reg.perip.CFG 0) = true ∨ d.pp.halted = true ∨ d.pp.run.isSome = true ∨
    d.pHead = d.pTail ∨ d.sup.ps = .retain) := by
  simp [may.on, may.going, may.free, may.held, may.awake]

theorem Dev.MayStart.due : ¬ (bit d.headWord 3 = true ∧ d.pp.endTick.any (fun t => decide (d.tk ≤ t)) = true) := by
  rintro ⟨waits, late⟩
  cases ended : d.pp.endTick with
  | none => simp [ended] at late
  | some t =>
    have early := may.tick waits t ended
    simp only [ended, Option.any_some, decide_eq_true_eq] at late
    omega

/-- What is no entry ends at once with RESULT 5. -/
theorem peripStart_bad (bad : badEntry d.headWord d.headFramed = true) : peripStart d = peripFinish d d.headWord 5 [] := by
  unfold peripStart
  rw [if_neg may.ready]
  dsimp only
  rw [may.memZero]
  dsimp only
  rw [if_neg may.due]
  exact if_pos bad

theorem peripStart_good (good : badEntry d.headWord d.headFramed = false) : peripStart d = d.headRuns := by
  have small := badEntry_small good
  have tx : d.headTx = ((List.range (fld d.headWord 20 16)).map
      (fun i => (d.mem.at (d.pEntryAddr d.pHead + 2 + i)).data)).map (lowBits (fld d.headWord 29 24)) := by
    rw [List.map_map]
    rfl
  unfold peripStart
  rw [if_neg may.ready]
  dsimp only
  rw [may.memZero]
  dsimp only
  rw [if_neg may.due, may.memZeros (by omega), ← tx]
  exact if_neg (by rw [← Dev.headFramed, good]; decide)

end start

theorem Dev.headCounted_regsOnly (d : Dev) : d.RegsOnly d.headCounted :=
  .trans (.ite (d.incSat_regsOnly ..) (.refl d)) (.ite (Dev.wf_regsOnly ..) (.refl _))

/-- The alive counter of a framed entry moves on. -/
theorem Dev.headRuns_alive {d : Dev} (framed : d.headFramed = true) :
    d.headRuns.rf pgPerip (Reg.perip.ALIVE + fld d.headWord 34 32) 3 0 =
      (d.rf pgPerip (Reg.perip.ALIVE + fld d.headWord 34 32) 3 0 + 1) % 16 := by
  have apart : ∀ m, key pgPerip Reg.perip.ERRCNT ≠ key pgPerip (Reg.perip.ALIVE + m) := fun m => by
    simp only [key, Reg.perip.ERRCNT, Reg.perip.ALIVE]
    omega
  have same : ∀ m, (d.selectRisen m).rd pgPerip (Reg.perip.ALIVE + m) = d.rd pgPerip (Reg.perip.ALIVE + m) := fun m => by
    unfold Dev.selectRisen
    split
    · exact Dev.rd_incSat_ne _ _ _ (apart m)
    · rfl
  rw [Dev.headRuns, Dev.rf_setPp, Dev.headCounted, Dev.aliveCounted, if_pos framed, Dev.incWrap,
    Dev.rf_wf_eq _ _ _ _ _ _ (by decide) (by decide), Dev.rf, same, ← Dev.rf, show 2 ^ (3 - 0 + 1) = 16 from rfl]

/-! ### The end of a transfer (R430, R431) -/

/-- The words that entry `e` receives. -/
def PEntry.got (e : PEntry) (rx : List Word) : List Word :=
  (List.range (fld e.w0 12 8)).map (fun i => lowBits (fld e.w0 29 24) (rx.getD i 0))

/-- What the trailer of a framed entry says, for `sent` driven: 0 that it is right. -/
def PEntry.trailer (e : PEntry) (sent rx : List Word) : Nat :=
  let tr := rx.getD (fld e.w0 12 8) 0
  if fld tr 31 0 ≠ fld (plainTrailer (fld tr 35 32) (e.got rx)) 31 0 then 2
  else if fld tr 35 32 ≠ fld (sent.getLastD 0) 35 32 then 3 else 0

theorem PEntry.got_length (e : PEntry) (rx : List Word) : (e.got rx).length = fld e.w0 12 8 := by simp [PEntry.got]

section ends
variable {d : Dev} {e : PEntry} (run : d.pp.run = some e)
include run

theorem peripEnd_plain (plain : d.pp.sent.length ≤ e.tx.length) (rx : List Word) :
    peripEnd d rx = peripFinish d e.w0 0 (e.got rx) := by
  rw [peripEnd, run]
  dsimp only
  rw [if_neg (by omega)]
  rfl

theorem peripEnd_framed (framed : e.tx.length < d.pp.sent.length) (rx : List Word) :
    peripEnd d rx = peripFinish d e.w0 (e.trailer d.pp.sent rx) (e.got rx) := by
  rw [peripEnd, run]
  dsimp only
  rw [if_pos framed]
  rfl

theorem peripTimeout_ready (ready : (d.rd pgPerip (Reg.perip.SELCFG + fld e.w0 34 32)).getLsbD 4 = true) : peripTimeout d =
    peripFinish (d.advanceTo (e.startAt + fld (d.rd pgPerip (Reg.perip.SELCFG + fld e.w0 34 32)) 27 20 * 400)) e.w0 1 [] := by
  rw [peripTimeout, run]
  exact if_neg (by rw [bit_eq_getLsbD, ready]; decide)

end ends

theorem Dev.advanceTo_pp (d : Dev) (t : Nat) : (d.advanceTo t).pp = d.pp := Dev.advance_pp ..

/-- R432: the select that nothing follows rises after CONTMAX. -/
theorem peripContto_held {d : Dev} {m t : Nat} (held : d.pp.selHeld = some (m, t)) : peripContto d =
    ((d.advanceTo (t + d.rf pgPerip Reg.perip.CONTMAX 15 0 * 400)).setPp { d.pp with selHeld := none }).ev pgPerip 2 := by
  rw [peripContto, held]
  dsimp only
  rw [Dev.advanceTo_pp]

end Sys2Proof.Machine
end

section
/-!
PROOF. The commands of the peripheral port (R429 to R432).
-/
namespace Sys2Proof.Machine

/-! ### The queue's pointers (R429) -/

def peripQptrFields : List RegField := [bf 21 16 .rw 0, bf 5 0 .ro 0]

theorem peripQptr_reg : LowReg .perip pgPerip Reg.perip.QPTR peripQptrFields :=
  ⟨rfl, by decide, by decide, rfl, rfl, by decide, by decide, by decide, rfl, rfl, rfl, rfl⟩

theorem actWrite_peripQptr (d : Dev) (req : Nat) (direct : Bool) (old m wo clr : Word) :
    actWrite d .perip pgPerip Reg.perip.QPTR req direct old m wo clr = d := rfl

/-- A bit that no field lets be written keeps its value. -/
theorem formWrite_now_other (d : Dev) (p off : Nat) (fs : List RegField) (data : Word) (i : Nat) (hi : i < 36)
    (rw : bit (maskOf fs (fun f => f.ty == .rw || f.ty == .rwk)) i = false)
    (w1c : bit (maskOf fs (fun f => f.ty == .w1c)) i = false) :
    bit (formWrite d p off fs .direct data).now i = bit (d.rd p off) i := by
  simp [formWrite, aliasOp, bit_and, bit_or, bit_not _ _ hi, rw, w1c]

/-! ### Ends, as the queue's owner sees them -/

/-- The head entry of `s` has ended with result `r`; `w` is its word 0. -/
def Dev.EndsAt (s : Dev) (w : Word) (r : Nat) (d : Dev) : Prop :=
  d.mem.at (s.pEntryAddr s.pHead + 1) = ⟨BitVec.ofNat 36 (2 ^ 35 + r * 2 ^ 32 + s.tk % 4096), .clean⟩ ∧
  d.pHead = (s.pHead + 1) % 64 ∧ d.pp.run = none ∧ d.pp.endTick = some s.tk ∧
  (w.getLsbD 1 = true → (d.rd pgPerip Reg.PAGE_EVT).getLsbD 0 = true) ∧
  (r ≠ 0 → (d.rd pgPerip Reg.PAGE_EVT).getLsbD 1 = true) ∧
  (d.pHead = s.pTail → (d.rd pgPerip Reg.PAGE_EVT).getLsbD 3 = true) ∧
  d.pp.halted = (decide (r ≠ 0) && s.rb pgPerip Reg.perip.CFG 1)

section same
variable {s e : Dev} (rd : ∀ p off, e.rd p off = s.rd p off)
include rd

theorem Dev.pHead_of_rd : e.pHead = s.pHead := congrArg (fld · 5 0) (rd ..)
theorem Dev.pTail_of_rd : e.pTail = s.pTail := congrArg (fld · 21 16) (rd ..)

theorem Dev.pEntryAddr_of_rd : e.pEntryAddr e.pHead = s.pEntryAddr s.pHead := by
  rw [Dev.pHead_of_rd rd, Dev.pEntryAddr, Dev.pEntryAddr, Dev.cshd, Dev.cshd, Dev.part, Dev.part, rd]

theorem Dev.EntryEnded.endsAt {w : Word} {r : Nat} {rx : List Word} {d : Dev} (h : Dev.EntryEnded w r rx e d)
    (tk : e.tk = s.tk) : s.EndsAt w r d := by
  obtain ⟨result, -, head, run, tick, -, halted, asked, failed, empty, -⟩ := h
  rw [Dev.pEntryAddr_of_rd rd, tk] at result
  rw [Dev.pHead_of_rd rd] at head
  rw [tk] at tick
  rw [Dev.pTail_of_rd rd] at empty
  rw [Dev.rb, rd, ← Dev.rb] at halted
  exact ⟨result, head, run, tick, asked, failed, empty, halted⟩

end same

/-- Settles O57: each end is `peripFinish`, and a start that is none ends at once. -/
theorem peripheralPort : Obligations.PeripheralPort := by
  intro s dt
  refine ⟨fun w takes direct => ?tail, fun pages inside on going free held clean tick => ?start, fun e pages run inside => ?ends,
    fun m t pages held => ?contto⟩
  case tail =>
    obtain ⟨S, stores, stored, next⟩ := peripQptr_reg.acceptedCommon (by decide) direct takes
    rw [actWrite_peripQptr] at next
    refine ⟨S, stores, ?_, ?_, next⟩
    · rw [Dev.pTail, Dev.rf, stored, s.fld_forms_now _ _ w (by decide) (by decide)
        (fun i _ hi => by interval_cases i <;> rfl) rfl]
    · rw [Dev.pHead, Dev.rf, stored, Dev.pHead, Dev.rf]
      refine fld_congr (by decide) fun i lo hi => ?_
      rw [State.forms, formWrite_now_other _ _ _ _ _ i (by omega) (by interval_cases i <;> rfl) (by interval_cases i <;> rfl),
        Dev.rd_advance]
  case contto =>
    have acts : exec .contto s = .next (s.after (peripContto s.dev)) := by
      have next := State.does_inPorts pages 0 peripContto
      rwa [Dev.advance_zero] at next
    rw [peripContto_held held] at acts
    exact ⟨_, acts, rfl, Dev.ev_bit _ _ _ (by decide), Dev.advanceTo_clk_eq_max ..⟩
  case start =>
    have pp := s.dev.advance_pp dt
    have mem := s.dev.advance_mem dt
    have rd := s.dev.rd_advance dt
    have head := Dev.pEntryAddr_of_rd rd
    have word : (s.dev.advance dt).headWord = s.dev.headWord := by rw [Dev.headWord, head, mem, Dev.headWord]
    have framed : (s.dev.advance dt).headFramed = s.dev.headFramed := by rw [Dev.headFramed, word, Dev.rb_advance, Dev.headFramed]
    have tx : (s.dev.advance dt).headTx = s.dev.headTx := by rw [Dev.headTx, word, head, mem, Dev.headTx]
    have sent : (s.dev.advance dt).headSent = s.dev.headSent := by
      rw [Dev.headSent, framed, tx, word, Dev.rf_advance, Dev.headSent]
    have may : (s.dev.advance dt).MayStart := by
      refine ⟨(Dev.rb_advance ..).trans on, by rwa [pp], by rwa [pp], ?_, ?_, fun i hi => ?_, fun waits t ended => ?_⟩
      · rwa [Dev.pHead_of_rd rd, Dev.pTail_of_rd rd]
      · rw [Dev.advance_sup]
        exact pages.2
      · rw [head, mem]
        exact clean i hi
      · rw [Dev.advance_tk]
        rw [word] at waits
        rw [pp] at ended
        exact tick waits t ended
    refine ⟨fun bad => ?_, fun good => ?_⟩
    · have next := State.does_inPorts pages dt peripStart
      rw [peripStart_bad may (by rw [word, framed]; exact bad), word] at next
      exact ⟨_, next, Dev.EntryEnded.endsAt rd (peripFinish_ended 5 (by rw [head, Dev.advance_variant]; omega) (.inl rfl))
        (s.dev.advance_tk dt)⟩
    · have next := State.does_inPorts pages dt peripStart
      rw [peripStart_good may (by rw [word, framed]; exact good)] at next
      have run : (s.dev.advance dt).headRuns.pp.run = some ⟨s.dev.headWord, s.dev.headTx, (s.dev.advance dt).clk⟩ := by
        rw [← word, ← tx]
        rfl
      refine ⟨_, next, run, rfl, (Dev.headCounted_regsOnly _).mem.trans mem, sent, fun is => ?_⟩
      have alive := Dev.headRuns_alive (framed.trans is)
      rwa [word, Dev.rf_advance] at alive
  case ends =>
    have pp := s.dev.advance_pp dt
    have rd := s.dev.rd_advance dt
    have tk := s.dev.advance_tk dt
    have run' : (s.dev.advance dt).pp.run = some e := by rwa [pp]
    have tx : fld e.w0 20 16 < 32 := fld_lt ..
    have rx : fld e.w0 12 8 < 32 := fld_lt ..
    have room : ∀ d : Dev, (∀ p off, d.rd p off = s.dev.rd p off) → d.variant = s.dev.variant →
        d.pEntryAddr d.pHead + 1 < d.variant.memWords := fun d same variant => by
      rw [Dev.pEntryAddr_of_rd same, variant]
      omega
    have fits : ∀ words, (s.dev.advance dt).pEntryAddr (s.dev.advance dt).pHead + 2 + fld e.w0 20 16 + (e.got words).length ≤
        (s.dev.advance dt).variant.memWords := fun words => by
      rw [Dev.pEntryAddr_of_rd rd, Dev.advance_variant, PEntry.got_length]
      omega
    have next := fun words => State.does_inPorts pages dt (peripEnd · words)
    refine ⟨fun words plain => ?_, fun words framed => ?_, fun ready => ?_⟩
    · have ended := peripFinish_ended 0 (room _ rd (s.dev.advance_variant dt)) (.inr (fits words))
      rw [← peripEnd_plain run' (by rwa [pp])] at ended
      refine ⟨_, next words, ended.endsAt rd tk, fun i hi => ?_, fun cont => ?_⟩
      · have word := ended.rx i (by rwa [PEntry.got_length])
        rwa [Dev.pEntryAddr_of_rd rd] at word
      · rw [ended.held, if_pos ⟨rfl, (bit_eq_getLsbD ..).trans cont⟩]
    · have ended := peripFinish_ended (e.trailer s.dev.pp.sent words) (room _ rd (s.dev.advance_variant dt)) (.inr (fits words))
      rw [← pp, ← peripEnd_framed run' (by rwa [pp]), pp] at ended
      exact ⟨_, next words, ended.endsAt rd tk⟩
    · have acts : exec .readyTimeout s = .next (s.after (peripTimeout s.dev)) := by
        have next := State.does_inPorts pages 0 peripTimeout
        rwa [Dev.advance_zero] at next
      rw [peripTimeout_ready run ready] at acts
      have ended := fun t => peripFinish_ended (w := e.w0) 1
        (room (s.dev.advanceTo t) (Dev.rd_advanceTo _ _) (Dev.advance_variant ..)) (.inl rfl)
      exact ⟨_, acts, (ended _).endsAt (Dev.rd_advanceTo _ _) (Dev.advance_tk ..),
        (ended _).clk.trans (Dev.advanceTo_clk_eq_max ..)⟩

end Sys2Proof.Machine
end

section
/-!
PROOF. What the link's clockwork and the timebase leave of the link's pages (R333 to R349).
-/
namespace Sys2Proof.Machine

/-- From `d` to `d'` no time passes, and of the link's own page only events rise. -/
structure Dev.LinkKept (d d' : Dev) : Prop where
  clk : d'.clk = d.clk
  tb : d'.tb.now = d.tb.now
  reg : ∀ off, off < 1024 → off ≠ Reg.PAGE_EVT → d'.rd pgLink off = d.rd pgLink off
  evt : ∀ i, (d.rd pgLink Reg.PAGE_EVT).getLsbD i = true → (d'.rd pgLink Reg.PAGE_EVT).getLsbD i = true

/-- The nodes' page stands as well. -/
structure Dev.Quiet (d d' : Dev) : Prop extends d.LinkKept d' where
  node : ∀ off, off < 1024 → d'.rd pgNode off = d.rd pgNode off

theorem Dev.LinkKept.refl (d : Dev) : d.LinkKept d := ⟨rfl, rfl, fun _ _ _ => rfl, fun _ h => h⟩

theorem Dev.LinkKept.trans {a b c : Dev} (h : a.LinkKept b) (k : b.LinkKept c) : a.LinkKept c :=
  ⟨k.clk.trans h.clk, k.tb.trans h.tb, fun off ho hx => (k.reg off ho hx).trans (h.reg off ho hx), fun i set =>
    k.evt i (h.evt i set)⟩

theorem Dev.LinkKept.ite {d a b : Dev} {c : Prop} [Decidable c] (h : d.LinkKept a) (k : d.LinkKept b) :
    d.LinkKept (if c then a else b) := by
  split <;> assumption

theorem Dev.Quiet.refl (d : Dev) : d.Quiet d := ⟨.refl d, fun _ _ => rfl⟩

theorem Dev.Quiet.trans {a b c : Dev} (h : a.Quiet b) (k : b.Quiet c) : a.Quiet c :=
  ⟨h.toLinkKept.trans k.toLinkKept, fun off ho => (k.node off ho).trans (h.node off ho)⟩

theorem Dev.Quiet.ite {d a b : Dev} {c : Prop} [Decidable c] (h : d.Quiet a) (k : d.Quiet b) : d.Quiet (if c then a else b) := by
  split <;> assumption

/-- Nothing of it lies in the registers. -/
theorem Dev.Quiet.of_regs {d d' : Dev} (clk : d'.clk = d.clk) (tb : d'.tb.now = d.tb.now)
    (rd : ∀ p off, d'.rd p off = d.rd p off) : d.Quiet d' :=
  ⟨⟨clk, tb, fun off _ _ => rd pgLink off, fun i set => by rw [rd, set]⟩, fun off _ => rd pgNode off⟩

theorem Dev.setLk_quiet (d : Dev) (l : Link) : d.Quiet (d.setLk l) := .of_regs rfl rfl fun _ _ => rfl
theorem Dev.draw_quiet (d : Dev) : d.Quiet d.draw.2 := .of_regs rfl rfl fun _ _ => rfl
theorem Dev.strobe_quiet (d : Dev) (mask : Nat) : d.Quiet (d.strobe mask) := .of_regs rfl rfl fun _ _ => rfl
theorem Dev.setTb_quiet (d : Dev) {x : Timebase} (now : x.now = d.tb.now := by rfl) : d.Quiet (d.setTb x) :=
    .of_regs rfl now fun _ _ => rfl

theorem Dev.wr_quiet (d : Dev) {p off : Nat} (w : Word) (ho : off < 1024) (link : p ≠ pgLink) (node : p ≠ pgNode) :
    d.Quiet (d.wr p off w) where
  clk := rfl
  tb := rfl
  reg o h _ := Dev.rd_wr_ne _ _ fun same => link ((key_inj ho h).mp same).1
  evt i set := by rwa [Dev.rd_wr_ne _ _ fun same => link ((key_inj ho (by decide)).mp same).1]
  node o h := Dev.rd_wr_ne _ _ fun same => node ((key_inj ho h).mp same).1

theorem Dev.wf_quiet (d : Dev) {p off : Nat} (hi lo v : Nat) (ho : off < 1024) (link : p ≠ pgLink) (node : p ≠ pgNode) :
    d.Quiet (d.wf p off hi lo v) := d.wr_quiet _ ho link node

theorem Dev.incSat_quiet (d : Dev) {p off : Nat} (hi lo : Nat) (ho : off < 1024) (link : p ≠ pgLink) (node : p ≠ pgNode) :
    d.Quiet (d.incSat p off hi lo) := .ite (d.wf_quiet _ _ _ ho link node) (.refl d)

theorem Dev.ev_quiet (d : Dev) {p : Nat} (i : Nat) (node : p ≠ pgNode) : d.Quiet (d.ev p i) where
  clk := rfl
  tb := rfl
  reg o h other := Dev.rd_ev_ne _ _ fun same => other ((key_inj (by decide) h).mp same).2.symm
  evt j set := by
    by_cases link : p = pgLink
    · subst link
      exact Dev.ev_keeps _ _ _ set
    · rwa [Dev.rd_ev_ne _ _ fun same => link ((key_inj (by decide) (by decide)).mp same).1]
  node o h := Dev.rd_ev_ne _ _ fun same => node ((key_inj (by decide) h).mp same).1

theorem Dev.lkEv_quiet (d : Dev) (i : Nat) : d.Quiet (d.lkEv i) := d.ev_quiet i (by decide)

theorem Dev.lkEv_bit (d : Dev) {i : Nat} (h : i < 36) : ((d.lkEv i).rd pgLink Reg.PAGE_EVT).getLsbD i = true := Dev.ev_bit _ _ _ h

theorem Dev.LinkKept.rf {d d' : Dev} (h : d.LinkKept d') {off : Nat} (ho : off < 1024) (other : off ≠ Reg.PAGE_EVT)
    (hi lo : Nat) :
    d'.rf pgLink off hi lo = d.rf pgLink off hi lo := congrArg (fld · hi lo) (h.reg off ho other)

theorem Dev.LinkKept.linkNode {d d' : Dev} (h : d.LinkKept d') : d'.linkNode = d.linkNode := h.rf (by decide) (by decide) _ _

theorem Dev.Quiet.present {d d' : Dev} (h : d.Quiet d') : d'.present = d.present := congrArg BitVec.toNat (h.node _ (by decide))

/-! ### The timebase -/

theorem Dev.timeEv_quiet (d : Dev) (i : Nat) : d.Quiet (d.ev pgTime i) := d.ev_quiet i (by decide)

theorem relock_quiet (d : Dev) (has : Bool) : d.Quiet (relock d has) := by
  unfold relock
  exact .ite (.refl d) (d.setTb_quiet.trans (Dev.timeEv_quiet ..))

theorem freeRate_quiet (d : Dev) : d.Quiet (freeRate d) := d.draw_quiet.trans (Dev.setTb_quiet _)

theorem select_quiet (d : Dev) (k : TimeSource) (lost : Bool) : d.Quiet (select d k lost) := by
  by_cases same : d.tb.sel = k
  · rw [select_same same]
    exact .refl d
  · rw [select_other same]
    have selecting : d.Quiet (d.selecting k lost) := d.setTb_quiet.trans (Dev.timeEv_quiet ..)
    exact .ite ((Dev.Quiet.ite (selecting.trans (freeRate_quiet _)) selecting).trans (relock_quiet ..)) selecting

theorem takeOffset_quiet (d : Dev) (delta : Int) : d.Quiet (takeOffset d delta) := by
  by_cases beyond : d.stepLim < absI delta
  · rw [takeOffset_beyond beyond]
    exact d.setTb_quiet
  · rw [takeOffset_within (not_lt.mp beyond)]
    exact (d.draw_quiet.trans (Dev.setTb_quiet _)).trans (relock_quiet ..)

theorem loseSource_quiet (d : Dev) (k : TimeSource) (cause : Nat) : d.Quiet (loseSource d k cause) := by
  have fallen : d.Quiet (d.fallen k cause) :=
    (d.setTb_quiet (Timebase.now_setSource ..)).trans (Dev.wf_quiet _ _ _ _ (by decide) (by decide) (by decide))
  cases valid : (d.tb.source k).valid
  · rw [loseSource, valid]
    exact .refl d
  · by_cases sel : d.tb.sel = k
    · rw [loseSource_selected valid sel]
      exact fallen.trans ((Dev.timeEv_quiet ..).trans (select_quiet ..))
    · rw [loseSource_other valid sel]
      exact fallen

theorem sourceOffset_quiet (d : Dev) (k : TimeSource) (delta : Int) : d.Quiet (sourceOffset d k delta) := by
  have heard : ∀ e : Dev, e.Quiet (e.hearsOffset k delta) := fun e =>
    .ite ((freeRate_quiet e).trans (takeOffset_quiet ..)) (.refl e)
  cases valid : (d.tb.source k).valid
  · obtain ⟨back, same⟩ := sourceOffset_of_invalid valid delta
    rw [same]
    have returned : d.Quiet (d.returned k back) := d.setTb_quiet (Timebase.now_setSource ..)
    exact .trans (.ite (returned.trans (select_quiet ..)) returned) (heard _)
  · rw [sourceOffset_of_valid valid]
    exact heard d

/-! ### The timebase and the link's own state -/

theorem relock_lk (d : Dev) (has : Bool) : (relock d has).lk = d.lk := by
  unfold relock
  dsimp only
  split <;> rfl

theorem select_lk (d : Dev) (k : TimeSource) (lost : Bool) : (select d k lost).lk = d.lk := by
  unfold select
  dsimp only
  split
  · rfl
  · split
    · rw [relock_lk]
      split <;> rfl
    · rfl

theorem takeOffset_lk (d : Dev) (delta : Int) : (takeOffset d delta).lk = d.lk := by
  unfold takeOffset
  dsimp only
  split
  · rfl
  · rw [relock_lk]
    rfl

theorem loseSource_lk (d : Dev) (k : TimeSource) (cause : Nat) : (loseSource d k cause).lk = d.lk := by
  unfold loseSource
  dsimp only
  split
  · rfl
  · split
    · rw [select_lk]
      rfl
    · rfl

theorem sourceOffset_lk (d : Dev) (k : TimeSource) (delta : Int) : (sourceOffset d k delta).lk = d.lk := by
  have heard : ∀ e : Dev, (e.hearsOffset k delta).lk = e.lk := fun e => by
    unfold Dev.hearsOffset
    split
    · rw [takeOffset_lk]
      rfl
    · rfl
  cases valid : (d.tb.source k).valid
  · obtain ⟨back, same⟩ := sourceOffset_of_invalid valid delta
    rw [same, heard]
    split
    · rw [select_lk]
      rfl
    · rfl
  · rw [sourceOffset_of_valid valid, heard]

/-! ### LINKUP, TVALID and MUTED (R345, R348) -/

/-- The four marks that follow from the rest of the link's state. -/
def Link.marked (l : Link) (up mis pend tv : Bool) : Link :=
  { l with linkup := up, schmis := mis, wpend := pend, wasTvalid := tv }

/-- What `linkSettle` makes of the link's state. -/
structure Dev.Settled (d d' : Dev) : Prop extends d.Quiet d' where
  lk : ∃ mis pend tv, d'.lk = d.lk.marked d.linkupNow mis pend tv
  changed : d.linkupNow ≠ d.lk.linkup → (d'.rd pgLink Reg.PAGE_EVT).getLsbD 0 = true

/-- LINKUP takes its conditions' value, with its event. -/
def Dev.linkupTaken (d : Dev) : Dev :=
  if d.linkupNow = d.lk.linkup then d else (d.setLk { d.lk with linkup := d.linkupNow }).lkEv 0

theorem Dev.linkupTaken_quiet (d : Dev) : d.Quiet d.linkupTaken := .ite (.refl d) ((d.setLk_quiet _).trans (Dev.lkEv_quiet ..))

theorem Dev.linkupTaken_lk (d : Dev) : d.linkupTaken.lk = { d.lk with linkup := d.linkupNow } := by
  by_cases same : d.linkupNow = d.lk.linkup
  · rw [Dev.linkupTaken, if_pos same, same]
  · rw [Dev.linkupTaken, if_neg same]
    rfl

theorem Dev.linkupTaken_event {d : Dev} (change : d.linkupNow ≠ d.lk.linkup) :
    (d.linkupTaken.rd pgLink Reg.PAGE_EVT).getLsbD 0 = true := by
  rw [Dev.linkupTaken, if_neg change]
  exact Dev.lkEv_bit _ (by decide)

/-- After LINKUP, `linkSettle` changes three marks of the link's state. -/
theorem linkSettle_taken (d : Dev) : d.linkupTaken.Quiet (linkSettle d) ∧
    ∃ mis pend tv, (linkSettle d).lk = d.linkupTaken.lk.marked d.linkupTaken.lk.linkup mis pend tv := by
  unfold linkSettle
  extract_lets up l1 d1 mis d2 l2 d3 tv l3 d4
  have warned : d1.Quiet d2 := .ite (d1.lkEv_quiet 3) (.refl d1)
  have warned_lk : d2.lk = d1.lk := by
    simp only [d2]
    split <;> rfl
  have marked : d1.Quiet d4 := (warned.trans (d2.setLk_quiet _)).trans (d3.setLk_quiet _)
  have marked_lk : d4.lk = d1.lk.marked d1.lk.linkup mis (d2.lk.wpend && !(up && d2.lk.sphase == .awake)) tv := by
    rw [← warned_lk]
    rfl
  refine ⟨.ite (marked.trans (loseSource_quiet ..)) marked, mis, d2.lk.wpend && !(up && d2.lk.sphase == .awake), tv, ?_⟩
  rw [apply_ite Dev.lk, loseSource_lk, ite_self]
  exact marked_lk

theorem linkSettle_settled (d : Dev) : d.Settled (linkSettle d) := by
  obtain ⟨quiet, mis, pend, tv, lk⟩ := linkSettle_taken d
  refine ⟨d.linkupTaken_quiet.trans quiet, ⟨mis, pend, tv, ?_⟩, fun change => quiet.evt 0 (Dev.linkupTaken_event change)⟩
  rw [lk, d.linkupTaken_lk]
  rfl

theorem setMuted_quiet (d : Dev) (v : Bool) : d.Quiet (setMuted d v) :=
    .ite (.refl d) ((d.setLk_quiet _).trans (Dev.lkEv_quiet ..))

theorem setMuted_lk (d : Dev) (v : Bool) : (setMuted d v).lk = { d.lk with muted := v } := by
  by_cases same : d.lk.muted = v
  · rw [setMuted, if_pos same, ← same]
  · rw [setMuted, if_neg same]
    rfl

theorem setMuted_event {d : Dev} {v : Bool} (change : d.lk.muted ≠ v) :
    ((setMuted d v).rd pgLink Reg.PAGE_EVT).getLsbD 1 = true := by
  rw [setMuted, if_neg change]
  exact Dev.lkEv_bit _ (by decide)

theorem muteCheck_of_late {d : Dev} (follower : d.lk.master = false) (late : 500 < d.terr) : muteCheck d = setMuted d true :=
  if_pos ⟨by rw [follower]; rfl, late⟩

end Sys2Proof.Machine
end

section
/-!
PROOF. Mastership, muting, losses, sleep and waking of the link (R345 to R348, R356 to R360).
-/
namespace Sys2Proof.Machine

/-! ### LINKUP and its event -/

theorem Dev.Settled.linkup {d d' : Dev} (h : d.Settled d') : d'.lk.linkup = d.linkupNow := by
  obtain ⟨mis, pend, tv, lk⟩ := h.lk
  rw [lk]
  rfl

/-- Where LINKUP's conditions fail, LINKUP is 0, with its event where it falls. -/
theorem Dev.Settled.linkDown {d d' : Dev} (h : d.Settled d') (down : d.linkupNow = false) :
    d'.lk.linkup = false ∧ (d.lk.linkup = true → (d'.rd pgLink Reg.PAGE_EVT).getLsbD 0 = true) :=
  ⟨h.linkup.trans down, fun up => h.changed (by rw [down, up]; decide)⟩

theorem Dev.linkupNow_of_muted {d : Dev} (follower : d.lk.master = false) (muted : d.lk.muted = true) : d.linkupNow = false := by
  simp [Dev.linkupNow, follower, muted]

theorem Dev.linkupNow_of_asleep {d : Dev} (asleep : d.lk.sphase = .asleep) : d.linkupNow = false := by
  simp [Dev.linkupNow, asleep]

/-! ### Mastership (R346) -/

/-- The link of a node that becomes master. -/
def Dev.masterLink (d : Dev) : Link :=
  { d.lk with master := true, masterNode := some d.linkNode, nextN := if d.lk.heard.isSome then (d.lk.heardN + 1) % 2 ^ 36 else 0,
              sentAt := none, vote := none, schmis := false }

theorem becomeMaster_of_due {d : Dev} (on : d.linkOn = true) (follower : d.lk.master = false) (single : d.lk.dupid = false)
    (prio : d.rf pgLink Reg.sxlink.CFG 27 24 ≠ 0) (awake : d.lk.sphase = .awake) (runs : d.sup.ps = .run ∨ d.sup.ps = .idle)
    (due : d.lk.waitFrom + d.masterWait ≤ d.clk) :
    becomeMaster d = loseSource (setMuted ((d.setLk d.masterLink).lkEv 2) false) .sernyx 1 := by
  have powered : (d.sup.ps == .run || d.sup.ps == .idle) = true := by simpa using runs
  refine if_neg ?_
  simp [on, follower, single, prio, awake, powered, due]

theorem becomeMaster_settled {d : Dev}
    (h : becomeMaster d = loseSource (setMuted ((d.setLk d.masterLink).lkEv 2) false) .sernyx 1) :
    let d' := linkSettle (becomeMaster d)
    d'.lk.master = true ∧ d'.lk.masterNode = some d.linkNode ∧ d'.lk.muted = false ∧ d'.lk.sentAt = none ∧
      (d'.rd pgLink Reg.PAGE_EVT).getLsbD 2 = true ∧
      d'.lk.nextN = if d.lk.heard.isSome then (d.lk.heardN + 1) % 2 ^ 36 else 0 := by
  have settled := linkSettle_settled (becomeMaster d)
  obtain ⟨mis, pend, tv, lk⟩ := settled.lk
  have taken : (becomeMaster d).lk = { d.masterLink with muted := false } := by
    rw [h, loseSource_lk, setMuted_lk]
    rfl
  have event : ((becomeMaster d).rd pgLink Reg.PAGE_EVT).getLsbD 2 = true := by
    rw [h]
    exact (loseSource_quiet ..).evt _ ((setMuted_quiet ..).evt _ (Dev.lkEv_bit _ (by decide)))
  rw [taken] at lk
  intro d'
  rw [show d'.lk = _ from lk]
  exact ⟨rfl, rfl, rfl, rfl, settled.evt _ event, rfl⟩

/-! ### Muting (R345) -/

theorem linkMute_of_late {d : Dev} (follower : d.lk.master = false) (late : 500 < d.terr) :
    let d' := linkMute d
    d'.lk.muted = true ∧ d'.lk.linkup = false ∧ (d.lk.muted = false → (d'.rd pgLink Reg.PAGE_EVT).getLsbD 1 = true) ∧
      (d.lk.linkup = true → (d'.rd pgLink Reg.PAGE_EVT).getLsbD 0 = true) := by
  have lk := setMuted_lk d true
  have settled := linkSettle_settled (setMuted d true)
  obtain ⟨down, fell⟩ := settled.linkDown (Dev.linkupNow_of_muted (by rw [lk]; exact follower) (by rw [lk]))
  obtain ⟨mis, pend, tv, settled_lk⟩ := settled.lk
  rw [linkMute, muteCheck_of_late follower late]
  refine ⟨by rw [settled_lk, lk]; rfl, down, fun open_ => settled.evt _ (setMuted_event (by rw [open_]; decide)),
    fun up => fell ?_⟩
  rw [lk]
  exact up

/-! ### Nodes lost (R348) -/

theorem toNat_testBit_setBit (w : Word) {i : Nat} (v : Bool) (j : Nat) (h : i < 36) :
    (setBit w i v).toNat.testBit j = if j = i then v else w.toNat.testBit j := by
  rw [setBit, toNat_setFld _ _ _ _ le_rfl h]
  by_cases same : j = i
  · subst same
    cases v <;> simp
  · rw [if_neg (by omega), if_neg same]

theorem setPresent_present (d : Dev) {m : Nat} (v : Bool) (j : Nat) (h : m < 32) :
    (setPresent d m v).present.testBit j = if j = m then v else d.present.testBit j := by
  have apart : key pgNode (infoOff m) ≠ key pgNode Reg.sxnode.PRESENT := fun same => by
    have := ((key_inj (by simp only [infoOff, Reg.sxnode.INFO]; omega) (by decide)).mp same).2
    simp only [infoOff, Reg.sxnode.INFO, Reg.sxnode.PRESENT] at this
    omega
  rw [Dev.present, setPresent, Dev.rd_wf_ne _ _ _ _ apart, Dev.rd_wr_eq, toNat_testBit_setBit _ _ _ (by omega)]
  rfl

/-- A write of the nodes' page leaves the link's own page. -/
theorem Dev.wrNode_kept (d : Dev) {off : Nat} (w : Word) (ho : off < 1024) : d.LinkKept (d.wr pgNode off w) where
  clk := rfl
  tb := rfl
  reg o h _ := Dev.rd_wr_ne _ _ fun same => absurd ((key_inj ho h).mp same).1 (by decide)
  evt i set := by rwa [Dev.rd_wr_ne _ _ fun same => absurd ((key_inj ho (by decide)).mp same).1 (by decide)]

theorem infoOff_lt {m : Nat} (h : m < 32) : infoOff m < 1024 := by
  simp only [infoOff, Reg.sxnode.INFO]
  omega

theorem setPresent_kept (d : Dev) {m : Nat} (v : Bool) (h : m < 32) : d.LinkKept (setPresent d m v) :=
  (d.wrNode_kept _ (by decide)).trans (Dev.wrNode_kept _ _ (infoOff_lt h))

theorem setPresent_lk (d : Dev) (m : Nat) (v : Bool) : (setPresent d m v).lk = d.lk := by rw [setPresent, Dev.wf_lk, Dev.wr_lk]

/-- Presence of one node ends where its frames stay away. -/
def dropNode (d : Dev) (m : Nat) : Dev :=
  if d.present.testBit m ∧ m ≠ d.linkNode ∧ 16 < (d.lk.cycle + 1 + 2 ^ 36 - d.lk.lastFrame.get m 0) % 2 ^ 36 then
    (setPresent d m false).lkEv 5
  else d

theorem dropNodes_eq (d : Dev) : dropNodes d = d.each 32 dropNode := by
  unfold dropNodes dropNode
  rfl

theorem dropNode_kept (d : Dev) {m : Nat} (h : m < 32) : d.LinkKept (dropNode d m) := by
  unfold dropNode
  exact .ite ((setPresent_kept d false h).trans (Dev.lkEv_quiet ..).toLinkKept) (.refl d)

theorem dropNode_lk (d : Dev) (m : Nat) : (dropNode d m).lk = d.lk := by
  unfold dropNode
  split
  · rw [Dev.lkEv, Dev.ev_lk, setPresent_lk]
  · rfl

theorem dropNode_present (d : Dev) {m : Nat} (h : m < 32) {j : Nat} (other : j ≠ m) :
    (dropNode d m).present.testBit j = d.present.testBit j := by
  unfold dropNode
  split
  · rw [(Dev.lkEv_quiet ..).present, setPresent_present _ _ _ h, if_neg other]
  · rfl

/-- What the walk over the nodes has done when it is past the first `n`. -/
theorem dropNodes_walk (d : Dev) (n : Nat) (h : n ≤ 32) : d.LinkKept (d.each n dropNode) ∧ (d.each n dropNode).lk = d.lk ∧
    ∀ m, n ≤ m → (d.each n dropNode).present.testBit m = d.present.testBit m := by
  induction n with
  | zero => exact ⟨.refl d, rfl, fun _ _ => rfl⟩
  | succ n ih =>
    obtain ⟨kept, lk, present⟩ := ih (by omega)
    rw [Dev.each_succ]
    exact ⟨kept.trans (dropNode_kept _ (by omega)), (dropNode_lk ..).trans lk,
      fun m hm => (dropNode_present _ (by omega) (by omega)).trans (present m (by omega))⟩

/-- A node without a frame within 16 cycles is no longer present once the walk has passed it. -/
theorem dropNodes_drops {d : Dev} {m : Nat} (hm : m < 32) (here : d.present.testBit m = true) (other : m ≠ d.linkNode)
    (late : 16 < (d.lk.cycle + 1 + 2 ^ 36 - d.lk.lastFrame.get m 0) % 2 ^ 36) (n : Nat) (past : m < n) (h : n ≤ 32) :
    (d.each n dropNode).present.testBit m = false ∧ ((d.each n dropNode).rd pgLink Reg.PAGE_EVT).getLsbD 5 = true := by
  induction n with
  | zero => omega
  | succ n ih =>
    rw [Dev.each_succ]
    by_cases at_ : m = n
    · subst at_
      obtain ⟨kept, lk, present⟩ := dropNodes_walk d m (by omega)
      have dropped : dropNode (d.each m dropNode) m = (setPresent (d.each m dropNode) m false).lkEv 5 :=
        if_pos ⟨(present m le_rfl).trans here, by rwa [kept.linkNode], by rwa [lk]⟩
      rw [dropped, (Dev.lkEv_quiet ..).present, setPresent_present _ _ _ hm, if_pos rfl]
      exact ⟨rfl, Dev.lkEv_bit _ (by decide)⟩
    · obtain ⟨gone, event⟩ := ih (by omega) (by omega)
      exact ⟨(dropNode_present _ (by omega) at_).trans gone, (dropNode_kept _ (by omega)).evt _ event⟩

theorem nodeLost_drops {d : Dev} {m : Nat} (hm : m < 32) (counts : d.linkCounts = true) (here : d.present.testBit m = true)
    (other : m ≠ d.linkNode) (late : 16 < (d.lk.cycle + 1 + 2 ^ 36 - d.lk.lastFrame.get m 0) % 2 ^ 36) :
    (nodeLost d).present.testBit m = false ∧ ((nodeLost d).rd pgLink Reg.PAGE_EVT).getLsbD 5 = true := by
  obtain ⟨gone, event⟩ := dropNodes_drops hm here other late 32 hm le_rfl
  have settled := linkSettle_settled (d.each 32 dropNode)
  rw [nodeLost, if_pos counts, dropNodes_eq, settled.toQuiet.present]
  exact ⟨gone, settled.evt _ event⟩

/-! ### Sleep and waking (R357, R358) -/

/-- The link of a node that falls asleep at `t`. -/
def Link.asleepAt (l : Link) (t : Nat) : Link :=
  { l with sphase := .asleep, sleptAt := t, heard := none, sentAt := none, ratio := none,
           since := 0, run := 0, vote := none, late := none, patternAt := none }

theorem fallAsleep_stays {d : Dev} (stays : d.rf pgLink Reg.sxlink.SLEEP 9 8 = 0) :
    fallAsleep d = linkSettle (d.setLk (d.lk.asleepAt d.clk)) := by
  have settled := linkSettle_settled (d.setLk (d.lk.asleepAt d.clk))
  unfold fallAsleep Link.asleepAt
  refine if_pos ?_
  exact (settled.rf (by decide) (by decide) 9 8).trans stays

theorem fallAsleep_lk {d : Dev} (stays : d.rf pgLink Reg.sxlink.SLEEP 9 8 = 0) :
    let d' := fallAsleep d
    d'.lk.sphase = .asleep ∧ d'.lk.sleptAt = d.clk ∧ d'.lk.vote = none ∧ d'.lk.heard = none ∧ d'.lk.linkup = false := by
  have settled := linkSettle_settled (d.setLk (d.lk.asleepAt d.clk))
  obtain ⟨down, -⟩ := settled.linkDown (Dev.linkupNow_of_asleep rfl)
  obtain ⟨mis, pend, tv, lk⟩ := settled.lk
  rw [fallAsleep_stays stays]
  refine ⟨?_, ?_, ?_, ?_, down⟩ <;> exact congrArg _ lk

theorem linkSleep_carried {d : Dev} {v v1 : Vote} {t : Int} (hears : (linkCatch d).linkHears = true)
    (counts : (linkCatch d).linkCounts = true) (vote : (linkCatch d).lk.vote = some v) (ends : (linkCatch d).sleepAt v = some t)
    (vote1 : (linkCatch ((linkCatch d).advanceTo t.toNat)).lk.vote = some v1)
    (carried : (linkCatch ((linkCatch d).advanceTo t.toNat)).votesSleep v1 = true) :
    linkSleep d = fallAsleep (linkCatch ((linkCatch d).advanceTo t.toNat)) := by
  -- The kernel must not evaluate these two while it compares the branches.
  obtain ⟨catchUp, catches⟩ := exists_eq (a' := linkCatch)
  obtain ⟨ending, ending_eq⟩ := exists_eq (a' := Dev.sleepAt)
  unfold linkSleep
  rw [← catches] at hears counts vote ends vote1 carried ⊢
  rw [← ending_eq] at ends ⊢
  simp only [hears, counts, vote, ends, vote1, carried]
  rfl

theorem patternSend_due {d : Dev} (on : d.linkOn = true) (pend : d.lk.wpend = true) (asleep : d.lk.sphase = .asleep)
    (first : d.lk.patternAt = none) (due : d.lk.sleptAt + 400000 ≤ d.clk) (pages : d.sup.ps ≠ .retain) :
    patternSend d = drivePattern d := by
  refine if_neg ?_
  simp [on, pend, asleep, first, due, pages]

/-- The link that a wake pattern has woken. -/
def Dev.wokenByPattern (d : Dev) : Dev := (d.setLk { d.lk with sphase := .waking, heard := none, waitFrom := d.clk }).lkEv 8

theorem patternDetect_asleep {d : Dev} (on : d.linkOn = true) (asleep : d.lk.sphase = .asleep) :
    patternDetect d = if d.rb pgSupv Reg.supv.WAKECFG 1 ∧ (d.sup.ps = .standby ∨ d.sup.ps = .retain ∨ d.sup.target.isSome) then
      d.wokenByPattern.setSup { d.sup with wakes := d.sup.wakes ||| 2 } else d.wokenByPattern := by
  have wakecfg : d.wokenByPattern.rd pgSupv Reg.supv.WAKECFG = d.rd pgSupv Reg.supv.WAKECFG := Dev.rd_ev_ne _ _ (by decide)
  have cfg : d.wokenByPattern.rb pgSupv Reg.supv.WAKECFG 1 = d.rb pgSupv Reg.supv.WAKECFG 1 := congrArg (bit · 1) wakecfg
  rw [← cfg]
  refine (if_neg ?_).trans rfl
  simp [on, asleep]

theorem patternDetect_wakes {d : Dev} (on : d.linkOn = true) (asleep : d.lk.sphase = .asleep) :
    let d' := patternDetect d
    d'.lk = { d.lk with sphase := .waking, heard := none, waitFrom := d.clk } ∧ (d'.rd pgLink Reg.PAGE_EVT).getLsbD 8 = true ∧
      d'.sup = { d.sup with wakes := d'.sup.wakes } ∧
      (d.rb pgSupv Reg.supv.WAKECFG 1 = true → d.sup.ps = .standby ∨ d.sup.ps = .retain → d'.sup.wakes = d.sup.wakes ||| 2) := by
  have event : (d.wokenByPattern.rd pgLink Reg.PAGE_EVT).getLsbD 8 = true := Dev.lkEv_bit _ (by decide)
  rw [patternDetect_asleep on asleep]
  split
  case isTrue => exact ⟨rfl, event, rfl, fun _ _ => rfl⟩
  case isFalse not =>
    exact ⟨rfl, event, rfl, fun cfg low => absurd ⟨cfg, low.elim .inl fun r => .inr (.inl r)⟩ not⟩

theorem Dev.linkOn_advance (d : Dev) (k : Nat) : (d.advance k).linkOn = d.linkOn := d.rb_advance ..

/-- Settles O50, by what `linkSettle` keeps of each event's own change. -/
theorem linkStates : Obligations.LinkStates := by
  intro s dt awake
  refine ⟨fun on follower single prio phase runs due => ?_, fun follower late => ?_, fun m counts here other late => ?_,
    fun down => ?_, fun v v1 t hears counts vote ends vote1 carried stays => ?_, fun pages on pend asleep first due => ?_,
    fun on asleep => ?_⟩
  · exact ⟨_, s.does_eq _ awake, becomeMaster_settled (becomeMaster_of_due on follower single prio phase runs due)⟩
  · exact ⟨_, s.does_eq _ awake, linkMute_of_late follower late⟩
  · exact ⟨_, s.does_eq _ awake, nodeLost_drops m.isLt counts here other late⟩
  · have settled := linkSettle_settled (linkAfter s.dev dt)
    obtain ⟨fallen, event⟩ := settled.linkDown down
    exact ⟨_, s.does_eq _ awake, fallen, event, settled.tb⟩
  · refine ⟨_, s.does_eq _ awake, ?_⟩
    rw [linkSleep_carried hears counts vote ends vote1 carried]
    exact fallAsleep_lk stays
  · refine (State.does_inPorts pages dt _).trans ?_
    rw [patternSend_due ((s.dev.linkOn_advance dt).trans on) (by simpa using pend) (by simpa using asleep) (by simpa using first)
      (by simpa using due) (by simpa using pages.2)]
    simp [drivePattern, Dev.setLk]
  · refine ⟨_, s.does_eq _ awake, ?_⟩
    have woken := patternDetect_wakes (d := s.dev.advance dt) ((s.dev.linkOn_advance dt).trans on) (by simpa using asleep)
    simpa using woken

end Sys2Proof.Machine
end

section
/-!
PROOF. What is asked of the link: remote requests, timed strobes, sleep, waking and digests (R351 to R357).
-/
namespace Sys2Proof.Machine

def sleepFields : List RegField := [bf 35 35 .wo 0, bf 34 34 .wo 0, bf 33 33 .ro 0, bf 16 16 .rw 0, bf 9 8 .rw 0]
def rqCtlFields : List RegField := [bf 35 35 .wo 0, bf 29 24 .rw 0, bf 16 16 .rw 0, bf 13 12 .rw 0]
def tstrCtlFields : List RegField := [bf 35 35 .wo 0, bf 10 8 .rw 0, bf 1 0 .ro 0]

theorem sleep_reg : LowReg .sxlink pgLink Reg.sxlink.SLEEP sleepFields :=
  ⟨rfl, by decide, by decide, rfl, rfl, by decide, by decide, by decide, rfl, rfl, rfl, rfl⟩

theorem rqCtl_reg : LowReg .sxlink pgLink Reg.sxlink.RQ_CTL rqCtlFields :=
  ⟨rfl, by decide, by decide, rfl, rfl, by decide, by decide, by decide, rfl, rfl, rfl, rfl⟩

theorem tstrCtl_reg : LowReg .sxsched pgSched Reg.sxsched.TSTR_CTL tstrCtlFields :=
  ⟨rfl, by decide, by decide, rfl, rfl, by decide, by decide, by decide, rfl, rfl, rfl, rfl⟩

/-! ### Remote requests (R351, R352) -/

theorem actWrite_rqCtl (d : Dev) (req : Nat) (direct : Bool) (old m : Word) {wo : Word} (clr : Word) (go : bit wo 35 = true) :
    actWrite d .sxlink pgLink Reg.sxlink.RQ_CTL req direct old m wo clr = rqGo d := if_pos go

/-- The words of a request for `n` words at `addr`, with SEQ `seq`; `data` is empty for a read. -/
def requestWords (target n seq addr : Nat) (write : Bool) (data : List Word) : List Word :=
  mkw [(32, 3), (26, 1 + data.length), (20, target), (19, bnat write), (17, n - 1), (13, seq)] :: BitVec.ofNat 36 addr :: data

/-- The words that a write request takes along. -/
def Dev.requestData (d : Dev) (write : Bool) (n : Nat) : List Word :=
  if write then (List.range n).map (fun i => d.rd pgLink (Reg.sxlink.RQ_DATA + i)) else []

theorem rqGo_eq (d : Dev) : let c := d.rd pgLink Reg.sxlink.RQ_CTL
    rqGo d = (d.wr pgLink Reg.sxlink.RQ_STAT (mkw [(0, d.lk.seq)])).setLk { d.lk with
      rq := some ⟨fld c 29 24, d.lk.seq, requestWords (fld c 29 24) (fld c 13 12 + 1) d.lk.seq
        (d.rf pgLink Reg.sxlink.RQ_ADDR 23 0) (bit c 16) (d.requestData (bit c 16) (fld c 13 12 + 1)), false, d.cycleNow⟩,
      seq := (d.lk.seq + 1) % 16 } := rfl

theorem mkw_low (v : Nat) : mkw [(0, v)] = BitVec.ofNat 36 v := by simp [mkw]

/-- A store of RQ_CTL leaves the data registers of the request. -/
theorem Dev.Stores.requestData {d S : Dev} (h : d.Stores pgLink Reg.sxlink.RQ_CTL S) (write : Bool) {n : Nat} (few : n ≤ 4) :
    S.requestData write n = d.requestData write n := by
  have same : ∀ i ∈ List.range n, S.rd pgLink (Reg.sxlink.RQ_DATA + i) = d.rd pgLink (Reg.sxlink.RQ_DATA + i) := fun i hi => by
    have := List.mem_range.mp hi
    refine h.rd _ _ ?_ fun same => ?_ <;> simp only [Reg.sxlink.RQ_DATA, Reg.sxlink.RQ_CTL] at * <;> omega
  rw [Dev.requestData, Dev.requestData, List.map_congr_left same]

/-- A write of RQ_CTL with GO that nothing refuses: the request and its number. -/
theorem writes_rqCtl {s : State} {w : RegWrite} (takes : s.takes w pgLink Reg.sxlink.RQ_CTL) (direct : w.win = .direct)
    (go : w.data.getLsbD 35 = true) :
    ∃ d r, s.writes w pgLink Reg.sxlink.RQ_CTL = .next (s.after d) ∧ d.lk.rq = some r ∧ r.target = fld w.data 29 24 ∧
      r.seq = s.dev.lk.seq ∧ r.sent = false ∧ d.lk.seq = (s.dev.lk.seq + 1) % 16 ∧
      d.rd pgLink Reg.sxlink.RQ_STAT = BitVec.ofNat 36 s.dev.lk.seq ∧
      r.words = requestWords (fld w.data 29 24) (fld w.data 13 12 + 1) s.dev.lk.seq (s.dev.rf pgLink Reg.sxlink.RQ_ADDR 23 0)
        (w.data.getLsbD 16) (s.dev.requestData (w.data.getLsbD 16) (fld w.data 13 12 + 1)) := by
  obtain ⟨S, stores, stored, next⟩ := rqCtl_reg.acceptedCommon (by decide) direct takes
  rw [actWrite_rqCtl _ _ _ _ _ _ ((s.bit_forms_wo _ _ w rfl).trans go)] at next
  have target : fld (S.rd pgLink Reg.sxlink.RQ_CTL) 29 24 = fld w.data 29 24 := by
    rw [stored, s.fld_forms_now _ _ w (by decide) (by decide) (fun i lo hi => by interval_cases i <;> rfl) rfl]
  have count : fld (S.rd pgLink Reg.sxlink.RQ_CTL) 13 12 = fld w.data 13 12 := by
    rw [stored, s.fld_forms_now _ _ w (by decide) (by decide) (fun i lo hi => by interval_cases i <;> rfl) rfl]
  have write : bit (S.rd pgLink Reg.sxlink.RQ_CTL) 16 = w.data.getLsbD 16 := by
    rw [stored, s.bit_forms_now _ _ w (by decide) rfl rfl, bit_eq_getLsbD]
  have addr : S.rf pgLink Reg.sxlink.RQ_ADDR 23 0 = s.dev.rf pgLink Reg.sxlink.RQ_ADDR 23 0 := by
    rw [Dev.rf, stores.rd _ _ (by decide) (by decide), Dev.rd_advance, ← Dev.rf]
  have lk : S.lk = s.dev.lk := stores.lk.trans (Dev.advance_lk ..)
  have few : fld w.data 13 12 + 1 ≤ 4 := fld_lt w.data 13 12
  have data : ∀ wr, S.requestData wr (fld w.data 13 12 + 1) = s.dev.requestData wr (fld w.data 13 12 + 1) := fun wr => by
    rw [stores.requestData wr few]
    simp only [Dev.requestData, Dev.rd_advance]
  rw [rqGo_eq, target, count, write, addr, lk, data, mkw_low] at next
  exact ⟨_, _, next, rfl, rfl, rfl, rfl, rfl, Dev.rd_wr_eq .., rfl⟩

/-- RQTO: the request is over, with RQ_STAT's mark and its event. -/
theorem requestTimeout_late {d : Dev} {r : RemoteReq} (rq : d.lk.rq = some r)
    (late : 8 ≤ (d.cycleNow + 2 ^ 36 - r.cycle) % 2 ^ 36) :
    let d' := requestTimeout d
    d'.lk = { d.lk with rq := none } ∧ (d'.rd pgLink Reg.sxlink.RQ_STAT).getLsbD 33 = true ∧
      (d'.rd pgLink Reg.PAGE_EVT).getLsbD 10 = true := by
  have ended : requestTimeout d = ((d.setLk { d.lk with rq := none }).wf pgLink Reg.sxlink.RQ_STAT 33 33 1).lkEv 10 := by
    rw [requestTimeout, rq]
    exact if_neg (not_lt.mpr late)
  rw [ended]
  refine ⟨?_, ?_, Dev.lkEv_bit _ (by decide)⟩
  · rw [Dev.lkEv, Dev.ev_lk, Dev.wf_lk]
    rfl
  · rw [Dev.lkEv, Dev.rd_ev_ne _ _ (by decide), Dev.wf, Dev.rd_wr_eq, getLsbD_eq_bit,
    bit_setFld_in _ _ _ _ _ (by decide) le_rfl le_rfl]
    rfl

/-! ### Timed strobes, sleep and waking (R353, R356, R357) -/

theorem writes_tstrCtl {s : State} {w : RegWrite} (takes : s.takes w pgSched Reg.sxsched.TSTR_CTL) (direct : w.win = .direct)
    (go : w.data.getLsbD 35 = true) :
    ∃ S, (s.dev.advance w.dt).Stores pgSched Reg.sxsched.TSTR_CTL S ∧ s.writes w pgSched Reg.sxsched.TSTR_CTL =
      .next (s.after ((S.wf pgSched Reg.sxsched.TSTR_CTL 1 0 1).setLk { s.dev.lk with tsLeft := 3 })) := by
  obtain ⟨S, stores, -, next⟩ := tstrCtl_reg.acceptedCommon (by decide) direct takes
  have acts : ∀ req direct old m {wo : Word} clr, bit wo 35 = true →
      actWrite S .sxsched pgSched Reg.sxsched.TSTR_CTL req direct old m wo clr = tstrGo S := fun _ _ _ _ _ _ go =>
        if_pos ⟨rfl, go⟩
  rw [acts _ _ _ _ _ ((s.bit_forms_wo _ _ w rfl).trans go), tstrGo, stores.lk.trans (Dev.advance_lk ..)] at next
  exact ⟨S, stores, next⟩

/-- What a write of SLEEP asks for. -/
def Dev.sleepAsked (d : Dev) (wo : Word) : Dev :=
  let d1 := if bit wo 34 then d.setLk { d.lk with wpend := true } else d
  if bit wo 35 then d1.setLk { d1.lk with propose := true } else d1

theorem actWrite_sleep (d : Dev) (req : Nat) (direct : Bool) (old m wo clr : Word) :
    actWrite d .sxlink pgLink Reg.sxlink.SLEEP req direct old m wo clr = d.sleepAsked wo := rfl

theorem Dev.sleepAsked_propose {d : Dev} {wo : Word} (propose : bit wo 35 = true) (wake : bit wo 34 = false) :
    d.sleepAsked wo = d.setLk { d.lk with propose := true } := by
  simp [Dev.sleepAsked, propose, wake]

theorem Dev.sleepAsked_wake {d : Dev} {wo : Word} (wake : bit wo 34 = true) (propose : bit wo 35 = false) :
    d.sleepAsked wo = d.setLk { d.lk with wpend := true } := by
  simp [Dev.sleepAsked, propose, wake]

theorem writes_sleep {s : State} {w : RegWrite} (takes : s.takes w pgLink Reg.sxlink.SLEEP) (direct : w.win = .direct) :
    ∃ S, (s.dev.advance w.dt).Stores pgLink Reg.sxlink.SLEEP S ∧
      (w.data.getLsbD 35 = true → w.data.getLsbD 34 = false →
        s.writes w pgLink Reg.sxlink.SLEEP = .next (s.after { S with lk := { s.dev.lk with propose := true } })) ∧
      (w.data.getLsbD 34 = true → w.data.getLsbD 35 = false →
        s.writes w pgLink Reg.sxlink.SLEEP = .next (s.after { S with lk := { s.dev.lk with wpend := true } })) := by
  obtain ⟨S, stores, -, next⟩ := sleep_reg.acceptedCommon (by decide) direct takes
  have lk : S.lk = s.dev.lk := stores.lk.trans (Dev.advance_lk ..)
  have wo : ∀ i, bit (maskOf sleepFields (fun f => f.ty == .wo)) i = true →
      bit (s.forms pgLink Reg.sxlink.SLEEP sleepFields w).wo i = w.data.getLsbD i := fun i => s.bit_forms_wo _ _ w
  rw [actWrite_sleep] at next
  refine ⟨S, stores, fun propose not => ?_, fun wake not => ?_⟩
  · rw [next, Dev.sleepAsked_propose ((wo 35 rfl).trans propose) ((wo 34 rfl).trans not), lk]
    rfl
  · rw [next, Dev.sleepAsked_wake ((wo 34 rfl).trans wake) ((wo 35 rfl).trans not), lk]
    rfl

/-! ### Digests (R354) -/

/-- The digest of a snapshot stands in the nodes' page. -/
def Dev.digestStored (d : Dev) (v tag : Nat) : Dev :=
  (d.wr72 pgNode Reg.sxnode.DLOC_LO v).wr pgNode Reg.sxnode.DTAG (mkw [(35, 1), (0, tag)])

theorem digestReady_eq {d : Dev} {tag : Nat} {bytes : List Nat} (snap : d.lk.snap = some (tag, bytes)) :
    digestReady d =
      ((d.digestStored (digest72 bytes) tag).setLk { d.lk with snap := none, digQ := some d.lk.snapQ }).ev pgNode 3 := by
  -- The kernel must not evaluate the digest while it compares the two sides.
  obtain ⟨hash, hash_eq⟩ := exists_eq (a' := digest72)
  unfold digestReady
  rw [snap, ← hash_eq]
  rfl

theorem Dev.rd72_digestStored (d : Dev) (v tag : Nat) : (d.digestStored v tag).rd72 pgNode Reg.sxnode.DLOC_LO = v % 2 ^ 72 := by
  rw [Dev.rd72, Dev.digestStored, Dev.rd_wr_ne _ _ (by decide), Dev.rd_wr_ne _ _ (by decide), ← Dev.rd72, Dev.rd72_wr72]

/-- The tag word: valid, with the tag's eight bits. -/
theorem Dev.rd_digestStored_dtag (d : Dev) (v tag : Nat) :
    (d.digestStored v tag).rd pgNode Reg.sxnode.DTAG = BitVec.ofNat 36 (2 ^ 35 + tag) := by
  rw [Dev.digestStored, Dev.rd_wr_eq]
  simp [mkw]

theorem fld_dtag {tag : Nat} (small : tag < 256) :
    fld (BitVec.ofNat 36 (2 ^ 35 + tag)) 35 35 = 1 ∧ fld (BitVec.ofNat 36 (2 ^ 35 + tag)) 7 0 = tag := by
  rw [fld_ofNat _ (by decide) (by decide), fld_ofNat _ (by decide) (by decide), nfld, nfld]
  omega

/-- What the digest's event leaves: every other register of the nodes' page. -/
theorem Dev.rd_nodeEvent (d : Dev) (i : Nat) {off : Nat} (ho : off < 1024) (other : off ≠ Reg.PAGE_EVT) :
    (d.ev pgNode i).rd pgNode off = d.rd pgNode off :=
  Dev.rd_ev_ne _ _ fun same => other ((key_inj (by decide) ho).mp same).2.symm

theorem digestReady_stores {d : Dev} {tag : Nat} {bytes : List Nat} (snap : d.lk.snap = some (tag, bytes)) (small : tag < 256) :
    let d' := digestReady d
    d'.lk.snap = none ∧ d'.rd72 pgNode Reg.sxnode.DLOC_LO = digest72 bytes % 2 ^ 72 ∧ d'.rf pgNode Reg.sxnode.DTAG 35 35 = 1 ∧
      d'.rf pgNode Reg.sxnode.DTAG 7 0 = tag ∧ (d'.rd pgNode Reg.PAGE_EVT).getLsbD 3 = true := by
  obtain ⟨valid, named⟩ := fld_dtag small
  rw [digestReady_eq snap]
  generalize digest72 bytes = v
  refine ⟨?_, ?_, ?_, ?_, Dev.ev_bit _ _ _ (by decide)⟩
  · rw [Dev.ev_lk]
    rfl
  · rw [Dev.rd72, Dev.rd_nodeEvent _ _ (by decide) (by decide), Dev.rd_nodeEvent _ _ (by decide) (by decide), Dev.rd_setLk,
      Dev.rd_setLk, ← Dev.rd72, Dev.rd72_digestStored]
  · rw [Dev.rf, Dev.rd_nodeEvent _ _ (by decide) (by decide), Dev.rd_setLk, Dev.rd_digestStored_dtag, valid]
  · rw [Dev.rf, Dev.rd_nodeEvent _ _ (by decide) (by decide), Dev.rd_setLk, Dev.rd_digestStored_dtag, named]

/-- Settles O49: each register's store with what it asks for, the request's timeout and the snapshot's digest. -/
theorem linkRequests : Obligations.LinkRequests := by
  intro s
  refine ⟨fun w direct => ⟨fun takes go => writes_rqCtl takes direct go, fun takes go => writes_tstrCtl takes direct go,
    fun takes => writes_sleep takes direct⟩, fun dt r awake rq late => ?_, fun dt tag bytes pages snap small => ?_⟩
  · exact ⟨_, s.does_eq _ awake, requestTimeout_late rq late⟩
  · refine ⟨_, State.does_inPorts pages 0 _, ?_⟩
    rw [Dev.advance_zero]
    exact digestReady_stores snap small

end Sys2Proof.Machine
end

section
/-!
PROOF. A cycle's start, and what it leaves of the link's schedule (R334, R336, R349, R354).
-/
namespace Sys2Proof.Machine

/-- What a beacon or a node frame has told, and what the master has sent. -/
def Link.origin (l : Link) : Option Nat × Nat × Option Nat × Option Nat × Bool × Nat × Option Nat × Tab Nat × Option Nat :=
  (l.heard, l.heardN, l.masterNode, l.schgen, l.majMis, l.nextN, l.sentAt, l.lastFrame, l.late)

/-- What a cycle's start leaves: the instant, the node's own CFG and the link's origin. -/
structure Dev.Starts (d d' : Dev) : Prop where
  clk : d'.clk = d.clk
  tb : d'.tb.now = d.tb.now
  cfg : d'.rd pgLink Reg.sxlink.CFG = d.rd pgLink Reg.sxlink.CFG
  origin : d'.lk.origin = d.lk.origin
  cycle : d'.lk.cycle = d.lk.cycle

theorem Dev.Starts.refl (d : Dev) : d.Starts d := ⟨rfl, rfl, rfl, rfl, rfl⟩

theorem Dev.Starts.trans {a b c : Dev} (h : a.Starts b) (k : b.Starts c) : a.Starts c :=
  ⟨k.clk.trans h.clk, k.tb.trans h.tb, k.cfg.trans h.cfg, k.origin.trans h.origin, k.cycle.trans h.cycle⟩

theorem Dev.Starts.ite {d a b : Dev} {c : Prop} [Decidable c] (h : d.Starts a) (k : d.Starts b) :
    d.Starts (if c then a else b) := by
  split <;> assumption

theorem Dev.Starts.linkNode {d d' : Dev} (h : d.Starts d') : d'.linkNode = d.linkNode := congrArg (fld · 34 30) h.cfg

theorem Dev.Starts.foldl {α : Type} {f : Dev → α → Dev} (step : ∀ e x, Dev.Starts e (f e x)) (l : List α) (d : Dev) :
    d.Starts (l.foldl f d) := by
  induction l generalizing d with
  | nil => exact .refl d
  | cons x l ih => exact (step d x).trans (ih _)

theorem Dev.LinkKept.starts {d d' : Dev} (h : d.LinkKept d') (lk : d'.lk = d.lk) : d.Starts d' :=
  ⟨h.clk, h.tb, h.reg _ (by decide) (by decide), by rw [lk], by rw [lk]⟩

theorem Dev.setLk_starts (d : Dev) {l : Link} (origin : l.origin = d.lk.origin := by rfl)
    (cycle : l.cycle = d.lk.cycle := by rfl) :
    d.Starts (d.setLk l) := ⟨rfl, rfl, rfl, origin, cycle⟩

/-- A write beside CFG. -/
theorem Dev.wr_starts (d : Dev) {p off : Nat} (w : Word) (apart : key p off ≠ key pgLink Reg.sxlink.CFG) :
    d.Starts (d.wr p off w) :=
  ⟨rfl, rfl, Dev.rd_wr_ne _ _ apart, by rw [Dev.wr_lk], by rw [Dev.wr_lk]⟩

theorem Dev.incSat_starts (d : Dev) {p off : Nat} (hi lo : Nat) (apart : key p off ≠ key pgLink Reg.sxlink.CFG) :
    d.Starts (d.incSat p off hi lo) := .ite (d.wr_starts _ apart) (.refl d)

theorem Dev.ev_starts (d : Dev) {p : Nat} (i : Nat) (node : p ≠ pgNode) : d.Starts (d.ev p i) :=
  (d.ev_quiet i node).starts (Dev.ev_lk ..)

/-! ### The digest's snapshot (R354) -/

theorem memGet_quiet (d : Dev) (a : Nat) : d.Quiet (d.memGet a).2 := by
  have scrubbed : d.Quiet { d with mem := d.mem.scrubbed a } := .of_regs rfl rfl fun _ _ => rfl
  unfold Dev.memGet
  split
  · exact .refl d
  · exact (scrubbed.trans (Dev.incSat_quiet _ _ _ (by decide) (by decide) (by decide))).trans (Dev.ev_quiet _ _ (by decide))
  · exact ((d.incSat_quiet _ _ (by decide) (by decide) (by decide)).trans
      (Dev.wf_quiet _ _ _ _ (by decide) (by decide) (by decide))).trans (Dev.ev_quiet _ _ (by decide))

theorem memGet_lk (d : Dev) (a : Nat) : (d.memGet a).2.lk = d.lk := by
  unfold Dev.memGet
  split
  · rfl
  · rw [Dev.ev_lk, Dev.incSat_lk]
  · rw [Dev.ev_lk, Dev.wf_lk, Dev.incSat_lk]

theorem memZero_snd (d : Dev) (a : Nat) : (d.memZero a).2 = (d.memGet a).2 := by
  unfold Dev.memZero
  split <;> rename_i eq <;> rw [eq]

theorem digestWord_snd (d : Dev) (a : Nat) : (digestWord d a).2 = if d.hasMem a then (d.memGet a).2 else d := by
  unfold digestWord
  split
  · exact memZero_snd d a
  · split
    · extract_lets p
      split <;> rfl
    · rfl

theorem digestWord_starts (d : Dev) (a : Nat) : d.Starts (digestWord d a).2 := by
  rw [digestWord_snd]
  exact .ite ((memGet_quiet d a).starts (memGet_lk d a)) (.refl d)

/-- One more word of the configuration set. -/
def digestStep (base : Nat) (acc : List Word × Dev) (i : Nat) : List Word × Dev :=
  let (x, d) := digestWord acc.2 ((base + i) % 2 ^ 24)
  (x :: acc.1, d)

theorem digestSteps_starts (base : Nat) (l : List Nat) (acc : List Word × Dev) :
    acc.2.Starts (l.foldl (digestStep base) acc).2 := by
  induction l generalizing acc with
  | nil => exact .refl _
  | cons i l ih => exact (digestWord_starts acc.2 _).trans (ih (digestStep base acc i))

theorem dsetWords_starts (n : Nat) (d : Dev) (e : Nat) : d.Starts (dsetWords d n e).2 := by
  induction n generalizing d e with
  | zero => exact .refl d
  | succ n ih =>
    have entry : dsetWords d (n + 1) e = (let w := d.rd pgNode (Reg.sxnode.DSET + e)
        if fld w 31 24 = 0 then ([], d)
        else
          let acc := (List.range (fld w 31 24)).foldl (digestStep (fld w 23 0)) ([], d)
          let t := dsetWords acc.2 n (e + 1)
          (acc.1.reverse ++ t.1, t.2)) := rfl
    rw [entry]
    extract_lets w acc t
    rw [apply_ite Prod.snd]
    exact .ite (.refl d) ((digestSteps_starts _ _ ([], d)).trans (ih _ _))

theorem snapshot_starts (d : Dev) (n : Nat) : d.Starts (snapshot d n) := by
  unfold snapshot
  extract_lets head gen
  exact (dsetWords_starts 64 d 0).trans (Dev.setLk_starts _)

/-! ### The start of a cycle -/

theorem countMiss_starts (d : Dev) : d.Starts (countMiss d) := by
  unfold countMiss
  refine .ite (.refl d) (.foldl (fun e i => .ite (e.incSat_starts _ _ ?_) (.refl e)) _ d)
  simp only [key, Reg.sxlink.PORT, Reg.sxlink.CFG]
  omega

theorem applySched_starts (d : Dev) : d.Starts (applySched d) := by
  have store : ∀ (e : Dev) (x : Nat × Word), e.Starts (e.wr pgSched x.1 x.2) := fun e x => e.wr_starts _ (by
    simp only [key, pgSched, pgLink, Reg.sxlink.CFG]
    omega)
  unfold applySched
  split
  · exact .refl d
  · extract_lets d1 vote
    have stored : d.Starts d1 := .foldl store _ d
    exact (stored.trans d1.setLk_starts).trans (Dev.ev_starts (p := pgSched) _ _ (by decide))

theorem voteExpire_starts (d : Dev) (n : Nat) : d.Starts (voteExpire d n) := by
  unfold voteExpire
  split
  · exact .ite (d.setLk_starts) (.refl d)
  · exact .refl d

theorem dropNodes_starts (d : Dev) : d.Starts (dropNodes d) := by
  obtain ⟨kept, lk, -⟩ := dropNodes_walk d 32 le_rfl
  rw [dropNodes_eq]
  exact kept.starts lk

/-- The link counts cycle `n`. -/
def Dev.inCycle (d : Dev) (n : Nat) : Dev := d.setLk { d.lk with cycle := n }

/-- Beside what `Dev.Starts` names, a cycle's start gives the link the cycle's number. -/
theorem cycleStart_starts (d : Dev) (n t : Nat) : (d.inCycle n).Starts (cycleStart d n t) := by
  have scheduled : d.Starts (applySched (countMiss d)) := (countMiss_starts d).trans (applySched_starts _)
  unfold cycleStart
  extract_lets d1 l d2 d3
  have begun : (d.inCycle n).Starts d2 := ⟨scheduled.clk, scheduled.tb, scheduled.cfg, scheduled.origin, rfl⟩
  have ended : (d.inCycle n).Starts d3 := (begun.trans (voteExpire_starts ..)).trans (dropNodes_starts _)
  exact .ite (ended.trans (snapshot_starts ..)) ended

end Sys2Proof.Machine
end

section
/-!
PROOF. What the link does beside its schedule: strobes, reports, votes, FLOOR and the nodes' records (R343 to R353, R357).
-/
namespace Sys2Proof.Machine

/-- The instant, the nodes' page and the link's schedule stand. -/
structure Dev.Tends (d d' : Dev) : Prop where
  clk : d'.clk = d.clk
  node : ∀ off, off < 1024 → d'.rd pgNode off = d.rd pgNode off
  origin : d'.lk.origin = d.lk.origin
  cycle : d'.lk.cycle = d.lk.cycle

theorem Dev.Tends.refl (d : Dev) : d.Tends d := ⟨rfl, fun _ _ => rfl, rfl, rfl⟩

theorem Dev.Tends.trans {a b c : Dev} (h : a.Tends b) (k : b.Tends c) : a.Tends c :=
  ⟨k.clk.trans h.clk, fun off ho => (k.node off ho).trans (h.node off ho), k.origin.trans h.origin, k.cycle.trans h.cycle⟩

theorem Dev.Tends.ite {d a b : Dev} {c : Prop} [Decidable c] (h : d.Tends a) (k : d.Tends b) : d.Tends (if c then a else b) := by
  split <;> assumption

theorem Dev.Tends.present {d d' : Dev} (h : d.Tends d') : d'.present = d.present :=
  congrArg BitVec.toNat (h.node _ (by decide))

theorem Dev.Quiet.tends {d d' : Dev} (h : d.Quiet d') (lk : d'.lk = d.lk) : d.Tends d' :=
  ⟨h.clk, h.node, by rw [lk], by rw [lk]⟩

theorem Dev.setLk_tends (d : Dev) {l : Link} (origin : l.origin = d.lk.origin := by rfl)
    (cycle : l.cycle = d.lk.cycle := by rfl) :
    d.Tends (d.setLk l) := ⟨rfl, fun _ _ => rfl, origin, cycle⟩

theorem Dev.lkEv_tends (d : Dev) (i : Nat) : d.Tends (d.lkEv i) := (d.lkEv_quiet i).tends (Dev.ev_lk ..)

theorem Dev.ev_tends (d : Dev) {p : Nat} (i : Nat) (node : p ≠ pgNode) : d.Tends (d.ev p i) :=
  (d.ev_quiet i node).tends (Dev.ev_lk ..)

theorem Dev.wr_tends (d : Dev) {p off : Nat} (w : Word) (ho : off < 1024) (node : p ≠ pgNode) : d.Tends (d.wr p off w) :=
  ⟨rfl, fun _ h => Dev.rd_wr_ne _ _ fun same => node ((key_inj ho h).mp same).1, by rw [Dev.wr_lk], by rw [Dev.wr_lk]⟩

theorem Dev.wf_tends (d : Dev) {p off : Nat} (hi lo v : Nat) (ho : off < 1024) (node : p ≠ pgNode) :
    d.Tends (d.wf p off hi lo v) :=
  d.wr_tends _ ho node

theorem Dev.incSat_tends (d : Dev) {p off : Nat} (hi lo : Nat) (ho : off < 1024) (node : p ≠ pgNode) :
    d.Tends (d.incSat p off hi lo) := .ite (d.wf_tends _ _ _ ho node) (.refl d)

theorem Dev.draw_tends (d : Dev) : d.Tends d.draw.2 := d.draw_quiet.tends rfl

theorem Dev.strobe_tends (d : Dev) (mask : Nat) : d.Tends (d.strobe mask) := (d.strobe_quiet mask).tends (Dev.strobe_lk ..)

theorem linkSettle_tends (d : Dev) : d.Tends (linkSettle d) := by
  have settled := linkSettle_settled d
  obtain ⟨mis, pend, tv, lk⟩ := settled.lk
  exact ⟨settled.clk, settled.node, by rw [lk]; rfl, by rw [lk]; rfl⟩

theorem setMuted_tends (d : Dev) (v : Bool) : d.Tends (setMuted d v) :=
  ⟨(setMuted_quiet d v).clk, (setMuted_quiet d v).node, by rw [setMuted_lk]; rfl, by rw [setMuted_lk]⟩

/-! ### Timed strobes (R353) -/

theorem tsOff_lt {i : Nat} (h : i < 8) (k : Nat) (hk : k < 4) : tsOff i + k < 1024 := by
  simp only [tsOff, Reg.time.TS_LO]
  omega

theorem tsArm_tends (d : Dev) {i : Nat} (h : i < 8) : d.Tends (tsArm d i) := by
  have ctl : ∀ (e : Dev) (hi lo v : Nat), e.Tends (e.wf pgTime (tsOff i + 2) hi lo v) := fun e hi lo v =>
    e.wf_tends _ _ _ (tsOff_lt h 2 (by decide)) (by decide)
  have event : ∀ (e : Dev) (k : Nat), e.Tends (e.ev pgTime k) := fun e k => e.ev_tends k (by decide)
  have fired : ∀ (e : Dev) (st : Nat), e.Tends (tsFire e i st) := fun e st =>
    ((ctl e _ _ _).trans (event _ _)).trans (Dev.strobe_tends _ _)
  unfold tsArm
  extract_lets d1
  have epoch : d.Tends d1 := ctl ..
  exact .ite (epoch.trans (ctl ..)) (epoch.trans ((fired ..).trans (event ..)))

theorem armStrobe_tends (d : Dev) {slot : Nat} (h : slot < 8) (t mask : Nat) : d.Tends (armStrobe d slot t mask) := by
  have low := tsOff_lt h 0 (by decide)
  have high := tsOff_lt h 1 (by decide)
  have last := tsOff_lt h 3 (by decide)
  unfold armStrobe
  extract_lets d1
  have stored : d.Tends d1 :=
    (((d.wr_tends _ low (by decide)).trans (Dev.wr_tends _ _ high (by decide)))).trans (Dev.wr_tends _ _ last (by decide))
  exact .ite (.refl d) (.ite (.refl d) (.ite (d.lkEv_tends 12) (stored.trans (tsArm_tends _ h))))

/-! ### FLOOR, reports and votes -/

theorem floorTo_tends (d : Dev) (f : Nat) : d.Tends (floorTo d f) :=
  .ite d.setLk_tends (.ite (.refl d) (d.setLk_tends.trans (Dev.lkEv_tends ..)))

theorem unmute_tends (d : Dev) : d.Tends (unmute d) := .ite (setMuted_tends ..) (.refl d)

theorem takeReport_tends (d : Dev) (w a b : Word) : d.Tends (takeReport d w a b) := .ite (.refl d) d.setLk_tends

theorem sourceOffset_tends (d : Dev) (k : TimeSource) (delta : Int) : d.Tends (sourceOffset d k delta) :=
  (sourceOffset_quiet ..).tends (sourceOffset_lk ..)

theorem takeTheta_tends (d : Dev) (delay bn : Nat) : d.Tends (takeTheta d delay bn) := by
  unfold takeTheta
  extract_lets arrival due theta d1
  have stored : d.Tends d1 := d.wr_tends _ (by decide) (by decide)
  exact .ite (stored.trans (sourceOffset_tends ..)) stored

theorem takeOp_tends (d : Dev) (n op target : Nat) : d.Tends (takeOp d n op target) := by
  unfold takeOp
  extract_lets l c fresh v
  split
  · exact .refl d
  · split
    · exact d.setLk_tends
    · exact d.setLk_tends
    · exact d.setLk_tends.trans (Dev.lkEv_tends ..)
    · split
      · exact .ite d.setLk_tends (.refl d)
      · exact .refl d

theorem takeVote_tends (d : Dev) (m x : Nat) : d.Tends (takeVote d m x) := by
  unfold takeVote
  split
  · exact .refl d
  · exact .ite (.refl d) d.setLk_tends

theorem measure_tends (d : Dev) (m slot : Nat) (a b : Option PortRx) : d.Tends (measure d m slot a b) :=
  .ite (.refl d) d.setLk_tends

theorem notSilent_tends (d : Dev) (m : Nat) : d.Tends (notSilent d m) := .ite d.setLk_tends (.refl d)

/-! ### The words of a beacon -/

theorem reportWord_snd (d : Dev) (r : Option Int) : d.Tends (reportWord d r).2 := by
  cases r
  · exact d.draw_tends
  · exact .refl d

theorem reportWords_tends (d : Dev) : d.Tends (reportWords d).2 := by
  unfold reportWords
  extract_lets mpri
  split
  · exact d.draw_tends.trans (Dev.draw_tends _)
  · exact (d.setLk_tends.trans (reportWord_snd ..)).trans (reportWord_snd ..)

theorem reportWords_length (d : Dev) : (reportWords d).1.length = 3 := by
  unfold reportWords
  extract_lets mpri
  split <;> rfl

theorem strobeWords_length (d : Dev) : (strobeWords d).1.length = 3 := by
  unfold strobeWords
  split <;> rfl

theorem strobeWords_tends (d : Dev) : d.Tends (strobeWords d).2 := by
  have slot : d.rf pgSched Reg.sxsched.TSTR_CTL 10 8 < 8 := fld_lt _ 10 8
  unfold strobeWords
  split
  · exact .refl d
  · extract_lets t slot' mask d1 l d2 d3
    have armed : d.Tends d1 := .ite (armStrobe_tends d slot t mask) (.refl d)
    have counted : d.Tends d2 := armed.trans d1.setLk_tends
    have ended : d2.Tends ((d2.wf pgSched Reg.sxsched.TSTR_CTL 1 0 2).ev pgSched 2) :=
      (d2.wf_tends _ _ _ (by decide) (by decide)).trans (Dev.ev_tends _ _ (by decide))
    exact .ite (counted.trans ended) counted

/-! ### The record of a node (R348, R349, R365) -/

theorem nodeMask_lk (d : Dev) (off m ev : Nat) (v : Bool) : (nodeMask d off m ev v).lk = d.lk := by
  unfold nodeMask
  extract_lets d1
  split <;> rfl

theorem recordHeader_lk (d : Dev) (m : Nat) (h : Word) : (recordHeader d m h).lk = d.lk := by
  unfold recordHeader
  extract_lets d1 other d2 i i1 diff d3 d4
  have two : d2.lk = d.lk := nodeMask_lk ..
  have four : d4.lk = d.lk := by
    simp only [d4, d3]
    split <;> simp only [nodeMask_lk, two]
  split
  · rw [Dev.wr_lk, two]
  · rw [Dev.wr_lk, four]

/-- Where the header of node `m` stands whole. -/
def nstatOff (m : Nat) : Nat := Reg.sxnode.NSTAT + 4 * m

theorem nstatOff_lt {m : Nat} (h : m < 32) : nstatOff m < 1024 := by
  simp only [nstatOff, Reg.sxnode.NSTAT]
  omega

/-- A write of the nodes' page beside that header. -/
theorem Dev.nstat_wr (d : Dev) {off : Nat} (w : Word) (ho : off < 1024) {m : Nat} (hm : m < 32) (other : off ≠ nstatOff m) :
    (d.wr pgNode off w).rd pgNode (nstatOff m) = d.rd pgNode (nstatOff m) :=
  Dev.rd_wr_ne _ _ fun same => other ((key_inj ho (nstatOff_lt hm)).mp same).2

theorem infoOff_ne_nstatOff (k m : Nat) : infoOff k ≠ nstatOff m := by
  simp only [infoOff, nstatOff, Reg.sxnode.INFO, Reg.sxnode.NSTAT]
  omega

theorem nstatOff_high (m : Nat) : 0x100 ≤ nstatOff m := by
  simp only [nstatOff, Reg.sxnode.NSTAT]
  omega

theorem nodeMask_nstat (d : Dev) {off : Nat} (low : off < 0x100) (k ev : Nat) (v : Bool) {m : Nat} (hm : m < 32) :
    (nodeMask d off k ev v).rd pgNode (nstatOff m) = d.rd pgNode (nstatOff m) := by
  have high := nstatOff_high m
  have evt : Reg.PAGE_EVT < 0x100 := by decide
  have stored := d.nstat_wr (setBit (d.rd pgNode off) k v) (by omega : off < 1024) hm (by omega)
  unfold nodeMask
  extract_lets d1
  split
  · rw [Dev.rd_nodeEvent _ _ (nstatOff_lt hm) (by omega)]
    exact stored
  · exact stored

/-- The header of a node stands in its NSTAT. -/
theorem recordHeader_nstat (d : Dev) {m : Nat} (hm : m < 32) (h : Word) : (recordHeader d m h).rd pgNode (nstatOff m) = h := by
  have info : ∀ (e : Dev) (w : Word), (e.wr pgNode (infoOff m) w).rd pgNode (nstatOff m) = e.rd pgNode (nstatOff m) := fun e w =>
    e.nstat_wr w (infoOff_lt hm) hm (infoOff_ne_nstatOff m m)
  unfold recordHeader
  extract_lets d1 other d2 i i1 diff d3 d4
  have one : d1.rd pgNode (nstatOff m) = h := Dev.rd_wr_eq ..
  have two : d2.rd pgNode (nstatOff m) = h := (nodeMask_nstat d1 (by decide) m 2 other hm).trans one
  have three : d3.rd pgNode (nstatOff m) = h := (nodeMask_nstat d2 (by decide) m 1 diff hm).trans two
  have four : d4.rd pgNode (nstatOff m) = h := by
    simp only [d4]
    split
    · exact (nodeMask_nstat d3 (by decide) m 0 false hm).trans three
    · exact three
  split
  · rw [info, two]
  · rw [info, four]

theorem nodeMask_clk (d : Dev) (off m ev : Nat) (v : Bool) : (nodeMask d off m ev v).clk = d.clk := by
  unfold nodeMask
  extract_lets d1
  split
  · rw [Dev.ev_clk, Dev.wr_clk]
  · rw [Dev.wr_clk]

theorem recordHeader_clk (d : Dev) (m : Nat) (h : Word) : (recordHeader d m h).clk = d.clk := by
  unfold recordHeader
  extract_lets d1 other d2 i i1 diff d3 d4
  have two : d2.clk = d.clk := nodeMask_clk ..
  have four : d4.clk = d.clk := by
    simp only [d4, d3]
    split <;> simp only [nodeMask_clk, two]
  split
  · rw [Dev.wr_clk, two]
  · rw [Dev.wr_clk, four]

/-! ### Presence of a node that is heard (R348) -/

/-- The link with a frame of node `m` in this cycle. -/
def Link.heardFrom (l : Link) (m : Nat) : Link := { l with lastFrame := l.lastFrame.put m ((l.cycle + 1) % 2 ^ 36) }

theorem heardNode_eq (d : Dev) (m : Nat) : heardNode d m =
    if (d.setLk (d.lk.heardFrom m)).present.testBit m then d.setLk (d.lk.heardFrom m)
    else (setPresent (d.setLk (d.lk.heardFrom m)) m true).lkEv 6 := by
  unfold heardNode Link.heardFrom
  rfl

theorem heardNode_lk (d : Dev) (m : Nat) : (heardNode d m).lk = d.lk.heardFrom m := by
  rw [heardNode_eq]
  split
  · rfl
  · rw [Dev.lkEv, Dev.ev_lk, setPresent_lk]
    rfl

theorem heardNode_present (d : Dev) {m : Nat} (hm : m < 32) : (heardNode d m).present.testBit m = true := by
  rw [heardNode_eq]
  split
  · assumption
  · rw [(Dev.lkEv_quiet ..).present, setPresent_present _ _ _ hm, if_pos rfl]

theorem setPresent_nstat (d : Dev) {m : Nat} (hm : m < 32) (v : Bool) :
    (setPresent d m v).rd pgNode (nstatOff m) = d.rd pgNode (nstatOff m) := by
  have high := nstatOff_high m
  have here : Reg.sxnode.PRESENT < 0x100 := by decide
  rw [setPresent, Dev.wf, Dev.nstat_wr _ _ (infoOff_lt hm) hm (infoOff_ne_nstatOff m m),
    Dev.nstat_wr _ _ (by omega) hm (by omega)]

theorem heardNode_nstat (d : Dev) {m : Nat} (hm : m < 32) :
    (heardNode d m).rd pgNode (nstatOff m) = d.rd pgNode (nstatOff m) := by
  rw [heardNode_eq]
  split
  · rfl
  · rw [(Dev.lkEv_quiet ..).node _ (nstatOff_lt hm), setPresent_nstat _ hm]
    rfl

end Sys2Proof.Machine
end

section
/-!
PROOF. Beacons, received and sent (R334, R338 to R349).
-/
namespace Sys2Proof.Machine

theorem Link.origin_eq_iff (l k : Link) : l.origin = k.origin ↔ l.heard = k.heard ∧ l.heardN = k.heardN ∧
    l.masterNode = k.masterNode ∧ l.schgen = k.schgen ∧ l.majMis = k.majMis ∧ l.nextN = k.nextN ∧ l.sentAt = k.sentAt ∧
    l.lastFrame = k.lastFrame ∧ l.late = k.late := by
  simp only [Link.origin, Prod.mk.injEq]

/-! ### A frame that passes the checks (R341) -/

/-- A frame of `len` words whose trailer is right. -/
structure GoodFrame (x : PortRx) (len : Nat) : Prop where
  whole : x.bad = false
  length : x.words.length = len
  crc : fld (x.words.getD (len - 1) 0) 31 0 = crc32c (x.words.take (len - 1)) 0 0

theorem checkPort_none (d : Dev) (port len : Nat) (owner : Option Nat) (e : Option Int) :
    checkPort d port len owner e none = (none, d) := rfl

/-- Whether a frame lies within the acceptance window of `e`, where there is one. -/
def NearWindow (x : PortRx) (clk : Nat) (e : Option Int) : Prop :=
  ∀ t, e = some t → absI (((clk + x.delay : Nat) : Int) - t) ≤ winGck

theorem NearWindow.outside {x : PortRx} {clk : Nat} {e : Option Int} (near : NearWindow x clk e) :
    e.any (fun t => decide ((winGck : Int) < absI (((clk + x.delay : Nat) : Int) - t))) = false := by
  cases e with
  | none => rfl
  | some t => exact decide_eq_false (not_lt.mpr (by exact_mod_cast near t rfl))

theorem checkPort_good {d : Dev} {port len : Nat} (owner : Option Nat) {e : Option Int} {x : PortRx} (on : d.portOn port = true)
    (near : NearWindow x d.clk e) (good : GoodFrame x len) : checkPort d port len owner e (some x) = (some x, d) := by
  unfold checkPort
  dsimp only
  rw [on, near.outside, good.whole, good.length, good.crc, beq_self_eq_true, beq_self_eq_true]
  rfl

theorem checkPort_bad {d : Dev} {port len : Nat} (owner : Option Nat) {e : Option Int} {x : PortRx} (on : d.portOn port = true)
    (near : NearWindow x d.clk e) (bad : x.bad = true) :
    checkPort d port len owner e (some x) = (none, discardFrame d port owner 2) := by
  unfold checkPort
  dsimp only
  rw [on, near.outside, bad]
  rfl

theorem headD_eq_getD {α : Type} (l : List α) (a : α) : l.headD a = l.getD 0 a := by cases l <;> rfl

theorem getD_take {α : Type} (l : List α) {n i : Nat} (h : i < n) (a : α) : (l.take n).getD i a = l.getD i a := by
  simp [List.getD_eq_getElem?_getD, h]

theorem hdrNode_lt (h : Word) : hdrNode h < 32 := fld_lt h 31 27

/-! ### A beacon received (R343 to R349) -/

/-- The link's schedule starts with beacon `n` of node `m`, whose SFD arrived at `t`. -/
structure Link.StartsAt (l : Link) (t n m : Nat) : Prop where
  heard : l.heard = some t
  number : l.heardN = n
  master : l.masterNode = some m
  cycle : l.cycle = n

theorem Link.StartsAt.of_origin {l k : Link} {t n m : Nat} (h : l.StartsAt t n m) (origin : k.origin = l.origin)
    (cycle : k.cycle = l.cycle) : k.StartsAt t n m := by
  obtain ⟨heard, number, master, -⟩ := (Link.origin_eq_iff _ _).mp origin
  exact ⟨heard.trans h.heard, number.trans h.number, master.trans h.master, cycle.trans h.cycle⟩

/-- The arrival of a beacon is the origin of the schedule. -/
theorem beaconOrigin_startsAt (d : Dev) (m n delay : Nat) (portB : Bool) :
    (beaconOrigin d m n delay portB).lk.StartsAt (d.clk + delay) n m := by
  unfold beaconOrigin
  extract_lets at_ l0 same d0 l gap ratio run d1 d2 l2
  have named : d0.lk.masterNode = some m := by
    simp only [d0]
    split
    · exact eq_of_beq ‹_›
    · rw [Dev.lkEv, Dev.ev_lk]
      rfl
  have kept : d2.lk.origin = d1.lk.origin := by
    simp only [d2]
    split
    · rfl
    · exact (cycleStart_starts d1 n _).origin
  obtain ⟨heard, number, master, -⟩ := (Link.origin_eq_iff _ _).mp kept
  exact ⟨heard, number, master.trans named, rfl⟩

/-- The link of a node that has taken header `h` of a master of its own version. -/
def Link.told (l : Link) (h : Word) : Link := { l with majMis := false, schgen := some (fld h 14 3) }

theorem followBeacon_follows (d : Dev) (ws : List Word) (delay : Nat) (portB : Bool) :
    (followBeacon d ws delay portB).lk.StartsAt (d.clk + delay) (ws.getD 1 0).toNat (hdrNode (ws.getD 0 0)) ∧
      (followBeacon d ws delay portB).lk.schgen = some (fld (ws.getD 0 0) 14 3) ∧
      (followBeacon d ws delay portB).lk.majMis = false ∧
      (followBeacon d ws delay portB).present.testBit (hdrNode (ws.getD 0 0)) = true ∧
      (followBeacon d ws delay portB).rd pgNode (nstatOff (hdrNode (ws.getD 0 0))) = ws.getD 0 0 := by
  unfold followBeacon
  extract_lets w h m n d1 d2 l d3 d4 d5 d6
  have small : m < 32 := hdrNode_lt h
  have starts : d1.lk.StartsAt (d.clk + delay) n m := beaconOrigin_startsAt d m n delay portB
  have lk : d2.lk = d1.lk.heardFrom m := by
    rw [← recordHeader_lk d1 m h]
    exact heardNode_lk ..
  have here : d2.present.testBit m = true := heardNode_present _ small
  have stored : d2.rd pgNode (nstatOff m) = h := (heardNode_nstat _ small).trans (recordHeader_nstat d1 small h)
  have settled : (d2.setLk (d2.lk.told h)).Tends d4 :=
    (((floorTo_tends _ _).trans (takeReport_tends ..)).trans (unmute_tends _)).trans (linkSettle_tends _)
  have timed : (d2.setLk (d2.lk.told h)).Tends d5 := settled.trans (takeTheta_tends ..)
  have slot : fld (w 10) 34 32 < 8 := fld_lt _ 34 32
  have armed : (d2.setLk (d2.lk.told h)).Tends d6 := .ite (timed.trans (armStrobe_tends d5 slot _ _)) timed
  have rest := (armed.trans (takeOp_tends d6 n (fld h 2 0) (w 7).toNat)).trans (linkSettle_tends _)
  have kept := (Link.origin_eq_iff _ _).mp rest.origin
  obtain ⟨-, -, -, gen, major, -⟩ := kept
  have started : (d2.lk.told h).StartsAt (d.clk + delay) n m := by
    rw [lk]
    exact ⟨starts.heard, starts.number, starts.master, starts.cycle⟩
  exact ⟨started.of_origin rest.origin rest.cycle, gen, major, by rw [rest.present]; exact here,
    (rest.node _ (nstatOff_lt small)).trans stored⟩

theorem stopMaster_follower {d : Dev} (follower : d.lk.master = false) : stopMaster d = d := if_pos (by rw [follower]; rfl)

/-- A beacon of another node of protocol version 1 at a follower. -/
theorem takeBeacon_follower {d : Dev} {ws : List Word} {delay : Nat} {portB : Bool} (follower : d.lk.master = false)
    (other : hdrNode (ws.headD 0) ≠ d.linkNode) (version : hdrMaj (ws.headD 0) = 1) :
    takeBeacon d ws delay portB = followBeacon d ws delay portB := by
  unfold takeBeacon
  simp only [if_neg other, follower, Bool.false_eq_true, false_and, if_false, stopMaster_follower follower, version, ne_eq,
    not_true_eq_false]

theorem missPort_some (d : Dev) (port : Nat) (x : PortRx) : missPort d port (some x) = d := if_neg (by simp)

theorem missPort_none_clk (d : Dev) (port : Nat) : (missPort d port none).clk = d.clk := by
  unfold missPort
  split
  · exact Dev.incSat_clk ..
  · rfl

theorem missPort_none_lk (d : Dev) (port : Nat) : (missPort d port none).lk = d.lk := by
  unfold missPort
  split
  · exact Dev.incSat_lk ..
  · rfl

theorem missPort_none_linkNode (d : Dev) (port : Nat) : (missPort d port none).linkNode = d.linkNode := by
  have apart : key pgLink (Reg.sxlink.PORT + port) ≠ key pgLink Reg.sxlink.CFG := by
    simp only [key, Reg.sxlink.PORT, Reg.sxlink.CFG]
    omega
  exact (Dev.Starts.ite (d.incSat_starts 11 0 apart) (.refl d) : d.Starts (missPort d port none)).linkNode

/-- The expected SFD instant of a beacon. -/
def Dev.beaconDue (d : Dev) : Option Int := if d.linkCounts then some (d.linkAt 0 + sfdGck + d.rxcompGck) else none

theorem chooseFrame_onlyA (d : Dev) (x : PortRx) : chooseFrame d (some x) none = (some (x, false), d) := rfl

/-- A beacon that comes in on port A alone, at a node that hears; `d0` is the device at that instant. -/
theorem beaconReceived_good {d d0 : Dev} {rx : LinkRx} {x : PortRx} (now : d0 = linkCatch (d.advance rx.dt))
    (hears : d0.linkHears = true) (onA : rx.a = some x) (noB : rx.b = none) (on : d0.portOn 0 = true) (good : GoodFrame x 12)
    (kind : hdrKind (x.words.headD 0) = 0) (near : NearWindow x d0.clk d0.beaconDue) :
    beaconReceived d rx = linkSettle (takeBeacon (missPort d0 1 none) (x.words.take 11) x.delay false) := by
  unfold beaconReceived
  rw [← now, onA, noB]
  dsimp only
  rw [← Dev.beaconDue, checkPort_good _ on near good, checkPort_none]
  dsimp only
  rw [chooseFrame_onlyA, hears]
  dsimp only
  rw [if_neg (by decide), if_neg (by rw [kind]; decide), missPort_some]

/-- What a beacon that passes the checks leaves at a follower. -/
theorem beaconReceived_follows {d d0 : Dev} {rx : LinkRx} {x : PortRx} (now : d0 = linkCatch (d.advance rx.dt))
    (hears : d0.linkHears = true) (follower : d0.lk.master = false) (onA : rx.a = some x) (noB : rx.b = none)
    (on : d0.portOn 0 = true) (good : GoodFrame x 12) (kind : hdrKind (x.words.getD 0 0) = 0)
    (version : hdrMaj (x.words.getD 0 0) = 1) (other : hdrNode (x.words.getD 0 0) ≠ d0.linkNode)
    (near : NearWindow x d0.clk d0.beaconDue) :
    (beaconReceived d rx).lk.StartsAt (d0.clk + x.delay) (x.words.getD 1 0).toNat (hdrNode (x.words.getD 0 0)) ∧
      (beaconReceived d rx).lk.schgen = some (fld (x.words.getD 0 0) 14 3) ∧ (beaconReceived d rx).lk.majMis = false ∧
      (beaconReceived d rx).present.testBit (hdrNode (x.words.getD 0 0)) = true ∧
      (beaconReceived d rx).rd pgNode (nstatOff (hdrNode (x.words.getD 0 0))) = x.words.getD 0 0 := by
  have first : (x.words.take 11).headD 0 = x.words.getD 0 0 := by rw [headD_eq_getD, getD_take _ (by decide)]
  rw [beaconReceived_good now hears onA noB on good (by rw [headD_eq_getD]; exact kind) near,
    takeBeacon_follower (by rw [missPort_none_lk]; exact follower) (by rw [first, missPort_none_linkNode]; exact other)
      (by rw [first]; exact version)]
  obtain ⟨starts, gen, major, here, stored⟩ := followBeacon_follows (missPort d0 1 none) (x.words.take 11) x.delay false
  rw [missPort_none_clk] at starts
  rw [getD_take _ (by decide)] at starts gen here stored
  rw [getD_take _ (by decide)] at starts
  have rest := linkSettle_tends (followBeacon (missPort d0 1 none) (x.words.take 11) x.delay false)
  obtain ⟨-, -, -, sameGen, sameMajor, -⟩ := (Link.origin_eq_iff _ _).mp rest.origin
  exact ⟨starts.of_origin rest.origin rest.cycle, sameGen.trans gen, sameMajor.trans major, by rw [rest.present]; exact here,
    (rest.node _ (nstatOff_lt (hdrNode_lt _))).trans stored⟩

end Sys2Proof.Machine
end

section
/-!
PROOF. A master's beacon leaves (R334, R338, R339, R349).
-/
namespace Sys2Proof.Machine

/-! ### The header (R338) -/

theorem foldl_min_le (f : Nat → Nat) (l : List Nat) (a : Nat) : l.foldl (fun a m => min a (f m)) a ≤ a := by
  induction l generalizing a with
  | nil => exact le_rfl
  | cons x l ih => exact (ih _).trans (min_le_left _ _)

theorem floorNow_le (d : Dev) : d.floorNow ≤ 2 := foldl_min_le _ _ _

/-- The header of a beacon without a SLEEPOP. -/
theorem beaconHeader_fields {node floor gen : Nat} (hn : node < 32) (hf : floor ≤ 2) (hg : gen < 4096) :
    let h := mkw [(27, node), (23, 1), (19, 2), (15, floor), (3, gen), (0, 0)]
    hdrKind h = 0 ∧ hdrNode h = node ∧ hdrMaj h = 1 ∧ fld h 2 0 = 0 := by
  intro h
  have field : ∀ {hi lo : Nat}, lo ≤ hi → hi < 36 →
      fld h hi lo = nfld (node * 2 ^ 27 + 2 ^ 23 + 2 * 2 ^ 19 + floor * 2 ^ 15 + gen * 2 ^ 3) hi lo := fun hl hh => by
    rw [← fld_ofNat _ hl hh]
    simp [h, mkw]
  rw [hdrKind, hdrNode, hdrMaj, field (by decide) (by decide), field (by decide) (by decide), field (by decide) (by decide),
    field (by decide) (by decide)]
  simp only [nfld, Nat.shiftRight_eq_div_pow]
  omega

/-! ### What a beacon says -/

/-- The first four words of beacon `n` without a SLEEPOP. -/
def Dev.beaconHead (d : Dev) (n : Nat) : List Word :=
  [mkw [(27, d.linkNode), (23, 1), (19, 2), (15, d.floorNow), (3, d.rf pgSched Reg.sxsched.GEN 11 0), (0, 0)],
    BitVec.ofNat 36 n, BitVec.ofNat 36 d.tb.now, BitVec.ofNat 36 (d.tb.now / two36)]

theorem linkSettle_txFrame (d : Dev) : (linkSettle d).lk.txFrame = d.lk.txFrame := by
  obtain ⟨mis, pend, tv, lk⟩ := (linkSettle_settled d).lk
  rw [lk]
  rfl

/-- A beacon leaves with eleven words, of which the first four are its head, and the rest of the schedule stands. -/
theorem sendBeacon_sent (d : Dev) (n : Nat) :
    ∃ rest, rest.length = 7 ∧ (sendBeacon d n 0).lk.txFrame = linkWords (d.beaconHead n ++ rest) ∧
      (sendBeacon d n 0).lk.origin = d.lk.origin ∧ (sendBeacon d n 0).lk.cycle = d.lk.cycle ∧ (sendBeacon d n 0).clk = d.clk := by
  have reports := reportWords_length (floorTo d d.floorNow)
  have strobe := strobeWords_length (reportWords (floorTo d d.floorNow)).2
  have tends : d.Tends (strobeWords (reportWords (floorTo d d.floorNow)).2).2 :=
    ((floorTo_tends ..).trans (reportWords_tends _)).trans (strobeWords_tends _)
  unfold sendBeacon
  extract_lets target f d1 h
  rcases reported : reportWords d1 with ⟨rep, d2⟩
  rw [show floorTo d d.floorNow = d1 from rfl, reported] at reports strobe tends
  rcases struck : strobeWords d2 with ⟨ts, d3⟩
  rw [struck] at strobe tends
  dsimp only at reports strobe tends ⊢
  rw [struck]
  refine ⟨rep ++ [BitVec.ofNat 36 0] ++ ts, ?_, ?_, ?_, ?_, ?_⟩
  · simp [reports, strobe]
  · rw [recordHeader_lk]
    simp [Dev.beaconHead, h, f]
  · rw [recordHeader_lk]
    exact tends.origin
  · rw [recordHeader_lk]
    exact tends.cycle
  · rw [recordHeader_clk]
    exact tends.clk

/-! ### The cycle of the master -/

theorem masterCycle_starts (d : Dev) (n : Nat) : (masterCycle d n).clk = d.clk ∧ (masterCycle d n).tb.now = d.tb.now ∧
    (masterCycle d n).linkNode = d.linkNode ∧ (masterCycle d n).lk.cycle = n ∧ (masterCycle d n).lk.sentAt = some d.clk ∧
    (masterCycle d n).lk.nextN = (n + 1) % 2 ^ 36 ∧ (masterCycle d n).lk.late = d.lk.late := by
  have starts := cycleStart_starts d n d.clk
  obtain ⟨-, -, -, -, -, -, -, -, late⟩ := (Link.origin_eq_iff _ _).mp starts.origin
  unfold masterCycle
  exact ⟨starts.clk, starts.tb, starts.linkNode, starts.cycle, rfl, rfl, late⟩

theorem masterOp_plain {d : Dev} (vote : d.lk.vote = none) (propose : d.lk.propose = false) (n : Nat) :
    masterOp d n = some (0, d) := by
  unfold masterOp
  extract_lets l
  have undecided : l.vote = none := vote
  rw [undecided]
  exact if_neg (by rw [show l.propose = false from propose]; decide)

theorem Dev.lateWake_of_none {d : Dev} (late : d.lk.late = none) : d.lateWake = false := by
  simp [Dev.lateWake, late]

theorem beaconSend_runs {d : Dev} {dt : Nat} (on : d.linkOn = true) (master : d.lk.master = true) (single : d.lk.dupid = false)
    (awake : d.lk.sphase = .awake) (powered : d.sup.ps = .run ∨ d.sup.ps = .idle) (vote : d.lk.vote = none)
    (propose : d.lk.propose = false) (late : d.lk.late = none) :
    beaconSend d dt false = linkSettle (sendBeacon (masterCycle (d.advanceTo (d.beaconAt dt)) d.lk.nextN) d.lk.nextN 0) := by
  have may : ¬((!d.linkOn) = true ∨ (!d.lk.master) = true ∨ d.lk.dupid = true ∨ d.lk.sphase = .asleep ∨
      (!(d.sup.ps == .run || d.sup.ps == .idle)) = true) := by
    have up : (d.sup.ps == .run || d.sup.ps == .idle) = true := by simpa using powered
    simp [on, master, single, awake, up]
  have op : masterOp (d.advanceTo (d.beaconAt dt)) d.lk.nextN = some (0, d.advanceTo (d.beaconAt dt)) :=
     masterOp_plain ((congrArg Link.vote (Dev.advance_lk ..)).trans vote)
       ((congrArg Link.propose (Dev.advance_lk ..)).trans propose) _
  obtain ⟨-, -, -, -, -, -, never⟩ := masterCycle_starts (d.advanceTo (d.beaconAt dt)) d.lk.nextN
  have plain : (masterCycle (d.advanceTo (d.beaconAt dt)) d.lk.nextN).lk.late = none :=
    never.trans ((congrArg Link.late (Dev.advance_lk ..)).trans late)
  have number : (d.advanceTo (d.beaconAt dt)).lk.nextN = d.lk.nextN := congrArg Link.nextN (Dev.advance_lk ..)
  have fresh : ∀ f, ¬ Option.any f (masterCycle (d.advanceTo (d.beaconAt dt)) d.lk.nextN).lk.late = true := fun f => by
    rw [plain]
    exact Bool.false_ne_true
  unfold beaconSend
  rw [if_neg may]
  dsimp only
  rw [number, op]
  dsimp only
  rw [Dev.lateWake_of_none plain, if_neg Bool.false_ne_true, if_neg Bool.false_ne_true, if_neg (fresh _)]

/-- What a master's beacon says, and what it leaves of the schedule. -/
theorem beaconSend_sends {d : Dev} {dt : Nat} (runs : beaconSend d dt false =
    linkSettle (sendBeacon (masterCycle (d.advanceTo (d.beaconAt dt)) d.lk.nextN) d.lk.nextN 0)) :
    ∃ ws, (beaconSend d dt false).lk.txFrame = ws ++ [plainTrailer 0 ws] ∧ ws.length = 11 ∧ hdrKind (ws.getD 0 0) = 0 ∧
      hdrNode (ws.getD 0 0) = d.linkNode ∧ hdrMaj (ws.getD 0 0) = 1 ∧ fld (ws.getD 0 0) 2 0 = 0 ∧
      ws.getD 1 0 = BitVec.ofNat 36 d.lk.nextN ∧ ws.getD 2 0 = BitVec.ofNat 36 (d.advanceTo (d.beaconAt dt)).tb.now ∧
      ws.getD 3 0 = BitVec.ofNat 36 ((d.advanceTo (d.beaconAt dt)).tb.now / 2 ^ 36) := by
  obtain ⟨-, now, node, -⟩ := masterCycle_starts (d.advanceTo (d.beaconAt dt)) d.lk.nextN
  obtain ⟨rest, length, frame, -⟩ := sendBeacon_sent (masterCycle (d.advanceTo (d.beaconAt dt)) d.lk.nextN) d.lk.nextN
  have own : (d.advanceTo (d.beaconAt dt)).linkNode = d.linkNode := congrArg (fld · 34 30) (Dev.rd_advanceTo ..)
  have gen : ∀ e : Dev, e.rf pgSched Reg.sxsched.GEN 11 0 < 4096 := fun e => fld_lt _ 11 0
  obtain ⟨kind, sender, version, op⟩ := beaconHeader_fields (node := d.linkNode) (fld_lt _ 34 30)
    (floorNow_le (masterCycle (d.advanceTo (d.beaconAt dt)) d.lk.nextN)) (gen _)
  rw [Dev.beaconHead, node, own, now] at frame
  rw [runs, linkSettle_txFrame, frame]
  refine ⟨_, rfl, ?_, kind, sender, version, op, rfl, rfl, rfl⟩
  rw [List.length_append, length]
  rfl

theorem beaconSend_schedules {d : Dev} {dt : Nat} (runs : beaconSend d dt false =
    linkSettle (sendBeacon (masterCycle (d.advanceTo (d.beaconAt dt)) d.lk.nextN) d.lk.nextN 0)) :
    (beaconSend d dt false).clk = max d.clk (d.beaconAt dt) ∧ (beaconSend d dt false).lk.sentAt =
      some (beaconSend d dt false).clk ∧
      (beaconSend d dt false).lk.cycle = d.lk.nextN ∧ (beaconSend d dt false).lk.nextN = (d.lk.nextN + 1) % 2 ^ 36 := by
  obtain ⟨clk, -, -, cycle, sent, next, -⟩ := masterCycle_starts (d.advanceTo (d.beaconAt dt)) d.lk.nextN
  obtain ⟨-, -, -, origin, number, same⟩ := sendBeacon_sent (masterCycle (d.advanceTo (d.beaconAt dt)) d.lk.nextN) d.lk.nextN
  have rest := linkSettle_tends (sendBeacon (masterCycle (d.advanceTo (d.beaconAt dt)) d.lk.nextN) d.lk.nextN 0)
  obtain ⟨-, -, -, -, -, laterN, laterSent, -⟩ := (Link.origin_eq_iff _ _).mp (rest.origin.trans origin)
  have at_ := (rest.clk.trans same).trans clk
  rw [runs, laterSent, laterN, rest.cycle, number, cycle, sent, next, at_, Dev.advanceTo_clk_eq_max]
  exact ⟨rfl, rfl, rfl, rfl⟩

end Sys2Proof.Machine
end

section
/-!
PROOF. Node frames, sent and received (R335, R337 to R341, R348, R349).
-/
namespace Sys2Proof.Machine

/-! ### The items of a frame fit its slot (R340) -/

theorem coordItem_length (d : Dev) : (coordItem d).length ≤ 5 := by
  unfold coordItem
  split
  · exact Nat.zero_le _
  · exact le_rfl

theorem coordPart_length (d : Dev) (p : Nat) : (coordPart d p).1.length ≤ p := by
  unfold coordPart
  split
  · exact Nat.zero_le _
  · split
    · exact Nat.zero_le _
    · exact (coordItem_length d).trans (by omega)

theorem fitItems_length (l : List (List Word)) (room : Nat) : (fitItems l room).1.length ≤ room := by
  induction l generalizing room with
  | nil => exact Nat.zero_le _
  | cons x t ih =>
    unfold fitItems
    split
    case isTrue fits =>
      have := ih (room - x.length)
      simp only [List.length_append]
      omega
    case isFalse => exact Nat.zero_le _

theorem requestPart_length (d : Dev) (room : Nat) : (requestPart d room).1.length ≤ room := by
  unfold requestPart
  split
  case h_1 r eq =>
    split
    · exact Nat.zero_le _
    case isFalse fits =>
      have : r.words.length ≤ room := by
        rw [not_or] at fits
        omega
      split <;> exact this
  · exact Nat.zero_le _

theorem digestPart_length (d : Dev) (room : Nat) : (digestPart d room).1.length ≤ room := by
  unfold digestPart
  extract_lets l
  split
  case h_1 q eq =>
    extract_lets first
    split
    · exact Nat.zero_le _
    case isFalse fits =>
      simp only [not_or] at fits
      obtain ⟨-, room3, -⟩ := fits
      exact not_lt.mp room3
  · exact Nat.zero_le _

theorem frameItems_length (d : Dev) (p : Nat) : (frameItems d p).1.length ≤ p := by
  unfold frameItems
  have coord := coordPart_length d p
  rcases coordinate : coordPart d p with ⟨c, d1⟩
  rw [coordinate] at coord
  dsimp only at coord ⊢
  have answers := fitItems_length d1.lk.rsp (p - c.length)
  rcases fitted : fitItems d1.lk.rsp (p - c.length) with ⟨r, rest⟩
  rw [fitted] at answers
  dsimp only at answers ⊢
  have request := fun e => requestPart_length e (p - c.length - r.length)
  generalize d1.setLk _ = d2
  rcases asked : requestPart d2 (p - c.length - r.length) with ⟨q, d3⟩
  have digest := digestPart_length d3 (p - c.length - r.length - q.length)
  have request := request d2
  rw [asked] at request
  simp only [List.length_append] at request digest ⊢
  omega

theorem padTo_length {p : Nat} {ws : List Word} (fits : ws.length ≤ p) : (padTo p ws).length = p := by
  rw [padTo, List.length_append, List.length_replicate]
  omega

/-! ### The header of a node frame (R338) -/

theorem voteField_lt (d : Dev) : (voteField d).1 < 4 := by
  unfold voteField
  split
  · decide
  · split
    · exact Nat.zero_lt_succ _
    · split
      · exact Nat.lt_succ_self _
      · split
        · split
          · exact Nat.one_lt_succ_succ _
          · exact Nat.lt_succ_of_lt (Nat.lt_succ_self _)
        · exact Nat.zero_lt_succ _

theorem bnat_lt (b : Bool) : bnat b < 2 := by cases b <;> decide

theorem nodeHeader_fields {node schema vote deg valid n : Nat} (hn : node < 32) (hs : schema < 256) (hv : vote < 4) (hd : deg < 2)
    (ht : valid < 2) (hl : n < 128) :
    let h := mkw [(32, 1), (27, node), (23, 1), (19, 2), (11, schema), (9, vote), (8, deg), (7, valid), (0, n)]
    hdrKind h = 1 ∧ hdrNode h = node ∧ hdrMaj h = 1 ∧ fld h 18 11 = schema ∧ fld h 8 8 = deg := by
  intro h
  have field : ∀ {hi lo : Nat}, lo ≤ hi → hi < 36 → fld h hi lo = nfld (2 ^ 32 + node * 2 ^ 27 + 2 ^ 23 + 2 * 2 ^ 19 +
      schema * 2 ^ 11 + vote * 2 ^ 9 + deg * 2 ^ 8 + valid * 2 ^ 7 + n) hi lo := fun hl hh => by
    rw [← fld_ofNat _ hl hh]
    simp [h, mkw]
  rw [hdrKind, hdrNode, hdrMaj, field (by decide) (by decide), field (by decide) (by decide), field (by decide) (by decide),
    field (by decide) (by decide), field (by decide) (by decide)]
  simp only [nfld, Nat.shiftRight_eq_div_pow]
  omega

/-! ### A node frame sent (R335, R337) -/

theorem slotP_le (d : Dev) (i : Nat) : d.slotP i ≤ 62 := by
  have : d.rf pgSched (Reg.sxsched.SLOT + i) 4 0 < 32 := fld_lt _ 4 0
  rw [Dev.slotP]
  omega

theorem sendFrame_sent (d : Dev) (i : Nat) :
    ∃ ws, (sendFrame d i).lk.txFrame = linkWords ws ∧ ws.length = 1 + d.slotP i ∧ hdrKind (ws.getD 0 0) = 1 ∧
      hdrNode (ws.getD 0 0) = d.linkNode ∧ hdrMaj (ws.getD 0 0) = 1 ∧ fld (ws.getD 0 0) 18 11 = d.schema ∧
      fld (ws.getD 0 0) 8 8 = bnat d.degraded := by
  have few := slotP_le d i
  have vote := voteField_lt d
  unfold sendFrame
  extract_lets p
  rcases voted : voteField d with ⟨field, v⟩
  rw [voted] at vote
  dsimp only at vote ⊢
  generalize d.setLk _ = d0
  have fits := frameItems_length d0 p
  rcases made : frameItems d0 p with ⟨items, d1⟩
  rw [made] at fits
  dsimp only at fits ⊢
  rw [recordHeader_lk]
  refine ⟨_, rfl, ?_, ?_⟩
  · rw [List.length_cons, padTo_length fits, add_comm]
  · exact nodeHeader_fields (fld_lt _ 34 30) (fld_lt _ 7 0) vote (bnat_lt _) (bnat_lt _) (by omega)

theorem nodeFrameSend_talks {d d0 : Dev} {i : Nat}
    (now : d0 = linkSettle (muteCheck (linkCatch ((linkCatch d).advanceTo ((linkCatch d).slotStart i).toNat))))
    (hears : (linkCatch d).linkHears = true) (counts : (linkCatch d).linkCounts = true) (within : i < (linkCatch d).nslot)
    (own : (linkCatch d).slotOwner i = (linkCatch d).linkNode) (ahead : ((linkCatch d).clk : Int) ≤ (linkCatch d).slotStart i)
    (talks : d0.mayTalk = true) : nodeFrameSend d i = linkSettle (sendFrame d0 i) := by
  unfold nodeFrameSend
  dsimp only
  rw [if_neg (by rw [hears, counts]; simp [own]; omega), ← now, if_pos talks]

/-! ### A node frame received (R340, R341, R348, R349) -/

theorem checkOwner_none (d : Dev) (owner : Nat) : checkOwner d owner none = (none, d) := rfl

theorem checkOwner_owner {d : Dev} {owner : Nat} {x : PortRx} (own : hdrNode (x.words.headD 0) = owner) :
    checkOwner d owner (some x) = (some x, d) := if_pos own

theorem takeItems_nil (t1 t2 : Dev) (d : Dev) (m fuel : Nat) : takeItems t1 t2 d m (fuel + 1) [] = d := rfl

/-- A word of type 0 ends the items. -/
theorem takeItems_end (t1 t2 : Dev) (d : Dev) (m fuel : Nat) {h : Word} (t : List Word) (zero : fld h 35 32 = 0) :
    takeItems t1 t2 d m (fuel + 1) (h :: t) = d := by
  unfold takeItems
  dsimp only
  rw [zero]
  split <;> rfl

/-- A payload whose first word, where there is one, is of type 0 has no items. -/
theorem takeItems_plain (t1 t2 : Dev) (d : Dev) (m fuel : Nat) {ws : List Word} (plain : ws = [] ∨ fld (ws.getD 0 0) 35 32 = 0) :
    takeItems t1 t2 d m (fuel + 1) ws = d := by
  cases ws with
  | nil => exact takeItems_nil ..
  | cons h t => exact takeItems_end _ _ _ _ _ _ (plain.resolve_left (List.cons_ne_nil h t))

/-- What a node frame without items leaves, from another node of protocol version 1. -/
theorem takeFrame_plain (t1 t2 : Dev) {d : Dev} (slot : Nat) {m : Nat} {ws : List Word} (a b : Option PortRx) (hm : m < 32)
    (other : m ≠ d.linkNode) (version : hdrMaj (ws.headD 0) = 1) (plain : ws.tail = [] ∨ fld (ws.tail.getD 0 0) 35 32 = 0) :
    (takeFrame t1 t2 d slot m ws a b).present.testBit m = true ∧
      (takeFrame t1 t2 d slot m ws a b).lk.lastFrame.get m 0 = (d.lk.cycle + 1) % 2 ^ 36 ∧
      (takeFrame t1 t2 d slot m ws a b).rd pgNode (nstatOff m) = ws.headD 0 := by
  unfold takeFrame
  extract_lets h d1 d2
  have recorded : d1 = recordHeader d m h := congrArg (recordHeader · m h) (if_neg other)
  have tends : (heardNode d1 m).Tends d2 := ((measure_tends ..).trans (notSilent_tends ..)).trans (takeVote_tends ..)
  obtain ⟨-, -, -, -, -, -, -, last, -⟩ := (Link.origin_eq_iff _ _).mp tends.origin
  rw [if_neg (by rw [show hdrMaj h = 1 from version]; decide), takeItems_plain _ _ _ _ _ plain, tends.present, last, heardNode_lk,
    recorded, recordHeader_lk, tends.node _ (nstatOff_lt hm), recorded, heardNode_nstat _ hm, recordHeader_nstat _ hm]
  refine ⟨heardNode_present _ hm, ?_, rfl⟩
  rw [Tab.get, Link.heardFrom, Tab.look_put_eq]
  rfl

/-- The expected SFD instant of the frame of slot `i`. -/
def Dev.slotDue (d : Dev) (i : Nat) : Int := d.linkAt (d.slotOff i) + sfdGck + d.rxcompGck

/-- A frame of a slot's owner that comes in on port A alone; `d0` is the device at that instant. -/
theorem nodeFrameReceived_good {t1 t2 d d0 : Dev} {slot : Nat} {rx : LinkRx} {x : PortRx}
    (now : d0 = linkSettle (muteCheck (linkCatch (d.advance rx.dt)))) (hears : d0.linkHears = true)
      (counts : d0.linkCounts = true)
    (within : slot < d0.nslot) (onA : rx.a = some x) (noB : rx.b = none) (on : d0.portOn 0 = true)
    (near : NearWindow x d0.clk (some (d0.slotDue slot))) (good : GoodFrame x (d0.slotP slot + 2))
    (own : hdrNode (x.words.headD 0) = d0.slotOwner slot) (kind : hdrKind (x.words.headD 0) = 1) :
    (takeFrame t1 t2 d0 slot (d0.slotOwner slot) (x.words.take (d0.slotP slot + 1)) (some x) none).Tends
      (nodeFrameReceived t1 t2 d slot rx) := by
  unfold Dev.slotDue at near
  unfold nodeFrameReceived
  rw [← now, onA, noB, if_neg (by rw [hears, counts]; simpa using within)]
  dsimp only
  rw [checkPort_good _ on near good, checkPort_none]
  dsimp only
  simp only [checkOwner_owner own, checkOwner_none, chooseFrame_onlyA]
  rw [if_neg (by rw [kind]; decide)]
  exact .ite (.refl _) (linkSettle_tends _)

/-- The payload of a frame of `p` payload words, where it is empty or starts with a word of type 0. -/
theorem payload_plain {ws : List Word} {p : Nat} (plain : p = 0 ∨ fld (ws.getD 1 0) 35 32 = 0) :
    (ws.take (p + 1)).tail = [] ∨ fld ((ws.take (p + 1)).tail.getD 0 0) 35 32 = 0 := by
  rcases ws with - | ⟨h, t⟩
  · exact .inl rfl
  · rw [List.take_succ_cons, List.tail_cons]
    rcases Nat.eq_zero_or_pos p with none | some
    · exact .inl (by rw [none, List.take_zero])
    · exact .inr (by rw [getD_take _ some]; exact plain.resolve_left some.ne')

theorem nodeFrameReceived_records {t1 t2 d d0 : Dev} {slot : Nat} {rx : LinkRx} {x : PortRx}
    (now : d0 = linkSettle (muteCheck (linkCatch (d.advance rx.dt)))) (hears : d0.linkHears = true)
      (counts : d0.linkCounts = true)
    (within : slot < d0.nslot) (onA : rx.a = some x) (noB : rx.b = none) (on : d0.portOn 0 = true)
    (near : NearWindow x d0.clk (some (d0.slotDue slot))) (good : GoodFrame x (d0.slotP slot + 2))
    (kind : hdrKind (x.words.getD 0 0) = 1) (version : hdrMaj (x.words.getD 0 0) = 1)
    (own : hdrNode (x.words.getD 0 0) = d0.slotOwner slot) (other : d0.slotOwner slot ≠ d0.linkNode)
    (plain : d0.slotP slot = 0 ∨ fld (x.words.getD 1 0) 35 32 = 0) :
    (nodeFrameReceived t1 t2 d slot rx).present.testBit (d0.slotOwner slot) = true ∧
      (nodeFrameReceived t1 t2 d slot rx).lk.lastFrame.get (d0.slotOwner slot) 0 = (d0.lk.cycle + 1) % 2 ^ 36 ∧
      (nodeFrameReceived t1 t2 d slot rx).rd pgNode (nstatOff (d0.slotOwner slot)) = x.words.getD 0 0 := by
  have small : d0.slotOwner slot < 32 := fld_lt _ 12 8
  have first : (x.words.take (d0.slotP slot + 1)).headD 0 = x.words.getD 0 0 := by
    rw [headD_eq_getD, getD_take _ (Nat.succ_pos _)]
  have rest := nodeFrameReceived_good (t1 := t1) (t2 := t2) now hears counts within onA noB on near good
    (by rw [headD_eq_getD]; exact own) (by rw [headD_eq_getD]; exact kind)
  obtain ⟨here, last, stored⟩ := takeFrame_plain t1 t2 slot (some x) none small other (by rw [first]; exact version)
    (payload_plain plain)
  obtain ⟨-, -, -, -, -, -, -, same, -⟩ := (Link.origin_eq_iff _ _).mp rest.origin
  rw [rest.present, same, rest.node _ (nstatOff_lt small), ← first]
  exact ⟨here, last, stored⟩

/-! ### A frame whose CRC is wrong (R341) -/

theorem nodeFrameReceived_bad {t1 t2 d d0 : Dev} {slot : Nat} {rx : LinkRx} {x : PortRx}
    (now : d0 = linkSettle (muteCheck (linkCatch (d.advance rx.dt)))) (hears : d0.linkHears = true)
      (counts : d0.linkCounts = true)
    (within : slot < d0.nslot) (onA : rx.a = some x) (noB : rx.b = none) (on : d0.portOn 0 = true)
    (near : NearWindow x d0.clk (some (d0.slotDue slot))) (bad : x.bad = true) :
    nodeFrameReceived t1 t2 d slot rx = linkSettle (discardFrame d0 0 (some (d0.slotOwner slot)) 2) := by
  unfold Dev.slotDue at near
  unfold nodeFrameReceived
  rw [← now, onA, noB, if_neg (by rw [hears, counts]; simpa using within)]
  dsimp only
  rw [checkPort_bad _ on near bad, checkPort_none]
  dsimp only
  simp only [checkOwner_none]
  rfl

/-- The counts of a frame that check 2 discards. -/
theorem discardFrame_crc (d : Dev) (m : Nat) : discardFrame d 0 (some m) 2 =
    (d.incSat pgLink Reg.sxlink.PORT 35 24).incSat pgNode (Reg.sxnode.ERR + m) 23 12 := rfl

theorem discarded_counts {d : Dev} {m : Nat} (hm : m < 32) :
    let d' := linkSettle (discardFrame d 0 (some m) 2)
    d'.present = d.present ∧ d'.lk.lastFrame = d.lk.lastFrame ∧
      d'.rf pgLink Reg.sxlink.PORT 35 24 = min (2 ^ 12 - 1) (d.rf pgLink Reg.sxlink.PORT 35 24 + 1) ∧
      d'.rf pgNode (Reg.sxnode.ERR + m) 23 12 = min (2 ^ 12 - 1) (d.rf pgNode (Reg.sxnode.ERR + m) 23 12 + 1) := by
  have small : Reg.sxnode.ERR + m < 1024 := by
    simp only [Reg.sxnode.ERR]
    omega
  have apart : key pgNode (Reg.sxnode.ERR + m) ≠ key pgNode Reg.sxnode.PRESENT := fun same => by
    have := ((key_inj small (by decide)).mp same).2
    simp only [Reg.sxnode.ERR, Reg.sxnode.PRESENT] at this
    omega
  have pages : ∀ o, o < 1024 → key pgNode (Reg.sxnode.ERR + m) ≠ key pgLink o := fun o ho same =>
    absurd ((key_inj small ho).mp same).1 (by decide)
  have settled := linkSettle_settled (discardFrame d 0 (some m) 2)
  have tends := linkSettle_tends (discardFrame d 0 (some m) 2)
  obtain ⟨-, -, -, -, -, -, -, last, -⟩ := (Link.origin_eq_iff _ _).mp tends.origin
  have node : ∀ o, o < 1024 → (d.incSat pgLink Reg.sxlink.PORT 35 24).rd pgNode o = d.rd pgNode o :=
    (d.incSat_tends 35 24 (by decide) (by decide)).node
  intro d'
  refine ⟨?_, ?_, ?_, ?_⟩
  · rw [show d'.present = _ from tends.present, discardFrame_crc, Dev.present, Dev.rd_incSat_ne _ _ _ apart, node _ (by decide)]
    rfl
  · rw [show d'.lk.lastFrame = _ from last, discardFrame_crc, Dev.incSat_lk, Dev.incSat_lk]
  · rw [show d'.rf pgLink Reg.sxlink.PORT 35 24 = _ from settled.rf (by decide) (by decide) 35 24, discardFrame_crc, Dev.rf,
      Dev.rd_incSat_ne _ _ _ (pages _ (by decide)), ← Dev.rf, Dev.rf_incSat_eq _ _ _ _ _ (by decide) (by decide)]
  · have counted := Dev.rf_incSat_eq (d.incSat pgLink Reg.sxlink.PORT 35 24) pgNode (Reg.sxnode.ERR + m) 23 12
      (by decide) (by decide)
    rw [Dev.rf, show d'.rd pgNode _ = _ from settled.node _ small, discardFrame_crc, ← Dev.rf, counted, Dev.rf, node _ small,
      ← Dev.rf]

/-! ### What the obligation asks -/

theorem nearWindow_some {x : PortRx} {clk : Nat} {e : Int} (near : absI (((clk + x.delay : Nat) : Int) - e) ≤ winGck) :
    NearWindow x clk (some e) := by
  rintro t ⟨⟩
  exact near

theorem nodeFrameSend_sends {d d0 : Dev} {i : Nat}
    (sends : nodeFrameSend d i = linkSettle (sendFrame d0 i)) :
    ∃ ws, (nodeFrameSend d i).lk.txFrame = ws ++ [plainTrailer 0 ws] ∧ ws.length = 1 + d0.slotP i ∧ hdrKind (ws.getD 0 0) = 1 ∧
      hdrNode (ws.getD 0 0) = d0.linkNode ∧ hdrMaj (ws.getD 0 0) = 1 ∧ fld (ws.getD 0 0) 18 11 = d0.schema ∧
      fld (ws.getD 0 0) 8 8 = bnat d0.degraded := by
  obtain ⟨ws, frame, content⟩ := sendFrame_sent d0 i
  refine ⟨ws, ?_, content⟩
  rw [sends, linkSettle_txFrame, frame]
  rfl

/-- Settles O48, by what each frame sets and what the rest of its instant leaves of that. -/
theorem linkFrames : Obligations.LinkFrames := by
  intro s awake
  refine ⟨fun dt runs on master single phase vote propose late => ?beacon,
    fun rx x hears follower onA noB on good kind version other near => ?heard,
    fun slot hears counts within own ahead talks => ?frame,
    fun slot rx x hears counts within onA noB on near => ⟨fun good kind version own other plain => ?node, fun bad => ?crc⟩⟩
  case beacon =>
    have powered : s.dev.sup.ps = .run ∨ s.dev.sup.ps = .idle := by
      have running : s.dev.grovesRun = true := runs
      simp only [Dev.grovesRun, Bool.and_eq_true, Bool.or_eq_true, beq_iff_eq] at running
      exact running.2
    have sends := beaconSend_runs (dt := dt) on master single phase powered vote propose late
    obtain ⟨ws, frame, length, head⟩ := beaconSend_sends sends
    obtain ⟨clk, sent, cycle, next⟩ := beaconSend_schedules sends
    exact ⟨_, ws, s.does_eq _ awake, clk, sent, cycle, next, frame, length, head⟩
  case heard =>
    obtain ⟨whole, length, crc⟩ := good
    have due : NearWindow x (linkAfter s.dev rx.dt).clk (linkAfter s.dev rx.dt).beaconDue := by
      rw [Dev.beaconDue]
      cases counts : (linkAfter s.dev rx.dt).linkCounts
      · exact nofun
      · rintro t ⟨⟩
        exact near counts
    obtain ⟨⟨heard, number, from_, cycle⟩, gen, major, here, stored⟩ :=
      beaconReceived_follows rfl hears follower onA noB on ⟨whole, length, crc⟩ kind version other due
    exact ⟨_, s.does_eq _ awake, heard, number, cycle, from_, gen, major, here, stored⟩
  case frame =>
    obtain ⟨ws, sent⟩ := nodeFrameSend_sends (nodeFrameSend_talks rfl hears counts within own ahead talks)
    exact ⟨_, ws, s.does_eq _ awake, sent⟩
  case node =>
    obtain ⟨whole, length, crc⟩ := good
    exact ⟨_, s.does_eq _ awake, nodeFrameReceived_records rfl hears counts within onA noB on (nearWindow_some near)
      ⟨whole, length, crc⟩ kind version own other plain⟩
  case crc =>
    have small : (linkSettle (muteCheck (linkAfter s.dev rx.dt))).slotOwner slot < 32 := fld_lt _ 12 8
    have counted := discarded_counts (d := linkSettle (muteCheck (linkAfter s.dev rx.dt))) small
    have ends := nodeFrameReceived_bad (t1 := s.tele1) (t2 := s.tele2) rfl hears counts within onA noB on
      (nearWindow_some near) bad
    refine ⟨_, s.does_eq _ awake, ?_⟩
    rw [ends]
    exact counted

end Sys2Proof.Machine
end
